-- ==== Sys2Proof/Word.lean ====
section
/-! DEFINITION. Word.lean: the word types of the HX940 model and their plainest arithmetic.
Registers are 32 bits wide (R442); memory is addressed in bytes (R16, R27). -/

namespace Sys2Proof

/-- One byte of a memory, a buffer or a datagram. -/
abbrev Byte := BitVec 8

/-- One 32-bit register or scalar word. -/
abbrev Word := BitVec 32

/-- 2^32, the modulus of every sequence register and scalar. -/
def word32 : Nat := 4294967296

end Sys2Proof
end

