-- ==== Sys2Proof/Syntax.lean ====
section
/-! DEFINITION. Syntax.lean: the 360 commands of spec/opcode_table.json, one constructor each, and the
operands the environment supplies with them (DESIGN CHOICE, log entry 5). -/

namespace Sys2Proof

/-! ### 00 -/
/-- Who makes an access to BAR0 (R443): the host over PCIe, Clapper through its bridge, the
control complex from inside. -/
inductive Requester where
  | host | clapper | control
  deriving DecidableEq, Repr

/-- A register write: the requester, its four byte enables (15: all set) and the 32-bit value. -/
structure Wr where
  who : Requester
  be : Nat
  val : Nat
  deriving DecidableEq, Repr

/-- A register access that may read or write: `wval = none` is a read. -/
structure Acc where
  who : Requester
  off : Nat
  be : Nat
  wval : Option Nat
  deriving DecidableEq, Repr
/-! ### 01 -/
/-! ### 03 -/
/-- A fault of the hardware that the checks of R75, R77, R152 and R167 guard against (DESIGN CHOICE, log entry 13). A mask
names the stored bits that have flipped. -/
inductive Upset where
  /-- Of the instruction word at the program counter: 64 bits, and 8 check bits above them. -/
  | fetch (mask : Nat)
  /-- Of a word of the core's scratchpad: 256 bits, and 32 parity bits above them. -/
  | spad (word mask : Nat)
  /-- Of an accumulator element: 32 bits, and its residue above them. -/
  | acc (tile elem mask : Nat)
  /-- Of a line of a weight buffer, the one used last or the idle one: its bits and its parity bits. -/
  | weight (idle : Bool) (line mask par : Nat)
  /-- So many bits of the state of the ring or counter the instruction uses. -/
  | state (n : Nat)
  /-- The actual result of a checked operation on a lane or element is off by this much. A lane of the vector unit has operation 0, and
  in a requantisation the shift as operation 1. An element of the MMA family has 64 operations a chunk: its products from 0 on, the
  additions of its tree, level by level, from 32 on (the exact sum of a microscaling block is 32), and 63, the addition to the
  accumulator; an outlier has its products from 0, its tree from 32, the scaling 62 and the addition 63. -/
  | result (lane op : Nat) (err : Int)
  deriving DecidableEq, Repr

/-- What befalls the hardware while an instruction is fetched and executes, and whether a SET meets another agent's increment
at the counter's arbiter (R164; DESIGN CHOICE, log entry 13). -/
structure Chk where
  upsets : List Upset
  meets : Bool
  deriving DecidableEq, Repr

/-- One access a bank serves in a rotation (R153): its slot 1 to 8, its word, the data and poison a write carries, whether
R155 exempts it, and the stored bits of the word that have flipped, parity above the data. -/
structure RotAcc where
  slot : Nat
  word : Nat
  wdata : Option (List Byte × Bool)
  exempt : Bool
  flips : Nat
  deriving DecidableEq, Repr
/-! ### 08 -/
/-- A dynamic tensor as a layer record declares it (R203): its format, K, the bounds σ_min and σ_max and the initial scale
σ_0, as FP32 codes. -/
structure DynTensor where
  fmt : Nat
  k : Nat
  sMin : Nat
  sMax : Nat
  s0 : Nat
  deriving DecidableEq, Repr

/-- Pad modes (R173, R180). -/
inductive PadMode where
  | zero | const | edge | min
  deriving DecidableEq, Repr

/-- Parameters of a window layer (R173). -/
structure Window where
  kh : Nat
  kw : Nat
  sx : Nat
  sy : Nat
  dil : Nat
  padT : Nat
  padB : Nat
  padL : Nat
  padR : Nat
  mode : PadMode
  deriving DecidableEq, Repr

/-- What a layer computes, as far as the loader's checks ask: a convolution; a maximum, a minimum or an average, whose divisor is
that of AREA or of VALID mode (R187); an argmax over classes (R186), a
rotation step of a block size with the scratchpad word of its tile (R212), or a matrix product of another kind. -/
inductive LayerOp where
  | conv | maxPool | minPool
  | avgPool (valid : Bool)
  | argmax (classes : Nat)
  | rotation (block tile : Nat)
  | other
  deriving DecidableEq, Repr

/-- A declared tensor: format code, scale as an FP32 code, zero point (R196). -/
structure TensorDecl where
  fmt : Nat
  scale : Nat
  zero : Int
  deriving DecidableEq, Repr

/-- A layer record (R173, R196-R203, R210, R220, R226, R227): its number; what it computes; whether it is crop work; its input
layers, 0 for the network's input and i for the i-th layer of the package; window; channels, and input channels per group;
tensors; format and scales of its weights; its dynamic scale; outlier channels; whether its row-wise function spans all channels
of a pixel, and whether it is the first product of a fused pair. -/
structure Layer where
  number : Nat
  op : LayerOp
  crop : Bool
  srcs : List Nat
  win : Window
  chIn : Nat
  chOut : Nat
  group : Nat
  input : TensorDecl
  output : TensorDecl
  wFmt : Nat
  wScales : List Nat
  dyn : Option DynTensor
  outliers : List Nat
  spans : Bool
  fused : Bool
  deriving DecidableEq, Repr

/-- What a package declares for a stream it processes (R220): the band domain's columns, the alignment A, the input halo, the
band limit, and the halo of each layer's output, in the order of the layers. -/
structure Domain where
  stream : Nat
  width : Nat
  align : Nat
  haloL : Nat
  haloR : Nat
  bwMax : Nat
  halos : List (Nat × Nat)
  deriving DecidableEq, Repr

/-- A declared ring (R158, R229, R232): its number and configuration, its start values, its largest acquire window, and whether it
is a carry ring, whose COUNT is 2G; of one, the places in the package of the layers it serves, from which the loader sizes it. -/
structure RingDecl where
  ring : Nat
  base : Nat
  z : Nat
  count : Nat
  mirror : Nat
  producer : Nat
  pkind : Nat
  head : Nat
  fill : Nat
  window : Nat
  carry : Bool
  serves : List Nat
  deriving DecidableEq, Repr

/-- A declared buffer: of the scratchpad, by byte offset, or of DRAM, by device address; whether stream work and crop work read
it; its length in bytes (R232, R258). -/
structure BufDecl where
  spad : Bool
  forStream : Bool
  forCrop : Bool
  base : Nat
  len : Nat
  deriving DecidableEq, Repr

/-- The fetch program a package declares for the share of a band or of a crop batch (R264, R281): its address ÷ 256 and length in DRAM,
its event tag and its step budget. -/
structure FetchDecl where
  crop : Bool
  idx : Nat
  prog : Nat
  len : Nat
  tag : Nat
  budget : Nat
  deriving DecidableEq, Repr

/-- How a package combines results of several cores (R24). -/
inductive CombineOp where
  | max | min | addInt32 | addInt64 | other
  deriving DecidableEq, Repr

/-- A counted effect of a package's shares (R282), and whether it is on the share's own core. -/
inductive CountedEffect where
  | xferCen (own : Bool)
  | rput (own : Bool)
  | csetAdd (own : Bool)
  deriving DecidableEq, Repr

/-- What the feature registers must show for a package beside the formats of its layers and the opcodes of its programs (R451):
masks of formats, DMA opcodes, destination kinds and checks. -/
structure Needs where
  formats : Nat
  dmaOps : Nat
  dkinds : Nat
  checks : Nat
  deriving DecidableEq, Repr

/-- What a package declares (R8, R173-R232, R258-R261, R282, R319, R324, R393). The container's byte layout is no part of the
spec: the loader's reading of it is this record (DESIGN CHOICE, log entry 40). -/
structure Pkg where
  /-- First 8 bytes of its SHA-256. -/
  sha : Nat
  /-- Package format: 1 HX620, 2 HX940 (R451). -/
  format : Nat
  /-- Input lines per stripe. -/
  height : Nat
  /-- Space-to-depth factor the package expects of the raw front. -/
  fIn : Nat
  domains : List Domain
  layers : List Layer
  accTiles : Nat
  entryPc : Nat
  cropPc : Nat
  cropAcc : Nat
  /-- Gong barriers, each with its generations in a stripe (R144, R205). -/
  barriers : List (Nat × Nat)
  rings : List RingDecl
  fetches : List FetchDecl
  /-- Counters and their start values. -/
  cnts : List (Nat × Nat)
  /-- Signals: counter, declared count, and the count the waits that depend on it expect. -/
  signals : List (Nat × Nat × Nat)
  /-- Weights, maps, buffers and staging windows at BW_max, and the bank groups the package enables. -/
  buffers : List BufDecl
  groups : List Nat
  /-- Base and length of its weight set in the weight window. -/
  weights : Nat × Nat
  segmented : Bool
  combines : List CombineOp
  counted : List CountedEffect
  /-- Cores, clusters and DMA channels it names. -/
  cores : List Nat
  clusters : List Nat
  channels : List Nat
  needs : Needs
  /-- Columns and lines of the declared crop sizes; batch size B; declared maximum number of batches; record slots. -/
  cropSizes : List (Nat × Nat)
  cropB : Nat
  cropMax : Nat
  /-- Bytes of the results of one batch (DESIGN CHOICE, log entry 41). -/
  cropLen : Nat
  cropSlots : Nat
  decMax : Nat
  segments : Nat
  settle : Nat
  c0 : Nat
  c1 : Nat
  cb : Nat
  /-- The largest program, in words. -/
  progWords : Nat
  /-- Streams folded into one share (R219). -/
  folds : Bool
  /-- Byte of a staged line at which its metrology words stand (R353). -/
  metAt : Nat
  deriving DecidableEq, Repr

/-- Where the loader has placed what a stream needs (R21, R223, R285): device addresses ÷ 256, pitches in bytes, the input ring's
and a staging slot's length in lines, and the output buffer's length in bytes. -/
structure Place where
  table : Nat
  maps : Nat
  input : Nat
  inputPitch : Nat
  inputLines : Nat
  staging : Nat
  stagingPitch : Nat
  slotLines : Nat
  combine : Nat
  crop : Nat
  decision : Nat
  output : Nat
  outputLen : Nat
  shTable : Nat
  shStaging : Nat
  shCombine : Nat
  shCrop : Nat
  /-- Crop results: 4 generations of 128 batches (DESIGN CHOICE, log entry 41). -/
  results : Nat
  /-- Where the sum area of a calibration run stands, in 256 bytes (R332; DESIGN CHOICE, log entry 41). -/
  sums : Nat
  deriving DecidableEq, Repr

/-! ### 09 -/
/-- What the checks of a fixed-function end find on a line (R193): whether its two copies agree on the first and on the
second pass, and how many coefficient words were corrected or could not be. -/
structure EndChk where
  first : Bool
  second : Bool
  corrected : Nat
  uncorrectable : Bool
  deriving DecidableEq, Repr

/-! ### 09 -/
/-! ### 10 -/
/-- A share that wrote data of DRAM: stream, stripe, whether a crop batch, and its index. -/
structure Writer where
  stream : Nat
  stripe : Nat
  crop : Bool
  idx : Nat
  deriving DecidableEq, Repr

/-- How a request is answered (R26, R262, R275). -/
inductive Answer where
  /-- The data, or the acknowledgement of a write. -/
  | good
  /-- Data in which a node or the store has poisoned the given 32-byte words. -/
  | poisoned (words : List Nat)
  /-- An error status. -/
  | error
  /-- A poisoned byte of a clean cache line: the line is fetched again, and the second read decides. -/
  | refetched (second : Answer)
  /-- A DRAM parity error in the given 32-byte words of data that the given shares wrote. -/
  | parity (words : List Nat) (writers : List Writer)
  /-- A DRAM parity error in the given 32-byte words of the input buffer. -/
  | input (words : List Nat)
  deriving DecidableEq, Repr

/-- What comes of a DMA piece (R250, R262, R266): its source's answer, with its destination's acknowledgement; an error
response of its destination; or a parity error in the engine's record of its tag. -/
inductive PieceAnswer where
  | read (a : Answer)
  | writeError
  | tagParity
  deriving DecidableEq, Repr

/-- What the checks of the control complex find (R274, R277): the comparator of the active pair, or its SRAM's SEC-DED. -/
inductive ControlCheck where
  | lockstep
  | sramCorrected
  | sramLost
  deriving DecidableEq, Repr

/-- Who waits for a request to DRAM: a channel's piece or a core's XFER read, by its place. -/
inductive Asker where
  | piece (channel index : Nat)
  | read (core index : Nat)
  deriving DecidableEq, Repr

/-- A flit of the mesh: its sideband and payload (R25, R267); class 0 request, 1 response, 2 stream, 3 control. -/
structure Flit where
  stream : Nat
  cls : Nat
  seq : Nat
  src : Nat
  dst : Nat
  addr : Nat
  poison : Bool
  payload : List Byte
  deriving DecidableEq, Repr

/-! ### 11 -/
/-! ### 13 -/
/-! ### 14 -/
/-- What a quadrature counter's filtered levels show (R356, R390): a cycle up or down, or a change of both inputs. -/
inductive EncEv where
  | up | down | both
  deriving DecidableEq, Repr

/-- How a command frame reaches Damson (R361): as the bytes of MET_RX; or as the next frame of the tap, with the bits of it that crossed
wrong. -/
inductive DmsVia where
  | serial (line : List Byte)
  | tap (flips : List Nat)
  deriving DecidableEq, Repr

/-- A command frame (R361), whether its signature verifies (DESIGN CHOICE, log entry 7), and Damson's metrology time. -/
structure DmsFrame where
  via : DmsVia
  sigOk : Bool
  met : Nat
  deriving DecidableEq, Repr
/-! ### 15 -/
/-! ### 15 -/
/-- The output queue and input ring registers of R398 other than the indices. -/
inductive QueueReg where
  | hqBaseLo | hqBaseHi | hqCfg | hinBaseLo | hinBaseHi | hinCfg
  deriving DecidableEq, Repr

/-- A transfer of the host link: a channel's piece, or the output entry of a stream on a host channel. -/
inductive Transfer where
  | piece (channel index : Nat)
  | entry (stream channel : Nat)
  deriving DecidableEq, Repr

/-- How a CSI-2 packet arrived (R374). -/
inductive Receipt where
  | good
  /-- A header error that was corrected, or one good C-PHY header copy. -/
  | corrected
  /-- The header is lost. -/
  | header
  /-- The payload fails its CRC. -/
  | payload
  /-- A start-of-transmission sync error or a symbol error: the burst is dropped. -/
  | burst
  deriving DecidableEq, Repr

/-- What a CoaXPress stream packet carries (R375, R376). -/
structure CxpPacket where
  tag : Nat
  /-- It passes its CRC-32; its code violations and disparity errors. -/
  good : Bool
  codeErrors : Nat
  /-- Lines that the packets missing before it carried, where it turns out that they are lost. -/
  missing : Nat
  /-- An image header: rectangular or not. -/
  header : Option Bool
  lines : List (List Nat)
  deriving DecidableEq, Repr

/-! ### 16 -/
/-- A thermistor (R476): its resistance in Ω. -/
structure Ntc where
  ohms : Nat
  deriving DecidableEq, Repr

/-- A core that fails its start-up run (R404): in a Chime kernel, by its number, or in Rattle, where a third core has settled it (R287);
and whether it fails the second run too. -/
structure BootFail where
  core : Nat
  kernel : Option Nat
  seed : Nat
  again : Bool
  deriving DecidableEq, Repr

/-- What a power-up meets (R402; DESIGN CHOICE, log entry 5): flash slots that cannot be read, whether the standby pair passes its
self-test, life records and persistence slots whose copies are invalid, core records that are, sensor and thermistor
readings, the regulator's answers (power in mW), spares that fail their test (core, row-map entry), cores that fail the start-up run,
whether the field reference and the rails are there, whether a fuse burn verifies, and the ms from PWR_GOOD to READY. -/
structure BootIn where
  flashBad : List Nat
  standby : Bool
  /-- Copies with a bad CRC: 0 and 1 of the life counters, 2 and 3 of the wear record. -/
  copiesBad : List Nat
  coresLost : List Nat
  /-- Halves of persistence slots with a bad CRC: the slot, and 0 for the newer half, 1 for the older. -/
  setsBad : List (Nat × Nat)
  readings : List Int
  inlet : Ntc
  outlet : Ntc
  power : Nat
  voutMode : Option Bool
  readMv : Nat
  spareBad : List (Nat × Nat)
  fails : List BootFail
  fieldRef : Bool
  railsOut : List Nat
  burnOk : Bool
  ms : Nat
  deriving DecidableEq, Repr
/-! ### 17 -/
/-- What a JTAG instruction asks (R425): a bypass, the identity code, a read of a device address, and the invasive ones:
boundary-scan levels on the pins, a core halted, a device address written. -/
inductive JtagOp where
  | bypass
  | idcode
  | read (addr : Nat)
  | extest (levels : List Nat)
  | halt (core : Nat)
  | write (addr : Nat) (data : List Byte)
  deriving DecidableEq, Repr
/-! ### 18 -/
/-- A package in host memory as the loader reads it (R407, R421; DESIGN CHOICE, log entries 7 and 40): its bytes and its trailer of 144
bytes, and what they spell: its record, where each stream's buffers are placed, the data of its resident set and tables by device
address, its program words by bank address, and the CRC-32C it declares of the bank (R78). -/
structure Image where
  bytes : List Byte
  trailer : List Byte
  pkg : Pkg
  places : List (Nat × Place)
  data : List (Nat × List Byte)
  words : List (Nat × Nat)
  crc : Nat
  deriving DecidableEq, Repr

/-- What a key command does (R422): each key, hash or salt with hash by its bytes. -/
inductive KeyOp where
  | addKey (hash : List Byte)
  | revokeKey (slot : Nat)
  | setPassword (saltAndHash : List Byte)
  | setMgmtKey (key : List Byte)
  | provisionDone
  deriving DecidableEq, Repr

/-- A signed key command (R422): the identity and sequence number it carries, the customer key slot it is signed under,
and whether the signature verifies (DESIGN CHOICE, log entry 7). -/
structure KeyCmd where
  uniqueId : Nat
  seq : Nat
  signer : Nat
  sigOk : Bool
  op : KeyOp
  deriving DecidableEq, Repr
/-! ### 18 -/
/-! ### 19 -/
/-- An inbound management datagram: its 48-byte header, its body and its tag (R431). What a COMMAND's body asks stands beside it, as the
manual gives no layout for it (DESIGN CHOICE, log entry 7). -/
structure InDgram where
  header : List Byte
  body : List Byte
  tag : List Byte
  deriving DecidableEq, Repr

/-- A COMMAND of a transfer (R436): a fragment with its offset, or the final one with the total length. -/
inductive XferPart where
  | frag (offset : Nat) (data : List Byte)
  | final (total : Nat)
  deriving DecidableEq, Repr

/-- A Chime kernel (R288): its number, the CRC-64 expected of its results, its declared steps and its descriptor's 13 words. -/
structure ChimeKernel where
  number : Nat
  expect : Nat
  steps : Nat
  words : List Nat
  deriving DecidableEq, Repr

/-- A Chime pack (R288): its version, its kernels, and whether its signature verifies. -/
structure ChimePack where
  version : Nat
  kernels : List ChimeKernel
  sigOk : Bool
  deriving DecidableEq, Repr

/-- Stored bits of a configuration register that have flipped (R276): the register's offset, its instance and the bits. -/
structure RegFlip where
  off : Nat
  inst : Nat
  mask : Nat
  deriving DecidableEq, Repr

/-- How access is reopened (R426, R427): a password, or a response to the nonce. -/
inductive Reopening where
  | password (bytes : List Byte)
  | response (bytes : List Byte)
  deriving DecidableEq, Repr
/-! ### 19 -/
/-- What the link layer sees of an arriving cell (R304, R306, R307): its link, LSEQ, ACK, NAK and PSEQ; a CRC that does not
check, one that is inverted (stomped), a reserved TYPE or LEVEL or a non-zero reserved field. `more`: a further token record
of the cell taken last (DESIGN CHOICE, log entry 45). -/
structure Rx where
  link : Nat
  lseq : Nat
  ack : Nat
  nak : Bool
  pseq : Nat
  crcOk : Bool
  stomped : Bool
  bad : Bool
  more : Bool
  deriving DecidableEq, Repr

/-- The header fields of a cell that its sender gives it and every node passes on (R304): TYPE, LEVEL, SRC, DST, STREAM and HOPS. -/
structure CellHead where
  type : Nat
  level : Nat
  src : Nat
  dst : Nat
  stream : Nat
  hops : Nat
  deriving DecidableEq, Repr

/-- How a line of a stream comes to the units that compute it (R310, R312, R313). No register says so: the integrator connects the
sensors, and the line brings it (DESIGN CHOICE, log entry 65). -/
inductive LineRoute where
  /-- This member's port alone receives the stream. -/
  | own
  /-- The sensor's output is replicated onto ports of both members (R313). -/
  | dual
  /-- Another node of the ring processes the stream (R310). -/
  | ring (node : Nat)
  deriving DecidableEq, Repr

/-- A HELLO payload (R308), and whether the partner computes streams already (DEDUCED, log entry 46). -/
structure Hello where
  levelMax : Nat
  genMask : Nat
  part : Nat
  mode : Nat
  node : Nat
  prefer : Nat
  uid : Nat
  runs : Bool
  deriving DecidableEq, Repr

/-- The change a CONTROL cell carries (R314, R324, R40); its layout is no part of the spec (DESIGN CHOICE, log entry 44). -/
inductive Change where
  /-- A register of a stream. -/
  | reg (off val : Nat)
  | start
  | stop
  /-- A package to be made resident, and one to be swapped in. -/
  | load (img : Image)
  | swap (img : Image)
  /-- The listener's confirmation of a swap. -/
  | confirm
  /-- A calibration commit. -/
  | cal (tables : List (Nat × List Byte))
  /-- The number of the epoch that starts. -/
  | epoch (number : Nat)
  /-- The rejoin stripe: the speaker's epoch number there and the stripe's first line. -/
  | rejoin (number first : Nat)
  /-- An unmatched listener asks to rejoin. -/
  | request
  deriving DecidableEq, Repr

/-- A pair cell's content, one token record at a time (R305, R312, R314, R316). -/
inductive PairMsg where
  /-- A LINE or RSTREAM cell: its payload, of which a line header stands in front of the line (R312). -/
  | line (stream : Nat) (data : List Byte)
  | commit (stream no : Nat)
  | retractLine (stream no : Nat)
  | ready (stream stripe epoch : Nat)
  | retractSeg (stream stripe epoch seg : Nat)
  | leave (cause : Nat)
  | yields (stream stripe : Nat)
  | dropped (stream stripe : Nat)
  /-- A DIGEST cell: KIND 1 segment digests, 2 batch digests, 3 the stripe digest; FIRST as the cell carries it. -/
  | digests (stream kind stripe epoch first : Nat) (vals : List Nat)
  | mark (decision : Bool) (stream number : Nat)
  | control (stream eff : Nat) (c : Change)
  /-- A record or cell with a reserved KIND or non-zero RSV bytes. -/
  | reserved
  /-- A cell the link layer has acknowledged and discarded: only its place in the PSEQ order is left (R307). -/
  | nothing
  deriving DecidableEq, Repr


/-- A command: one row of spec/opcode_table.json (LAWS.json maps each constructor to its mnemonic). -/
inductive Instr where
  | registerWrite (w : Wr) (off : Nat)
  | absentInstanceAccess (a : Acc)
  | unmappedOffsetAccess (a : Acc)
  | coreCntStepsLoRead (who : Requester)
  | fioTickLoRead (who : Requester)
  | lifePoweredLoRead (who : Requester)
  | idUniqueLoRead (who : Requester)
  | lineReceived (stream : Nat) (route : LineRoute)
  | rawFrontLine (stream : Nat) (k : EndChk)
  | lineWriteToDram (stream : Nat)
  | stripeClose (stream : Nat)
  | partialStripeTimeout (stream : Nat)
  | shareDispatch (stream : Nat)
  | cropBatchDispatch (stream : Nat)
  | shareDescriptorWrite (core : Nat) (words : List Nat)
  | shareEnd (core : Nat) (crc : Nat)
  | computeDeadlineExpiry (stream : Nat) (stripe : Nat) (crop : Bool) (idx : Nat)
  | commit (stream : Nat)
  | commitDeadlineExpiry (stream : Nat) (stripe : Nat)
  | pictureBackLine (stream : Nat) (k : EndChk)
  | outputLineSend (stream : Nat) (gvsp : Bool) (empty : Bool)
  | brambleFlitHop (node : Nat) (egress : Bool) (flit : Flit) (parity : Bool) (owner : Option Writer)
  | fieldTickLoss (ssc : Nat)
  | fieldFrequencyWindowEnd (count : Nat) (ssc : Nat)
  | sysRefclkLoss (ssc : Nat)
  | paceEvaluation (busFail : Bool) (monitors : List Nat)
  | pmbusReadbackCheck (readMv : Nat) (statusFault : Bool) (busFail : Bool)
  | voutModeRecheck (ulinear16 : Bool) (busFail : Bool)
  | pipePaceCtrlWrite (w : Wr)
  | latencyMaxClear (w : Wr)
  | nop (core : Nat) (k : Chk)
  | li (core : Nat) (k : Chk)
  | alu (core : Nat) (k : Chk)
  | alui (core : Nat) (k : Chk)
  | mfsr (core : Nat) (k : Chk)
  | br (core : Nat) (k : Chk)
  | jmp (core : Nat) (k : Chk)
  | call (core : Nat) (k : Chk)
  | ret (core : Nat) (k : Chk)
  | loopOpen (core : Nat) (k : Chk)
  | tset (core : Nat) (k : Chk)
  | tadv (core : Nat) (k : Chk)
  | tedge (core : Nat) (k : Chk)
  | mma (core : Nat) (k : Chk)
  | mmaFamilyStart (core : Nat)
  | mmaw (core : Nat) (k : Chk)
  | mmad (core : Nat) (k : Chk)
  | mmac (core : Nat) (k : Chk)
  | oacc (core : Nat) (k : Chk)
  | vop (core : Nat) (k : Chk)
  | vops (core : Nat) (k : Chk)
  | vcmp (core : Nat) (k : Chk)
  | vsel (core : Nat) (k : Chk)
  | vcvt (core : Nat) (k : Chk)
  | vreq (core : Nat) (k : Chk)
  | vfn (core : Nat) (k : Chk)
  | vred (core : Nat) (k : Chk)
  | varg (core : Nat) (k : Chk)
  | vpool (core : Nat) (k : Chk)
  | vacc (core : Nat) (k : Chk)
  | vmxqQuantise (core : Nat) (k : Chk)
  | vmxqExpand (core : Nat) (k : Chk)
  | vbc (core : Nat) (k : Chk)
  | vld (core : Nat) (k : Chk)
  | vst (core : Nat) (k : Chk)
  | slsLoad (core : Nat) (k : Chk)
  | slsStore (core : Nat) (k : Chk)
  | xferWrite (core : Nat) (k : Chk)
  | xferRead (core : Nat) (k : Chk)
  | xferReadResponse (core : Nat) (index : Nat) (how : Answer)
  | remoteWriteAck (core : Nat) (index : Nat) (error : Bool) (poisoned : Bool)
  | bindRing (core : Nat) (k : Chk)
  | bindCounter (core : Nat) (k : Chk)
  | rput (core : Nat) (k : Chk)
  | ringReservationGrant (core : Nat) (ring : Nat)
  | ringSlotLanded (core : Nat) (ring : Nat) (index : Nat) (poisoned : Bool)
  | rget (core : Nat) (k : Chk)
  | rwinAcquire (core : Nat) (k : Chk)
  | rwinRelease (core : Nat) (k : Chk)
  | ringWaitSatisfied (core : Nat)
  | cwait (core : Nat) (k : Chk)
  | counterWaitSatisfied (core : Nat)
  | csetAdd (core : Nat) (k : Chk)
  | csetSet (core : Nat) (k : Chk)
  | gongArrive (core : Nat) (k : Chk)
  | gongWait (core : Nat) (k : Chk)
  | gongSync (core : Nat) (k : Chk)
  | gongGenerationComplete (stream : Nat) (stripe : Nat) (id : Nat)
  | gongWaitLimitExpiry (core : Nat)
  | fence (core : Nat) (k : Chk)
  | fenceComplete (core : Nat)
  | endShare (core : Nat) (k : Chk)
  | chk (core : Nat) (k : Chk)
  | stallWatchdogExpiry (core : Nat)
  | bankWrite (core : Nat) (bank : Nat) (addr : Nat) (word : Nat)
  | validateBank (w : Wr)
  | validateComplete (core : Nat) (bank : Nat)
  | invalidateBank (w : Wr)
  | instructionScrubPass (core : Nat) (flips : List (Nat × Nat × Nat))
  | coreEnWrite (w : Wr)
  | coreStop (w : Wr)
  | coreCntClear (w : Wr)
  | coreRoleWrite (w : Wr)
  | coreStartDone (core : Nat)
  | coreDrainDone (core : Nat)
  | coreDrainTimeout (core : Nat)
  | marginWiden (core : Nat)
  | ratchetRotation (core : Nat) (bank : Nat) (accesses : List RotAcc)
  | spadHazardClear (w : Wr)
  | spadCfgWrite (w : Wr)
  | bankGroupStartDone (core : Nat) (group : Nat)
  | bankGroupDrainDone (core : Nat) (group : Nat)
  | spadRemap (w : Wr)
  | remapCopyDone (core : Nat)
  | remapRecorded (core : Nat)
  | spadRowmapWrite (w : Wr) (n : Nat)
  | spadRingCfg0Write (w : Wr) (r : Nat)
  | spadRingCfg1Write (w : Wr) (r : Nat)
  | spadRingStateWrite (w : Wr) (r : Nat)
  | spadCntWrite (w : Wr) (n : Nat) (meets : Bool)
  | strmRfCtrlWrite (w : Wr)
  | strmPbCtrlWrite (w : Wr)
  | retiling
  | dmaGo (w : Wr)
  | dmaCancel (w : Wr)
  | dmaCancelComplete (channel : Nat)
  | dmaResume (w : Wr)
  | dmaCntClear (w : Wr)
  | dmaMove (channel : Nat) (bad : Bool)
  | dmaMovex (channel : Nat) (bad : Bool)
  | dmaLoop (channel : Nat) (bad : Bool)
  | dmaEndloop (channel : Nat) (bad : Bool)
  | dmaWaitDrain (channel : Nat) (bad : Bool)
  | dmaWaitCounter (channel : Nat) (bad : Bool)
  | dmaWaitSatisfied (channel : Nat)
  | dmaWaitLimitExpiry (channel : Nat)
  | dmaSignalCounter (channel : Nat) (bad : Bool)
  | dmaSignalEvent (channel : Nat) (bad : Bool)
  | dmaSignalSend (channel : Nat) (index : Nat) (meets : Bool)
  | dmaSumStart (channel : Nat) (bad : Bool)
  | dmaSumStop (channel : Nat) (bad : Bool)
  | dmaSumResultStore (channel : Nat)
  | dmaEnd (channel : Nat) (bad : Bool)
  | dmaPieceAck (channel : Nat) (index : Nat) (how : PieceAnswer)
  | dmaTagTimeout (channel : Nat) (index : Nat)
  | dramRequestTimeout (who : Asker)
  | pcieCompletionTimeout (channel : Nat) (index : Nat)
  | chainSegmentGrant (channel : Nat)
  | chainWordDelivered (channel : Nat) (core : Nat)
  | chainStallLimitExpiry (core : Nat)
  | dmaSegInval (w : Wr)
  | segmentCopyDone (slot : Nat)
  | cvuCtrlWrite (w : Wr) (unit : Nat)
  | cvuCfgWrite (w : Wr) (unit : Nat)
  | cvuClose (w : Wr) (unit : Nat)
  | cvuWindowWrite (w : Wr) (unit : Nat)
  | cvuWindowClose (unit : Nat)
  | coreForgiveness (core : Nat)
  | shadowDispatch (stream : Nat) (stripe : Nat) (band : Nat)
  | shadowCompareDone (stream : Nat) (stripe : Nat) (band : Nat)
  | testSliceStart (core : Nat) (chime : Bool) (number : Nat) (steps : Nat) (words : List Nat)
  | testRoundOverdue
  | configCrcRecheck (flips : List RegFlip)
  | lockstepMismatch (found : ControlCheck)
  | doubt (cause : Nat)
  | sscDoubtWrite (w : Wr)
  | sscWdogKick (w : Wr)
  | sscWatchdogExpiry
  | commitWatchdogExpiry (stream : Nat) (stripe : Nat)
  | safeInAssert (low : Bool)
  | sscCopyDisagree
  | sscSafeLevelWrite (w : Wr)
  | sscLockWrite (w : Wr)
  | sscRelease (w : Wr) (safeIn : Bool)
  | strmFltCtrlWrite (w : Wr)
  | zlShortCellReceived (rx : Rx) (credit : Option Nat)
  | zlIdleCellTimer (link : Nat)
  | zlLinkSilence (link : Nat)
  | zlRetrainTimer (link : Nat)
  | zlTrained (link : Nat) (lanes : Nat) (latencyNs : Nat)
  | zlHelloReceived (link : Nat) (h : Hello)
  | zlHelloTimeout (link : Nat)
  | zlLineCellReceived (rx : Rx) (stream : Nat) (data : List Byte)
  | tokenCommitReceived (rx : Rx) (stream : Nat) (line : Nat) (epoch : Nat) (rsv : Bool)
  | tokenRetractLineReceived (rx : Rx) (stream : Nat) (line : Nat) (epoch : Nat) (rsv : Bool)
  | tokenReadyReceived (rx : Rx) (stream : Nat) (stripe : Nat) (epoch : Nat) (rsv : Bool)
  | tokenRetractSegmentReceived (rx : Rx) (stream : Nat) (stripe : Nat) (epoch : Nat) (seg : Nat) (rsv : Bool)
  | tokenLeaveReceived (rx : Rx) (cause : Nat) (rsv : Bool)
  | tokenYieldReceived (rx : Rx) (stream : Nat) (stripe : Nat) (epoch : Nat) (rsv : Bool)
  | tokenDropReceived (rx : Rx) (stream : Nat) (stripe : Nat) (epoch : Nat) (rsv : Bool)
  | digestCellReceived (rx : Rx) (stream : Nat) (kind : Nat) (stripe : Nat) (epoch : Nat) (first : Nat) (vals : List Nat) (rsv : Bool)
  | segmentDigestCompute (stream : Nat) (stripe : Nat) (seg : Nat)
  | markCellReceived (rx : Rx) (decision : Bool) (stream : Nat) (number : Nat)
  | controlCellReceived (rx : Rx) (stream : Nat) (eff : Nat) (c : Change)
  | messageCellReceived (rx : Rx) (head : CellHead) (data : List Byte)
  | rstreamCellReceived (rx : Rx) (head : CellHead) (data : List Byte)
  | ringCellForward (rx : Rx) (head : CellHead) (data : List Byte)
  | lineTokenTimeout (stream : Nat) (line : Nat)
  | swapConfirmTimeout (stream : Nat)
  | zpSwap (w : Wr)
  | zlCtrlWrite (w : Wr)
  | zrCtrlWrite (w : Wr)
  | calRun (w : Wr)
  | calCaptureStart (stream : Nat)
  | calCaptureEnd (stream : Nat)
  | calComputeDone (stream : Nat)
  | calCommit (w : Wr)
  | calDiscard (w : Wr)
  | calEffectStart (stream : Nat)
  | calPbBlendStart (stream : Nat)
  | calBlendEnd (stream : Nat)
  | calApertureWrite (w : Wr) (off : Nat)
  | calLimWrite (w : Wr) (off : Nat)
  | calPersistWrite (w : Wr)
  | calCanaryCtrlWrite (w : Wr)
  | tempSensorRead (readings : List Int)
  | sensorExclude (sensor : Nat)
  | sensorRejoin (sensor : Nat)
  | supplyMonitorCal (found : List (Nat × Int))
  | canaryEvaluation (delays : List (List Nat))
  | dramTrackingUpdate (changes : List Int)
  | serdesEqUpdate (link : Nat) (eye : Nat) (training : Bool)
  | lifeCountersWrite (good : Bool)
  | wearHistogramTick
  | rtcSet (w : Wr)
  | vbatOutOfRange (mv : Nat)
  | tapTimeFrameSend
  | dmsLinesFrame (flips : List Nat) (met : Nat)
  | dmsTimeFrame (flips : List Nat) (met : Nat)
  | dmsTapSilence (met : Nat)
  | dmsEncoderPulse (a : Bool) (b : Bool)
  | dmsStart (f : DmsFrame)
  | dmsStop (f : DmsFrame)
  | dmsRecAck (f : DmsFrame)
  | dmsIdent (f : DmsFrame)
  | dmsTrailPage (f : DmsFrame)
  | dmsSetparam (f : DmsFrame) (cut : Bool)
  | dmsFwupdate (f : DmsFrame) (version : Nat) (sha : List Byte) (cut : Bool)
  | dmsTrailAck (f : DmsFrame)
  | dmsAdjustEnter (met : Nat)
  | dmsAdjustLeave (met : Nat)
  | dmsStateSave (met : Nat)
  | dmsBoot (okA : Bool) (okB : Bool) (paramsOk : Bool) (met : Nat)
  | dmsOscFail (met : Nat)
  | dmsOscRecover
  | dmsPowerLoss
  | csi2FrameStart (port : Nat) (vc : Nat) (number : Nat)
  | csi2FrameEnd (port : Nat) (vc : Nat)
  | csi2LineStart (port : Nat) (vc : Nat)
  | csi2LineEnd (port : Nat) (vc : Nat)
  | csi2LongPacket (port : Nat) (vc : Nat) (dt : Nat) (how : Receipt) (words : List Nat)
  | csi2GenericShortPacket (port : Nat) (vc : Nat) (code : Nat)
  | cxpStreamPacket (port : Nat) (id : Nat) (p : CxpPacket)
  | cxpControlPacket (port : Nat) (channel : Nat) (data : List Byte)
  | cxpEventPacket (port : Nat) (data : List Byte)
  | cxpLockLoss (link : Nat)
  | cxpDiscoveryDone (port : Nat) (rate : Nat) (links : Nat)
  | slvdsLine (start : Nat) (stop : Nat) (words : List Nat)
  | sourceLoss (port : Nat)
  | sourceRegained (port : Nat) (lanes : Nat)
  | hinEntryRead (stream : Nat)
  | strmHinHeadWrite (w : Wr)
  | hqEntryWrite (stream : Nat) (failed : Option Nat)
  | strmHqTailWrite (w : Wr)
  | strmQueueConfigWrite (w : Wr) (reg : QueueReg)
  | gvspBlockSend (stream : Nat)
  | gvcpDiscovery (port : Nat)
  | gvcpRegisterAccess (port : Nat) (addr : Nat) (wval : Option Nat) (standardId : Bool)
  | gvcpMemoryAccess (port : Nat) (addr : Nat) (data : List Nat) (len : Nat)
  | gvcpAddressAssignment (port : Nat) (ip : Nat)
  | gvcpPacketresend (port : Nat) (channel : Nat) (block : Nat) (first : Nat) (last : Nat)
  | pcieLinkTrained (gen : Nat) (width : Nat)
  | pcieLinkDown (hostReset : Bool)
  | functionLevelReset
  | pcieAerUncorrectable (t : Transfer)
  | streamStart (w : Wr)
  | streamStop (w : Wr)
  | streamConfigWrite (w : Wr) (off : Nat)
  | portCfgWrite (w : Wr)
  | portCxpTrigWrite (w : Wr)
  | portSlvdsSyncWrite (w : Wr) (second : Bool)
  | encoderPulse (enc : Nat) (a : Bool) (b : Bool) (busy : List Nat)
  | triggerEdge (input : Nat) (rising : Bool) (busy : List Nat)
  | fioTrigCtrlWrite (w : Wr) (levels : Nat)
  | decisionDue
  | pulseEnd
  | aliveToggle
  | fioActForceWrite (w : Wr)
  | pwrGoodAssert (b : BootIn)
  | bootStepOverrun (step : Nat)
  | pwrGoodDeassert (railsHold : Bool) (good : Bool)
  | supplyRailOutOfRange (rail : Nat) (out : Bool)
  | vddMetLoss
  | thermistorRead (inlet : Ntc) (outlet : Ntc) (power : Nat)
  | coolantAlarm
  | junctionCheck
  | thermalLimitExpiry
  | shedRelease
  | thermalTrip
  | thermCtrlWrite (w : Wr)
  | handoverAbandon
  | keyAddKey (c : KeyCmd)
  | keyRevokeKey (c : KeyCmd)
  | keySetPassword (c : KeyCmd)
  | keySetMgmtKey (c : KeyCmd)
  | keyProvisionDone (c : KeyCmd) (cut : Bool)
  | vendorProvision (crKey : List Byte) (firstKey : Option (List Byte)) (cut : Bool)
  | vendorReturn (sigOk : Bool) (key : Nat) (cut : Bool)
  | secSubmitPw (w : Wr)
  | secSubmitCr (w : Wr)
  | secNonce (w : Wr)
  | secClose (w : Wr)
  | nonceExpiry
  | lockoutEnd
  | jtagAccess (op : JtagOp)
  | mgmtDatagramReceived (d : InDgram)
  | mgmtAckReceived (d : InDgram)
  | mgmtResendTimer
  | mgmtPeerSilent
  | mgmtHeartbeat
  | reportSend
  | mgmtRateWrite (w : Wr)
  | clapperGetSnapshot (d : InDgram)
  | clapperGetLifePage (d : InDgram) (page : Nat)
  | clapperInstallChime (d : InDgram) (part : XferPart) (pack : ChimePack)
  | clapperWriteFirmware (d : InDgram) (part : XferPart)
  | clapperHandover (d : InDgram)
  | clapperRelease (d : InDgram) (safeIn : Bool)
  | clapperHazardClear (d : InDgram) (core : Nat)
  | clapperSetCalendar (d : InDgram) (seconds : Nat)
  | clapperKeyCmd (d : InDgram) (c : KeyCmd) (cut : Bool)
  | clapperGetNonce (d : InDgram)
  | clapperReopen (d : InDgram) (way : Reopening) (scope : Nat)
  | transferIdleTimeout (code : Nat)
  | glbIntStatusWrite (w : Wr)
  | glbIntEnableWrite (w : Wr)
  | glbIntStrmStatusWrite (w : Wr)
  | glbIntStrmEnableWrite (w : Wr)
  | intHoldoffExpiry (who : Requester) (stream : Nat)
  | mbxLoad (w : Wr) (img : Image) (channel : Nat)
  | mbxSwap (w : Wr) (img : Image) (channel : Nat)
  | mbxHandover (w : Wr)
  | mbxWriteFirmware (w : Wr) (channel : Nat)
  | mbxKeyCmd (w : Wr) (c : KeyCmd) (channel : Nat)
  | mbxHazardClear (w : Wr)
  | mbxDramRead (w : Wr) (channel : Nat)
  | mbxDramWrite (w : Wr) (channel : Nat)
  | mbxCxpControl (w : Wr)
  | mbxSegment (w : Wr) (channel : Nat)
  | mbxDamsonCmd (w : Wr)
  | mbxResponsePost (side : Nat)
  | mbxEventPost (side : Nat)
  | mbxRspTailWrite (w : Wr)
  | mbxEvtTailWrite (w : Wr)
  | dbgRead (w : Wr)
  | dbgWrite (w : Wr)
  | dbgHalt (w : Wr)
  | dbgResume (w : Wr)
  | controlPairSelfTestDone (pass : Bool) (burnOk : Bool)
  | vddIo33Below2v7
  deriving DecidableEq, Repr

end Sys2Proof
end

