-- ==== Sys2Proof/Machine/Bits.lean ====
section
/-! DEFINITION. Machine/Bits.lean: bit fields, two's complement and little-endian byte order
(R15: little-endian in memory, on links and in records, unless a standard says otherwise). -/

namespace Sys2Proof.Machine

/-- Bits `[lo + n - 1 : lo]` of `w`. -/
def bits (w lo n : Nat) : Nat := w / 2 ^ lo % 2 ^ n

/-- Bit `i` of `w` as a Boolean. -/
def bit (w i : Nat) : Bool := w / 2 ^ i % 2 == 1

/-- One bit as a number. -/
def b2n (b : Bool) : Nat := if b then 1 else 0

/-- `w` with bits `[lo + n - 1 : lo]` replaced by the low `n` bits of `v`. -/
def setBits (w lo n v : Nat) : Nat :=
  w - (w / 2 ^ lo % 2 ^ n) * 2 ^ lo + (v % 2 ^ n) * 2 ^ lo

/-- `w` with bit `i` set. -/
def orBit (w i : Nat) : Nat := setBits w i 1 1

/-- `w` with bit `i` cleared. -/
def clrBit (w i : Nat) : Nat := setBits w i 1 0

/-- The signed value of an `n`-bit two's complement number. -/
def sext (n w : Nat) : Int :=
  let m := w % 2 ^ n
  if 2 * m < 2 ^ n then (m : Int) else (m : Int) - (2 ^ n : Nat)

/-- The `n`-bit two's complement code of a signed value, wrapping. -/
def wrap (n : Nat) (v : Int) : Nat := (v % ((2 ^ n : Nat) : Int)).toNat

/-- A signed value clamped to `[lo, hi]`. -/
def clampI (lo hi v : Int) : Int := if v < lo then lo else if hi < v then hi else v

/-- The number a little-endian list of bytes spells (R15). -/
def leNat : List Byte → Nat
  | [] => 0
  | b :: t => b.toNat + 256 * leNat t

/-- The `n` little-endian bytes of a number (R15). -/
def leBytes : Nat → Nat → List Byte
  | 0, _ => []
  | n + 1, v => BitVec.ofNat 8 v :: leBytes n (v / 256)

/-- The number a big-endian list of bytes spells. -/
def beNat (l : List Byte) : Nat := leNat l.reverse

/-- Bytes `[off, off + n)` of a byte list, padded with zeros. -/
def slice (l : List Byte) (off n : Nat) : List Byte :=
  let t := (l.drop off).take n
  t ++ List.replicate (n - t.length) 0

/-- The little-endian number (R15) at bytes `[off, off + n)`. -/
def fieldLE (l : List Byte) (off n : Nat) : Nat := leNat (slice l off n)

/-- `l` with its bytes from `off` on replaced by `v` as far as `l` reaches. -/
def splice (l : List Byte) (off : Nat) (v : List Byte) : List Byte :=
  let head := l.take off
  let body := v.take (l.length - off)
  head ++ body ++ l.drop (head.length + body.length)

/-- The element at `i`, or `d` beyond the end. -/
def at? {α : Type} (d : α) : List α → Nat → α
  | [], _ => d
  | a :: _, 0 => a
  | _ :: t, n + 1 => at? d t n

/-- The list with element `i` replaced; unchanged beyond the end. -/
def setAt {α : Type} : List α → Nat → α → List α
  | [], _, _ => []
  | _ :: t, 0, v => v :: t
  | a :: t, n + 1, v => a :: setAt t n v

/-- `[0, 1, …, n - 1]`. -/
def upto (n : Nat) : List Nat := List.range n

/-- The least element of a list that satisfies `p`. -/
def firstSuch (p : Nat → Bool) (n : Nat) : Option Nat := (List.range n).find? p

/-- How many bits of `w` below `n` are set. -/
def popcount (n w : Nat) : Nat := ((List.range n).filter (bit w)).length

/-- The residue of an integer: its mathematical modulus 15 (R75). -/
def res15 (x : Int) : Nat := (x % 15).toNat

/-- The mask whose bit `i` is `p i`, `i < n`. -/
def maskOf (n : Nat) (p : Nat → Bool) : Nat :=
  (List.range n).foldl (fun a i => if p i then a + 2 ^ i else a) 0

/-- The even-parity bits of the low `n` bytes of a number (R69, R152). -/
def byteParity (n x : Nat) : Nat := maskOf n fun i => popcount 8 (x / 2 ^ (8 * i)) % 2 == 1

/-- Floor of the base-2 logarithm, 0 for 0. -/
def log2 (n : Nat) : Nat := Nat.log2 n

/-- Ceiling division. -/
def cdiv (a b : Nat) : Nat := (a + b - 1) / b

/-- `a ÷ b` rounded to the nearest integer, ties to even (R53). -/
def rneDiv (a : Int) (b : Nat) : Int :=
  let q := a / (b : Int)
  let r := a % (b : Int)
  if 2 * r < b then q
  else if (b : Int) < 2 * r then q + 1
  else if q % 2 = 0 then q else q + 1

end Sys2Proof.Machine
end

