-- ==== Sys2Proof/Machine/Crc.lean ====
section
/-! DEFINITION. Machine/Crc.lean: the two checks of R246. -/

namespace Sys2Proof.Machine

open Sys2Proof

/-- One bit of CRC-32C, reflected. -/
def crc32Bit (c : Nat) : Nat := if c % 2 = 1 then Nat.xor (c / 2) 0x82F63B78 else c / 2

/-- One byte of CRC-32C, reflected in and out. -/
def crc32Byte (c : Nat) (b : Byte) : Nat :=
  crc32Bit (crc32Bit (crc32Bit (crc32Bit (crc32Bit (crc32Bit (crc32Bit (crc32Bit (Nat.xor c b.toNat))))))))

/-- CRC-32C of a byte list: polynomial 0x1EDC_6F41, initial and final value all ones (R246). -/
def crc32c (l : List Byte) : Nat := Nat.xor (l.foldl crc32Byte 0xFFFFFFFF) 0xFFFFFFFF

/-- One bit of CRC-64, not reflected. -/
def crc64Bit (c : Nat) : Nat :=
  if 0x8000000000000000 ≤ c then Nat.xor (c * 2 % 18446744073709551616) 0x42F0E1EBA9EA3693 else c * 2

/-- One byte of CRC-64. -/
def crc64Byte (c : Nat) (b : Byte) : Nat :=
  crc64Bit (crc64Bit (crc64Bit (crc64Bit (crc64Bit (crc64Bit (crc64Bit (crc64Bit
    (Nat.xor c (b.toNat * 72057594037927936)))))))))

/-- CRC-64 (ECMA-182) continued from a value. -/
def crc64From (c : Nat) (l : List Byte) : Nat := l.foldl crc64Byte c

/-- CRC-64 (ECMA-182) of a byte list: initial and final value zero (R246). -/
def crc64 (l : List Byte) : Nat := crc64From 0 l

end Sys2Proof.Machine
end

