-- ==== Sys2Proof/Machine/Maps.lean ====
section
/-! DEFINITION. Machine/Maps.lean: the one sparse store of the model. A store is a list of
(key, value) pairs in ONE canonical form: keys strictly rising, no entry equal to the default.
Registers, instance tables and byte memories are all kept in it. -/

namespace Sys2Proof.Machine

/-- The value at key `i`; an unlisted key reads as the default `d`. -/
def tget {α : Type} (d : α) : List (Nat × α) → Nat → α
  | [], _ => d
  | (k, v) :: t, i => if i = k then v else tget d t i

/-- The store without the entries at key `i`. -/
def tdel {α : Type} : List (Nat × α) → Nat → List (Nat × α)
  | [], _ => []
  | (k, w) :: t, i => if i = k then tdel t i else (k, w) :: tdel t i

/-- The store with an entry for key `i`, put where the order of the keys has it. -/
def tput {α : Type} : List (Nat × α) → Nat → α → List (Nat × α)
  | [], i, v => [(i, v)]
  | (k, w) :: t, i, v =>
    if i < k then (i, v) :: (k, w) :: t else if i = k then (i, v) :: t else (k, w) :: tput t i v

/-- Writes `v` at key `i`, keeping the canonical form: writing the default removes the entry. -/
def tset {α : Type} [DecidableEq α] (d : α) (t : List (Nat × α)) (i : Nat) (v : α) : List (Nat × α) :=
  if v = d then tdel t i else tput t i v

/-- All keys of a store lie above `b`, strictly rising, and no entry equals the default. -/
def twfFrom {α : Type} [DecidableEq α] (d : α) : Nat → List (Nat × α) → Bool
  | _, [] => true
  | b, (k, v) :: t => decide (b ≤ k) && decide (v ≠ d) && twfFrom d (k + 1) t

/-- The canonical form of a store. -/
def twf {α : Type} [DecidableEq α] (d : α) (t : List (Nat × α)) : Bool := twfFrom d 0 t

/-- All keys of a store lie at or above `b`, strictly rising. -/
def keysFrom {α : Type} : Nat → List (Nat × α) → Bool
  | _, [] => true
  | b, (k, _) :: t => decide (b ≤ k) && keysFrom (k + 1) t

/-- The keys of a store are strictly rising. -/
def keysRise {α : Type} (t : List (Nat × α)) : Bool := keysFrom 0 t

/-- What a byte nothing has written reads as (DESIGN CHOICE, log entry 3). -/
def memDefault : Byte := 0

/-- One byte of a memory. -/
def memByte (m : List Host.Cell) (a : Nat) : Byte := tget memDefault m a

/-- Writes one byte of a memory. -/
def memPut (m : List Host.Cell) (a : Nat) (v : Byte) : List Host.Cell := tset memDefault m a v

/-- `n` bytes from address `a` upwards. -/
def memBytes (m : List Host.Cell) : Nat → Nat → List Byte
  | _, 0 => []
  | a, n + 1 => memByte m a :: memBytes m (a + 1) n

/-- Writes a list of bytes from address `a` upwards. -/
def memWrite (m : List Host.Cell) : Nat → List Byte → List Host.Cell
  | _, [] => m
  | a, b :: t => memWrite (memPut m a b) (a + 1) t

/-- Writes only the bytes whose enable is set, from address `a` upwards. -/
def memWriteEn (m : List Host.Cell) : Nat → List (Bool × Byte) → List Host.Cell
  | _, [] => m
  | a, (e, b) :: t => memWriteEn (if e then memPut m a b else m) (a + 1) t

/-- The little-endian number at `n` bytes from `a`. -/
def memLE (m : List Host.Cell) (a n : Nat) : Nat := leNat (memBytes m a n)

/-- Drops the listed bytes in `[a, a + n)`: they read as nothing has written them. -/
def memClear (m : List Host.Cell) (a n : Nat) : List Host.Cell :=
  m.filter (fun c => decide (c.1 < a ∨ a + n ≤ c.1))

/-- The canonical form of a memory. -/
def Memory.wf (m : List Host.Cell) : Bool := twf memDefault m

end Sys2Proof.Machine
end

