-- ==== Sys2Proof/Machine/Hash.lean ====
section
/-! DEFINITION. Machine/Hash.lean: the hash functions the manual names, SHA-256 and SHA-384, and HMAC-SHA-256 (R416-R431). Their tables
and rounds are those of FIPS 180-4 and FIPS 198-1, to which the names refer. -/

namespace Sys2Proof.Machine

open Sys2Proof

/-- The largest number under `2 ^ k` above `r` whose `e`-th power is at most `n`, found bit by bit. -/
def rootBits (e n : Nat) : Nat → Nat → Nat
  | 0, r => r
  | k + 1, r => rootBits e n k (if (r + 2 ^ k) ^ e ≤ n then r + 2 ^ k else r)

/-- The first 64 bits of the fractional part of the `e`-th root of a number below 512. -/
def rootFrac (e n : Nat) : Nat := rootBits e (n * 2 ^ (64 * e)) 70 0 % 2 ^ 64

/-- The first 80 prime numbers. -/
def shaPrimes : List Nat := (upto 410).filter (fun p => decide (2 ≤ p) && (upto (p / 2 + 1)).all (fun d => decide (d < 2) || p % d != 0))

/-- Round constants of SHA-384: the fractions of the cube roots of the primes. -/
def shaK512 : List Nat := shaPrimes.map (rootFrac 3)

/-- Round constants of SHA-256: the upper halves of the first 64 of them. -/
def shaK256 : List Nat := (shaK512.take 64).map (· / word32)

/-- Initial values of SHA-256: the upper halves of the fractions of the square roots of the first eight primes. -/
def shaH256 : List Nat := (shaPrimes.take 8).map (fun p => rootFrac 2 p / word32)

/-- Initial values of SHA-384: the fractions of the square roots of the next eight. -/
def shaH384 : List Nat := ((shaPrimes.drop 8).take 8).map (rootFrac 2)

/-- What distinguishes the two: the word's width, the constants, and the shifts of the four mixing functions, the last of each small one
a plain shift. -/
structure ShaKind where
  width : Nat
  k : List Nat
  big0 : Nat × Nat × Nat
  big1 : Nat × Nat × Nat
  small0 : Nat × Nat × Nat
  small1 : Nat × Nat × Nat

/-- SHA-256. -/
def shaKind256 : ShaKind := ⟨32, shaK256, (2, 13, 22), (6, 11, 25), (7, 18, 3), (17, 19, 10)⟩

/-- SHA-384. -/
def shaKind384 : ShaKind := ⟨64, shaK512, (28, 34, 39), (14, 18, 41), (1, 8, 7), (19, 61, 6)⟩

/-- Rotation to the right of a word of `w` bits. -/
def rotr (w n x : Nat) : Nat := x / 2 ^ n + x % 2 ^ n * 2 ^ (w - n)

/-- A mixing function: two rotations and a third, or a shift. -/
def shaMix (w : Nat) (r : Nat × Nat × Nat) (shift : Bool) (x : Nat) : Nat :=
  Nat.xor (Nat.xor (rotr w r.1 x) (rotr w r.2.1 x)) (if shift then x / 2 ^ r.2.2 else rotr w r.2.2 x)

/-- The next word of the message schedule, of the words before it, the latest first. -/
def shaNext (c : ShaKind) (l : List Nat) : Nat :=
  let at' := fun i => l.getD i 0
  (shaMix c.width c.small1 true (at' 1) + at' 6 + shaMix c.width c.small0 true (at' 14) + at' 15) % 2 ^ c.width

/-- The message schedule of a block's words. -/
def shaSchedule (c : ShaKind) (block : List Nat) : List Nat :=
  ((upto (c.k.length - 16)).foldl (fun l _ => shaNext c l :: l) block.reverse).reverse

/-- One round on the eight working values. -/
def shaRound (c : ShaKind) (v : List Nat) (kw : Nat × Nat) : List Nat :=
  match v with
  | [a, b, d, e, f, g, h, i] =>
    let ch := Nat.xor (Nat.land f g) (Nat.land (2 ^ c.width - 1 - f) h)
    let t1 := i + shaMix c.width c.big1 false f + ch + kw.1 + kw.2
    let maj := Nat.xor (Nat.xor (Nat.land a b) (Nat.land a d)) (Nat.land b d)
    let t2 := shaMix c.width c.big0 false a + maj
    [(t1 + t2) % 2 ^ c.width, a, b, d, (e + t1) % 2 ^ c.width, f, g, h]
  | _ => v

/-- One block. -/
def shaBlock (c : ShaKind) (h : List Nat) (block : List Nat) : List Nat :=
  let v := (List.zip c.k (shaSchedule c block)).foldl (shaRound c) h
  (List.zip h v).map (fun p => (p.1 + p.2) % 2 ^ c.width)

/-- The words of a byte list, most significant byte first. -/
def beWords (bytes : Nat) : Nat → List Byte → List Nat
  | 0, _ => []
  | n + 1, l => beNat (l.take bytes) :: beWords bytes n (l.drop bytes)

/-- The blocks of 16 words of a word list. -/
def shaBlocks : Nat → List Nat → List (List Nat)
  | 0, _ => []
  | n + 1, l => l.take 16 :: shaBlocks n (l.drop 16)

/-- A message as it is padded: a one bit, zeros, and its length in bits, in whole blocks of 16 words. -/
def shaPad (bytes : Nat) (l : List Byte) : List Byte :=
  let block := 16 * bytes
  let used := (l.length + 1 + 2 * bytes) % block
  l ++ [0x80] ++ List.replicate (if used = 0 then 0 else block - used) 0 ++ (leBytes (2 * bytes) (8 * l.length)).reverse

/-- The hash values of a message. -/
def shaWords (c : ShaKind) (h : List Nat) (l : List Byte) : List Nat :=
  let p := shaPad (c.width / 8) l
  let n := p.length / (c.width / 8)
  (shaBlocks (n / 16) (beWords (c.width / 8) n p)).foldl (shaBlock c) h

/-- SHA-256: 32 bytes. -/
def sha256 (l : List Byte) : List Byte := (shaWords shaKind256 shaH256 l).flatMap (fun w => (leBytes 4 w).reverse)

/-- SHA-384: 48 bytes. -/
def sha384 (l : List Byte) : List Byte := ((shaWords shaKind384 shaH384 l).take 6).flatMap (fun w => (leBytes 8 w).reverse)

/-- HMAC-SHA-256 of a message under a key. -/
def hmac256 (key l : List Byte) : List Byte :=
  let k := slice (if 64 < key.length then sha256 key else key) 0 64
  let pad := fun (m : Byte) => k.map (fun b => b ^^^ m)
  sha256 (pad 0x5C ++ sha256 (pad 0x36 ++ l))

end Sys2Proof.Machine
end

