-- ==== Sys2Proof/Machine/Ecdsa.lean ====
section
/-! DEFINITION. Machine/Ecdsa.lean: the signature checks the manual names, ECDSA P-256 and P-384 (R416-R422). Curves and verification are
those of FIPS 186-4, to which the names refer. -/

namespace Sys2Proof.Machine

open Sys2Proof

/-- A curve y² = x³ − 3x + b over the integers modulo p: the bits of its order, p, b, the order n and the base point. -/
structure Curve where
  width : Nat
  p : Nat
  b : Nat
  n : Nat
  gx : Nat
  gy : Nat

/-- P-256. -/
def curve256 : Curve :=
  ⟨256, 0xffffffff00000001000000000000000000000000ffffffffffffffffffffffff,
   0x5ac635d8aa3a93e7b3ebbd55769886bc651d06b0cc53b0f63bce3c3e27d2604b,
   0xffffffff00000000ffffffffffffffffbce6faada7179e84f3b9cac2fc632551,
   0x6b17d1f2e12c4247f8bce6e563a440f277037d812deb33a0f4a13945d898c296,
   0x4fe342e2fe1a7f9b8ee7eb4a7c0f9e162bce33576b315ececbb6406837bf51f5⟩

/-- P-384. -/
def curve384 : Curve :=
  ⟨384, 0xfffffffffffffffffffffffffffffffffffffffffffffffffffffffffffffffeffffffff0000000000000000ffffffff,
   0xb3312fa7e23ee7e4988e056be3f82d19181d9c6efe8141120314088f5013875ac656398d8a2ed19d2a85c8edd3ec2aef,
   0xffffffffffffffffffffffffffffffffffffffffffffffffc7634d81f4372ddf581a0db248b0a77aecec196accc52973,
   0xaa87ca22be8b05378eb1c71ef320ad746e1d3b628ba79b9859f741e082542a385502f25dbf55296c3a545e3872760ab7,
   0x3617de4a96262c6f5d9e98bf9292dc29f8f41dbd289a147ce9da3113b5f0b8c00a60b1ce1d7e819d7a431d7c90ea0e5f⟩

/-- Difference modulo m. -/
def subMod (m a b : Nat) : Nat := (a + (m - b % m)) % m

/-- Power modulo m, of an exponent of `w` bits. -/
def powMod (m w a e : Nat) : Nat := (upto w).foldr (fun i r => if bit e i then r * r % m * a % m else r * r % m) (1 % m)

/-- Inverse modulo a prime of `w` bits. -/
def invMod (m w a : Nat) : Nat := powMod m w (a % m) (m - 2)

/-- A point in Jacobian coordinates; z = 0 is the point at infinity. -/
structure EcPoint where
  x : Nat
  y : Nat
  z : Nat

/-- A point doubled. -/
def ecDouble (c : Curve) (q : EcPoint) : EcPoint :=
  let p := c.p
  let d := q.z * q.z % p
  let g := q.y * q.y % p
  let b := q.x * g % p
  let a := 3 * (subMod p q.x d * (q.x + d) % p) % p
  let x := subMod p (a * a % p) (8 * b)
  ⟨x, subMod p (a * subMod p (4 * b) x) (8 * (g * g % p)), subMod p (subMod p ((q.y + q.z) * (q.y + q.z)) g) d⟩

/-- The sum of two points. -/
def ecAdd (c : Curve) (q r : EcPoint) : EcPoint :=
  if q.z = 0 then r
  else if r.z = 0 then q
  else
    let p := c.p
    let zq := q.z * q.z % p
    let zr := r.z * r.z % p
    let u := q.x * zr % p
    let h := subMod p (r.x * zq % p) u
    let s := q.y * (zr * r.z % p) % p
    let e := subMod p (r.y * (zq * q.z % p) % p) s
    if h = 0 then (if e = 0 then ecDouble c q else ⟨1, 1, 0⟩)
    else
      let h2 := h * h % p
      let h3 := h2 * h % p
      let x := subMod p (subMod p (e * e) h3) (2 * (u * h2))
      ⟨x, subMod p (e * subMod p (u * h2) x) (s * h3), h * (q.z * r.z % p) % p⟩

/-- u × G + v × Q. -/
def ecSum (c : Curve) (u v : Nat) (q : EcPoint) : EcPoint :=
  let g : EcPoint := ⟨c.gx, c.gy, 1⟩
  let both := ecAdd c g q
  (upto c.width).foldr (fun i r =>
    let d := ecDouble c r
    match bit u i, bit v i with
    | false, false => d
    | true, false => ecAdd c d g
    | false, true => ecAdd c d q
    | true, true => ecAdd c d both) ⟨1, 1, 0⟩

/-- The affine coordinates of u × G. -/
def ecTimes (c : Curve) (u : Nat) : Nat × Nat :=
  let t := ecSum c u 0 ⟨1, 1, 0⟩
  let z := invMod c.p c.width t.z
  (t.x * (z * z % c.p) % c.p, t.y * (z * z % c.p * z % c.p) % c.p)

/-- The signature (r, s) of a hash value under a private key d with the one-time number k. -/
def ecdsaSign (c : Curve) (d k hash : Nat) : Nat × Nat :=
  let r := (ecTimes c k).1 % c.n
  (r, invMod c.n c.width k * (hash + r * d) % c.n)

/-- A number in big-endian bytes. -/
def beBytes (n v : Nat) : List Byte := (leBytes n v).reverse

/-- A number as the key or the one-time number of a signature, from 1 to n − 1. -/
def ecScalar (c : Curve) (v : Nat) : Nat := 1 + v % (c.n - 1)

/-- The 64 bytes x ‖ y of the P-256 public key of a private key (R353, R368). -/
def public256 (d : Nat) : List Byte := let q := ecTimes curve256 d; beBytes 32 q.1 ++ beBytes 32 q.2

/-- The 64 bytes r ‖ s of a P-256 signature over a message (R359). -/
def sign256 (d k : Nat) (msg : List Byte) : List Byte :=
  let q := ecdsaSign curve256 d k (beNat (sha256 msg)); beBytes 32 q.1 ++ beBytes 32 q.2

/-- A point lies on the curve. -/
def onCurve (c : Curve) (x y : Nat) : Bool :=
  decide (x < c.p) && decide (y < c.p) && y * y % c.p == subMod c.p (x * x % c.p * x + c.b) (3 * x)

/-- A signature r ‖ s over a hash value verifies under the public key (x, y). -/
def ecdsaOk (c : Curve) (x y hash r s : Nat) : Bool :=
  if !onCurve c x y || r == 0 || s == 0 || decide (c.n ≤ r) || decide (c.n ≤ s) then false
  else
    let w := invMod c.n c.width s
    let t := ecSum c (hash * w % c.n) (r * w % c.n) ⟨x, y, 1⟩
    let z := invMod c.p c.width t.z
    t.z != 0 && t.x * (z * z % c.p) % c.p % c.n == r

/-- A P-256 signature of 64 bytes over a message verifies under a key of 64 bytes, all big-endian. -/
def sig256Ok (key sig msg : List Byte) : Bool :=
  ecdsaOk curve256 (beNat (slice key 0 32)) (beNat (slice key 32 32)) (beNat (sha256 msg)) (beNat (slice sig 0 32)) (beNat (slice sig 32 32))

/-- A P-384 signature of 96 bytes over a message verifies under an uncompressed key of 97 bytes; the hash is SHA-384 (DEDUCED, log entry
50). -/
def sig384Ok (key sig msg : List Byte) : Bool :=
  fieldLE key 0 1 == 4 &&
    ecdsaOk curve384 (beNat (slice key 1 48)) (beNat (slice key 49 48)) (beNat (sha384 msg)) (beNat (slice sig 0 48)) (beNat (slice sig 48 48))

end Sys2Proof.Machine
end

