-- ==== Sys2Proof/Config.lean ====
section
/-! DEFINITION. Config.lean: what the manual leaves open. None of these constants has a body, so
nothing in Lean can evaluate one or prove a value of it (DESIGN CHOICE, log entry 1). -/

namespace Sys2Proof

/-- A value the manual leaves open, drawn at the state's own counter (DESIGN CHOICE, log entry 1). -/
opaque Config.freeNat : Nat → Nat

/-- The i-th of the nine values of a chart fit whose normal equations have no positive definite matrix, for which R333 states no result,
as a function of that matrix and of the right-hand sides (DESIGN CHOICE, log entry 54). -/
opaque Config.chartFit : List Int → Nat → Nat

/-- The FP32 magnitude an inexact row function of R127 gives where it lies within the stated error bound, as a function
of the function's number and the operand's bits (DESIGN CHOICE, log entry 20). -/
opaque Config.vfnPick : Nat → Nat → Nat

/-- The shadow of a stripe, from its stripe and core numbers, where R285 leaves the LFSR's polynomial open
(DESIGN CHOICE, log entry 30). -/
opaque Config.shadowPick : Nat → Nat → Nat

/-- Whether a GigE Vision port runs 10GBASE-KR and not 25GBASE-KR: the board decides, and no register shows it (R386; DESIGN CHOICE,
log entry 43). -/
opaque Config.gbeTen : Nat → Bool

/-- The packet size of a port's stream channel while nothing has written its bootstrap register (R386; DESIGN CHOICE, log entry
43). -/
opaque Config.gvPacket : Nat → Nat → Nat

/-- Whether the equivalent seconds an EQ_S gains for new seconds in a voltage and a temperature bin are rounded up or down, which R345
leaves open (DESIGN CHOICE, log entry 55). -/
opaque Config.wearUp : Nat → Nat → Nat → Bool

end Sys2Proof
end

