-- ==== Sys2Proof/Machine/Num.lean ====
section
/-! DEFINITION. Machine/Num.lean: the number formats of R44 and their arithmetic (R45-R64). Values are bit patterns;
between a decoding and a rounding they are exact. -/

namespace Sys2Proof.Machine

open Sys2Proof

/-! ### Format codes (R44) -/

/-- Element width in bits of a format code; 0 for a reserved code. -/
def fmtWidth : Nat → Nat
  | 0x00 => 4 | 0x01 => 8 | 0x02 => 8 | 0x03 => 16 | 0x04 => 16 | 0x05 => 32 | 0x06 => 8 | 0x07 => 8
  | 0x08 => 16 | 0x09 => 16 | 0x0A => 32 | 0x0B => 4 | 0x0C => 3 | 0x0D => 4 | 0x0E => 8 | _ => 0

/-- INT4 to INT32. -/
def isIntFmt (f : Nat) : Bool := decide (f ≤ 5)

/-- UINT8 and UINT16. -/
def isUnsignedFmt (f : Nat) : Bool := f == 2 || f == 4

/-- E4M3 to FP32. -/
def isFloatFmt (f : Nat) : Bool := decide (6 ≤ f) && decide (f ≤ 10)

/-- MXFP4 and MXINT8. -/
def isMxFmt (f : Nat) : Bool := f == 13 || f == 14

/-- CB4 and CB3. -/
def isCbFmt (f : Nat) : Bool := f == 11 || f == 12

/-- Least value of an integer format. -/
def intMin (f : Nat) : Int := if isUnsignedFmt f then 0 else -((2 ^ (fmtWidth f - 1) : Nat) : Int)

/-- Greatest value of an integer format. -/
def intMax (f : Nat) : Int :=
  if isUnsignedFmt f then ((2 ^ fmtWidth f : Nat) : Int) - 1 else ((2 ^ (fmtWidth f - 1) : Nat) : Int) - 1

/-- The value of an integer format's bit pattern (R46). -/
def intVal (f b : Nat) : Int := if isUnsignedFmt f then ((b % 2 ^ fmtWidth f : Nat) : Int) else sext (fmtWidth f) b

/-- The bit pattern of a value in range. -/
def intCode (f : Nat) (v : Int) : Nat := wrap (fmtWidth f) v

/-! ### Floating point (R47-R49) -/

/-- An exact value: (−1)^neg × m × 2^e, an infinity, or a NaN. -/
inductive FV where
  | fin (neg : Bool) (m : Nat) (e : Int)
  | inf (neg : Bool)
  | nan
  deriving DecidableEq, Repr

/-- Mantissa bits of a floating-point format. -/
def fP : Nat → Nat
  | 6 => 3 | 7 => 2 | 8 => 10 | 9 => 7 | 10 => 23 | _ => 1

/-- Exponent bits of a floating-point format (2 for the E2M1 element). -/
def fE : Nat → Nat
  | 6 => 4 | 7 => 5 | 8 => 5 | 9 => 8 | 10 => 8 | _ => 2

/-- Exponent bias. -/
def fB (f : Nat) : Nat := 2 ^ (fE f - 1) - 1

/-- FP8 formats flush subnormals (R49). -/
def isFp8 (f : Nat) : Bool := f == 6 || f == 7

/-- The exact value of a bit pattern (R47-R49). -/
def fdec (f b : Nat) : FV :=
  let p := fP f
  let m := bits b 0 p
  let e := bits b p (fE f)
  let neg := bit b (p + fE f)
  if e = 0 then (if isFp8 f then .fin neg 0 0 else .fin neg m (1 - (fB f : Int) - p))
  else if f = 6 then (if e = 15 ∧ m = 7 then .nan else .fin neg (m + 2 ^ p) ((e : Int) - fB f - p))
  else if decide (7 ≤ f) && decide (f ≤ 10) && e == 2 ^ fE f - 1 then (if m = 0 then .inf neg else .nan)
  else .fin neg (m + 2 ^ p) ((e : Int) - fB f - p)

/-- `m ÷ 2^sh` to the nearest integer, ties to even (R53). -/
def rneShift (m sh : Nat) : Nat :=
  let q := m / 2 ^ sh
  let r := m % 2 ^ sh
  if 2 * r < 2 ^ sh then q else if 2 ^ sh < 2 * r then q + 1 else if q % 2 = 0 then q else q + 1

/-- Rounds m × 2^e to p + 1 significant bits, or to a multiple of 2^lo where that is coarser (R53). -/
def roundSig (p : Nat) (lo : Option Int) (m : Nat) (e : Int) : Nat × Int :=
  if m = 0 then (0, 0)
  else
    let t := e + (log2 m + 1 : Nat) - (p + 1 : Nat)
    let e' := match lo with
      | none => t
      | some l => max l t
    if e' ≤ e then (m * 2 ^ (e - e').toNat, e') else (rneShift m (e' - e).toNat, e')

/-- Canonical NaN of a format (R48). -/
def canonNan (f : Nat) : Nat :=
  match f with
  | 6 => 0x7F | 7 => 0x7E | 8 => 0x7E00 | 9 => 0x7FC0 | _ => 0x7FC00000

/-- The sign bit of a format in place. -/
def signBit (f : Nat) (neg : Bool) : Nat := if neg then 2 ^ (fP f + fE f) else 0

/-- Infinity of a format that has one. -/
def infCode (f : Nat) (neg : Bool) : Nat := signBit f neg + (2 ^ fE f - 1) * 2 ^ fP f

/-- Greatest finite code of a format. -/
def maxFin (f : Nat) (neg : Bool) : Nat :=
  signBit f neg + (match f with
    | 6 => 0x7E
    | 7 => 0x7B
    | 13 => 7
    | _ => (2 ^ fE f - 1) * 2 ^ fP f - 1)

/-- A value with what its making counts: saturations (R56) and new special values (R59). -/
structure Res where
  v : Nat
  sat : Nat
  nan : Nat
  deriving DecidableEq, Repr

/-- A rounded finite magnitude q × 2^e as an exponent and mantissa field pair, none above the format's range. -/
def packFin (f q : Nat) (e : Int) : Option Nat :=
  if q = 0 then some 0
  else
    let p := fP f
    let ex : Int := (log2 q : Nat) + e
    if ex < 1 - (fB f : Int) then some q
    else
      let mant := if log2 q ≤ p then q * 2 ^ (p - log2 q) else q / 2 ^ (log2 q - p)
      let code := (ex + fB f).toNat * 2 ^ p + (mant - 2 ^ p)
      if maxFin f false < code then none else some code

/-- Rounds an exact value into a format (R48, R49, R53, R63): out of range gives ±infinity where the format has one
and is not FP8, the greatest finite value in FP8. -/
def fenc (f : Nat) : FV → Res
  | .nan => ⟨canonNan f, 0, 0⟩
  | .inf neg => if f = 6 then ⟨maxFin f neg, 1, 0⟩ else ⟨infCode f neg, 0, 0⟩
  | .fin neg m e =>
    let lo : Option Int := if isFp8 f then none else some (1 - (fB f : Int) - fP f)
    let r := roundSig (fP f) lo m e
    if isFp8 f && decide (((log2 r.1 : Nat) : Int) + r.2 < 1 - (fB f : Int)) then ⟨signBit f neg, 0, 0⟩
    else match packFin f r.1 r.2 with
      | some c => ⟨signBit f neg + c, 0, 0⟩
      | none => if isFp8 f then ⟨maxFin f neg, 1, 0⟩ else ⟨infCode f neg, 0, 1⟩

/-- A NaN or infinity. -/
def FV.special : FV → Bool
  | .fin .. => false
  | _ => true

/-- A bit pattern is a NaN or infinity of its format. -/
def isSpecial (f b : Nat) : Bool := (fdec f b).special

/-- The exact sum of two values (the sign of an exact zero per IEEE 754), and whether a NaN is new. -/
def fvAdd : FV → FV → FV × Nat
  | .nan, _ => (.nan, 0)
  | _, .nan => (.nan, 0)
  | .inf a, .inf b => if a = b then (.inf a, 0) else (.nan, 1)
  | .inf a, _ => (.inf a, 0)
  | _, .inf b => (.inf b, 0)
  | .fin na ma ea, .fin nb mb eb =>
    let e := min ea eb
    let x : Int := (ma * 2 ^ (ea - e).toNat : Nat)
    let y : Int := (mb * 2 ^ (eb - e).toNat : Nat)
    let z := (if na then -x else x) + (if nb then -y else y)
    (.fin (if z = 0 then na && nb else decide (z < 0)) z.natAbs e, 0)

/-- The negative of a value. -/
def fvNeg : FV → FV
  | .nan => .nan
  | .inf a => .inf (!a)
  | .fin n m e => .fin (!n) m e

/-- The exact product of two values, and whether a NaN is new. -/
def fvMul : FV → FV → FV × Nat
  | .nan, _ => (.nan, 0)
  | _, .nan => (.nan, 0)
  | .inf a, .inf b => (.inf (a != b), 0)
  | .inf a, .fin b m _ => if m = 0 then (.nan, 1) else (.inf (a != b), 0)
  | .fin a m _, .inf b => if m = 0 then (.nan, 1) else (.inf (a != b), 0)
  | .fin a ma ea, .fin b mb eb => (.fin (a != b) (ma * mb) (ea + eb), 0)

/-- Rounds a computed value into a format, adding what was new before the rounding. -/
def frnd (f : Nat) (x : FV × Nat) : Res :=
  let r := fenc f x.1
  { r with nan := r.nan + x.2 }

/-- IEEE addition in a format, rounded once (R53, R59). -/
def fadd (f a b : Nat) : Res := frnd f (fvAdd (fdec f a) (fdec f b))

/-- IEEE subtraction. -/
def fsub (f a b : Nat) : Res := frnd f (fvAdd (fdec f a) (fvNeg (fdec f b)))

/-- IEEE multiplication. -/
def fmul (f a b : Nat) : Res := frnd f (fvMul (fdec f a) (fdec f b))

/-- Order of two finite or infinite values; NaN is below nothing. −0 equals +0. -/
def fvLt : FV → FV → Bool
  | .nan, _ => false
  | _, .nan => false
  | .inf a, .inf b => a && !b
  | .inf a, _ => a
  | _, .inf b => !b
  | .fin na ma ea, .fin nb mb eb =>
    let e := min ea eb
    let x : Int := (ma * 2 ^ (ea - e).toNat : Nat)
    let y : Int := (mb * 2 ^ (eb - e).toNat : Nat)
    decide ((if na then -x else x) < (if nb then -y else y))

/-- IEEE equality: −0 equals +0, NaN equals nothing. -/
def fvEq (a b : FV) : Bool := a != .nan && b != .nan && !fvLt a b && !fvLt b a

/-- The sign of a value. -/
def FV.neg : FV → Bool
  | .fin n _ _ => n
  | .inf n => n
  | .nan => false

/-- The order of R62: −0 below +0. -/
def ordLt (a b : FV) : Bool := fvLt a b || (fvEq a b && a.neg && !b.neg)

/-- Maximum of R62, as a bit pattern. -/
def fmax (f a b : Nat) : Nat :=
  let x := fdec f a
  let y := fdec f b
  if x = .nan ∨ y = .nan then canonNan f else if ordLt x y then (fenc f y).v else (fenc f x).v

/-- Minimum of R62. -/
def fmin (f a b : Nat) : Nat :=
  let x := fdec f a
  let y := fdec f b
  if x = .nan ∨ y = .nan then canonNan f else if ordLt y x then (fenc f y).v else (fenc f x).v

/-! ### Conversions (R63) -/

/-- A value clamped into an integer format. -/
def toIntFmt (f : Nat) (v : Int) : Res :=
  if v < intMin f then ⟨intCode f (intMin f), 1, 0⟩
  else if intMax f < v then ⟨intCode f (intMax f), 1, 0⟩ else ⟨intCode f v, 0, 0⟩

/-- A finite value as an integer: nearest, ties to even, or toward zero. -/
def fvToInt (trunc neg : Bool) (m : Nat) (e : Int) : Int :=
  let a : Nat := if 0 ≤ e then m * 2 ^ e.toNat
    else if trunc then m / 2 ^ (-e).toNat else rneShift m (-e).toNat
  if neg then -(a : Int) else a

/-- Float to integer. -/
def fToInt (f d b : Nat) (trunc : Bool) : Res :=
  match fdec f b with
  | .nan => ⟨0, 0, 1⟩
  | .inf neg => ⟨intCode d (if neg then intMin d else intMax d), 1, 0⟩
  | .fin neg m e => toIntFmt d (fvToInt trunc neg m e)

/-- The exact value of an integer. -/
def fvOfInt (v : Int) : FV := .fin (decide (v < 0)) v.natAbs 0

/-- The pairs of R63 between formats that are neither microscaling nor codebook. -/
def convPair (src dst : Nat) : Bool :=
  if isIntFmt src then (isIntFmt dst && !(isUnsignedFmt src && !isUnsignedFmt dst && fmtWidth src == fmtWidth dst)) || isFloatFmt dst
  else if isFp8 src then isFloatFmt dst
  else if isFloatFmt src then isFloatFmt dst || isIntFmt dst else false

/-- Converts one element (R63). -/
def convert (src dst b : Nat) (trunc : Bool) : Res :=
  if isIntFmt src then
    (if isIntFmt dst then toIntFmt dst (intVal src b) else frnd dst (fvOfInt (intVal src b), 0))
  else if isIntFmt dst then fToInt src dst b trunc
  else fenc dst (fdec src b)

/-- Widens a float exactly to FP32. -/
def widen (f b : Nat) : Nat := (fenc 10 (fdec f b)).v

/-! ### Sums (R55, R58, R61) -/

/-- One level of the tree of R58: neighbours added in FP32, and the new special values. -/
def pairUp : List Nat → List Nat × Nat
  | a :: b :: t =>
    let r := fadd 10 a b
    let p := pairUp t
    (r.v :: p.1, r.nan + p.2)
  | l => (l, 0)

/-- The tree of R58 over 2^n FP32 values. -/
def treeSum : Nat → List Nat → Nat × Nat
  | 0, l => (l.headD 0, 0)
  | n + 1, l =>
    let p := pairUp l
    let r := treeSum n p.1
    (r.1, p.2 + r.2)

/-- A list cut or padded with zeros to length n. -/
def padTo (n : Nat) (l : List Nat) : List Nat := l.take n ++ List.replicate (n - l.length) 0

/-- The exact value of an element of an integer or floating-point format. -/
def elemFV (f b : Nat) : FV := if isIntFmt f then fvOfInt (intVal f b) else fdec f b

/-- The product of two elements as FP32 (R57). -/
def prod32 (fa a fb b : Nat) : Res := frnd 10 (fvMul (elemFV fa a) (elemFV fb b))

/-- Products of two rows; a missing position is absent. -/
def products (fa : Nat) : List Nat → Nat → List Nat → List Nat × Nat
  | a :: as, fb, b :: bs =>
    let r := prod32 fa a fb b
    let p := products fa as fb bs
    (r.v :: p.1, r.nan + p.2)
  | _, _, _ => ([], 0)

/-- Adds the chunks of a row pair to an FP32 accumulator, in ascending K (R58): `n` is a bound on the chunks. -/
def accFloat (fa fb : Nat) : Nat → List Nat → List Nat → Nat × Nat → Nat × Nat
  | 0, _, _, acc => acc
  | n + 1, as, bs, acc =>
    if as.isEmpty ∨ bs.isEmpty then acc
    else
      let p := products fa (as.take 32) fb (bs.take 32)
      let t := treeSum 5 (padTo 32 p.1)
      let r := fadd 10 acc.1 t.1
      accFloat fa fb n (as.drop 32) (bs.drop 32) (r.v, acc.2 + p.2 + t.2 + r.nan)

/-- The exact sum of products of two integer rows. -/
def dotInt (fa fb : Nat) : List Nat → List Nat → Int
  | a :: as, b :: bs => intVal fa a * intVal fb b + dotInt fa fb as bs
  | _, _ => 0

/-- Adds the chunks of a row pair to an INT32 accumulator, clamping at each (R55). -/
def accInt (fa fb : Nat) : Nat → List Nat → List Nat → Nat × Nat → Nat × Nat
  | 0, _, _, acc => acc
  | n + 1, as, bs, acc =>
    if as.isEmpty ∨ bs.isEmpty then acc
    else
      let r := toIntFmt 5 (intVal 5 acc.1 + dotInt fa fb (as.take 32) (bs.take 32))
      accInt fa fb n (as.drop 32) (bs.drop 32) (r.v, acc.2 + r.sat)

/-- The exact sum of MX element products in quarters (MXFP4) or units (MXINT8) (R61). -/
def mxDot (fmt : Nat) : List Nat → List Nat → Int
  | a :: as, b :: bs =>
    (if fmt = 14 then sext 8 a * sext 8 b else e2m1x2 a * e2m1x2 b) + mxDot fmt as bs
  | _, _ => 0
where
  /-- Twice the value of an E2M1 element (R50). -/
  e2m1x2 (b : Nat) : Int :=
    let m : Int := match b % 8 with
      | 0 => 0 | 1 => 1 | 2 => 2 | 3 => 3 | 4 => 4 | 5 => 6 | 6 => 8 | _ => 12
    if bit b 3 then -m else m

/-- Exact integer × 2^e as a value; a zero sum is +0. -/
def fvScaled (v : Int) (e : Int) : FV := .fin (decide (v < 0)) v.natAbs e

/-- Adds the blocks of an MX row pair to an FP32 accumulator (R61). -/
def accMx (fmt : Nat) : Nat → List Nat → List Nat → List Nat → List Nat → Nat × Nat → Nat × Nat
  | n + 1, as, bs, xa :: xas, xb :: xbs, acc =>
    if as.isEmpty ∨ bs.isEmpty then acc
    else
      let c : Res :=
        if xa = 255 ∨ xb = 255 then ⟨canonNan 10, 0, 0⟩
        else fenc 10 (fvScaled (mxDot fmt (as.take 32) (bs.take 32))
          ((xa : Int) + xb - 254 - (if fmt = 14 then 12 else 2)))
      let r := fadd 10 acc.1 c.v
      accMx fmt n (as.drop 32) (bs.drop 32) xas xbs (r.v, acc.2 + c.nan + r.nan)
  | _, _, _, _, _, acc => acc

/-! ### Microscaling conversion (R50, R64) -/

/-- Floor of log2 of a magnitude m × 2^e, m ≠ 0. -/
def flog2 (m : Nat) (e : Int) : Int := (log2 m : Nat) + e

/-- The magnitude of a value, none for a special. -/
def FV.mag : FV → Option (Nat × Int)
  | .fin _ m e => some (m, e)
  | _ => none

/-- E of R64 over a block of finite values; none when all are zero. -/
def mxExp (blk : List FV) : Option Int :=
  blk.foldl (fun a v => match v.mag with
    | none => a
    | some (m, e) => if m = 0 then a else some (match a with
      | none => flog2 m e
      | some b => max b (flog2 m e))) none

/-- Nearest E2M1 code of m × 2^e, ties to even, clamped to 6. -/
def e2m1Code (m : Nat) (e : Int) : Nat :=
  let r := roundSig 1 (some (-1)) m e
  match packFin 13 r.1 r.2 with
  | some c => min c 7
  | none => 7

/-- One element of a quantised block: its value divided by 2^E (MXFP4) or 2^(E−6) (MXINT8), rounded and clamped. -/
def mxElem (fmt : Nat) (E : Int) : FV → Nat
  | .fin neg m e =>
    if fmt = 13 then e2m1Code m (e - E) + (if neg then 8 else 0)
    else wrap 8 (clampI (-127) 127 (fvToInt false neg m (e - E + 6)))
  | _ => 0

/-- Quantises a block: scale byte, elements, and whether it held a NaN or an infinity (R64). -/
def mxQuant (fmt : Nat) (blk : List FV) : Nat × List Nat × Nat :=
  if blk.any FV.special then (255, blk.map (fun _ => 0), 1)
  else match mxExp blk with
    | none => (0, blk.map (fun _ => 0), 0)
    | some l =>
      let E := clampI (-127) 127 (l - (if fmt = 13 then 2 else 0))
      ((E + 127).toNat, blk.map (mxElem fmt E), 0)

/-- One element of an MX block expanded to FP32 (R50, R63). -/
def mxExpand (fmt x b : Nat) : Res :=
  if x = 255 then ⟨canonNan 10, 0, 0⟩
  else if fmt = 13 then
    match fdec 13 b with
    | .fin neg m e => fenc 10 (.fin neg m (e + x - 127))
    | v => fenc 10 v
  else fenc 10 (fvScaled (sext 8 b) ((x : Int) - 127 - 6))

/-! ### Requantisation (R200, R201) -/

/-- The shift and offset of `requant` on a product. -/
def requantOf (p : Int) (S : Nat) (Z : Int) (U : Nat) : Res := toIntFmt U (rneDiv p (2 ^ S) + Z)

/-- `requant` of R200. -/
def requant (x M : Int) (S : Nat) (Z : Int) (U : Nat) : Res := requantOf (x * M) S Z U

/-- `mshift` of R201. -/
def mshift (r : Nat) : Nat × Nat :=
  let ef := bits r 23 8
  let M := (bits r 0 23 + 2 ^ 23) * 2 ^ 7
  let S : Int := 30 - ((ef : Int) - 127)
  if ef = 0 then (0, 0)
  else if S < 0 then (2 ^ 31 - 1, 0)
  else if 63 < S then (rneShift M (S - 63).toNat, 63)
  else (M, S.toNat)

/-- The float-path quantiser of R202. -/
def fquant (U v rho Z : Nat) : Res :=
  let a := fmul 10 v rho
  let b := fadd 10 a.v Z
  let c := convert 10 U b.v false
  ⟨c.v, c.sat, a.nan + b.nan + c.nan⟩

/-! ### Row functions (R127) -/

/-- Fixed-point precision of the reference values of R127's functions. -/
def fx : Nat := 2 ^ 160

/-- ln 2 in fixed point, from the series Σ 1 ÷ (k 2^k). -/
def lnTwo : Nat := (List.range 200).foldl (fun a k => a + fx / ((k + 1) * 2 ^ (k + 1))) 0

/-- e^r in fixed point for 0 ≤ r < 1, by its series. -/
def expFx (r : Nat) : Nat :=
  ((List.range 60).foldl (fun (a : Nat × Nat) k => (a.1 + a.2, a.2 * r / fx / (k + 1))) (0, fx)).1

/-- A finite value in fixed point, rounded down. -/
def fixOf (m : Nat) (e : Int) : Nat := if 0 ≤ e then m * 2 ^ e.toNat * fx else m * fx / 2 ^ (-e).toNat

/-- e^x as (mantissa, exponent): e^x ≈ mantissa ÷ fx × 2^exponent. -/
def expVal (neg : Bool) (m : Nat) (e : Int) : Nat × Int :=
  let a := fixOf m e
  let k := a / lnTwo
  let r := a % lnTwo
  if neg then (if r = 0 then (fx, -(k : Int)) else (expFx (lnTwo - r), -(k : Int) - 1)) else (expFx r, k)

/-- ln x in fixed point for x = m × 2^e, m ≠ 0, by 2 artanh((y − 1) ÷ (y + 1)) over y in [1, 2). -/
def lnVal (m : Nat) (e : Int) : Int :=
  let l := log2 m
  let z := (m - 2 ^ l) * fx / (m + 2 ^ l)
  let s := (List.range 60).foldl (fun (a : Nat × Nat) k => (a.1 + a.2 / (2 * k + 1), a.2 * z / fx * z / fx)) (0, z)
  2 * (s.1 : Int) + ((l : Int) + e) * lnTwo

/-- An FP32 magnitude q lies within the bound of R127 of the exact value num ÷ den × 2^e, taken to 256 binary places, whose nearest
FP32 code is c: 2^−148 where c is subnormal, else `ulps` units in its last place, or 2^−absExp if that is larger. -/
def withinBound (num den : Nat) (e : Int) (ulps : Nat) (absExp : Option Nat) (c q : Nat) : Bool :=
  decide (q < 0x7F800000) &&
    (match fdec 10 q, fdec 10 c with
      | .fin _ m1 e1, .fin _ _ e2 =>
        let lo := min (min e1 (e - 256)) (min e2 (-149))
        let exact := num * 2 ^ 256 / den * 2 ^ (e - 256 - lo).toNat
        let mine := m1 * 2 ^ (e1 - lo).toNat
        let abs := match absExp with
          | some a => 2 ^ (-(a : Int) - lo).toNat
          | none => 0
        let tol := if c < 0x800000 then 2 ^ (-148 - lo).toNat else max (ulps * 2 ^ (e2 - lo).toNat) abs
        decide (mine ≤ exact + tol) && decide (exact ≤ mine + tol)
      | _, _ => false)

/-- The magnitude a function gives for an inexact positive value num ÷ den × 2^e: any FP32 value within the bound of R127
(DESIGN CHOICE, log entry 20). -/
def nearPick (fn b num den : Nat) (e : Int) (ulps : Nat) (absExp : Option Nat) : Nat :=
  let c := (fenc 10 (.fin false (num * 2 ^ 256 / den) (e - 256))).v
  let q := Config.vfnPick fn b
  if withinBound num den e ulps absExp c q then q else c

/-- A signed magnitude's pattern. -/
def signed32 (neg : Bool) (q : Nat) : Nat := if neg then q % 2 ^ 31 + 2 ^ 31 else q

/-- Square root, correctly rounded: sqrt(m × 2^e) to enough bits with a sticky bit. -/
def sqrtVal (m : Nat) (e : Int) : FV :=
  let e' := if e % 2 = 0 then e - 80 else e - 81
  let n := m * 2 ^ (e - e').toNat
  let q := Nat.sqrt n
  .fin false (2 * q + (if q * q = n then 0 else 1)) (e' / 2 - 1)

/-- A function of R127 on an FP32 pattern: result, and whether a special value is new. A reciprocal that overflows counts by
R59 (DEDUCED, log entry 20). -/
def vfn (fn b : Nat) : Nat × Nat :=
  let one := 0x3F800000
  match fn, fdec 10 b with
  | _, .nan => (canonNan 10, 0)
  | 0, .inf neg => (if neg then 0 else infCode 10 false, 0)
  | 0, .fin neg m e =>
    if m = 0 then (one, 0)
    else if !neg && decide (887228 * 2 ^ (-e).toNat < m * 2 ^ e.toNat * 10000) then (infCode 10 false, 1)
    else if neg && decide (7 ≤ flog2 m e) then (nearPick fn b 1 1 (-400) 2 none, 0)
    else let r := expVal neg m e; (nearPick fn b r.1 fx r.2 2 none, 0)
  | 1, .inf neg => if neg then (canonNan 10, 1) else (infCode 10 false, 0)
  | 1, .fin neg m e =>
    if m = 0 then (infCode 10 true, 1)
    else if neg then (canonNan 10, 1)
    else if b = one then (0, 0)
    else let r := lnVal m e; (signed32 (decide (r < 0)) (nearPick fn b r.natAbs fx 0 2 (some 24)), 0)
  | 2, .inf neg => (signed32 neg 0, 0)
  | 2, .fin neg m e =>
    if m = 0 then (infCode 10 neg, 1)
    else if b = 0x40800000 then (0x3E800000, 0)
    else if fdec 10 (fenc 10 (.fin false (2 ^ 64 / m) (-e - 64))).v = .inf false then (infCode 10 neg, 1)
    else (signed32 neg (nearPick fn b 1 m (-e) 1 none), 0)
  | 3, .inf neg => if neg then (canonNan 10, 1) else (infCode 10 false, 0)
  | 3, .fin neg m e =>
    if m = 0 then (signed32 neg 0, 0) else if neg then (canonNan 10, 1) else ((fenc 10 (sqrtVal m e)).v, 0)
  | 4, .inf neg => if neg then (canonNan 10, 1) else (0, 0)
  | 4, .fin neg m e =>
    if m = 0 then (infCode 10 neg, 1)
    else if neg then (canonNan 10, 1)
    else
      let e' := if e % 2 = 0 then e else e - 1
      let q := Nat.sqrt (m * 2 ^ (e - e').toNat * 2 ^ 160)
      (nearPick fn b (2 ^ 80) q (-(e' / 2)) 1 none, 0)
  | 5, .inf neg => (signed32 neg one, 0)
  | 5, .fin neg m e =>
    if m = 0 then (b, 0)
    else if decide (5 ≤ flog2 m e) then (signed32 neg (nearPick fn b 1 1 0 2 (some 25)), 0)
    else
      let r := expVal false m (e + 1)
      let E := r.1 * 2 ^ r.2.toNat
      (signed32 neg (nearPick fn b (E - fx) (E + fx) 0 2 (some 25)), 0)
  | 6, .inf neg => (if neg then 0 else one, 0)
  | 6, .fin neg m e =>
    if m = 0 then (0x3F000000, 0)
    else if decide (7 ≤ flog2 m e) then (nearPick fn b (if neg then 0 else 1) 1 0 2 (some 25), 0)
    else
      let r := expVal false m e
      let E := r.1 * 2 ^ r.2.toNat
      (if neg then nearPick fn b fx (E + fx) 0 2 (some 25) else nearPick fn b E (E + fx) 0 2 (some 25), 0)
  | _, _ => (0, 0)

end Sys2Proof.Machine
end

