-- ==== Sys2Proof/Machine/State.lean ====
section
/-! DEFINITION. Machine/State.lean: everything the spec gives the machine, as plain data, and the state right
after reset. Register fields live in `regs` (Machine/RegMap.lean lists them); what a chapter describes beyond its
registers is a structure of its own. -/

namespace Sys2Proof.Machine

/-! ### 00 -/
/-- The part numbers of R3 and R4; the codes of R308 are 1 to 4 in this order. -/
inductive Part where
  | c128 | c128m | c64 | c64m
  deriving DecidableEq, Repr

/-- The sides of R272, numbered 0 to 7 in the order of its table (R432). -/
inductive Side where
  | reportOnly | replayed | programming | localRepair | controlPath | doubt | refusal | external
  deriving DecidableEq, Repr

/-- A report record (R432), 32 bytes. -/
structure Report where
  code : Nat
  inst : Nat
  side : Side
  count : Nat
  tick : Nat
  calFirst : Nat
  calLast : Nat
  detail : Nat
  deriving DecidableEq, Repr

/-- What leaves the part on one of its connections and is not kept in any state of its own: the
model lists it, newest first (DESIGN CHOICE, log entry 6). -/
inductive Emit where
  /-- A message to a requester's processor on a vector (R455). -/
  | message (who : Requester) (vector : Nat)
  /-- The bytes of a Zehorn cell (R304), and the credits a short cell carries, for which its header has no field (DESIGN CHOICE, log
  entry 48). -/
  | cell (link : Nat) (bytes : List Byte) (credit : Option Nat)
  /-- The bytes of a management datagram (R431): header, body and tag. -/
  | datagram (bytes : List Byte)
  /-- A PMBus transfer: device address, command code, data and requested slew rate in mV/µs (R35). -/
  | pmbus (address command data slew : Nat)
  /-- A CoaXPress packet on a port's uplink: kind 1 trigger, 2 control. -/
  | cxp (port kind : Nat) (data : List Byte)
  /-- A packet on a 25 GbE output port. -/
  | gev (port : Nat) (what : Nat) (data : List Nat)
  /-- Bytes on MET_TX (R361). -/
  | metTx (data : List Byte)
  /-- An event delivered to the control complex: source kind, instance, tag. -/
  | toControl (kind inst tag : Nat)
  /-- A CXP or JTAG answer to the outside: what, value. -/
  | answer (what : Nat) (data : List Nat)
  /-- An output line leaving for the host or GigE Vision: stream, stripe, line, flags. -/
  | line (stream stripe line flags : Nat)
  deriving DecidableEq, Repr
/-! ### 01 -/
/-- One cluster's slack window (R33, R34): the slacks of the last shares, newest first, each a fraction of the stripe
period, and the shares completed since the island pace setting last changed. -/
structure PaceWin where
  slacks : List (Int × Nat)
  since : Nat
  deriving DecidableEq, Repr

/-- The pace monitor beyond its registers (R33-R36). -/
structure Pace where
  wins : List (Nat × PaceWin)
  /-- VDD_CORE as last confirmed, in mV: what the headroom limit of R34 counts from while VDD_CORE rises. -/
  vddNow : Nat
  /-- One more than the tick of the last VDD_CORE command; 0 for none. -/
  lastCmd : Nat
  /-- PMBus is in use: VOUT_MODE at start-up was ULINEAR16 (R36). -/
  used : Bool
  /-- State PMBUS_FAIL has been entered (R36). -/
  fail : Bool
  /-- The last VDD_CORE command has not been read back yet (R35). -/
  unread : Bool
  /-- Ticks of the last 1 ms evaluation (R34) and of the last reading of VOUT_MODE (R36). -/
  evalAt : Nat
  modeAt : Nat
  deriving DecidableEq, Repr

/-- A flit on its way through Bramble and the node it has reached last (R25). -/
structure MeshFlit where
  node : Nat
  flit : Flit
  deriving DecidableEq, Repr

/-- No share completed yet. -/
def PaceWin.reset : PaceWin := ⟨[], 0⟩

/-- The pace monitor at reset: the regulator powers up at 0.75 V (R35). -/
def Pace.reset : Pace := ⟨[], 750, 0, true, false, false, 0, 0⟩
/-! ### 03 -/
/-- A share descriptor (R80). -/
structure Desc where
  bank : Nat
  kind : Nat
  entryPc : Nat
  accTiles : Nat
  stream : Nat
  epoch : Nat
  stripe : Nat
  bandStart : Nat
  bandWidth : Nat
  s1 : Nat
  s2 : Nat
  s3 : Nat
  s4 : Nat
  deriving DecidableEq, Repr

/-- A tile descriptor (R106). -/
structure TileD where
  base : Nat
  stride : Nat
  rows : Nat
  cols : Nat
  fmt : Nat
  deriving DecidableEq, Repr

/-- A vector register: 2,048 bits, and its sticky flags (R73, R121). -/
structure VReg where
  data : Nat
  sat : Bool
  nan : Bool
  deriving DecidableEq, Repr

/-- An accumulator tile (R71): elements, and the 4-bit residue stored beside each, by 32 × row + column; the tag is 0 none,
1 INT32, 2 FP32. -/
structure Tile where
  elems : List (Nat × Nat)
  res : List (Nat × Nat)
  tag : Nat
  sat : Bool
  nan : Bool
  init : Bool
  deriving DecidableEq, Repr

/-- An active hardware loop (R103). -/
structure LoopRec where
  start : Nat
  stop : Nat
  n : Nat
  iter : Nat
  d : Nat
  deriving DecidableEq, Repr

/-- What a ring or counter handle is bound to (R138). -/
structure Handle where
  core : Nat
  index : Nat
  producer : Bool
  deriving DecidableEq, Repr

/-- A weight buffer and the codebook set paired with it (R68, R69): what names its tile, the bits of each of its rows, rows
of scale bytes and codebooks in that order, and their parity bits, one a byte. `valid` falls when the core stores into the
tile's words. -/
structure HeldTile where
  d : TileD
  cb : Option Nat
  lines : List Nat
  par : List Nat
  valid : Bool
  deriving DecidableEq, Repr

/-- What the sequencer waits for (R142). -/
inductive WaitFor where
  | ringRead | ringWrite | counter | fence
  | gong (stream stripe id gen : Nat)
  deriving DecidableEq, Repr

/-- A wait and the tick it began at (R165). -/
structure Wait where
  what : WaitFor
  since : Nat
  deriving DecidableEq, Repr

/-- What an outstanding write carries (R137, R139, R143). -/
inductive OutKind where
  /-- An XFER write: device address, words, data, and the counter that counts its arrival. -/
  | xfer (addr words data : Nat) (count : Option (Nat × Nat))
  /-- A slot of another core's ring: its reservation is the ring's. -/
  | slot (ring : Nat)
  /-- An addition to another core's counter. -/
  | cset (cnt val : Nat)
  deriving DecidableEq, Repr

/-- A write the core has issued and no destination has acknowledged. -/
structure OutWrite where
  dst : Nat
  kind : OutKind
  pc : Nat
  seq : Nat
  deriving DecidableEq, Repr

/-- An XFER read whose data has not arrived, and the tick it was issued at. -/
structure PendRead where
  vd : Nat
  addr : Nat
  words : Nat
  pc : Nat
  seq : Nat
  since : Nat
  deriving DecidableEq, Repr

/-- A ring's producer (R158). -/
inductive Producer where
  | core (n : Nat) | dma (ch : Nat)
  deriving DecidableEq, Repr

/-- A reserved slot (R160): its index, its data once sent, and whether all of it has landed. -/
structure Resv where
  slot : Nat
  data : Option Nat
  landed : Bool
  poison : Bool
  deriving DecidableEq, Repr

/-- A ring beyond its registers (R160, R167). -/
structure RingX where
  out : List Resv
  want : Bool
  bad : Bool
  deriving DecidableEq, Repr

/-- A row remap in progress (R168): the entry, and 0 requested, 1 copied and switched. -/
structure Remap where
  bank : Nat
  row : Nat
  entry : Nat
  stage : Nat
  deriving DecidableEq, Repr

/-- A stripe core (R66, R81, R91). Registers s, t, v, h, c and the tiles are listed by index where they differ from
their start-of-share values; a mask not listed enables every lane. -/
structure Core where
  run : Option Desc
  next : Option Desc
  s : List (Nat × Nat)
  t : List (Nat × TileD)
  v : List (Nat × VReg)
  m : List (Nat × Nat)
  h : List (Nat × Option Handle)
  c : List (Nat × Option Handle)
  acc : List (Nat × Tile)
  ret : List Nat
  loops : List LoopRec
  /-- The weight buffers in use, at most two, the one an instruction used last first. -/
  held : List HeldTile
  /-- An instruction of the MMA family is computing. -/
  computing : Bool
  /-- The outlier path holds an OACC (R112). -/
  outlier : Bool
  /-- Tile words, weight words and codebook words the last alarmed instruction of the MMA family read (R288). -/
  operands : List Byte
  /-- The steps of the one that waits (R68, R112). -/
  waiting : Option Nat
  wait : Option Wait
  outw : List OutWrite
  reads : List PendRead
  /-- Gong arrivals of the running share, by barrier (R144). -/
  gong : List (Nat × Nat)
  /-- Instructions issued by the running share. -/
  seq : Nat
  /-- Issue has stopped: the share ends once its writes are acknowledged (R83, R150). -/
  ending : Bool
  done : Bool
  alarm : Bool
  fault : Bool
  aborted : Bool
  outSat : Bool
  outNan : Bool
  hazard : Bool
  code : Nat
  codeSeq : Nat
  /-- The first report-only code of the running share (R83). -/
  event : Nat
  endPc : Nat
  lastPc : Nat
  satCount : Nat
  nanCount : Nat
  steps : Nat
  rings : List (Nat × RingX)
  /-- Counters whose state no correction could save (R167). -/
  badCnt : List (Nat × Bool)
  remap : Option Remap
  /-- Per row, by 384 × bank + row, one more than the tick of its last 0x0204 (R168). -/
  rowErr : List (Nat × Nat)
  /-- A row has failed in a bank with no usable spare left, and the core is not yet handed to retirement (R168). -/
  spareless : Bool
  /-- Tick of the last 0x0209 reported while no share ran, plus one (R155). -/
  hazTick : Nat
  /-- VALIDATE running, per bank (R78). -/
  validating : List (Nat × Bool)
  /-- Tick of the last scrub of the banks (R77). -/
  scrubAt : Nat
  /-- Array steps since reset or CNT_CLEAR, whose halves CORE_CNT_STEPS show (R86). -/
  allSteps : Nat
  /-- Stopped by the debug window (R461). -/
  halted : Bool
  /-- Tick of entry to the present transitional power state. -/
  since : Nat
  deriving DecidableEq, Repr

/-- A tile descriptor at the start of a share. -/
def TileD.reset : TileD := ⟨0, 0, 0, 0, 0⟩

/-- A vector register at the start of a share. -/
def VReg.reset : VReg := ⟨0, false, false⟩

/-- An accumulator tile at the start of a share. -/
def Tile.reset : Tile := ⟨[], [], 0, false, false, false⟩

/-- A ring with nothing reserved. -/
def RingX.reset : RingX := ⟨[], false, false⟩

/-- A core with no share. -/
def Core.reset : Core where
  run := none
  next := none
  s := []
  t := []
  v := []
  m := []
  h := []
  c := []
  acc := []
  ret := []
  loops := []
  held := []
  computing := false
  outlier := false
  operands := []
  waiting := none
  wait := none
  outw := []
  reads := []
  gong := []
  seq := 0
  ending := false
  done := false
  alarm := false
  fault := false
  aborted := false
  outSat := false
  outNan := false
  hazard := false
  code := 0
  codeSeq := 0
  event := 0
  endPc := 0
  lastPc := 0
  satCount := 0
  nanCount := 0
  steps := 0
  rings := []
  badCnt := []
  remap := none
  rowErr := []
  spareless := false
  hazTick := 0
  validating := []
  scrubAt := 0
  allSteps := 0
  halted := false
  since := 0

/-- A Gong barrier of one stripe (R144): participants, the current generation, the identities that have arrived in it,
and each identity's arrivals by generation, oldest first. -/
structure Gong where
  stream : Nat
  stripe : Nat
  id : Nat
  count : Nat
  /-- Generations the stripe's shares run through (R205). -/
  gens : Nat
  gen : Nat
  arrived : List Nat
  history : List (Nat × List Nat)
  deriving DecidableEq, Repr

/-! ### 09 -/
/-- A line on its way through the link layer and the raw front (R18 steps 1 to 4). `words` are its sensor words. -/
structure Line where
  no : Nat
  fline : Nat
  stamp : Nat
  enc0 : Nat
  enc1 : Nat
  words : List Nat
  subst : Bool
  opens : Bool
  closes : Bool
  /-- A missing line of a partial stripe: computed, not output (R21). -/
  filled : Bool
  deriving DecidableEq, Repr

/-- A processed line: its codes by pixel and channel, `chans` codes a pixel of `size` bytes each. -/
structure WLine where
  line : Line
  chans : Nat
  size : Nat
  f : Nat
  codes : List Nat
  /-- Number of its network-domain line in the stream (R185). -/
  net : Nat
  deriving DecidableEq, Repr

/-- A band of a tiling and its home core (R220-R222). -/
structure Band where
  start : Nat
  width : Nat
  home : Nat
  deriving DecidableEq, Repr

/-- A band map in force (R223, R234). -/
structure BandMap where
  bands : List Band
  gen : Nat
  first : Nat
  addr : Nat
  deriving DecidableEq, Repr

/-- An attempt at a share: its core and kind, and word 0 and END_PC of its record once it has ended (R82). -/
structure Att where
  core : Nat
  kind : Nat
  fin : Option (Nat × Nat)
  deriving DecidableEq, Repr

/-- A share of a stripe: a band or a crop batch, its original descriptor, its attempts, and whether a replay waits for a
spare (R280). -/
structure Share where
  crop : Bool
  idx : Nat
  desc : Desc
  atts : List Att
  want : Bool
  deriving DecidableEq, Repr

/-- A digest vote on a segment (R320): own original, own replay once ended, partner's original. -/
structure SegVote where
  seg : Nat
  own : Nat
  partner : Nat
  /-- The shares it covers: index, the core of the original, and the CRC-64 of its output. -/
  outs : List (Nat × Nat × Nat)
  deriving DecidableEq, Repr

/-- A stripe of a stream from its first line to its commit. -/
structure Stripe where
  no : Nat
  firstLine : Nat
  /-- Number in the stream of the network-domain line its first line belongs to (R185). -/
  net : Nat
  /-- Its first line's place in the frame; in an endless stream its number. -/
  frameAt : Nat
  lines : Nat
  /-- Lines written to the input buffer. -/
  got : Nat
  /-- Lines really received; fewer only in a partial stripe (R21). -/
  real : Nat
  t0 : Nat
  firstStamp : Nat
  subst : Bool
  partialS : Bool
  opening : Bool
  closing : Bool
  complete : Bool
  closed : Bool
  /-- Set at the first dispatch: epoch, EPOCH_FIRST, package, bank, map, class and picture-back control. -/
  begun : Bool
  /-- The counters and credits of the epoch it opens are written (R254). -/
  credited : Bool
  epoch : Nat
  epochFirst : Bool
  pkg : Option Pkg
  place : Place
  bank : Nat
  map : BandMap
  cold : List Nat
  noCarry : Bool
  flow : Bool
  pb : Nat
  shares : List Share
  crops : Bool
  /-- Shares that have missed the compute deadline: index, crop batches from 1,000 on. -/
  late : List Nat
  replayed : Bool
  committed : Bool
  /-- Own segment and batch digests (batches at 0x8000 + index), READY sent. -/
  segs : List (Nat × Nat)
  ready : Bool
  /-- The partner's digests, their READY, and its stripe digest. -/
  pSegs : List (Nat × Nat)
  pReady : Bool
  pDigest : Option Nat
  votes : List SegVote
  voted : Bool
  /-- Code of the first fault that lets the whole stripe fail and has no replay; 0 for none (R325). -/
  why : Nat
  deriving DecidableEq, Repr

/-- A committed output line: its number, its staged bytes, and its packed bytes once the picture back has run. -/
structure OutLine where
  no : Nat
  raw : List Byte
  packed : Option (List Byte)
  marked : Bool
  deriving DecidableEq, Repr

/-- A committed stripe in the output buffer (R21). -/
structure OutStripe where
  no : Nat
  t0 : Nat
  epoch : Nat
  epochFirst : Bool
  flagged : Bool
  subst : Bool
  partialS : Bool
  pb : Nat
  /-- CAL_BLEND.LINES as in force for the stripe (R41). -/
  blend : Nat
  calSet : Nat
  first : Nat
  /-- Network pixels of a line and their channels. -/
  width : Nat
  chans : Nat
  lines : List OutLine
  /-- Its place in the commit order of all streams (R39). -/
  order : Nat
  gap : Nat
  /-- Lines sent to the host and to GigE Vision. -/
  sentP : Nat
  sentG : Nat
  doneP : Bool
  doneG : Bool
  /-- Failed attempts to write the entry (R385). -/
  tries : Nat
  deriving DecidableEq, Repr

/-- A package swap between its request and its finish (R407). -/
structure Swap where
  pkg : Pkg
  place : Place
  bank : Nat
  /-- The stripe proposed to the listener of a pair, and the effect stripe once it stands (R314, R407). -/
  prop : Nat
  eff : Option Nat
  deriving DecidableEq, Repr

/-- A logical stream beyond its registers. -/
structure Strm where
  height : Nat
  pkg : Option Pkg
  place : Place
  bank : Nat
  swap : Option Swap
  /-- Effect stripe of a firmware hand-over. -/
  handover : Option Nat
  epoch : Option Nat
  /-- The next stripe opens a new epoch (R40). -/
  renew : Bool
  /-- The epoch change comes from a release of the safe state, to be reported at its boundary (R297). -/
  released : Bool
  /-- Number of the next line, and its place in the frame; a framed stream waits for a frame start. -/
  nextLine : Nat
  frameLine : Nat
  inFrame : Bool
  /-- Lines received at the link layer, in the crossing buffer, and past the raw front. -/
  cross : List Line
  fifo : List Line
  done : List WLine
  /-- Words of the last accepted line of the epoch. -/
  last : Option (List Nat)
  lastAt : Nat
  /-- Tick of the last trigger edge of the stream's trigger input (R391). -/
  edge : Option Nat
  /-- Lines reach this member from its partner (R312); local copies of a dual-fed stream not yet compared (R313). -/
  fed : Bool
  own : List Line
  ownNext : Nat
  /-- Encoder stamps of the last 65,536 lines: line, encoder 0, encoder 1 (R393). -/
  stamps : List (Nat × Nat × Nat)
  stripes : List Stripe
  nextStripe : Nat
  /-- STRM_RF_CTRL as in force for the stripe the raw front is in (R41). -/
  rf : Nat
  /-- Values of CAL_BLEND.LINES, newest first, each with the first stripe it is in force for (R41). -/
  blends : List (Nat × Nat)
  /-- Network-domain lines that have left the raw front (R185). -/
  netLine : Nat
  map : BandMap
  /-- Newer maps not yet in force, and the older maps whose carry is still held (R234). -/
  newMaps : List BandMap
  oldMaps : List BandMap
  /-- Home cores whose last share of the stream ended with an alarm and whose carry rings are not yet set (R231). -/
  alarmed : List Nat
  /-- One more than the stripe whose wrong line length or fast lines were last reported. -/
  lenAt : Nat
  /-- Number of the next output line, and the stripes skipped since the last delivery. -/
  outNext : Nat
  outBuf : List OutStripe
  gap : Nat
  resume : Bool
  /-- How the stream's last line came (R310, R313). -/
  route : LineRoute
  /-- Lines sent to this member by its partner and not yet settled, each with the tick of its last cell (R317); the numbers of those
  committed behind one that is not; a line whose token never came, after which no line is taken (R318). -/
  pend : List (Nat × Line)
  settled : List Nat
  hole : Option Nat
  /-- What has come of a forwarded line whose cells are not all here (R312). -/
  part : List Byte
  /-- Configuration changes waiting for the next stripe boundary: 0 configuration, named by register offset (R41). -/
  changes : List Nat
  /-- PROT 2 must fall to 0 at the next boundary (R278). -/
  dropFlow : Bool
  deriving DecidableEq, Repr

/-- A stream with nothing placed. -/
def Place.reset : Place := ⟨0, 0, 0, 0, 0, 0, 0, 0, 0, 0, 0, 0, 0, 0, 0, 0, 0, 0, 0⟩

/-- No map. -/
def BandMap.reset : BandMap := ⟨[], 0, 0, 0⟩

/-- A stream with no package. -/
def Strm.reset : Strm where
  height := 0
  pkg := none
  place := Place.reset
  bank := 0
  swap := none
  handover := none
  epoch := none
  renew := false
  released := false
  nextLine := 0
  frameLine := 0
  inFrame := false
  cross := []
  fifo := []
  done := []
  last := none
  lastAt := 0
  edge := none
  fed := false
  own := []
  ownNext := 0
  stamps := []
  stripes := []
  nextStripe := 0
  rf := 0
  blends := []
  netLine := 0
  map := BandMap.reset
  newMaps := []
  oldMaps := []
  alarmed := []
  lenAt := 0
  outNext := 0
  outBuf := []
  gap := 0
  resume := false
  route := .own
  pend := []
  settled := []
  hole := none
  part := []
  changes := []
  dropFlow := false

/-- A stripe before its first line. -/
def Stripe.reset : Stripe where
  no := 0
  firstLine := 0
  net := 0
  frameAt := 0
  lines := 0
  got := 0
  real := 0
  t0 := 0
  firstStamp := 0
  subst := false
  partialS := false
  opening := false
  closing := false
  complete := false
  closed := false
  begun := false
  credited := false
  epoch := 0
  epochFirst := false
  pkg := none
  place := Place.reset
  bank := 0
  map := BandMap.reset
  cold := []
  noCarry := false
  flow := false
  pb := 0
  shares := []
  crops := false
  late := []
  replayed := false
  committed := false
  segs := []
  ready := false
  pSegs := []
  pReady := false
  pDigest := none
  votes := []
  voted := false
  why := 0

/-- Tables of one set of calibration coefficients (R335): by table number, the header and body bytes; an unlisted table
holds its reset value. -/
abbrev CalSet := List (Nat × List Byte)

/-- A calibration run (R332): kind, lines or frames asked for, captured so far, its phase (0 scheduled, 1 capturing,
2 computing), and its sums by column or pixel. -/
structure CalRun where
  kind : Nat
  count : Nat
  got : Nat
  phase : Nat
  auto : Bool
  /-- Captured words no kernel has added to the sum area yet, with their column or pixel. -/
  words : List (Nat × Nat)
  deriving DecidableEq, Repr

/-- Calibration of one stream beyond its registers (R332-R342). -/
structure CalStrm where
  committed : CalSet
  previous : CalSet
  staged : CalSet
  setId : Nat
  /-- The set the last commit's checks passed, which its effect stripe puts in force, and that stripe while it is pending. -/
  checked : CalSet
  eff : Option Nat
  /-- First input line and first output line of the blends in force, below 0 where the stream has restarted since; none
  where none runs. -/
  inFrom : Option Int
  outFrom : Option Int
  blending : Bool
  /-- The sets the picture back's blend lies between, and the sets whose blend there waits for its first output line, by
  effect stripe (R338 step 6). -/
  pbOld : CalSet
  pbNew : CalSet
  pbNext : List (Nat × CalSet)
  /-- SHADE_EN has been 1 from the line before the blend on, so that shading blends (R339). -/
  shades : Bool
  run : Option CalRun
  deriving DecidableEq, Repr

/-- A stream with reset tables. -/
def CalStrm.reset : CalStrm := ⟨[], [], [], 0, [], none, none, none, false, [], [], [], false, none⟩
/-! ### 10 -/
/-- A start of a DMA channel (R239, R269): what GO copies. -/
structure DmaStart where
  prog : Nat
  len : Nat
  tag : Nat
  srcBias : Nat
  dstBias : Nat
  budget : Nat
  deriving DecidableEq, Repr

/-- An active loop of a DMA program (R243); strides are 40-bit codes. -/
structure DmaLoop where
  start : Nat
  n : Nat
  iter : Nat
  sstr : Nat
  dstr : Nat
  deriving DecidableEq, Repr

/-- Where a piece goes (R242, R250, R253, R255): an address, a reserved slot, the scratchpads of cores `first` to `last`, or
the engine itself, whose index stream it reads from byte `off` on. -/
inductive PieceKind where
  | plain
  | slot (core ring slot : Nat)
  | chain (first last : Nat)
  | index (off : Nat)
  deriving DecidableEq, Repr

/-- An outstanding piece (R238, R250): its path, addresses, issue tick and place in the channel's order; whether the index that
gave its address was poisoned (R242); and whether its program has been cancelled (R265). -/
structure Piece where
  seq : Nat
  light : Bool
  src : Nat
  dst : Nat
  len : Nat
  kind : PieceKind
  issued : Nat
  poison : Bool
  dropped : Bool
  deriving DecidableEq, Repr

/-- A running check (R246): its polynomial and the covered pieces in program order with what they read and its poison. -/
structure SumCheck where
  crc64 : Bool
  parts : List (Nat × Option (List Byte × Bool))
  deriving DecidableEq, Repr

/-- An ended check whose result is not yet written (R246): its place in the channel's order and its address. -/
structure SumStore where
  seq : Nat
  dst : Nat
  check : SumCheck
  deriving DecidableEq, Repr

/-- A SIGNAL not yet sent (R245): it follows the writes issued before it. -/
structure PendSignal where
  before : Nat
  /-- Core and counter; none for an event. -/
  counter : Option (Nat × Nat)
  val : Nat
  deriving DecidableEq, Repr

/-- What a waiting channel waits for (R244, R253, R256); `final` is the wait of END. -/
inductive DmaWait where
  | drain | final
  | counter (core cnt target : Nat) (rel : Bool)
  | ring (core ring : Nat)
  | chain (lo hi : Nat)
  deriving DecidableEq, Repr

/-- A DMA channel beyond its registers (R238-R266). -/
structure DmaCh where
  run : Option DmaStart
  next : Option DmaStart
  pc : Nat
  loops : List DmaLoop
  /-- 32-byte units or elements of the instruction issued, and bytes of the present element. -/
  offset : Nat
  sub : Nat
  /-- The step of the present instruction is counted. -/
  begun : Bool
  seq : Nat
  pieces : List Piece
  check : Option SumCheck
  stores : List SumStore
  signals : List PendSignal
  /-- The first write of the program that ended with an error: it is never acknowledged (R245). -/
  failed : Option Nat
  steps : Nat
  words : Nat
  poison : Bool
  wait : Option (DmaWait × Nat)
  /-- The halt's or the first fault's code; 0 for none. -/
  code : Nat
  /-- Of the present MOVEX: bytes of its index stream asked for, and the parts that have arrived, by offset, each with its
  bytes and its poisoned words. -/
  asked : Nat
  index : List (Nat × List Byte × List Nat)
  /-- The ring the present MOVE asks for slots of. -/
  ring : Option (Nat × Nat)
  deriving DecidableEq, Repr

/-- A channel with no program. -/
def DmaCh.reset : DmaCh where
  run := none
  next := none
  pc := 0
  loops := []
  offset := 0
  sub := 0
  begun := false
  seq := 0
  pieces := []
  check := none
  stores := []
  signals := []
  failed := none
  steps := 0
  words := 0
  poison := false
  wait := none
  code := 0
  asked := 0
  index := []
  ring := none

/-- A chain MOVE in the weight chain (R255): its words and receivers, and how many words each has received. -/
structure ChainMove where
  channel : Nat
  src : Nat
  word : Nat
  first : Nat
  last : Nat
  cnt : Option Nat
  total : Nat
  issued : Nat
  got : List (Nat × Nat)
  /-- For each receiver, the tick from which its next word has been offered to it, plus one (R257). -/
  since : List (Nat × Nat)
  stopped : Bool
  deriving DecidableEq, Repr

/-- A check-value unit beyond its registers (R267, R268): the value so far, the next sequence number expected, the shares
whose data crossed the present window; the values and shares of its windows from window `base` on, the first that is still to be
compared; and how many of its windows it has compared itself. -/
structure Cvu where
  crc : Nat
  next : Option Nat
  shares : List Writer
  vals : List (Nat × List Writer)
  base : Nat
  compared : Nat
  deriving DecidableEq, Repr

/-- A unit before its first flit. -/
def Cvu.reset : Cvu := ⟨0, none, [], [], 0, 0⟩
/-! ### 11 -/
/-- A shadow replay (R285, R286): the share it copies, its core and outcome; `third` is the third run. -/
structure Shadow where
  stream : Nat
  stripe : Nat
  band : Nat
  core : Nat
  home : Nat
  ended : Option Bool
  differs : Bool
  third : Option Nat
  thirdDone : Bool
  /-- CRC-64 of the shadow's output, once compared. -/
  value : Nat
  deriving DecidableEq, Repr

/-- A test slice (R287): core, Chime kernel, or Rattle kernel × 2^32 + seed, and what it is compared with. -/
structure Slice where
  core : Nat
  chime : Bool
  number : Nat
  /-- Runs of the slice so far: core and CRC-64 of its results. -/
  runs : List (Nat × Nat)
  expect : Nat
  /-- Declared steps and descriptor words of its kernel. -/
  steps : Nat
  words : List Nat
  deriving DecidableEq, Repr

/-- An operand capture record (R288). -/
structure Capture where
  number : Nat
  bytes : List Byte
  sent : Nat
  deriving DecidableEq, Repr

/-- Fault handling beyond its registers (R275-R298). -/
structure Flt where
  /-- Quiet timer of each core: the tick it last restarted at. -/
  quiet : List (Nat × Nat)
  /-- Shares taken by each home core: its place in the present block of 256 (R285). -/
  block : List (Nat × Nat)
  shadows : List Shadow
  slice : Option Slice
  /-- What has been tested in this round, each core with twice a Rattle kernel's number, or twice a Chime kernel's plus one; the ticks of
  Rattle each core has had in it; its start tick, whether it is overdue, failures by Chime kernel. -/
  tested : List (Nat × Nat)
  rattle : List (Nat × Nat)
  roundAt : Nat
  roundOver : Bool
  chimeFails : List (Nat × List Nat)
  withdrawn : List Nat
  captures : List Capture
  nextCapture : Nat
  /-- The dispatch journal: descriptors sent to a core whose status is not yet in (R277). -/
  journal : List (Nat × Desc)
  /-- Recent DRAM errors: channel and tick (R275); channels declared failed. -/
  dramErrs : List (Nat × Nat)
  dramFailed : List Nat
  /-- Shares replayed because the DRAM data they wrote was found spoilt (R275). -/
  rewrites : List Writer
  /-- Stripes reported closed to the SSC and not committed: stream, stripe, SSC count at the close (R294). -/
  watch : List (Nat × Nat × Nat)
  /-- SSC count at the last kick (R294). -/
  kickAt : Nat
  /-- The old control pair runs its self-test (R277). -/
  testing : Bool
  /-- A hand-over restarts the standby pair (R409): 0 none, 1 restarting, 2 ready, 3 switched. -/
  handover : Nat
  /-- Lowest effect stripe of the hand-over (R458). -/
  handoverE : Nat
  /-- Environment doubts whose condition holds (R297). -/
  env : List Nat
  /-- Releases recorded in the life store: stream and stripe of each new epoch (R297). -/
  releases : List (Nat × Nat)
  /-- Cores that passed their test set since they left OFF (R406). -/
  passed : List Nat
  /-- Start-up failures of each core (R404). -/
  failedRun : List (Nat × Nat)
  /-- Tick of the last recheck of the configuration CRC; registers whose stored bits differ from what it covers: offset, instance,
  the word it covers and the word stored (R276). -/
  cfgAt : Nat
  cfgBad : List (Nat × Nat × Nat × Nat)
  deriving DecidableEq, Repr

/-- No fault handled yet. -/
def Flt.reset : Flt where
  quiet := []
  block := []
  shadows := []
  slice := none
  tested := []
  rattle := []
  roundAt := 0
  roundOver := false
  chimeFails := []
  withdrawn := []
  captures := []
  nextCapture := 0
  journal := []
  dramErrs := []
  dramFailed := []
  rewrites := []
  watch := []
  kickAt := 0
  testing := false
  handover := 0
  handoverE := 0
  env := []
  releases := []
  passed := []
  failedRun := []
  cfgAt := 0
  cfgBad := []
/-! ### 12 -/
/-- A data cell of the replay buffer (R306): its LSEQ, header, PSEQ and payload, how often it has been sent, and whether this node
forwards it (R311). -/
structure SentCell where
  lseq : Nat
  head : CellHead
  pseq : Nat
  data : List Byte
  sends : Nat
  fwd : Bool
  deriving DecidableEq, Repr

/-- A Zehorn link beyond its registers (R303-R309): LSEQ of the next data cell, last LSEQ received in order, credits,
cells sent and not acknowledged, cells that wait for room, and the ticks its timers count from. -/
structure ZLink where
  next : Nat
  last : Nat
  credit : Nat
  held : List SentCell
  wait : List SentCell
  lastRx : Nat
  lastTx : Nat
  downAt : Nat
  trainedAt : Nat
  /-- The generation a HELLO has settled, while the link retrains into it. -/
  settled : Option (Nat × Hello)
  /-- 0x0505 has been reported since the link was last up (R309). -/
  said : Bool
  /-- The turn of a forwarded cell where cells of both kinds wait (R311). -/
  turn : Bool
  /-- A cell is missing and NAK has been sent for it (R306). -/
  nakked : Bool
  /-- One more than the LSEQ of the cell taken last, while further token records of it may follow (R305). -/
  taking : Nat
  deriving DecidableEq, Repr

/-- A link before its first training. -/
def ZLink.reset : ZLink := ⟨0, 2 ^ 24 - 1, 468, [], [], 0, 0, 0, 0, none, false, false, false, 0⟩

/-- The pair unit beyond its registers (R305, R312-R324): next PSEQ out and in, cells received ahead of their turn (PSEQ, link, tick of
arrival, content), the partner's HELLO, changes waiting for a stripe, epochs announced, the rejoin stripes named and the streams that have
matched since, and a hand-over of the speaker role that waits. -/
structure PairX where
  pOut : Nat
  pIn : Nat
  ahead : List (Nat × Nat × Nat × PairMsg)
  hello : Option Hello
  sched : List (Nat × Nat × Change)
  epochs : List (Nat × Nat × Nat)
  rejoin : List (Nat × Nat)
  matched : List Nat
  swap : Bool
  /-- A LEAVE of the partner's has been acted on (R305). -/
  left : Bool
  /-- The stream and stripe a YIELD of the speaker's names, until this member becomes speaker there (R323). -/
  yieldAt : Option (Nat × Nat)
  /-- Marks that came before this member's own commit: one more than the last line marked, by stream; decision numbers (R316). -/
  lineMarks : List (Nat × Nat)
  decMarks : List Nat
  deriving DecidableEq, Repr

/-- No partner. -/
def PairX.reset : PairX := ⟨0, 0, [], none, [], [], [], [], false, false, none, [], []⟩
/-! ### 13 -/
/-- Self-calibration beyond its registers (R329-R331). -/
structure SelfCal where
  /-- Island regulator trims, in mV, per cluster: within ±15 mV. -/
  trims : List (Nat × Int)
  /-- Supply-monitor gain (in 1/1000) and offset (in mV) in force, per monitor: 16 islands, VDD_CORE, VDD_SRAM, VDD_MET. -/
  monitors : List (Nat × Nat × Int)
  /-- What they move toward, by at most 2 mV a second; and what each sensor's field offset moves toward, in 0.125 K, by one
  step a second. -/
  monTargets : List (Nat × Nat × Int)
  offTargets : List (Nat × Int)
  /-- Consecutive canary evaluations that required a lower BASE, per cluster. -/
  lower : List (Nat × Nat)
  /-- Ticks a sensor's difference from its neighbours' median has begun to exceed 8 K; 0 for not. -/
  far : List (Nat × Nat)
  /-- Tick at which an excluded sensor's difference last came within 4 K, plus one; 0 for not. -/
  within : List (Nat × Nat)
  /-- DRAM tracking: total drift from the start-up value per channel, in 1/64 UI, in force and as last accepted, toward which it
  moves. -/
  drift : List (Nat × Int)
  driftTo : List (Nat × Int)
  /-- Consecutive VALUE per SerDes link: eye height at training. -/
  eye : List (Nat × Nat)
  deriving DecidableEq, Repr

/-- No self-calibration has run. -/
def SelfCal.reset : SelfCal := ⟨[], [], [], [], [], [], [], [], [], []⟩
/-! ### 13 -/

/-- What a core record of the life store holds beyond E, its state and its quiet time (R344); its event ring by entry:
code, kind of share, calendar time, POWERED_S and stripe. -/
structure CoreRec where
  alarms : Nat
  replays : Nat
  suspicions : Nat
  remaps : Nat
  retireTime : Nat
  retirePowered : Nat
  head : Nat
  events : List (Nat × List Nat)
  /-- QUIET_S, as last written. -/
  quiet : Nat
  /-- Sequence number of its trailer (R341). -/
  seq : Nat
  deriving DecidableEq, Repr

/-- No event recorded. -/
def CoreRec.reset : CoreRec := ⟨0, 0, 0, 0, 0, 0, 0, [], 0, 0⟩

/-- The life counters and cluster trims (R343). -/
structure LifeRec where
  powered : Nat
  powerUps : Nat
  cycles : Nat
  /-- Highest junction temperature, signed, in 0.125 °C, its sensor and calendar time. -/
  peakT : Int
  peakSensor : Nat
  peakTime : Nat
  coolant : Nat
  coolantLast : Nat
  wear : Nat
  /-- EQ_S by cluster. -/
  eqs : List (Nat × Nat)
  /-- CLUSTER_TRIM by cluster: SUSPECT_STEPS, SUSPECT, BASE as one number. -/
  trims : List (Nat × Nat)
  deriving DecidableEq, Repr

/-- An empty record. -/
def LifeRec.reset : LifeRec where
  powered := 0
  powerUps := 0
  cycles := 0
  peakT := 0
  peakSensor := 0
  peakTime := 0
  coolant := 0
  coolantLast := 0
  wear := 0
  eqs := []
  trims := []

/-- The wear histograms and the monthly delay ratios (R345). -/
structure WearRec where
  /-- Seconds by cluster × 143 + voltage bin × 13 + temperature bin. -/
  hist : List (Nat × Nat)
  /-- Mean ρ of the months past, by cluster × 180 + month, and the sum and count of the present month by cluster. -/
  months : List (Nat × Nat)
  rhoSum : List (Nat × Nat)
  rhoN : List (Nat × Nat)
  month : Nat
  deriving DecidableEq, Repr

/-- An empty record. -/
def WearRec.reset : WearRec := ⟨[], [], [], [], 0⟩

/-- A record kept in two copies (R341): the one written last and the one before, which copy was written last, and the sequence number
of its trailer. -/
structure Copied (α : Type) where
  newest : α
  older : α
  copy : Nat
  seq : Nat
  deriving DecidableEq, Repr

/-- One half of a persistence slot (R341, R342): its set with SET_ID, and the sequence number of its trailer. -/
structure Half where
  slot : Nat
  half : Nat
  set : CalSet
  setId : Nat
  seq : Nat
  deriving DecidableEq, Repr

/-- The life store and the counters kept in it (R341-R346). -/
structure Life where
  now : LifeRec
  hists : WearRec
  /-- What their copies hold. -/
  counters : Copied LifeRec
  wears : Copied WearRec
  /-- New seconds of each histogram bin since EQ_S last grew. -/
  fresh : List (Nat × Nat)
  cores : List (Nat × CoreRec)
  /-- Change log, oldest first: what, and values (R341). -/
  log : List (List Nat)
  /-- The written halves of the persistence slots, newest first (R341, R342). -/
  slots : List Half
  /-- Slot of each stream that has one, plus one (R342). -/
  owners : List (Nat × Nat)
  /-- The thermal cycle counter of R346: rising, p and v, in 0.125 °C. -/
  up : Bool
  p : Int
  v : Int
  /-- The calendar's loss has been reported in this power-up (R347). -/
  calLost : Bool
  /-- Kernels of the Chime pack in the rounds; version and kernels of the one installed since, for the next round (R288). -/
  chime : List ChimeKernel
  chimeNext : Option (Nat × List ChimeKernel)
  /-- Bytes of the Chime pack slots that have been written, and the slot written last (R341). -/
  packs : List (Nat × List Byte)
  packAt : Nat
  deriving DecidableEq, Repr

/-- An empty store. -/
def Life.reset : Life where
  now := LifeRec.reset
  hists := WearRec.reset
  counters := ⟨LifeRec.reset, LifeRec.reset, 0, 0⟩
  wears := ⟨WearRec.reset, WearRec.reset, 0, 0⟩
  fresh := []
  cores := []
  log := []
  slots := []
  owners := []
  up := true
  p := 0
  v := 0
  calLost := false
  chime := []
  chimeNext := none
  packs := []
  packAt := 1
/-- When the rows that come at a fixed interval last ran: the sensors (R330), supply monitors, canaries and DRAM tracking (R329, R331),
the life counters and wear (R343, R345), the thermistors and T_j (R412, R413), Clapper's heartbeat (R433) and the tap's TIME
frame (R354). -/
structure Timers where
  sensors : Nat
  supply : Nat
  canary : Nat
  dram : Nat
  counters : Nat
  wear : Nat
  thermistors : Nat
  junction : Nat
  heartbeat : Nat
  timeFrame : Nat
  deriving DecidableEq, Repr

/-- None has run. -/
def Timers.reset : Timers := ⟨0, 0, 0, 0, 0, 0, 0, 0, 0, 0⟩
/-! ### 14 -/
/-- The inputs A and B of a quadrature counter: raw levels, since when they stand, and filtered levels (R356, R390). -/
structure Quad where
  rawA : Bool
  rawB : Bool
  sinceA : Nat
  sinceB : Nat
  a : Bool
  b : Bool
  deriving DecidableEq, Repr

/-- Both inputs low. -/
def Quad.reset : Quad := ⟨false, false, 0, 0, false, false⟩

/-- A running measurement of Damson (R357, R358). -/
structure Meas where
  roll : Nat
  p0 : Int
  startTime : Nat
  lines : Nat
  sum : Int
  tapGap : Bool
  edgeLost : Bool
  encErr : Bool
  notValid : Bool
  ended : Bool
  deriving DecidableEq, Repr

/-- A firmware image slot of Damson's partition (R353). -/
structure DmsImage where
  version : Nat
  sha : List Byte
  valid : Bool
  deriving DecidableEq, Repr

/-- An accepted change of R364 that stands between its audit entry and its last step. -/
structure DmsChange where
  events : Nat
  /-- 1 parameter, 2 firmware. -/
  kind : Nat
  param : Nat
  value : Nat
  image : DmsImage
  deriving DecidableEq, Repr

/-- What Damson writes to its state region (R353). -/
structure DmsSaved where
  pulses : Int
  seq : Nat
  meas : Option Meas
  deriving DecidableEq, Repr

/-- Damson: what its chapter gives it beyond the mailbox registers. Its code, counters and reading line are the
DMS_* registers. -/
structure Damson where
  powered : Bool
  /-- Parameters 1 to 9 of R363, in order. -/
  params : List Nat
  /-- The parameters as the other copy holds them, and the copy written last, 0 or 1. -/
  paramsOld : List Nat
  paramCopy : Nat
  pulses : Int
  /-- Encoder 0 as sampled, and the samples so far (R356). -/
  enc : Quad
  samples : Nat
  /-- MET_ADJ_n is low, and the metrology time since which its level stands (R364). -/
  adjLow : Bool
  adjAt : Nat
  seq : Nat
  metTime : Nat
  meas : Option Meas
  saved : DmsSaved
  /-- Metrology time of the last write of the state region (R353). -/
  savedAt : Nat
  change : Option DmsChange
  /-- R29 R351: frames in the 16 KiB crossing buffer of the tap, oldest first. -/
  tap : List (List Byte)
  /-- STRIPE and EPOCH of the last LINES frame. -/
  lastLines : Option (Nat × Nat)
  /-- Metrology time of the last LINES frame. -/
  lastLinesAt : Nat
  /-- Calendar seconds of the last TIME frame whose VALID was set, and the metrology time it came at. -/
  cal : Option (Nat × Nat)
  /-- Records held, oldest first, 128 bytes each. -/
  records : List (List Byte)
  /-- Audit entries readable, oldest first, 64 bytes each. -/
  trail : List (List Byte)
  trailPage : Nat
  slotA : DmsImage
  slotB : DmsImage
  /-- The slot that runs: 0 A, 1 B. -/
  running : Nat
  /-- The 64 bytes of the record public key, and the private key, which nothing reads but the signing of a record (R353). -/
  recordKey : List Byte
  recordPriv : Nat
  /-- First 8 bytes of the SHA-256 of the adjust key and of the firmware key. -/
  adjustKey : List Byte
  firmwareKey : List Byte
  deriving DecidableEq, Repr

/-- An image slot before provisioning (DESIGN CHOICE, log entry 2). -/
def DmsImage.reset : DmsImage := ⟨0, List.replicate 32 0, true⟩

/-- Damson before its first boot; the partition's contents are log entry 2's. -/
def Damson.reset : Damson where
  powered := true
  params := [1, 0, 1, 1, 0, 0, 0, 0, 0]
  paramsOld := [1, 0, 1, 1, 0, 0, 0, 0, 0]
  paramCopy := 0
  pulses := 0
  enc := Quad.reset
  samples := 0
  adjLow := false
  adjAt := 0
  seq := 0
  metTime := 0
  meas := none
  saved := ⟨0, 0, none⟩
  savedAt := 0
  change := none
  tap := []
  lastLines := none
  lastLinesAt := 0
  cal := none
  records := []
  trail := []
  trailPage := 0
  slotA := DmsImage.reset
  slotB := DmsImage.reset
  running := 0
  recordKey := List.replicate 64 0
  recordPriv := 0
  adjustKey := List.replicate 8 0
  firmwareKey := List.replicate 8 0
/-! ### 15 -/
/-- A pending actuator decision (R393): its decision number, its record's fields, and what it counts from (T0, or the
encoder stamp of LINE). -/
structure Decision where
  number : Nat
  output : Nat
  action : Nat
  width : Nat
  whenSel : Nat
  offset : Nat
  base : Nat
  deriving DecidableEq, Repr

/-- The actuator outputs and ALIVE (R393-R395, R474). -/
structure Act where
  /-- What each of the 16 outputs is driven to: 0 low, 1 high, 2 high impedance. -/
  drive : List Nat
  /-- Pending pulse ends: output, tick of the end, level after it. -/
  ends : List (Nat × Nat × Nat)
  /-- Pending decisions in release order, at most 4,096. -/
  queue : List Decision
  /-- The level of ALIVE. -/
  alive : Nat
  /-- Tick ALIVE last toggled at (R395). -/
  aliveAt : Nat
  /-- VDD_IO_33 is below 2.7 V (R474). -/
  ioLow : Bool
  /-- One more than the epoch of each stream since whose start SAFE has not latched: its stripes' outputs are valid and
  its decisions act (R297); 0 for none. -/
  armed : List (Nat × Nat)
  /-- Forward pulses since each CoaXPress port's last encoder trigger (R392). -/
  trigCnt : List (Nat × Nat)
  /-- Inputs of the encoders (R390). -/
  encs : List (Nat × Quad)
  /-- Filtered levels of the trigger inputs (R391). -/
  trigLevel : List (Nat × Bool)
  /-- Levels the trigger inputs stand at, and since when. -/
  trigRaw : List (Nat × Bool × Nat)
  /-- THERM_TRIP_n is driven low (R413, R474). -/
  tripLow : Bool
  /-- Field tick of the last SSC_WDOG.KICK. -/
  kick : Nat
  deriving DecidableEq, Repr

/-- Every output at high impedance, ALIVE low (R295, R296, R474). -/
def Act.reset : Act :=
  { drive := List.replicate 16 2, ends := [], queue := [], alive := 0, aliveAt := 0, ioLow := false, armed := [], trigCnt := [], encs := [], trigLevel := [],
    trigRaw := [],
    tripLow := false, kick := 0 }
/-! ### 15 -/
/-- A CSI-2 virtual channel (R373, R374): inside Frame Start and Frame End, the number of the last Frame Start, and with
LSLE inside a line whose packet has or has not come. -/
structure VcState where
  inFrame : Bool
  last : Option Nat
  inLine : Bool
  got : Bool
  deriving DecidableEq, Repr

/-- The GigE Vision side of a port (R386): its address, and the bootstrap registers written. -/
structure GvPort where
  ip : Nat
  regs : List (Nat × Nat)
  deriving DecidableEq, Repr

/-- Ports and output links beyond their registers. -/
structure Ports where
  /-- By port × 16 + virtual channel. -/
  vcs : List (Nat × VcState)
  /-- Next CoaXPress packet tag by stream, plus one; 0 before the first packet. -/
  tags : List (Nat × Nat)
  /-- CoaXPress packets that have come ahead of their turn, by stream (R376). -/
  ahead : List (Nat × CxpPacket)
  /-- Underruns of the output crossing buffers, by domain (R32). -/
  underruns : List (Nat × Nat)
  gv : List (Nat × GvPort)
  /-- Stripes that have come into an output buffer so far, of all streams (R39). -/
  commits : Nat
  deriving DecidableEq, Repr

/-- A virtual channel before its first packet. -/
def VcState.reset : VcState := ⟨false, none, false, false⟩

/-- A port with no address. -/
def GvPort.reset : GvPort := ⟨0, []⟩

/-- Nothing received yet. -/
def Ports.reset : Ports := ⟨[], [], [], [], [], 0⟩
/-! ### 16 -/
/-- Cooling and thermal reactions beyond their registers (R412, R413): the inlet reading, none while invalid; one more than
the tick each condition began to hold at, 0 while it does not: inlet outside 15 to 45 °C, inlet above 50 °C, flow low, T_j above
105 °C, T_j below 95 °C; an alarm already raised for the inlet and for the flow; background work shed; tripped. -/
structure Therm where
  inlet : Option Int
  outlet : Option Int
  inletOut : Nat
  inletHot : Nat
  flowLow : Nat
  hot : Nat
  cool : Nat
  inletSaid : Bool
  flowSaid : Bool
  shed : Bool
  tripped : Bool
  deriving DecidableEq, Repr

/-- Nothing read yet. -/
def Therm.reset : Therm := ⟨none, none, 0, 0, 0, 0, 0, false, false, false, false⟩
/-! ### 17 -/
/-- A datagram Clapper holds until it is acknowledged (R431). -/
structure Dgram where
  seq : Nat
  kind : Nat
  body : List Byte
  sentAt : Nat
  deriving DecidableEq, Repr

/-- Clapper's management protocol (R430-R438). -/
structure Mgmt where
  held : List Dgram
  nextSeq : Nat
  lastIn : Nat
  lastAck : Nat
  silent : Bool
  /-- One more than the tick 0x0931 was last reported at. -/
  authAt : Nat
  /-- Staging of the transfers under way, by command code: bytes and the tick of the last fragment (R436). -/
  xfers : List (Nat × List Byte × Nat)
  /-- Records sent in the present second and its start. -/
  sentSec : Nat
  secAt : Nat
  /-- Commands whose REPLY waits for their end, each with the node it came from where it came over the ring (R434, R435). -/
  waiting : List (Nat × Option Nat)
  /-- COMMANDs that have come over the ring, by the node they came from, and the node the command that executes came from (R435). -/
  relayed : List (Nat × InDgram)
  route : Option Nat
  /-- What has come of a message whose MESSAGE cells are not all here, by node (R310). -/
  parts : List (Nat × List Byte)
  deriving DecidableEq, Repr

/-- Nothing sent yet. -/
def Mgmt.reset : Mgmt := ⟨[], 1, 0, 0, false, 0, [], 0, 0, [], [], none, []⟩
/-! ### 17 -/

/-- Fuses, flash slots and field access beyond their registers (R416-R428). -/
structure Sec where
  /-- Bytes of the images in flash slots A and B; none in an empty slot. -/
  flash : List (List Byte)
  /-- Customer package key hashes, slots 0 to 3. -/
  keyHash : List (List Byte)
  /-- Vendor firmware and test-pack key hashes with their REVOKED bits. -/
  vendorFw : List (List Byte × Bool)
  vendorTest : List (List Byte × Bool)
  /-- Burned password slots, each salt and hash; K_CR; burned management key slots: secret (R416). -/
  pw : List (List Byte)
  crKey : List Byte
  mgmtKeys : List (List Byte)
  /-- Sequence number of the last accepted key command (R422). -/
  keySeq : Nat
  /-- A lifecycle burn that a power loss interrupted (R424), and a rollback burn that failed its verification (R420). -/
  lifeBurn : Option Nat
  burn : Option Nat
  /-- The nonce drawn last, and the tick it was drawn at while it is good (R427). -/
  nonce : List Byte
  nonceAt : Option Nat
  /-- Bytes written into SEC_RESPONSE and SEC_PASSWORD, and SEC_PW_LEN. -/
  response : List Byte
  password : List Byte
  pwLen : Nat
  /-- A challenge-response has succeeded in this power session (R423). -/
  crSession : Bool
  /-- Powered ticks of the lockout served, as last written, and the tick they were counted from (R428). -/
  served : Nat
  lockFrom : Nat
  deriving DecidableEq, Repr

/-- A blank part with empty flash slots (DESIGN CHOICE, log entry 2). -/
def Sec.reset : Sec where
  flash := [[], []]
  keyHash := List.replicate 4 (List.replicate 32 0)
  vendorFw := [(List.replicate 48 0, false), (List.replicate 48 0, false)]
  vendorTest := [(List.replicate 48 0, false), (List.replicate 48 0, false)]
  pw := []
  crKey := []
  mgmtKeys := []
  keySeq := 0
  lifeBurn := none
  burn := none
  nonce := List.replicate 32 0
  nonceAt := none
  response := List.replicate 32 0
  password := List.replicate 64 0
  pwLen := 0
  crSession := false
  served := 0
  lockFrom := 0
/-! ### 18 -/
/-- A mailbox request being executed (R457): its slot, command, tag and arguments; its response's owner is gone after a
reset of the instance (R460). -/
structure MbxReq where
  slot : Nat
  cmd : Nat
  tag : Nat
  args : List Byte
  gone : Bool
  deriving DecidableEq, Repr

/-- A mailbox instance beyond its registers (R456-R460). -/
structure Mbx where
  /-- Slot bytes by slot × 256 + byte. -/
  slots : List Host.Cell
  reqs : List MbxReq
  /-- Responses in the order their requests completed, and events, that wait for room: slot and 64 bytes, kind and data. -/
  rspWait : List (Nat × List Byte)
  evtWait : List (Nat × List Byte)
  /-- The rings, by entry. -/
  rsp : List (Nat × List Byte)
  evt : List (Nat × List Byte)
  evtSeq : Nat
  deriving DecidableEq, Repr

/-- An empty instance. -/
def Mbx.reset : Mbx := ⟨[], [], [], [], [], [], 1⟩

/-- Why the model stops with a fault. -/
inductive Fault where
  /-- Raised by no command: the HX940 reports every error it describes by a code of R271 and goes on, so no
  meaning of this model ends in a fault. Safe: it never stands for a behaviour of the part. -/
  | noneRaised
  deriving DecidableEq, Repr

/-- Why the model refuses. -/
inductive Refusal where
  /-- Raised by Machine/Dispatch.lean for a command whose meaning is not modelled, named by its mnemonic. Safe: the
  model stops where the part goes on. -/
  | notModelled (mnemonic : String)
  deriving DecidableEq, Repr

/-- The HX940 block: its registers, memories, engines and what its chapters describe, and the queue of commands that
wait, first in, first out. -/
structure State where
  /-- R3 R4: which part number the fuses make this one (DESIGN CHOICE, log entry 2). -/
  part : Part
  /-- R389: FIO_TICK, the 64-bit field tick count. -/
  tick : Nat
  /-- R32: the field timebase is lost. -/
  fieldLost : Bool
  /-- R295 R298: the SSC oscillator's own count. -/
  sscCount : Nat
  /-- R462: every register field of BAR0 that differs from its reset value. -/
  regs : List (Nat × Nat)
  /-- R444: the latched high words, per requester and pair. -/
  hiLatch : List (Nat × Nat)
  /-- R27: DRAM and the scratchpads, by device address. -/
  mem : List Host.Cell
  /-- R382: host memory, by host address. -/
  hostMem : List Host.Cell
  /-- R437: the fatal slots of the report queue, oldest first. -/
  fatalQ : List Report
  /-- R437: the ordinary slots, oldest first. -/
  ordQ : List Report
  /-- R437 R439: the 256 records of the host window, newest first. -/
  hrep : List Report
  /-- R438: occurrences dropped since the last 0x0930 record. -/
  repDropped : Nat
  /-- MODEL's own: the counter free values are drawn at (DESIGN CHOICE, log entry 1). -/
  free : Nat
  /-- MODEL's own: what has left the part, newest first (DESIGN CHOICE, log entry 6). -/
  out : List Emit
  /-- R455: per requester and stream vector, one more than the tick of its last message; 0 for none. -/
  intLast : List (Nat × Nat)
  /-- R455: stream messages a holdoff holds, per requester and stream. -/
  intHeld : List (Nat × Bool)
  /-- R33-R36: the pace monitor's slack windows and its view of VDD_CORE. -/
  pace : Pace
  /-- R25: the flits on their way, in the order they were sent. -/
  mesh : List MeshFlit
  /-- R25: the next sequence number by source × 4 + class. -/
  flitSeq : List (Nat × Nat)
  /-- R66-R91: the stripe cores, by number, where they differ from a core with no share. -/
  cores : List (Nat × Core)
  /-- R77: instruction words by 8192 × core + 4096 × bank + address; an unlisted word is 0. -/
  banks : List (Nat × Nat)
  /-- R77: the bits of a stored instruction word, 64 and its 8 check bits above them, that have flipped since it was written. -/
  bankErr : List (Nat × Nat)
  /-- R152: stored poison bits, by device address ÷ 32. -/
  poison : List (Nat × Bool)
  /-- R152: by device address ÷ 32, the bytes of a stored scratchpad word whose parity bit is not that of the byte; the parity
  bits of all others are. -/
  parErr : List (Nat × Nat)
  /-- R144: armed Gong barriers. -/
  gongs : List Gong
  /-- R82: the eight words of the last status record each core posted. -/
  shareRecs : List (Nat × List Nat)
  /-- R168: row-map entries in the life store: by (core × 32 + bank) × 8 + entry, one more than the logical row, and 1,024 more
  for one made in the field. -/
  rowMaps : List (Nat × Nat)
  /-- R18-R21: the logical streams, by number. -/
  strms : List (Nat × Strm)
  /-- R332-R342: calibration coefficient sets and runs, by stream. -/
  cals : List (Nat × CalStrm)
  /-- R238-R266: the DMA channels, by number. -/
  dmas : List (Nat × DmaCh)
  /-- R247: the words of the last completion record each channel posted. -/
  dmaRecs : List (Nat × List Nat)
  /-- Segment copies under way: the mailbox slot of the request, and the slot of the weight window (R260). -/
  segCopies : List (Nat × Nat)
  /-- R255-R257: chain MOVEs in the weight chain. -/
  chains : List ChainMove
  /-- R259: cached segment table entries, by engine × 2^14 + segment, one more than the entry. -/
  segCache : List (Nat × Nat)
  /-- R267, R268: the check-value units. -/
  cvus : List (Nat × Cvu)
  /-- R275-R298: fault handling. -/
  flt : Flt
  /-- R303-R309: the Zehorn links, by number. -/
  zlinks : List (Nat × ZLink)
  /-- R305, R312-R324: the pair unit. -/
  pair : PairX
  /-- R329-R331: self-calibration values in force. -/
  self : SelfCal
  /-- R341-R347: the life store and what is counted into it. -/
  life : Life
  /-- R329 R330 R345 R354 R412 R413 R433: when the periodic rows last ran. -/
  timers : Timers
  /-- R295: ticks since the SSC's 25 MHz oscillator last counted (DESIGN CHOICE, log entry 8). -/
  sscPhase : Nat
  /-- R347: ticks since the calendar's second last began (DESIGN CHOICE, log entry 8). -/
  rtcPhase : Nat
  /-- R351-R367: the Damson metrology unit. -/
  dms : Damson
  /-- R393-R395, R474: actuator outputs, ALIVE, pending decisions and pulse ends, the watchdog's last kick. -/
  act : Act
  /-- R32, R373-R377, R386: sensor ports and output links. -/
  ports : Ports
  /-- R412, R413: thermistors, and how long each thermal condition has held. -/
  therm : Therm
  /-- R477: rails of R471, by their place in its table, outside their operating range. -/
  rails : List Nat
  /-- R401, R402: PWR_GOOD is asserted. -/
  pwrGood : Bool
  /-- R430-R438: Clapper's datagrams and transfers. -/
  mgmt : Mgmt
  /-- R416-R428: fuses, flash slots and field access. -/
  sec : Sec
  /-- R456-R460: the mailbox instances: 0 the host's, 1 Clapper's. -/
  mbx : List (Nat × Mbx)
  /-- R461: DBG_DATA, the data of the last READ or for the next WRITE. -/
  dbgData : List Byte
  /-- The commands that wait, first in, first out (the block's own queue). -/
  pending : List Instr
  deriving DecidableEq, Repr

/-- The machine right after reset: every register at its reset value, SAFE latched (R295), BOOT_STATUS.PHASE 0
(R402), nothing written, no command waiting. -/
def State.reset : State where
  part := .c128m
  tick := 0
  fieldLost := false
  sscCount := 0
  regs := []
  hiLatch := []
  mem := []
  hostMem := []
  fatalQ := []
  ordQ := []
  hrep := []
  repDropped := 0
  free := 0
  out := []
  intLast := []
  intHeld := []
  pace := Pace.reset
  mesh := []
  flitSeq := []
  cores := []
  banks := []
  bankErr := []
  poison := []
  parErr := []
  gongs := []
  shareRecs := []
  rowMaps := []
  strms := []
  cals := []
  dmas := []
  dmaRecs := []
  segCopies := []
  chains := []
  segCache := []
  cvus := []
  flt := Flt.reset
  zlinks := []
  pair := PairX.reset
  self := SelfCal.reset
  life := Life.reset
  timers := Timers.reset
  sscPhase := 0
  rtcPhase := 0
  dms := Damson.reset
  act := Act.reset
  ports := Ports.reset
  therm := Therm.reset
  rails := []
  pwrGood := false
  mgmt := Mgmt.reset
  sec := Sec.reset
  mbx := []
  dbgData := List.replicate 256 0
  pending := []

end Sys2Proof.Machine
end

