-- ==== Sys2Proof/Machine/Codes.lean ====
section
/-! DEFINITION. Machine/Codes.lean: the side of every fault code (R272, R273, R302, R326, R349, R369, R400, R415, R440,
R463, R478 and the chapters' other code tables). -/

namespace Sys2Proof.Machine

/-- Codes and sides, part 0. -/
def sides0 : List (Nat × Side) := [(0x0101, .replayed), (0x0102, .replayed), (0x0103, .replayed), (0x0104, .replayed), (0x0105, .reportOnly), (0x0106, .replayed), (0x0107, .controlPath), (0x0108, .controlPath), (0x0109, .replayed), (0x010A, .programming), (0x010B, .reportOnly), (0x0110, .programming), (0x0111, .programming), (0x0112, .programming), (0x0113, .programming), (0x0114, .replayed), (0x0115, .programming), (0x0116, .replayed), (0x0117, .programming), (0x0120, .reportOnly), (0x0121, .reportOnly), (0x0122, .reportOnly), (0x0130, .reportOnly), (0x0131, .reportOnly), (0x0132, .localRepair), (0x0133, .localRepair), (0x0134, .reportOnly), (0x0135, .reportOnly), (0x0136, .localRepair), (0x0137, .doubt)]
/-- Codes and sides, part 1. -/
def sides1 : List (Nat × Side) := [(0x0138, .reportOnly), (0x0139, .refusal), (0x013A, .reportOnly), (0x013B, .reportOnly), (0x013C, .localRepair), (0x0201, .replayed), (0x0202, .replayed), (0x0203, .replayed), (0x0204, .replayed), (0x0205, .reportOnly), (0x0206, .localRepair), (0x0207, .controlPath), (0x0208, .controlPath), (0x0209, .reportOnly), (0x020A, .replayed), (0x0301, .replayed), (0x0302, .replayed), (0x0303, .replayed), (0x0304, .replayed), (0x0305, .replayed), (0x0306, .controlPath), (0x0307, .reportOnly), (0x0308, .replayed), (0x0309, .localRepair), (0x030A, .replayed), (0x030B, .controlPath), (0x030C, .controlPath), (0x0401, .replayed), (0x0402, .controlPath), (0x0403, .doubt)]
/-- Codes and sides, part 2. -/
def sides2 : List (Nat × Side) := [(0x0410, .localRepair), (0x0411, .doubt), (0x0420, .replayed), (0x0421, .reportOnly), (0x0422, .doubt), (0x0423, .doubt), (0x0501, .reportOnly), (0x0502, .reportOnly), (0x0503, .reportOnly), (0x0504, .reportOnly), (0x0505, .refusal), (0x0506, .reportOnly), (0x0507, .reportOnly), (0x0508, .reportOnly), (0x0601, .reportOnly), (0x0602, .external), (0x0603, .external), (0x0604, .external), (0x0605, .reportOnly), (0x0606, .reportOnly), (0x0607, .external), (0x0608, .external), (0x0609, .reportOnly), (0x060A, .doubt), (0x060B, .refusal), (0x060C, .external), (0x060D, .reportOnly), (0x060E, .reportOnly), (0x060F, .external), (0x0611, .reportOnly)]
/-- Codes and sides, part 3. -/
def sides3 : List (Nat × Side) := [(0x0612, .refusal), (0x0613, .external), (0x0614, .reportOnly), (0x0615, .reportOnly), (0x0616, .reportOnly), (0x0618, .reportOnly), (0x0640, .external), (0x0641, .localRepair), (0x0642, .doubt), (0x0720, .refusal), (0x0721, .reportOnly), (0x0722, .refusal), (0x0723, .refusal), (0x0724, .refusal), (0x0725, .refusal), (0x0726, .refusal), (0x0727, .refusal), (0x0728, .refusal), (0x0729, .refusal), (0x072A, .refusal), (0x072B, .refusal), (0x072C, .refusal), (0x072D, .refusal), (0x072E, .refusal), (0x072F, .refusal), (0x0730, .refusal), (0x0731, .doubt), (0x0732, .doubt), (0x0733, .reportOnly), (0x0734, .refusal)]
/-- Codes and sides, part 4. -/
def sides4 : List (Nat × Side) := [(0x0735, .refusal), (0x0736, .refusal), (0x0737, .refusal), (0x0738, .refusal), (0x0739, .reportOnly), (0x073A, .refusal), (0x073B, .refusal), (0x073C, .refusal), (0x073D, .reportOnly), (0x073E, .refusal), (0x0801, .refusal), (0x0803, .refusal), (0x0804, .reportOnly), (0x0805, .reportOnly), (0x0806, .reportOnly), (0x0807, .reportOnly), (0x0808, .reportOnly), (0x0809, .reportOnly), (0x080A, .reportOnly), (0x080B, .reportOnly), (0x080C, .reportOnly), (0x080D, .reportOnly), (0x080E, .reportOnly), (0x080F, .reportOnly), (0x0810, .doubt), (0x0830, .doubt), (0x0831, .reportOnly), (0x0901, .reportOnly), (0x0902, .doubt), (0x0903, .refusal)]
/-- Codes and sides, part 5. -/
def sides5 : List (Nat × Side) := [(0x0904, .reportOnly), (0x0905, .reportOnly), (0x0910, .refusal), (0x0911, .refusal), (0x0912, .refusal), (0x0913, .reportOnly), (0x0914, .refusal), (0x0915, .refusal), (0x0916, .reportOnly), (0x0917, .reportOnly), (0x0920, .reportOnly), (0x0921, .refusal), (0x0922, .reportOnly), (0x0923, .reportOnly), (0x0930, .reportOnly), (0x0931, .refusal), (0x0932, .external), (0x0933, .reportOnly), (0x0A01, .reportOnly), (0x0A02, .reportOnly), (0x0A03, .reportOnly), (0x0A04, .reportOnly), (0x0A05, .reportOnly), (0x0A06, .reportOnly), (0x0A07, .reportOnly), (0x0A08, .reportOnly), (0x0A09, .reportOnly), (0x0A0A, .reportOnly), (0x0A0B, .reportOnly), (0x0A0C, .reportOnly)]
/-- Codes and sides, part 6. -/
def sides6 : List (Nat × Side) := [(0x0A0D, .reportOnly), (0x0B01, .reportOnly), (0x0B02, .reportOnly), (0x0B03, .reportOnly), (0x0B04, .reportOnly), (0x0B05, .doubt), (0x0B06, .external), (0x0B07, .external), (0x0B08, .reportOnly), (0x0B09, .reportOnly), (0x0B0A, .doubt), (0x0B0B, .doubt), (0x0B0C, .doubt), (0x0B0D, .doubt), (0x0B0E, .reportOnly), (0x0B0F, .doubt), (0x0B10, .reportOnly), (0x0B11, .reportOnly), (0x0C01, .reportOnly), (0x0C02, .localRepair), (0x0C03, .reportOnly), (0x0C04, .doubt), (0x0C05, .doubt), (0x0C06, .localRepair), (0x0C07, .reportOnly), (0x0C08, .localRepair), (0x0C09, .reportOnly), (0x0C0A, .refusal), (0x0C0B, .refusal), (0x0C0C, .reportOnly)]
/-- Codes and sides, part 7. -/
def sides7 : List (Nat × Side) := [(0x0C0D, .reportOnly), (0x0C0E, .reportOnly), (0x0C10, .reportOnly), (0x0D01, .doubt), (0x0D02, .doubt), (0x0D03, .doubt), (0x0D04, .localRepair), (0x0D05, .controlPath), (0x0D06, .reportOnly), (0x0D07, .controlPath), (0x0D08, .controlPath), (0x0D09, .doubt), (0x0D0A, .doubt), (0x0D0B, .doubt), (0x0D0C, .reportOnly), (0x0D0D, .reportOnly), (0x0D0E, .refusal), (0x0D0F, .doubt)]
/-- The side the code tables give each code. -/
def sides : List (Nat × Side) := sides0 ++ sides1 ++ sides2 ++ sides3 ++ sides4 ++ sides5 ++ sides6 ++ sides7

/-- The side of a code in its table. A code no table lists is reported by nothing (R272). -/
def tableSide (code : Nat) : Side := tget .reportOnly sides code

end Sys2Proof.Machine
end

