-- ==== Sys2Proof/Machine/RegTypes.lean ====
section
/-! DEFINITION. Machine/RegTypes.lean: how a register field is described (R16, R17, R441). -/

namespace Sys2Proof.Machine

/-- The access codes of R17 (reserved fields are the bits no field lists). -/
inductive Access where
  | ro | rw | rw1c | wo
  deriving DecidableEq, Repr

/-- How the instance of a register is chosen (R441, R444, R445). -/
inductive InstKind where
  | once | own | port | strm | dma | dmaEng | core | cluster | link | calStrm | dms
  deriving DecidableEq, Repr

/-- One field: its register's BAR0 offset, its low bit, width, access and reset, and whether a
write of it has a row of its own in the table of commands; and, in an array of registers, which of them it
belongs to (the offset is the first one's). -/
structure Fld where
  off : Nat
  lo : Nat
  width : Nat
  acc : Access
  reset : Nat
  ownRow : Bool
  idx : Nat
  deriving DecidableEq, Repr

/-- The same field of the `n`-th register of an array. -/
def Fld.nth (f : Fld) (n : Nat) : Fld := { f with idx := n }

/-- One register or array of registers. -/
structure RegSpec where
  off : Nat
  stride : Nat
  count : Nat
  kind : InstKind
  flds : List Fld
  deriving DecidableEq, Repr

/-- The store key of a field of one instance: distinct offsets, bits, array places and instances (below 256) have
distinct keys. -/
def Fld.key (f : Fld) (inst : Nat) : Nat := ((f.off * 32 + f.lo) * 65536 + f.idx % 65536) * 256 + inst % 256

end Sys2Proof.Machine
end

