-- ==== Sys2Proof/Machine/RegMap.lean ====
section
/-! DEFINITION. Machine/RegMap.lean: every register field of BAR0 that R462 indexes, from the field
tables of the spec's chapters: offset, bits, access and reset. Field names are the spec's own. A
field's last component says whether writing it has a row of its own in the table of commands.
Reserved fields are the bits no field lists; they read zero (R17). A reset the spec gives as
"fuses", "life store", "VBAT", "image" or "—" is held elsewhere in State or is log entry 2's. -/

namespace Sys2Proof.Machine.R

/-! ID_MAGIC (offset 0x0, R450, 18_register_map.md). -/
def ID_MAGIC.MAGIC : Fld := ⟨0x0, 0, 32, .ro, 1213741364, false, 0⟩
def ID_MAGIC.reg : RegSpec := ⟨0x0, 0, 1, .once, [ID_MAGIC.MAGIC]⟩
/-! ID_PART (offset 0x4, R450, 18_register_map.md). -/
def ID_PART.PART : Fld := ⟨0x4, 0, 4, .ro, 0, false, 0⟩
def ID_PART.ARCH_GEN : Fld := ⟨0x4, 4, 4, .ro, 1, false, 0⟩
def ID_PART.CORES : Fld := ⟨0x4, 8, 8, .ro, 0, false, 0⟩
def ID_PART.SCHEDULED : Fld := ⟨0x4, 16, 8, .ro, 0, false, 0⟩
def ID_PART.DAMSON : Fld := ⟨0x4, 24, 1, .ro, 0, false, 0⟩
def ID_PART.PAIR : Fld := ⟨0x4, 25, 1, .ro, 0, false, 0⟩
def ID_PART.reg : RegSpec := ⟨0x4, 0, 1, .once, [ID_PART.PART, ID_PART.ARCH_GEN, ID_PART.CORES, ID_PART.SCHEDULED, ID_PART.DAMSON, ID_PART.PAIR]⟩
/-! ID_STEP (offset 0x8, R450, 18_register_map.md). -/
def ID_STEP.DIE : Fld := ⟨0x8, 0, 8, .ro, 1, false, 0⟩
def ID_STEP.ROM : Fld := ⟨0x8, 8, 8, .ro, 0, false, 0⟩
def ID_STEP.reg : RegSpec := ⟨0x8, 0, 1, .once, [ID_STEP.DIE, ID_STEP.ROM]⟩
/-! ID_UNIQUE_LO (offset 0xC, R450, 18_register_map.md). -/
def ID_UNIQUE_LO.ID : Fld := ⟨0xC, 0, 32, .ro, 0, false, 0⟩
def ID_UNIQUE_LO.reg : RegSpec := ⟨0xC, 0, 1, .once, [ID_UNIQUE_LO.ID]⟩
/-! ID_UNIQUE_HI (offset 0x10, R450, 18_register_map.md). -/
def ID_UNIQUE_HI.ID : Fld := ⟨0x10, 0, 32, .ro, 0, false, 0⟩
def ID_UNIQUE_HI.reg : RegSpec := ⟨0x10, 0, 1, .once, [ID_UNIQUE_HI.ID]⟩
/-! ID_MEMORY (offset 0x14, R450, 18_register_map.md). -/
def ID_MEMORY.CHANNELS : Fld := ⟨0x14, 0, 8, .ro, 8, false, 0⟩
def ID_MEMORY.GIB_USABLE : Fld := ⟨0x14, 8, 8, .ro, 0, false, 0⟩
def ID_MEMORY.CACHE_MIB : Fld := ⟨0x14, 16, 8, .ro, 16, false, 0⟩
def ID_MEMORY.reg : RegSpec := ⟨0x14, 0, 1, .once, [ID_MEMORY.CHANNELS, ID_MEMORY.GIB_USABLE, ID_MEMORY.CACHE_MIB]⟩
/-! ID_PCI (offset 0x18, R450, 18_register_map.md). -/
def ID_PCI.VENDOR : Fld := ⟨0x18, 0, 16, .ro, 0, false, 0⟩
def ID_PCI.DEVICE : Fld := ⟨0x18, 16, 16, .ro, 0, false, 0⟩
def ID_PCI.reg : RegSpec := ⟨0x18, 0, 1, .once, [ID_PCI.VENDOR, ID_PCI.DEVICE]⟩
/-! ID_VERSIONS_0 (offset 0x20, R450, 18_register_map.md). -/
def ID_VERSIONS_0.VERS : Fld := ⟨0x20, 0, 32, .ro, 286331153, false, 0⟩
def ID_VERSIONS_0.reg : RegSpec := ⟨0x20, 0, 1, .once, [ID_VERSIONS_0.VERS]⟩
/-! ID_VERSIONS_1 (offset 0x24, R450, 18_register_map.md). -/
def ID_VERSIONS_1.VERS : Fld := ⟨0x24, 0, 32, .ro, 1118481, false, 0⟩
def ID_VERSIONS_1.reg : RegSpec := ⟨0x24, 0, 1, .once, [ID_VERSIONS_1.VERS]⟩
/-! ID_FEAT_FORMATS (offset 0x40, R451, 18_register_map.md). -/
def ID_FEAT_FORMATS.MASK : Fld := ⟨0x40, 0, 32, .ro, 32767, false, 0⟩
def ID_FEAT_FORMATS.reg : RegSpec := ⟨0x40, 0, 1, .once, [ID_FEAT_FORMATS.MASK]⟩
/-! ID_FEAT_OPC_LO (offset 0x44, R451, 18_register_map.md). -/
def ID_FEAT_OPC_LO.MASK : Fld := ⟨0x44, 0, 32, .ro, 16712703, false, 0⟩
def ID_FEAT_OPC_LO.reg : RegSpec := ⟨0x44, 0, 1, .once, [ID_FEAT_OPC_LO.MASK]⟩
/-! ID_FEAT_OPC_HI (offset 0x48, R451, 18_register_map.md). -/
def ID_FEAT_OPC_HI.MASK : Fld := ⟨0x48, 0, 32, .ro, 1073684479, false, 0⟩
def ID_FEAT_OPC_HI.reg : RegSpec := ⟨0x48, 0, 1, .once, [ID_FEAT_OPC_HI.MASK]⟩
/-! ID_FEAT_DMA (offset 0x4C, R451, 18_register_map.md). -/
def ID_FEAT_DMA.OPCODES : Fld := ⟨0x4C, 0, 16, .ro, 255, false, 0⟩
def ID_FEAT_DMA.DKIND : Fld := ⟨0x4C, 16, 4, .ro, 7, false, 0⟩
def ID_FEAT_DMA.CHECKS : Fld := ⟨0x4C, 20, 4, .ro, 3, false, 0⟩
def ID_FEAT_DMA.reg : RegSpec := ⟨0x4C, 0, 1, .once, [ID_FEAT_DMA.OPCODES, ID_FEAT_DMA.DKIND, ID_FEAT_DMA.CHECKS]⟩
/-! ID_FEAT_LINK (offset 0x50, R451, 18_register_map.md). -/
def ID_FEAT_LINK.GEN_MASK : Fld := ⟨0x50, 0, 4, .ro, 3, false, 0⟩
def ID_FEAT_LINK.LEVEL_MAX : Fld := ⟨0x50, 4, 4, .ro, 2, false, 0⟩
def ID_FEAT_LINK.LINKS : Fld := ⟨0x50, 8, 4, .ro, 4, false, 0⟩
def ID_FEAT_LINK.RING_MAX : Fld := ⟨0x50, 12, 4, .ro, 8, false, 0⟩
def ID_FEAT_LINK.reg : RegSpec := ⟨0x50, 0, 1, .once, [ID_FEAT_LINK.GEN_MASK, ID_FEAT_LINK.LEVEL_MAX, ID_FEAT_LINK.LINKS, ID_FEAT_LINK.RING_MAX]⟩
/-! ID_FEAT_IO (offset 0x54, R451, 18_register_map.md). -/
def ID_FEAT_IO.PCIE_GEN : Fld := ⟨0x54, 0, 4, .ro, 5, false, 0⟩
def ID_FEAT_IO.CSI_PORTS : Fld := ⟨0x54, 4, 4, .ro, 4, false, 0⟩
def ID_FEAT_IO.CXP_LINKS : Fld := ⟨0x54, 8, 4, .ro, 8, false, 0⟩
def ID_FEAT_IO.SLVDS : Fld := ⟨0x54, 12, 1, .ro, 1, false, 0⟩
def ID_FEAT_IO.GVSP : Fld := ⟨0x54, 13, 1, .ro, 1, false, 0⟩
def ID_FEAT_IO.ETH_PORTS : Fld := ⟨0x54, 14, 2, .ro, 2, false, 0⟩
def ID_FEAT_IO.STREAMS : Fld := ⟨0x54, 16, 8, .ro, 32, false, 0⟩
def ID_FEAT_IO.reg : RegSpec := ⟨0x54, 0, 1, .once, [ID_FEAT_IO.PCIE_GEN, ID_FEAT_IO.CSI_PORTS, ID_FEAT_IO.CXP_LINKS, ID_FEAT_IO.SLVDS, ID_FEAT_IO.GVSP, ID_FEAT_IO.ETH_PORTS, ID_FEAT_IO.STREAMS]⟩
/-! ID_FEAT_PKG (offset 0x58, R451, 18_register_map.md). -/
def ID_FEAT_PKG.PKG_FMT_MAX : Fld := ⟨0x58, 0, 8, .ro, 2, false, 0⟩
def ID_FEAT_PKG.HX620_COMPAT : Fld := ⟨0x58, 8, 1, .ro, 1, false, 0⟩
def ID_FEAT_PKG.REPORT_VER : Fld := ⟨0x58, 16, 8, .ro, 1, false, 0⟩
def ID_FEAT_PKG.reg : RegSpec := ⟨0x58, 0, 1, .once, [ID_FEAT_PKG.PKG_FMT_MAX, ID_FEAT_PKG.HX620_COMPAT, ID_FEAT_PKG.REPORT_VER]⟩
/-! GLB_PORTSEL (offset 0x1000, R445, 18_register_map.md). -/
def GLB_PORTSEL.INDEX : Fld := ⟨0x1000, 0, 8, .rw, 0, false, 0⟩
def GLB_PORTSEL.reg : RegSpec := ⟨0x1000, 0, 1, .own, [GLB_PORTSEL.INDEX]⟩
/-! GLB_STRMSEL (offset 0x1004, R445, 18_register_map.md). -/
def GLB_STRMSEL.INDEX : Fld := ⟨0x1004, 0, 8, .rw, 0, false, 0⟩
def GLB_STRMSEL.reg : RegSpec := ⟨0x1004, 0, 1, .own, [GLB_STRMSEL.INDEX]⟩
/-! GLB_DMASEL (offset 0x1008, R445, 18_register_map.md). -/
def GLB_DMASEL.INDEX : Fld := ⟨0x1008, 0, 8, .rw, 0, false, 0⟩
def GLB_DMASEL.reg : RegSpec := ⟨0x1008, 0, 1, .own, [GLB_DMASEL.INDEX]⟩
/-! GLB_CORESEL (offset 0x100C, R445, 18_register_map.md). -/
def GLB_CORESEL.INDEX : Fld := ⟨0x100C, 0, 8, .rw, 0, false, 0⟩
def GLB_CORESEL.reg : RegSpec := ⟨0x100C, 0, 1, .own, [GLB_CORESEL.INDEX]⟩
/-! GLB_LINKSEL (offset 0x1010, R445, 18_register_map.md). -/
def GLB_LINKSEL.INDEX : Fld := ⟨0x1010, 0, 8, .rw, 0, false, 0⟩
def GLB_LINKSEL.reg : RegSpec := ⟨0x1010, 0, 1, .own, [GLB_LINKSEL.INDEX]⟩
/-! GLB_WIN_STATUS (offset 0x1020, R449, 18_register_map.md). -/
def GLB_WIN_STATUS.WINERR_CORE : Fld := ⟨0x1020, 0, 1, .rw1c, 0, false, 0⟩
def GLB_WIN_STATUS.WINERR_DMA : Fld := ⟨0x1020, 1, 1, .rw1c, 0, false, 0⟩
def GLB_WIN_STATUS.WINERR_PORT : Fld := ⟨0x1020, 2, 1, .rw1c, 0, false, 0⟩
def GLB_WIN_STATUS.WINERR_STRM : Fld := ⟨0x1020, 3, 1, .rw1c, 0, false, 0⟩
def GLB_WIN_STATUS.WINERR_LINK : Fld := ⟨0x1020, 4, 1, .rw1c, 0, false, 0⟩
def GLB_WIN_STATUS.WINERR_CAL : Fld := ⟨0x1020, 5, 1, .rw1c, 0, false, 0⟩
def GLB_WIN_STATUS.WINERR_LIFE : Fld := ⟨0x1020, 6, 1, .rw1c, 0, false, 0⟩
def GLB_WIN_STATUS.WINERR_DMS : Fld := ⟨0x1020, 7, 1, .rw1c, 0, false, 0⟩
def GLB_WIN_STATUS.UNMAPPED : Fld := ⟨0x1020, 8, 1, .rw1c, 0, false, 0⟩
def GLB_WIN_STATUS.SIZE : Fld := ⟨0x1020, 9, 1, .rw1c, 0, false, 0⟩
def GLB_WIN_STATUS.FIRST_OFFSET : Fld := ⟨0x1020, 16, 16, .ro, 0, false, 0⟩
def GLB_WIN_STATUS.reg : RegSpec := ⟨0x1020, 0, 1, .own, [GLB_WIN_STATUS.WINERR_CORE, GLB_WIN_STATUS.WINERR_DMA, GLB_WIN_STATUS.WINERR_PORT, GLB_WIN_STATUS.WINERR_STRM, GLB_WIN_STATUS.WINERR_LINK, GLB_WIN_STATUS.WINERR_CAL, GLB_WIN_STATUS.WINERR_LIFE, GLB_WIN_STATUS.WINERR_DMS, GLB_WIN_STATUS.UNMAPPED, GLB_WIN_STATUS.SIZE, GLB_WIN_STATUS.FIRST_OFFSET]⟩
/-! GLB_RSVW (offset 0x1024, R449, 18_register_map.md). -/
def GLB_RSVW.BLOCK : Fld := ⟨0x1024, 0, 14, .rw1c, 0, false, 0⟩
def GLB_RSVW.reg : RegSpec := ⟨0x1024, 0, 1, .own, [GLB_RSVW.BLOCK]⟩
/-! GLB_STATUS (offset 0x1040, R454, 18_register_map.md). -/
def GLB_STATUS.READY : Fld := ⟨0x1040, 0, 1, .ro, 0, false, 0⟩
def GLB_STATUS.SAFE : Fld := ⟨0x1040, 1, 1, .ro, 1, false, 0⟩
def GLB_STATUS.LIFECYCLE : Fld := ⟨0x1040, 2, 2, .ro, 0, false, 0⟩
def GLB_STATUS.ROLE : Fld := ⟨0x1040, 4, 2, .ro, 0, false, 0⟩
def GLB_STATUS.MBX_BUSY : Fld := ⟨0x1040, 6, 1, .ro, 0, false, 0⟩
def GLB_STATUS.RECOVERY : Fld := ⟨0x1040, 7, 1, .ro, 0, false, 0⟩
def GLB_STATUS.reg : RegSpec := ⟨0x1040, 0, 1, .once, [GLB_STATUS.READY, GLB_STATUS.SAFE, GLB_STATUS.LIFECYCLE, GLB_STATUS.ROLE, GLB_STATUS.MBX_BUSY, GLB_STATUS.RECOVERY]⟩
/-! GLB_INT_STATUS (offset 0x1080, R454, 18_register_map.md). -/
def GLB_INT_STATUS.STATUS : Fld := ⟨0x1080, 0, 8, .rw1c, 0, true, 0⟩
def GLB_INT_STATUS.reg : RegSpec := ⟨0x1080, 0, 1, .own, [GLB_INT_STATUS.STATUS]⟩
/-! GLB_INT_ENABLE (offset 0x1084, R454, 18_register_map.md). -/
def GLB_INT_ENABLE.EN : Fld := ⟨0x1084, 0, 8, .rw, 4, true, 0⟩
def GLB_INT_ENABLE.reg : RegSpec := ⟨0x1084, 0, 1, .own, [GLB_INT_ENABLE.EN]⟩
/-! GLB_INT_STRM_STATUS (offset 0x1088, R454, 18_register_map.md). -/
def GLB_INT_STRM_STATUS.STRM : Fld := ⟨0x1088, 0, 32, .rw1c, 0, true, 0⟩
def GLB_INT_STRM_STATUS.reg : RegSpec := ⟨0x1088, 0, 1, .own, [GLB_INT_STRM_STATUS.STRM]⟩
/-! GLB_INT_STRM_ENABLE (offset 0x108C, R454, 18_register_map.md). -/
def GLB_INT_STRM_ENABLE.EN : Fld := ⟨0x108C, 0, 32, .rw, 0, true, 0⟩
def GLB_INT_STRM_ENABLE.reg : RegSpec := ⟨0x108C, 0, 1, .own, [GLB_INT_STRM_ENABLE.EN]⟩
/-! GLB_INT_HOLDOFF (offset 0x1090, R454, 18_register_map.md). -/
def GLB_INT_HOLDOFF.STRM_US : Fld := ⟨0x1090, 0, 10, .rw, 0, false, 0⟩
def GLB_INT_HOLDOFF.reg : RegSpec := ⟨0x1090, 0, 1, .own, [GLB_INT_HOLDOFF.STRM_US]⟩
/-! PIPE_PACE_CTRL (offset 0x2000, R37, 01_stripe_pipeline.md). -/
def PIPE_PACE_CTRL.EN : Fld := ⟨0x2000, 0, 1, .rw, 1, true, 0⟩
def PIPE_PACE_CTRL.HOLD : Fld := ⟨0x2000, 1, 1, .rw, 0, true, 0⟩
def PIPE_PACE_CTRL.TARGET_SLACK : Fld := ⟨0x2000, 8, 6, .rw, 10, true, 0⟩
def PIPE_PACE_CTRL.RELAX_SLACK : Fld := ⟨0x2000, 16, 6, .rw, 25, true, 0⟩
def PIPE_PACE_CTRL.WINDOW_LOG2 : Fld := ⟨0x2000, 24, 4, .rw, 8, true, 0⟩
def PIPE_PACE_CTRL.reg : RegSpec := ⟨0x2000, 0, 1, .once, [PIPE_PACE_CTRL.EN, PIPE_PACE_CTRL.HOLD, PIPE_PACE_CTRL.TARGET_SLACK, PIPE_PACE_CTRL.RELAX_SLACK, PIPE_PACE_CTRL.WINDOW_LOG2]⟩
/-! PIPE_PACE_STATUS (offset 0x2004, R37, 01_stripe_pipeline.md). -/
def PIPE_PACE_STATUS.VDD_CORE_MV : Fld := ⟨0x2004, 0, 10, .ro, 750, false, 0⟩
def PIPE_PACE_STATUS.STATE : Fld := ⟨0x2004, 12, 3, .ro, 0, false, 0⟩
def PIPE_PACE_STATUS.CFG_REJECT : Fld := ⟨0x2004, 16, 1, .rw1c, 0, false, 0⟩
def PIPE_PACE_STATUS.PMBUS_FAULT : Fld := ⟨0x2004, 17, 1, .rw1c, 0, false, 0⟩
def PIPE_PACE_STATUS.DEADLINE_MISS : Fld := ⟨0x2004, 18, 1, .rw1c, 0, false, 0⟩
def PIPE_PACE_STATUS.reg : RegSpec := ⟨0x2004, 0, 1, .once, [PIPE_PACE_STATUS.VDD_CORE_MV, PIPE_PACE_STATUS.STATE, PIPE_PACE_STATUS.CFG_REJECT, PIPE_PACE_STATUS.PMBUS_FAULT, PIPE_PACE_STATUS.DEADLINE_MISS]⟩
/-! PIPE_SLACK_MIN (offset 0x2008, R37, 01_stripe_pipeline.md). -/
def PIPE_SLACK_MIN.SLACK_PCT : Fld := ⟨0x2008, 0, 8, .ro, 127, false, 0⟩
def PIPE_SLACK_MIN.CLUSTER : Fld := ⟨0x2008, 8, 4, .ro, 0, false, 0⟩
def PIPE_SLACK_MIN.MISS_COUNT : Fld := ⟨0x2008, 16, 16, .ro, 0, false, 0⟩
def PIPE_SLACK_MIN.reg : RegSpec := ⟨0x2008, 0, 1, .once, [PIPE_SLACK_MIN.SLACK_PCT, PIPE_SLACK_MIN.CLUSTER, PIPE_SLACK_MIN.MISS_COUNT]⟩
/-! PIPE_PROMISE_STATUS (offset 0x200C, R37, 01_stripe_pipeline.md). -/
def PIPE_PROMISE_STATUS.HAZARD : Fld := ⟨0x200C, 0, 1, .ro, 0, false, 0⟩
def PIPE_PROMISE_STATUS.FLAGGED_OUT : Fld := ⟨0x200C, 1, 1, .rw1c, 0, false, 0⟩
def PIPE_PROMISE_STATUS.VOID : Fld := ⟨0x200C, 2, 1, .rw1c, 0, false, 0⟩
def PIPE_PROMISE_STATUS.reg : RegSpec := ⟨0x200C, 0, 1, .once, [PIPE_PROMISE_STATUS.HAZARD, PIPE_PROMISE_STATUS.FLAGGED_OUT, PIPE_PROMISE_STATUS.VOID]⟩
/-! PIPE_LATENCY_MAX (offset 0x2010, R37, 01_stripe_pipeline.md). -/
def PIPE_LATENCY_MAX.MAX_TICKS : Fld := ⟨0x2010, 0, 24, .ro, 0, true, 0⟩
def PIPE_LATENCY_MAX.CLEAR : Fld := ⟨0x2010, 31, 1, .wo, 0, true, 0⟩
def PIPE_LATENCY_MAX.reg : RegSpec := ⟨0x2010, 0, 1, .once, [PIPE_LATENCY_MAX.MAX_TICKS, PIPE_LATENCY_MAX.CLEAR]⟩
/-! PIPE_ISLAND (offset 0x2040, R37, 01_stripe_pipeline.md). -/
def PIPE_ISLAND.PACE_MV : Fld := ⟨0x2040, 0, 10, .ro, 725, false, 0⟩
def PIPE_ISLAND.SUSPECT_STEPS : Fld := ⟨0x2040, 10, 2, .ro, 0, false, 0⟩
def PIPE_ISLAND.OUT_MV : Fld := ⟨0x2040, 16, 10, .ro, 725, false, 0⟩
def PIPE_ISLAND.reg : RegSpec := ⟨0x2040, 4, 16, .once, [PIPE_ISLAND.PACE_MV, PIPE_ISLAND.SUSPECT_STEPS, PIPE_ISLAND.OUT_MV]⟩
/-! TILE_POOL (offset 0x2080, R236, 09_tiling_mapping.md). -/
def TILE_POOL.IN_SERVICE : Fld := ⟨0x2080, 0, 8, .ro, 0, false, 0⟩
def TILE_POOL.SCHEDULED : Fld := ⟨0x2080, 8, 8, .ro, 0, false, 0⟩
def TILE_POOL.POOL : Fld := ⟨0x2080, 16, 8, .ro, 0, false, 0⟩
def TILE_POOL.reg : RegSpec := ⟨0x2080, 0, 1, .once, [TILE_POOL.IN_SERVICE, TILE_POOL.SCHEDULED, TILE_POOL.POOL]⟩
/-! FIO_TICK_LO (offset 0x3000, R399, 15_ports_field_io.md). -/
def FIO_TICK_LO.TICK : Fld := ⟨0x3000, 0, 32, .ro, 0, false, 0⟩
def FIO_TICK_LO.reg : RegSpec := ⟨0x3000, 0, 1, .once, [FIO_TICK_LO.TICK]⟩
/-! FIO_TICK_HI (offset 0x3004, R399, 15_ports_field_io.md). -/
def FIO_TICK_HI.TICK : Fld := ⟨0x3004, 0, 32, .ro, 0, false, 0⟩
def FIO_TICK_HI.reg : RegSpec := ⟨0x3004, 0, 1, .once, [FIO_TICK_HI.TICK]⟩
/-! FIO_ENC_CTRL (offset 0x3010, R399, 15_ports_field_io.md). -/
def FIO_ENC_CTRL.EN : Fld := ⟨0x3010, 0, 1, .rw, 0, false, 0⟩
def FIO_ENC_CTRL.DIR : Fld := ⟨0x3010, 1, 1, .rw, 0, false, 0⟩
def FIO_ENC_CTRL.FILT : Fld := ⟨0x3010, 2, 3, .rw, 2, false, 0⟩
def FIO_ENC_CTRL.reg : RegSpec := ⟨0x3010, 4, 2, .once, [FIO_ENC_CTRL.EN, FIO_ENC_CTRL.DIR, FIO_ENC_CTRL.FILT]⟩
/-! FIO_ENC_POS (offset 0x3018, R399, 15_ports_field_io.md). -/
def FIO_ENC_POS.POS : Fld := ⟨0x3018, 0, 32, .ro, 0, false, 0⟩
def FIO_ENC_POS.reg : RegSpec := ⟨0x3018, 4, 2, .once, [FIO_ENC_POS.POS]⟩
/-! FIO_TRIG_CTRL (offset 0x3020, R399, 15_ports_field_io.md). -/
def FIO_TRIG_CTRL.EN : Fld := ⟨0x3020, 0, 8, .rw, 0, true, 0⟩
def FIO_TRIG_CTRL.reg : RegSpec := ⟨0x3020, 0, 1, .once, [FIO_TRIG_CTRL.EN]⟩
/-! FIO_ACT_LEVEL (offset 0x3030, R399, 15_ports_field_io.md). -/
def FIO_ACT_LEVEL.LEVEL : Fld := ⟨0x3030, 0, 16, .ro, 0, false, 0⟩
def FIO_ACT_LEVEL.HIZ : Fld := ⟨0x3030, 16, 16, .ro, 65535, false, 0⟩
def FIO_ACT_LEVEL.reg : RegSpec := ⟨0x3030, 0, 1, .once, [FIO_ACT_LEVEL.LEVEL, FIO_ACT_LEVEL.HIZ]⟩
/-! FIO_ACT_FORCE (offset 0x3034, R399, 15_ports_field_io.md). -/
def FIO_ACT_FORCE.VALUE : Fld := ⟨0x3034, 0, 16, .rw, 0, true, 0⟩
def FIO_ACT_FORCE.MASK : Fld := ⟨0x3034, 16, 16, .rw, 0, true, 0⟩
def FIO_ACT_FORCE.reg : RegSpec := ⟨0x3034, 0, 1, .once, [FIO_ACT_FORCE.VALUE, FIO_ACT_FORCE.MASK]⟩
/-! FIO_ACT_FUNC (offset 0x3038, R399, 15_ports_field_io.md). -/
def FIO_ACT_FUNC.CXP_PWR : Fld := ⟨0x3038, 0, 1, .rw, 0, false, 0⟩
def FIO_ACT_FUNC.reg : RegSpec := ⟨0x3038, 0, 1, .once, [FIO_ACT_FUNC.CXP_PWR]⟩
/-! FIO_CNT_LATE (offset 0x3040, R399, 15_ports_field_io.md). -/
def FIO_CNT_LATE.COUNT : Fld := ⟨0x3040, 0, 32, .ro, 0, false, 0⟩
def FIO_CNT_LATE.reg : RegSpec := ⟨0x3040, 0, 1, .once, [FIO_CNT_LATE.COUNT]⟩
/-! FIO_CNT_BADDEC (offset 0x3044, R399, 15_ports_field_io.md). -/
def FIO_CNT_BADDEC.COUNT : Fld := ⟨0x3044, 0, 32, .ro, 0, false, 0⟩
def FIO_CNT_BADDEC.reg : RegSpec := ⟨0x3044, 0, 1, .once, [FIO_CNT_BADDEC.COUNT]⟩
/-! FIO_CNT_ENCERR (offset 0x3048, R399, 15_ports_field_io.md). -/
def FIO_CNT_ENCERR.COUNT : Fld := ⟨0x3048, 0, 32, .ro, 0, false, 0⟩
def FIO_CNT_ENCERR.reg : RegSpec := ⟨0x3048, 0, 1, .once, [FIO_CNT_ENCERR.COUNT]⟩
/-! FIO_CNT_TRIG_OVR (offset 0x304C, R399, 15_ports_field_io.md). -/
def FIO_CNT_TRIG_OVR.COUNT : Fld := ⟨0x304C, 0, 32, .ro, 0, false, 0⟩
def FIO_CNT_TRIG_OVR.reg : RegSpec := ⟨0x304C, 0, 1, .once, [FIO_CNT_TRIG_OVR.COUNT]⟩
/-! PCIE_STATUS (offset 0x4000, R399, 15_ports_field_io.md). -/
def PCIE_STATUS.GEN : Fld := ⟨0x4000, 0, 3, .ro, 0, false, 0⟩
def PCIE_STATUS.WIDTH : Fld := ⟨0x4000, 3, 4, .ro, 0, false, 0⟩
def PCIE_STATUS.UP : Fld := ⟨0x4000, 7, 1, .ro, 0, false, 0⟩
def PCIE_STATUS.reg : RegSpec := ⟨0x4000, 0, 1, .once, [PCIE_STATUS.GEN, PCIE_STATUS.WIDTH, PCIE_STATUS.UP]⟩
/-! PCIE_XLAT_LO (offset 0x4100, R399, 15_ports_field_io.md). -/
def PCIE_XLAT_LO.VALID : Fld := ⟨0x4100, 0, 1, .rw, 0, false, 0⟩
def PCIE_XLAT_LO.BASE : Fld := ⟨0x4100, 12, 20, .rw, 0, false, 0⟩
def PCIE_XLAT_LO.reg : RegSpec := ⟨0x4100, 8, 64, .once, [PCIE_XLAT_LO.VALID, PCIE_XLAT_LO.BASE]⟩
/-! PCIE_XLAT_HI (offset 0x4104, R399, 15_ports_field_io.md). -/
def PCIE_XLAT_HI.BASE : Fld := ⟨0x4104, 0, 32, .rw, 0, false, 0⟩
def PCIE_XLAT_HI.reg : RegSpec := ⟨0x4104, 8, 64, .once, [PCIE_XLAT_HI.BASE]⟩
/-! BOOT_STATUS (offset 0x5000, R414, 16_startup_change_power.md). -/
def BOOT_STATUS.PHASE : Fld := ⟨0x5000, 0, 4, .ro, 0, false, 0⟩
def BOOT_STATUS.FW_SLOT : Fld := ⟨0x5000, 4, 1, .ro, 0, false, 0⟩
def BOOT_STATUS.STANDBY_OK : Fld := ⟨0x5000, 5, 1, .ro, 0, false, 0⟩
def BOOT_STATUS.CORES_PASSED : Fld := ⟨0x5000, 8, 8, .ro, 0, false, 0⟩
def BOOT_STATUS.BOOT_MS : Fld := ⟨0x5000, 16, 16, .ro, 0, false, 0⟩
def BOOT_STATUS.reg : RegSpec := ⟨0x5000, 0, 1, .once, [BOOT_STATUS.PHASE, BOOT_STATUS.FW_SLOT, BOOT_STATUS.STANDBY_OK, BOOT_STATUS.CORES_PASSED, BOOT_STATUS.BOOT_MS]⟩
/-! CHG_STATUS (offset 0x5004, R414, 16_startup_change_power.md). -/
def CHG_STATUS.SWAP_PENDING : Fld := ⟨0x5004, 0, 1, .ro, 0, false, 0⟩
def CHG_STATUS.HANDOVER_PENDING : Fld := ⟨0x5004, 1, 1, .ro, 0, false, 0⟩
def CHG_STATUS.REFUSED : Fld := ⟨0x5004, 2, 1, .rw1c, 0, false, 0⟩
def CHG_STATUS.STREAM : Fld := ⟨0x5004, 8, 5, .ro, 0, false, 0⟩
def CHG_STATUS.reg : RegSpec := ⟨0x5004, 0, 1, .once, [CHG_STATUS.SWAP_PENDING, CHG_STATUS.HANDOVER_PENDING, CHG_STATUS.REFUSED, CHG_STATUS.STREAM]⟩
/-! CHG_EFFECT (offset 0x5008, R414, 16_startup_change_power.md). -/
def CHG_EFFECT.STRIPE : Fld := ⟨0x5008, 0, 32, .ro, 0, false, 0⟩
def CHG_EFFECT.reg : RegSpec := ⟨0x5008, 0, 1, .once, [CHG_EFFECT.STRIPE]⟩
/-! THERM_STATUS (offset 0x5100, R414, 16_startup_change_power.md). -/
def THERM_STATUS.TJ_MAX : Fld := ⟨0x5100, 0, 12, .ro, 0, false, 0⟩
def THERM_STATUS.SENSOR : Fld := ⟨0x5100, 12, 5, .ro, 0, false, 0⟩
def THERM_STATUS.STATE : Fld := ⟨0x5100, 17, 3, .ro, 0, false, 0⟩
def THERM_STATUS.COOLANT_ALARM : Fld := ⟨0x5100, 20, 1, .rw1c, 0, false, 0⟩
def THERM_STATUS.THERMISTOR_FAULT : Fld := ⟨0x5100, 21, 1, .rw1c, 0, false, 0⟩
def THERM_STATUS.CFG_REJECT : Fld := ⟨0x5100, 22, 1, .rw1c, 0, false, 0⟩
def THERM_STATUS.reg : RegSpec := ⟨0x5100, 0, 1, .once, [THERM_STATUS.TJ_MAX, THERM_STATUS.SENSOR, THERM_STATUS.STATE, THERM_STATUS.COOLANT_ALARM, THERM_STATUS.THERMISTOR_FAULT, THERM_STATUS.CFG_REJECT]⟩
/-! THERM_COOLANT (offset 0x5104, R414, 16_startup_change_power.md). -/
def THERM_COOLANT.INLET : Fld := ⟨0x5104, 0, 12, .ro, 0, false, 0⟩
def THERM_COOLANT.OUTLET : Fld := ⟨0x5104, 12, 12, .ro, 0, false, 0⟩
def THERM_COOLANT.FLOW : Fld := ⟨0x5104, 24, 8, .ro, 255, false, 0⟩
def THERM_COOLANT.reg : RegSpec := ⟨0x5104, 0, 1, .once, [THERM_COOLANT.INLET, THERM_COOLANT.OUTLET, THERM_COOLANT.FLOW]⟩
/-! THERM_CTRL (offset 0x5108, R414, 16_startup_change_power.md). -/
def THERM_CTRL.OTHER_W : Fld := ⟨0x5108, 0, 8, .rw, 40, true, 0⟩
def THERM_CTRL.FLOW_EN : Fld := ⟨0x5108, 8, 1, .rw, 1, true, 0⟩
def THERM_CTRL.reg : RegSpec := ⟨0x5108, 0, 1, .once, [THERM_CTRL.OTHER_W, THERM_CTRL.FLOW_EN]⟩
/-! PORT_CFG (offset 0x10000, R397, 15_ports_field_io.md). -/
def PORT_CFG.EN : Fld := ⟨0x10000, 0, 1, .rw, 0, true, 0⟩
def PORT_CFG.MODE : Fld := ⟨0x10000, 1, 2, .rw, 0, true, 0⟩
def PORT_CFG.LANES : Fld := ⟨0x10000, 3, 5, .rw, 0, true, 0⟩
def PORT_CFG.RATE : Fld := ⟨0x10000, 8, 16, .rw, 0, true, 0⟩
def PORT_CFG.HS_UPLINK : Fld := ⟨0x10000, 24, 1, .rw, 0, true, 0⟩
def PORT_CFG.LSLE : Fld := ⟨0x10000, 25, 1, .rw, 0, true, 0⟩
def PORT_CFG.WORD : Fld := ⟨0x10000, 26, 2, .rw, 0, true, 0⟩
def PORT_CFG.reg : RegSpec := ⟨0x10000, 0, 1, .port, [PORT_CFG.EN, PORT_CFG.MODE, PORT_CFG.LANES, PORT_CFG.RATE, PORT_CFG.HS_UPLINK, PORT_CFG.LSLE, PORT_CFG.WORD]⟩
/-! PORT_STATUS (offset 0x10004, R397, 15_ports_field_io.md). -/
def PORT_STATUS.STATE : Fld := ⟨0x10004, 0, 2, .ro, 0, false, 0⟩
def PORT_STATUS.LANES_UP : Fld := ⟨0x10004, 2, 5, .ro, 0, false, 0⟩
def PORT_STATUS.RATE_ACT : Fld := ⟨0x10004, 8, 16, .ro, 0, false, 0⟩
def PORT_STATUS.CFG_REJECT : Fld := ⟨0x10004, 24, 1, .rw1c, 0, false, 0⟩
def PORT_STATUS.LOSS : Fld := ⟨0x10004, 25, 1, .rw1c, 0, false, 0⟩
def PORT_STATUS.reg : RegSpec := ⟨0x10004, 0, 1, .port, [PORT_STATUS.STATE, PORT_STATUS.LANES_UP, PORT_STATUS.RATE_ACT, PORT_STATUS.CFG_REJECT, PORT_STATUS.LOSS]⟩
/-! PORT_CXP_TRIG (offset 0x10008, R397, 15_ports_field_io.md). -/
def PORT_CXP_TRIG.SRC : Fld := ⟨0x10008, 0, 2, .rw, 0, true, 0⟩
def PORT_CXP_TRIG.INPUT : Fld := ⟨0x10008, 2, 3, .rw, 0, true, 0⟩
def PORT_CXP_TRIG.DIV : Fld := ⟨0x10008, 16, 16, .rw, 1, true, 0⟩
def PORT_CXP_TRIG.reg : RegSpec := ⟨0x10008, 0, 1, .port, [PORT_CXP_TRIG.SRC, PORT_CXP_TRIG.INPUT, PORT_CXP_TRIG.DIV]⟩
/-! PORT_SLVDS_SYNC0 (offset 0x1000C, R397, 15_ports_field_io.md). -/
def PORT_SLVDS_SYNC0.SOL : Fld := ⟨0x1000C, 0, 14, .rw, 2048, true, 0⟩
def PORT_SLVDS_SYNC0.EOL : Fld := ⟨0x1000C, 16, 14, .rw, 2512, true, 0⟩
def PORT_SLVDS_SYNC0.reg : RegSpec := ⟨0x1000C, 0, 1, .port, [PORT_SLVDS_SYNC0.SOL, PORT_SLVDS_SYNC0.EOL]⟩
/-! PORT_SLVDS_SYNC1 (offset 0x10010, R397, 15_ports_field_io.md). -/
def PORT_SLVDS_SYNC1.SOF : Fld := ⟨0x10010, 0, 14, .rw, 2736, true, 0⟩
def PORT_SLVDS_SYNC1.EOF : Fld := ⟨0x10010, 16, 14, .rw, 2912, true, 0⟩
def PORT_SLVDS_SYNC1.reg : RegSpec := ⟨0x10010, 0, 1, .port, [PORT_SLVDS_SYNC1.SOF, PORT_SLVDS_SYNC1.EOF]⟩
/-! PORT_CNT_CORR (offset 0x10020, R397, 15_ports_field_io.md). -/
def PORT_CNT_CORR.COUNT : Fld := ⟨0x10020, 0, 32, .ro, 0, false, 0⟩
def PORT_CNT_CORR.reg : RegSpec := ⟨0x10020, 0, 1, .port, [PORT_CNT_CORR.COUNT]⟩
/-! PORT_CNT_DROP (offset 0x10024, R397, 15_ports_field_io.md). -/
def PORT_CNT_DROP.COUNT : Fld := ⟨0x10024, 0, 32, .ro, 0, false, 0⟩
def PORT_CNT_DROP.reg : RegSpec := ⟨0x10024, 0, 1, .port, [PORT_CNT_DROP.COUNT]⟩
/-! PORT_CNT_CRC (offset 0x10028, R397, 15_ports_field_io.md). -/
def PORT_CNT_CRC.COUNT : Fld := ⟨0x10028, 0, 32, .ro, 0, false, 0⟩
def PORT_CNT_CRC.reg : RegSpec := ⟨0x10028, 0, 1, .port, [PORT_CNT_CRC.COUNT]⟩
/-! PORT_CNT_CODE (offset 0x1002C, R397, 15_ports_field_io.md). -/
def PORT_CNT_CODE.COUNT : Fld := ⟨0x1002C, 0, 32, .ro, 0, false, 0⟩
def PORT_CNT_CODE.reg : RegSpec := ⟨0x1002C, 0, 1, .port, [PORT_CNT_CODE.COUNT]⟩
/-! PORT_CNT_UNSUP (offset 0x10030, R397, 15_ports_field_io.md). -/
def PORT_CNT_UNSUP.COUNT : Fld := ⟨0x10030, 0, 32, .ro, 0, false, 0⟩
def PORT_CNT_UNSUP.reg : RegSpec := ⟨0x10030, 0, 1, .port, [PORT_CNT_UNSUP.COUNT]⟩
/-! PORT_CNT_LOSS (offset 0x10034, R397, 15_ports_field_io.md). -/
def PORT_CNT_LOSS.COUNT : Fld := ⟨0x10034, 0, 32, .ro, 0, false, 0⟩
def PORT_CNT_LOSS.reg : RegSpec := ⟨0x10034, 0, 1, .port, [PORT_CNT_LOSS.COUNT]⟩
/-! STRM_SRC (offset 0x18000, R398, 15_ports_field_io.md). -/
def STRM_SRC.EN : Fld := ⟨0x18000, 0, 1, .rw, 0, true, 0⟩
def STRM_SRC.PORT : Fld := ⟨0x18000, 1, 4, .rw, 0, false, 0⟩
def STRM_SRC.SUBID : Fld := ⟨0x18000, 5, 8, .rw, 0, false, 0⟩
def STRM_SRC.LINKS_M1 : Fld := ⟨0x18000, 13, 3, .rw, 0, false, 0⟩
def STRM_SRC.LOCK : Fld := ⟨0x18000, 16, 3, .rw, 0, false, 0⟩
def STRM_SRC.reg : RegSpec := ⟨0x18000, 0, 1, .strm, [STRM_SRC.EN, STRM_SRC.PORT, STRM_SRC.SUBID, STRM_SRC.LINKS_M1, STRM_SRC.LOCK]⟩
/-! STRM_GEOM (offset 0x18004, R398, 15_ports_field_io.md). -/
def STRM_GEOM.WIDTH : Fld := ⟨0x18004, 0, 16, .rw, 0, false, 0⟩
def STRM_GEOM.FRAME_LINES : Fld := ⟨0x18004, 16, 16, .rw, 0, false, 0⟩
def STRM_GEOM.reg : RegSpec := ⟨0x18004, 0, 1, .strm, [STRM_GEOM.WIDTH, STRM_GEOM.FRAME_LINES]⟩
/-! STRM_LP (offset 0x18008, R398, 15_ports_field_io.md). -/
def STRM_LP.TICKS : Fld := ⟨0x18008, 0, 24, .rw, 0, false, 0⟩
def STRM_LP.reg : RegSpec := ⟨0x18008, 0, 1, .strm, [STRM_LP.TICKS]⟩
/-! STRM_FRAME (offset 0x1800C, R398, 15_ports_field_io.md). -/
def STRM_FRAME.FRAME_SRC : Fld := ⟨0x1800C, 0, 2, .rw, 0, false, 0⟩
def STRM_FRAME.TRIG : Fld := ⟨0x1800C, 2, 3, .rw, 0, false, 0⟩
def STRM_FRAME.TRIG_EDGE : Fld := ⟨0x1800C, 5, 1, .rw, 0, false, 0⟩
def STRM_FRAME.reg : RegSpec := ⟨0x1800C, 0, 1, .strm, [STRM_FRAME.FRAME_SRC, STRM_FRAME.TRIG, STRM_FRAME.TRIG_EDGE]⟩
/-! STRM_STATUS (offset 0x18010, R398, 15_ports_field_io.md). -/
def STRM_STATUS.STATE : Fld := ⟨0x18010, 0, 2, .ro, 0, false, 0⟩
def STRM_STATUS.START_REJECT : Fld := ⟨0x18010, 2, 1, .rw1c, 0, false, 0⟩
def STRM_STATUS.SUBST : Fld := ⟨0x18010, 3, 1, .rw1c, 0, false, 0⟩
def STRM_STATUS.PARTIAL : Fld := ⟨0x18010, 4, 1, .rw1c, 0, false, 0⟩
def STRM_STATUS.FAST : Fld := ⟨0x18010, 5, 1, .rw1c, 0, false, 0⟩
def STRM_STATUS.reg : RegSpec := ⟨0x18010, 0, 1, .strm, [STRM_STATUS.STATE, STRM_STATUS.START_REJECT, STRM_STATUS.SUBST, STRM_STATUS.PARTIAL, STRM_STATUS.FAST]⟩
/-! STRM_LINE (offset 0x18014, R398, 15_ports_field_io.md). -/
def STRM_LINE.LINE : Fld := ⟨0x18014, 0, 32, .ro, 0, false, 0⟩
def STRM_LINE.reg : RegSpec := ⟨0x18014, 0, 1, .strm, [STRM_LINE.LINE]⟩
/-! STRM_CNT_SUBST (offset 0x18018, R398, 15_ports_field_io.md). -/
def STRM_CNT_SUBST.COUNT : Fld := ⟨0x18018, 0, 32, .ro, 0, false, 0⟩
def STRM_CNT_SUBST.reg : RegSpec := ⟨0x18018, 0, 1, .strm, [STRM_CNT_SUBST.COUNT]⟩
/-! STRM_OUT_CTRL (offset 0x18100, R398, 15_ports_field_io.md). -/
def STRM_OUT_CTRL.DEST : Fld := ⟨0x18100, 0, 2, .rw, 0, false, 0⟩
def STRM_OUT_CTRL.GV_PORT : Fld := ⟨0x18100, 2, 1, .rw, 0, false, 0⟩
def STRM_OUT_CTRL.GV_CHANNEL : Fld := ⟨0x18100, 3, 2, .rw, 0, false, 0⟩
def STRM_OUT_CTRL.reg : RegSpec := ⟨0x18100, 0, 1, .strm, [STRM_OUT_CTRL.DEST, STRM_OUT_CTRL.GV_PORT, STRM_OUT_CTRL.GV_CHANNEL]⟩
/-! STRM_OUT_STATUS (offset 0x18104, R398, 15_ports_field_io.md). -/
def STRM_OUT_STATUS.STALL : Fld := ⟨0x18104, 0, 1, .ro, 0, false, 0⟩
def STRM_OUT_STATUS.INVALID : Fld := ⟨0x18104, 1, 1, .rw1c, 0, false, 0⟩
def STRM_OUT_STATUS.FILL : Fld := ⟨0x18104, 2, 4, .ro, 0, false, 0⟩
def STRM_OUT_STATUS.CFG_REJECT : Fld := ⟨0x18104, 6, 1, .rw1c, 0, false, 0⟩
def STRM_OUT_STATUS.reg : RegSpec := ⟨0x18104, 0, 1, .strm, [STRM_OUT_STATUS.STALL, STRM_OUT_STATUS.INVALID, STRM_OUT_STATUS.FILL, STRM_OUT_STATUS.CFG_REJECT]⟩
/-! STRM_HQ_BASE_LO (offset 0x18110, R398, 15_ports_field_io.md). -/
def STRM_HQ_BASE_LO.BASE : Fld := ⟨0x18110, 0, 32, .rw, 0, true, 0⟩
def STRM_HQ_BASE_LO.reg : RegSpec := ⟨0x18110, 0, 1, .strm, [STRM_HQ_BASE_LO.BASE]⟩
/-! STRM_HQ_BASE_HI (offset 0x18114, R398, 15_ports_field_io.md). -/
def STRM_HQ_BASE_HI.BASE : Fld := ⟨0x18114, 0, 32, .rw, 0, true, 0⟩
def STRM_HQ_BASE_HI.reg : RegSpec := ⟨0x18114, 0, 1, .strm, [STRM_HQ_BASE_HI.BASE]⟩
/-! STRM_HQ_CFG (offset 0x18118, R398, 15_ports_field_io.md). -/
def STRM_HQ_CFG.ENTRIES : Fld := ⟨0x18118, 0, 10, .rw, 0, true, 0⟩
def STRM_HQ_CFG.STRIDE_PAGES : Fld := ⟨0x18118, 16, 16, .rw, 0, true, 0⟩
def STRM_HQ_CFG.reg : RegSpec := ⟨0x18118, 0, 1, .strm, [STRM_HQ_CFG.ENTRIES, STRM_HQ_CFG.STRIDE_PAGES]⟩
/-! STRM_HQ_HEAD (offset 0x1811C, R398, 15_ports_field_io.md). -/
def STRM_HQ_HEAD.SEQ : Fld := ⟨0x1811C, 0, 32, .ro, 0, false, 0⟩
def STRM_HQ_HEAD.reg : RegSpec := ⟨0x1811C, 0, 1, .strm, [STRM_HQ_HEAD.SEQ]⟩
/-! STRM_HQ_TAIL (offset 0x18120, R398, 15_ports_field_io.md). -/
def STRM_HQ_TAIL.SEQ : Fld := ⟨0x18120, 0, 32, .rw, 0, true, 0⟩
def STRM_HQ_TAIL.reg : RegSpec := ⟨0x18120, 0, 1, .strm, [STRM_HQ_TAIL.SEQ]⟩
/-! STRM_HIN_BASE_LO (offset 0x18140, R398, 15_ports_field_io.md). -/
def STRM_HIN_BASE_LO.BASE : Fld := ⟨0x18140, 0, 32, .rw, 0, true, 0⟩
def STRM_HIN_BASE_LO.reg : RegSpec := ⟨0x18140, 0, 1, .strm, [STRM_HIN_BASE_LO.BASE]⟩
/-! STRM_HIN_BASE_HI (offset 0x18144, R398, 15_ports_field_io.md). -/
def STRM_HIN_BASE_HI.BASE : Fld := ⟨0x18144, 0, 32, .rw, 0, true, 0⟩
def STRM_HIN_BASE_HI.reg : RegSpec := ⟨0x18144, 0, 1, .strm, [STRM_HIN_BASE_HI.BASE]⟩
/-! STRM_HIN_CFG (offset 0x18148, R398, 15_ports_field_io.md). -/
def STRM_HIN_CFG.ENTRIES : Fld := ⟨0x18148, 0, 10, .rw, 0, true, 0⟩
def STRM_HIN_CFG.STRIDE_PAGES : Fld := ⟨0x18148, 16, 16, .rw, 0, true, 0⟩
def STRM_HIN_CFG.reg : RegSpec := ⟨0x18148, 0, 1, .strm, [STRM_HIN_CFG.ENTRIES, STRM_HIN_CFG.STRIDE_PAGES]⟩
/-! STRM_HIN_HEAD (offset 0x1814C, R398, 15_ports_field_io.md). -/
def STRM_HIN_HEAD.SEQ : Fld := ⟨0x1814C, 0, 32, .rw, 0, true, 0⟩
def STRM_HIN_HEAD.reg : RegSpec := ⟨0x1814C, 0, 1, .strm, [STRM_HIN_HEAD.SEQ]⟩
/-! STRM_HIN_TAIL (offset 0x18150, R398, 15_ports_field_io.md). -/
def STRM_HIN_TAIL.SEQ : Fld := ⟨0x18150, 0, 32, .ro, 0, false, 0⟩
def STRM_HIN_TAIL.reg : RegSpec := ⟨0x18150, 0, 1, .strm, [STRM_HIN_TAIL.SEQ]⟩
/-! STRM_RF_CTRL (offset 0x18400, R195, 07_image_operators.md). -/
def STRM_RF_CTRL.UNPACK : Fld := ⟨0x18400, 0, 4, .rw, 2, true, 0⟩
def STRM_RF_CTRL.CFA : Fld := ⟨0x18400, 4, 2, .rw, 0, true, 0⟩
def STRM_RF_CTRL.S2D : Fld := ⟨0x18400, 6, 2, .rw, 0, true, 0⟩
def STRM_RF_CTRL.OUTFMT : Fld := ⟨0x18400, 8, 2, .rw, 0, true, 0⟩
def STRM_RF_CTRL.SHADE_EN : Fld := ⟨0x18400, 10, 1, .rw, 0, true, 0⟩
def STRM_RF_CTRL.DEFECT_EN : Fld := ⟨0x18400, 11, 1, .rw, 1, true, 0⟩
def STRM_RF_CTRL.PEDESTAL : Fld := ⟨0x18400, 16, 12, .rw, 0, true, 0⟩
def STRM_RF_CTRL.reg : RegSpec := ⟨0x18400, 0, 1, .strm, [STRM_RF_CTRL.UNPACK, STRM_RF_CTRL.CFA, STRM_RF_CTRL.S2D, STRM_RF_CTRL.OUTFMT, STRM_RF_CTRL.SHADE_EN, STRM_RF_CTRL.DEFECT_EN, STRM_RF_CTRL.PEDESTAL]⟩
/-! STRM_RF_STATUS (offset 0x18404, R195, 07_image_operators.md). -/
def STRM_RF_STATUS.CFG_REJECT : Fld := ⟨0x18404, 0, 1, .rw1c, 0, false, 0⟩
def STRM_RF_STATUS.LEN_MISMATCH : Fld := ⟨0x18404, 1, 1, .rw1c, 0, false, 0⟩
def STRM_RF_STATUS.RETRY : Fld := ⟨0x18404, 2, 1, .rw1c, 0, false, 0⟩
def STRM_RF_STATUS.reg : RegSpec := ⟨0x18404, 0, 1, .strm, [STRM_RF_STATUS.CFG_REJECT, STRM_RF_STATUS.LEN_MISMATCH, STRM_RF_STATUS.RETRY]⟩
/-! STRM_RF_CNT_SAT (offset 0x18408, R195, 07_image_operators.md). -/
def STRM_RF_CNT_SAT.COUNT : Fld := ⟨0x18408, 0, 32, .ro, 0, false, 0⟩
def STRM_RF_CNT_SAT.reg : RegSpec := ⟨0x18408, 0, 1, .strm, [STRM_RF_CNT_SAT.COUNT]⟩
/-! STRM_RF_CNT_UNDER (offset 0x1840C, R195, 07_image_operators.md). -/
def STRM_RF_CNT_UNDER.COUNT : Fld := ⟨0x1840C, 0, 32, .ro, 0, false, 0⟩
def STRM_RF_CNT_UNDER.reg : RegSpec := ⟨0x1840C, 0, 1, .strm, [STRM_RF_CNT_UNDER.COUNT]⟩
/-! STRM_RF_CNT_DEFECT (offset 0x18410, R195, 07_image_operators.md). -/
def STRM_RF_CNT_DEFECT.COUNT : Fld := ⟨0x18410, 0, 32, .ro, 0, false, 0⟩
def STRM_RF_CNT_DEFECT.reg : RegSpec := ⟨0x18410, 0, 1, .strm, [STRM_RF_CNT_DEFECT.COUNT]⟩
/-! STRM_RF_CNT_LEN (offset 0x18414, R195, 07_image_operators.md). -/
def STRM_RF_CNT_LEN.COUNT : Fld := ⟨0x18414, 0, 32, .ro, 0, false, 0⟩
def STRM_RF_CNT_LEN.reg : RegSpec := ⟨0x18414, 0, 1, .strm, [STRM_RF_CNT_LEN.COUNT]⟩
/-! STRM_RF_CNT_RETRY (offset 0x18418, R195, 07_image_operators.md). -/
def STRM_RF_CNT_RETRY.COUNT : Fld := ⟨0x18418, 0, 32, .ro, 0, false, 0⟩
def STRM_RF_CNT_RETRY.reg : RegSpec := ⟨0x18418, 0, 1, .strm, [STRM_RF_CNT_RETRY.COUNT]⟩
/-! STRM_PB_CTRL (offset 0x18500, R195, 07_image_operators.md). -/
def STRM_PB_CTRL.PIXFMT : Fld := ⟨0x18500, 0, 3, .rw, 0, true, 0⟩
def STRM_PB_CTRL.RAWCH : Fld := ⟨0x18500, 3, 1, .rw, 0, true, 0⟩
def STRM_PB_CTRL.CHSEL : Fld := ⟨0x18500, 4, 6, .rw, 0, true, 0⟩
def STRM_PB_CTRL.D2S : Fld := ⟨0x18500, 10, 2, .rw, 0, true, 0⟩
def STRM_PB_CTRL.CM_EN : Fld := ⟨0x18500, 12, 1, .rw, 0, true, 0⟩
def STRM_PB_CTRL.LUT_EN : Fld := ⟨0x18500, 13, 1, .rw, 0, true, 0⟩
def STRM_PB_CTRL.INFMT : Fld := ⟨0x18500, 14, 2, .rw, 0, true, 0⟩
def STRM_PB_CTRL.reg : RegSpec := ⟨0x18500, 0, 1, .strm, [STRM_PB_CTRL.PIXFMT, STRM_PB_CTRL.RAWCH, STRM_PB_CTRL.CHSEL, STRM_PB_CTRL.D2S, STRM_PB_CTRL.CM_EN, STRM_PB_CTRL.LUT_EN, STRM_PB_CTRL.INFMT]⟩
/-! STRM_PB_STATUS (offset 0x18504, R195, 07_image_operators.md). -/
def STRM_PB_STATUS.CFG_REJECT : Fld := ⟨0x18504, 0, 1, .rw1c, 0, false, 0⟩
def STRM_PB_STATUS.RETRY : Fld := ⟨0x18504, 1, 1, .rw1c, 0, false, 0⟩
def STRM_PB_STATUS.reg : RegSpec := ⟨0x18504, 0, 1, .strm, [STRM_PB_STATUS.CFG_REJECT, STRM_PB_STATUS.RETRY]⟩
/-! STRM_PB_CNT_SAT (offset 0x18508, R195, 07_image_operators.md). -/
def STRM_PB_CNT_SAT.COUNT : Fld := ⟨0x18508, 0, 32, .ro, 0, false, 0⟩
def STRM_PB_CNT_SAT.reg : RegSpec := ⟨0x18508, 0, 1, .strm, [STRM_PB_CNT_SAT.COUNT]⟩
/-! STRM_PB_CNT_NAN (offset 0x1850C, R195, 07_image_operators.md). -/
def STRM_PB_CNT_NAN.COUNT : Fld := ⟨0x1850C, 0, 32, .ro, 0, false, 0⟩
def STRM_PB_CNT_NAN.reg : RegSpec := ⟨0x1850C, 0, 1, .strm, [STRM_PB_CNT_NAN.COUNT]⟩
/-! STRM_PB_CNT_RETRY (offset 0x18510, R195, 07_image_operators.md). -/
def STRM_PB_CNT_RETRY.COUNT : Fld := ⟨0x18510, 0, 32, .ro, 0, false, 0⟩
def STRM_PB_CNT_RETRY.reg : RegSpec := ⟨0x18510, 0, 1, .strm, [STRM_PB_CNT_RETRY.COUNT]⟩
/-! STRM_QS_STATUS (offset 0x18600, R213, 08_quantisation.md). -/
def STRM_QS_STATUS.RESCALE : Fld := ⟨0x18600, 0, 1, .rw1c, 0, false, 0⟩
def STRM_QS_STATUS.CLAMP : Fld := ⟨0x18600, 1, 1, .rw1c, 0, false, 0⟩
def STRM_QS_STATUS.MAX_NANINF : Fld := ⟨0x18600, 2, 1, .rw1c, 0, false, 0⟩
def STRM_QS_STATUS.reg : RegSpec := ⟨0x18600, 0, 1, .strm, [STRM_QS_STATUS.RESCALE, STRM_QS_STATUS.CLAMP, STRM_QS_STATUS.MAX_NANINF]⟩
/-! STRM_QS_CNT_RESCALE (offset 0x18604, R213, 08_quantisation.md). -/
def STRM_QS_CNT_RESCALE.COUNT : Fld := ⟨0x18604, 0, 32, .ro, 0, false, 0⟩
def STRM_QS_CNT_RESCALE.reg : RegSpec := ⟨0x18604, 0, 1, .strm, [STRM_QS_CNT_RESCALE.COUNT]⟩
/-! STRM_QS_CNT_CLAMP (offset 0x18608, R213, 08_quantisation.md). -/
def STRM_QS_CNT_CLAMP.COUNT : Fld := ⟨0x18608, 0, 32, .ro, 0, false, 0⟩
def STRM_QS_CNT_CLAMP.reg : RegSpec := ⟨0x18608, 0, 1, .strm, [STRM_QS_CNT_CLAMP.COUNT]⟩
/-! STRM_QS_LAST (offset 0x1860C, R213, 08_quantisation.md). -/
def STRM_QS_LAST.STRIPE : Fld := ⟨0x1860C, 0, 32, .ro, 0, false, 0⟩
def STRM_QS_LAST.reg : RegSpec := ⟨0x1860C, 0, 1, .strm, [STRM_QS_LAST.STRIPE]⟩
/-! STRM_QS_LAST_INFO (offset 0x18610, R213, 08_quantisation.md). -/
def STRM_QS_LAST_INFO.TENSOR : Fld := ⟨0x18610, 0, 4, .ro, 0, false, 0⟩
def STRM_QS_LAST_INFO.SAT_TEST : Fld := ⟨0x18610, 4, 1, .ro, 0, false, 0⟩
def STRM_QS_LAST_INFO.LOW_TEST : Fld := ⟨0x18610, 5, 1, .ro, 0, false, 0⟩
def STRM_QS_LAST_INFO.CLAMPED : Fld := ⟨0x18610, 6, 1, .ro, 0, false, 0⟩
def STRM_QS_LAST_INFO.reg : RegSpec := ⟨0x18610, 0, 1, .strm, [STRM_QS_LAST_INFO.TENSOR, STRM_QS_LAST_INFO.SAT_TEST, STRM_QS_LAST_INFO.LOW_TEST, STRM_QS_LAST_INFO.CLAMPED]⟩
/-! STRM_TILE_INFO (offset 0x18700, R236, 09_tiling_mapping.md). -/
def STRM_TILE_INFO.BANDS : Fld := ⟨0x18700, 0, 8, .ro, 0, false, 0⟩
def STRM_TILE_INFO.GEN : Fld := ⟨0x18700, 16, 16, .ro, 0, false, 0⟩
def STRM_TILE_INFO.reg : RegSpec := ⟨0x18700, 0, 1, .strm, [STRM_TILE_INFO.BANDS, STRM_TILE_INFO.GEN]⟩
/-! STRM_TILE_FIRST (offset 0x18704, R236, 09_tiling_mapping.md). -/
def STRM_TILE_FIRST.STRIPE : Fld := ⟨0x18704, 0, 32, .ro, 0, false, 0⟩
def STRM_TILE_FIRST.reg : RegSpec := ⟨0x18704, 0, 1, .strm, [STRM_TILE_FIRST.STRIPE]⟩
/-! STRM_TILE_WIDTH (offset 0x18708, R236, 09_tiling_mapping.md). -/
def STRM_TILE_WIDTH.MAX : Fld := ⟨0x18708, 0, 16, .ro, 0, false, 0⟩
def STRM_TILE_WIDTH.MIN : Fld := ⟨0x18708, 16, 16, .ro, 0, false, 0⟩
def STRM_TILE_WIDTH.reg : RegSpec := ⟨0x18708, 0, 1, .strm, [STRM_TILE_WIDTH.MAX, STRM_TILE_WIDTH.MIN]⟩
/-! STRM_TILE_STATUS (offset 0x1870C, R236, 09_tiling_mapping.md). -/
def STRM_TILE_STATUS.COST_OVER : Fld := ⟨0x1870C, 0, 1, .rw1c, 0, false, 0⟩
def STRM_TILE_STATUS.COLD : Fld := ⟨0x1870C, 1, 1, .rw1c, 0, false, 0⟩
def STRM_TILE_STATUS.WAIT_CARRY : Fld := ⟨0x1870C, 2, 1, .ro, 0, false, 0⟩
def STRM_TILE_STATUS.CROP_DROP : Fld := ⟨0x1870C, 3, 1, .rw1c, 0, false, 0⟩
def STRM_TILE_STATUS.reg : RegSpec := ⟨0x1870C, 0, 1, .strm, [STRM_TILE_STATUS.COST_OVER, STRM_TILE_STATUS.COLD, STRM_TILE_STATUS.WAIT_CARRY, STRM_TILE_STATUS.CROP_DROP]⟩
/-! STRM_FLT_CTRL (offset 0x18800, R300, 11_fault_containment.md). -/
def STRM_FLT_CTRL.PROT : Fld := ⟨0x18800, 0, 2, .rw, 0, true, 0⟩
def STRM_FLT_CTRL.DIGEST : Fld := ⟨0x18800, 2, 1, .ro, 0, true, 0⟩
def STRM_FLT_CTRL.reg : RegSpec := ⟨0x18800, 0, 1, .strm, [STRM_FLT_CTRL.PROT, STRM_FLT_CTRL.DIGEST]⟩
/-! STRM_FLT_STATUS (offset 0x18804, R300, 11_fault_containment.md). -/
def STRM_FLT_STATUS.FLAGGED : Fld := ⟨0x18804, 0, 1, .rw1c, 0, false, 0⟩
def STRM_FLT_STATUS.REPLAYED : Fld := ⟨0x18804, 1, 1, .rw1c, 0, false, 0⟩
def STRM_FLT_STATUS.reg : RegSpec := ⟨0x18804, 0, 1, .strm, [STRM_FLT_STATUS.FLAGGED, STRM_FLT_STATUS.REPLAYED]⟩
/-! DMA_CH_ID (offset 0x20000, R269, 10_streams_dma.md). -/
def DMA_CH_ID.CHANNEL : Fld := ⟨0x20000, 0, 7, .ro, 0, false, 0⟩
def DMA_CH_ID.HOST : Fld := ⟨0x20000, 7, 1, .ro, 0, false, 0⟩
def DMA_CH_ID.CLUSTER : Fld := ⟨0x20000, 8, 4, .ro, 0, false, 0⟩
def DMA_CH_ID.PRESENT : Fld := ⟨0x20000, 12, 1, .ro, 1, false, 0⟩
def DMA_CH_ID.VERSION : Fld := ⟨0x20000, 16, 4, .ro, 1, false, 0⟩
def DMA_CH_ID.reg : RegSpec := ⟨0x20000, 0, 1, .dma, [DMA_CH_ID.CHANNEL, DMA_CH_ID.HOST, DMA_CH_ID.CLUSTER, DMA_CH_ID.PRESENT, DMA_CH_ID.VERSION]⟩
/-! DMA_CH_STATE (offset 0x20004, R269, 10_streams_dma.md). -/
def DMA_CH_STATE.STATE : Fld := ⟨0x20004, 0, 3, .ro, 1, false, 0⟩
def DMA_CH_STATE.QUEUED : Fld := ⟨0x20004, 3, 1, .ro, 0, false, 0⟩
def DMA_CH_STATE.RESUMABLE : Fld := ⟨0x20004, 4, 1, .ro, 0, false, 0⟩
def DMA_CH_STATE.CHECK_RUN : Fld := ⟨0x20004, 5, 1, .ro, 0, false, 0⟩
def DMA_CH_STATE.MAIN_TAGS : Fld := ⟨0x20004, 8, 8, .ro, 0, false, 0⟩
def DMA_CH_STATE.LIGHT_TAGS : Fld := ⟨0x20004, 16, 5, .ro, 0, false, 0⟩
def DMA_CH_STATE.reg : RegSpec := ⟨0x20004, 0, 1, .dma, [DMA_CH_STATE.STATE, DMA_CH_STATE.QUEUED, DMA_CH_STATE.RESUMABLE, DMA_CH_STATE.CHECK_RUN, DMA_CH_STATE.MAIN_TAGS, DMA_CH_STATE.LIGHT_TAGS]⟩
/-! DMA_CH_CTRL (offset 0x20008, R269, 10_streams_dma.md). -/
def DMA_CH_CTRL.GO : Fld := ⟨0x20008, 0, 1, .wo, 0, true, 0⟩
def DMA_CH_CTRL.CANCEL : Fld := ⟨0x20008, 1, 1, .wo, 0, true, 0⟩
def DMA_CH_CTRL.RESUME : Fld := ⟨0x20008, 2, 1, .wo, 0, true, 0⟩
def DMA_CH_CTRL.CNT_CLEAR : Fld := ⟨0x20008, 3, 1, .wo, 0, true, 0⟩
def DMA_CH_CTRL.reg : RegSpec := ⟨0x20008, 0, 1, .dma, [DMA_CH_CTRL.GO, DMA_CH_CTRL.CANCEL, DMA_CH_CTRL.RESUME, DMA_CH_CTRL.CNT_CLEAR]⟩
/-! DMA_CH_PROG (offset 0x2000C, R269, 10_streams_dma.md). -/
def DMA_CH_PROG.ADDR : Fld := ⟨0x2000C, 0, 32, .rw, 0, false, 0⟩
def DMA_CH_PROG.reg : RegSpec := ⟨0x2000C, 0, 1, .dma, [DMA_CH_PROG.ADDR]⟩
/-! DMA_CH_LEN (offset 0x20010, R269, 10_streams_dma.md). -/
def DMA_CH_LEN.LEN : Fld := ⟨0x20010, 0, 13, .rw, 0, false, 0⟩
def DMA_CH_LEN.EVENT_TAG : Fld := ⟨0x20010, 16, 16, .rw, 0, false, 0⟩
def DMA_CH_LEN.reg : RegSpec := ⟨0x20010, 0, 1, .dma, [DMA_CH_LEN.LEN, DMA_CH_LEN.EVENT_TAG]⟩
/-! DMA_CH_SRC_BIAS (offset 0x20014, R269, 10_streams_dma.md). -/
def DMA_CH_SRC_BIAS.BIAS : Fld := ⟨0x20014, 0, 32, .rw, 0, false, 0⟩
def DMA_CH_SRC_BIAS.reg : RegSpec := ⟨0x20014, 0, 1, .dma, [DMA_CH_SRC_BIAS.BIAS]⟩
/-! DMA_CH_DST_BIAS (offset 0x20018, R269, 10_streams_dma.md). -/
def DMA_CH_DST_BIAS.BIAS : Fld := ⟨0x20018, 0, 32, .rw, 0, false, 0⟩
def DMA_CH_DST_BIAS.reg : RegSpec := ⟨0x20018, 0, 1, .dma, [DMA_CH_DST_BIAS.BIAS]⟩
/-! DMA_CH_BUDGET (offset 0x2001C, R269, 10_streams_dma.md). -/
def DMA_CH_BUDGET.STEPS : Fld := ⟨0x2001C, 0, 32, .rw, 0, false, 0⟩
def DMA_CH_BUDGET.reg : RegSpec := ⟨0x2001C, 0, 1, .dma, [DMA_CH_BUDGET.STEPS]⟩
/-! DMA_CH_CRED (offset 0x20020, R269, 10_streams_dma.md). -/
def DMA_CH_CRED.CRED : Fld := ⟨0x20020, 0, 24, .rw, 0, false, 0⟩
def DMA_CH_CRED.reg : RegSpec := ⟨0x20020, 0, 1, .dma, [DMA_CH_CRED.CRED]⟩
/-! DMA_CH_LIMIT (offset 0x20024, R269, 10_streams_dma.md). -/
def DMA_CH_LIMIT.WAIT_US : Fld := ⟨0x20024, 0, 10, .rw, 64, false, 0⟩
def DMA_CH_LIMIT.TAG_US : Fld := ⟨0x20024, 16, 10, .rw, 100, false, 0⟩
def DMA_CH_LIMIT.reg : RegSpec := ⟨0x20024, 0, 1, .dma, [DMA_CH_LIMIT.WAIT_US, DMA_CH_LIMIT.TAG_US]⟩
/-! DMA_CH_POS (offset 0x20028, R269, 10_streams_dma.md). -/
def DMA_CH_POS.PC : Fld := ⟨0x20028, 0, 12, .ro, 0, false, 0⟩
def DMA_CH_POS.DEPTH : Fld := ⟨0x20028, 12, 3, .ro, 0, false, 0⟩
def DMA_CH_POS.reg : RegSpec := ⟨0x20028, 0, 1, .dma, [DMA_CH_POS.PC, DMA_CH_POS.DEPTH]⟩
/-! DMA_CH_ITER (offset 0x2002C, R269, 10_streams_dma.md). -/
def DMA_CH_ITER.ITER : Fld := ⟨0x2002C, 0, 24, .ro, 0, false, 0⟩
def DMA_CH_ITER.reg : RegSpec := ⟨0x2002C, 4, 4, .dma, [DMA_CH_ITER.ITER]⟩
/-! DMA_CH_OFFSET (offset 0x2003C, R269, 10_streams_dma.md). -/
def DMA_CH_OFFSET.OFFSET : Fld := ⟨0x2003C, 0, 24, .ro, 0, false, 0⟩
def DMA_CH_OFFSET.reg : RegSpec := ⟨0x2003C, 0, 1, .dma, [DMA_CH_OFFSET.OFFSET]⟩
/-! DMA_CH_FAULT (offset 0x20040, R269, 10_streams_dma.md). -/
def DMA_CH_FAULT.CODE : Fld := ⟨0x20040, 0, 16, .ro, 0, false, 0⟩
def DMA_CH_FAULT.CAUSE : Fld := ⟨0x20040, 16, 3, .ro, 0, false, 0⟩
def DMA_CH_FAULT.reg : RegSpec := ⟨0x20040, 0, 1, .dma, [DMA_CH_FAULT.CODE, DMA_CH_FAULT.CAUSE]⟩
/-! DMA_CH_FAULT_ADDR_LO (offset 0x20044, R269, 10_streams_dma.md). -/
def DMA_CH_FAULT_ADDR_LO.ADDR : Fld := ⟨0x20044, 0, 32, .ro, 0, false, 0⟩
def DMA_CH_FAULT_ADDR_LO.reg : RegSpec := ⟨0x20044, 0, 1, .dma, [DMA_CH_FAULT_ADDR_LO.ADDR]⟩
/-! DMA_CH_FAULT_ADDR_HI (offset 0x20048, R269, 10_streams_dma.md). -/
def DMA_CH_FAULT_ADDR_HI.ADDR : Fld := ⟨0x20048, 0, 8, .ro, 0, false, 0⟩
def DMA_CH_FAULT_ADDR_HI.reg : RegSpec := ⟨0x20048, 0, 1, .dma, [DMA_CH_FAULT_ADDR_HI.ADDR]⟩
/-! DMA_CH_CNT_STEPS (offset 0x2004C, R269, 10_streams_dma.md). -/
def DMA_CH_CNT_STEPS.COUNT : Fld := ⟨0x2004C, 0, 32, .ro, 0, false, 0⟩
def DMA_CH_CNT_STEPS.reg : RegSpec := ⟨0x2004C, 0, 1, .dma, [DMA_CH_CNT_STEPS.COUNT]⟩
/-! DMA_CH_CNT_WORDS (offset 0x20050, R269, 10_streams_dma.md). -/
def DMA_CH_CNT_WORDS.COUNT : Fld := ⟨0x20050, 0, 32, .ro, 0, false, 0⟩
def DMA_CH_CNT_WORDS.reg : RegSpec := ⟨0x20050, 0, 1, .dma, [DMA_CH_CNT_WORDS.COUNT]⟩
/-! DMA_CH_CNT_HALTS (offset 0x20054, R269, 10_streams_dma.md). -/
def DMA_CH_CNT_HALTS.COUNT : Fld := ⟨0x20054, 0, 32, .ro, 0, false, 0⟩
def DMA_CH_CNT_HALTS.reg : RegSpec := ⟨0x20054, 0, 1, .dma, [DMA_CH_CNT_HALTS.COUNT]⟩
/-! DMA_CH_CNT_SEGABS (offset 0x20058, R269, 10_streams_dma.md). -/
def DMA_CH_CNT_SEGABS.COUNT : Fld := ⟨0x20058, 0, 32, .ro, 0, false, 0⟩
def DMA_CH_CNT_SEGABS.reg : RegSpec := ⟨0x20058, 0, 1, .dma, [DMA_CH_CNT_SEGABS.COUNT]⟩
/-! DMA_ENG_TAGS (offset 0x20100, R269, 10_streams_dma.md). -/
def DMA_ENG_TAGS.MAIN_BUSY : Fld := ⟨0x20100, 0, 8, .ro, 0, false, 0⟩
def DMA_ENG_TAGS.LIGHT_BUSY : Fld := ⟨0x20100, 8, 5, .ro, 0, false, 0⟩
def DMA_ENG_TAGS.MAIN_MAX : Fld := ⟨0x20100, 16, 8, .ro, 64, false, 0⟩
def DMA_ENG_TAGS.LIGHT_MAX : Fld := ⟨0x20100, 24, 5, .ro, 16, false, 0⟩
def DMA_ENG_TAGS.reg : RegSpec := ⟨0x20100, 0, 1, .dmaEng, [DMA_ENG_TAGS.MAIN_BUSY, DMA_ENG_TAGS.LIGHT_BUSY, DMA_ENG_TAGS.MAIN_MAX, DMA_ENG_TAGS.LIGHT_MAX]⟩
/-! DMA_ENG_CHAIN (offset 0x20104, R269, 10_streams_dma.md). -/
def DMA_ENG_CHAIN.BYPASS : Fld := ⟨0x20104, 0, 8, .rw, 0, false, 0⟩
def DMA_ENG_CHAIN.reg : RegSpec := ⟨0x20104, 0, 1, .dmaEng, [DMA_ENG_CHAIN.BYPASS]⟩
/-! DMA_CHAIN_CTRL (offset 0x20200, R269, 10_streams_dma.md). -/
def DMA_CHAIN_CTRL.STALL_LIMIT : Fld := ⟨0x20200, 0, 8, .rw, 20, false, 0⟩
def DMA_CHAIN_CTRL.reg : RegSpec := ⟨0x20200, 0, 1, .once, [DMA_CHAIN_CTRL.STALL_LIMIT]⟩
/-! DMA_SEG_CTRL (offset 0x20210, R269, 10_streams_dma.md). -/
def DMA_SEG_CTRL.EN : Fld := ⟨0x20210, 0, 1, .rw, 0, false, 0⟩
def DMA_SEG_CTRL.WINDOW_BASE : Fld := ⟨0x20210, 4, 9, .rw, 0, false, 0⟩
def DMA_SEG_CTRL.reg : RegSpec := ⟨0x20210, 0, 1, .once, [DMA_SEG_CTRL.EN, DMA_SEG_CTRL.WINDOW_BASE]⟩
/-! DMA_SEG_TABLE (offset 0x20214, R269, 10_streams_dma.md). -/
def DMA_SEG_TABLE.ADDR : Fld := ⟨0x20214, 0, 32, .rw, 0, false, 0⟩
def DMA_SEG_TABLE.reg : RegSpec := ⟨0x20214, 0, 1, .once, [DMA_SEG_TABLE.ADDR]⟩
/-! DMA_SEG_STATUS (offset 0x20218, R269, 10_streams_dma.md). -/
def DMA_SEG_STATUS.LAST_SEG : Fld := ⟨0x20218, 0, 14, .ro, 0, false, 0⟩
def DMA_SEG_STATUS.reg : RegSpec := ⟨0x20218, 0, 1, .once, [DMA_SEG_STATUS.LAST_SEG]⟩
/-! DMA_SEG_INVAL (offset 0x2021C, R269, 10_streams_dma.md). -/
def DMA_SEG_INVAL.GO : Fld := ⟨0x2021C, 0, 1, .wo, 0, true, 0⟩
def DMA_SEG_INVAL.reg : RegSpec := ⟨0x2021C, 0, 1, .once, [DMA_SEG_INVAL.GO]⟩
/-! CVU_CTRL (offset 0x20800, R269, 10_streams_dma.md). -/
def CVU_CTRL.EN : Fld := ⟨0x20800, 0, 1, .rw, 0, true, 0⟩
def CVU_CTRL.DIR : Fld := ⟨0x20800, 1, 1, .rw, 0, true, 0⟩
def CVU_CTRL.NODE : Fld := ⟨0x20800, 2, 6, .rw, 0, true, 0⟩
def CVU_CTRL.SRC : Fld := ⟨0x20800, 8, 6, .rw, 0, true, 0⟩
def CVU_CTRL.SRC_EN : Fld := ⟨0x20800, 14, 1, .rw, 0, true, 0⟩
def CVU_CTRL.DST : Fld := ⟨0x20800, 16, 6, .rw, 0, true, 0⟩
def CVU_CTRL.DST_EN : Fld := ⟨0x20800, 22, 1, .rw, 0, true, 0⟩
def CVU_CTRL.CLASS : Fld := ⟨0x20800, 24, 2, .rw, 0, true, 0⟩
def CVU_CTRL.CLASS_EN : Fld := ⟨0x20800, 26, 1, .rw, 0, true, 0⟩
def CVU_CTRL.reg : RegSpec := ⟨0x20800, 32, 16, .once, [CVU_CTRL.EN, CVU_CTRL.DIR, CVU_CTRL.NODE, CVU_CTRL.SRC, CVU_CTRL.SRC_EN, CVU_CTRL.DST, CVU_CTRL.DST_EN, CVU_CTRL.CLASS, CVU_CTRL.CLASS_EN]⟩
/-! CVU_CFG (offset 0x20804, R269, 10_streams_dma.md). -/
def CVU_CFG.STREAM : Fld := ⟨0x20804, 0, 5, .rw, 0, true, 0⟩
def CVU_CFG.STREAM_EN : Fld := ⟨0x20804, 5, 1, .rw, 0, true, 0⟩
def CVU_CFG.PARTNER : Fld := ⟨0x20804, 8, 4, .rw, 0, true, 0⟩
def CVU_CFG.CMP_EN : Fld := ⟨0x20804, 12, 1, .rw, 0, true, 0⟩
def CVU_CFG.CLOSE : Fld := ⟨0x20804, 13, 1, .wo, 0, true, 0⟩
def CVU_CFG.reg : RegSpec := ⟨0x20804, 32, 16, .once, [CVU_CFG.STREAM, CVU_CFG.STREAM_EN, CVU_CFG.PARTNER, CVU_CFG.CMP_EN, CVU_CFG.CLOSE]⟩
/-! CVU_WINDOW (offset 0x20808, R269, 10_streams_dma.md). -/
def CVU_WINDOW.FLITS : Fld := ⟨0x20808, 0, 24, .rw, 0, true, 0⟩
def CVU_WINDOW.reg : RegSpec := ⟨0x20808, 32, 16, .once, [CVU_WINDOW.FLITS]⟩
/-! CVU_VAL_LO (offset 0x2080C, R269, 10_streams_dma.md). -/
def CVU_VAL_LO.VALUE : Fld := ⟨0x2080C, 0, 32, .ro, 0, false, 0⟩
def CVU_VAL_LO.reg : RegSpec := ⟨0x2080C, 32, 16, .once, [CVU_VAL_LO.VALUE]⟩
/-! CVU_VAL_HI (offset 0x20810, R269, 10_streams_dma.md). -/
def CVU_VAL_HI.VALUE : Fld := ⟨0x20810, 0, 32, .ro, 0, false, 0⟩
def CVU_VAL_HI.reg : RegSpec := ⟨0x20810, 32, 16, .once, [CVU_VAL_HI.VALUE]⟩
/-! CVU_COUNT (offset 0x20814, R269, 10_streams_dma.md). -/
def CVU_COUNT.FLITS : Fld := ⟨0x20814, 0, 24, .ro, 0, false, 0⟩
def CVU_COUNT.reg : RegSpec := ⟨0x20814, 32, 16, .once, [CVU_COUNT.FLITS]⟩
/-! CVU_STATUS (offset 0x20818, R269, 10_streams_dma.md). -/
def CVU_STATUS.WINDOWS : Fld := ⟨0x20818, 0, 16, .ro, 0, false, 0⟩
def CVU_STATUS.MISMATCH : Fld := ⟨0x20818, 16, 1, .rw1c, 0, false, 0⟩
def CVU_STATUS.SEQ_GAP : Fld := ⟨0x20818, 17, 1, .rw1c, 0, false, 0⟩
def CVU_STATUS.OVERRUN : Fld := ⟨0x20818, 18, 1, .rw1c, 0, false, 0⟩
def CVU_STATUS.reg : RegSpec := ⟨0x20818, 32, 16, .once, [CVU_STATUS.WINDOWS, CVU_STATUS.MISMATCH, CVU_STATUS.SEQ_GAP, CVU_STATUS.OVERRUN]⟩
/-! CORE_ID (offset 0x30000, R86, 03_stripe_core.md). -/
def CORE_ID.CORE : Fld := ⟨0x30000, 0, 8, .ro, 0, false, 0⟩
def CORE_ID.CLUSTER : Fld := ⟨0x30000, 8, 5, .ro, 0, false, 0⟩
def CORE_ID.PRESENT : Fld := ⟨0x30000, 13, 1, .ro, 1, false, 0⟩
def CORE_ID.VERSION : Fld := ⟨0x30000, 16, 4, .ro, 1, false, 0⟩
def CORE_ID.ARRAY_LOG2 : Fld := ⟨0x30000, 20, 4, .ro, 5, false, 0⟩
def CORE_ID.reg : RegSpec := ⟨0x30000, 0, 1, .core, [CORE_ID.CORE, CORE_ID.CLUSTER, CORE_ID.PRESENT, CORE_ID.VERSION, CORE_ID.ARRAY_LOG2]⟩
/-! CORE_STATE (offset 0x30004, R86, 03_stripe_core.md). -/
def CORE_STATE.STATE : Fld := ⟨0x30004, 0, 3, .ro, 1, false, 0⟩
def CORE_STATE.WAITING : Fld := ⟨0x30004, 3, 1, .ro, 0, false, 0⟩
def CORE_STATE.ROLE : Fld := ⟨0x30004, 4, 2, .ro, 0, false, 0⟩
def CORE_STATE.SUSPECT : Fld := ⟨0x30004, 6, 1, .ro, 0, false, 0⟩
def CORE_STATE.NEXT_QUEUED : Fld := ⟨0x30004, 7, 1, .ro, 0, false, 0⟩
def CORE_STATE.ACTIVE_BANK : Fld := ⟨0x30004, 8, 1, .ro, 0, false, 0⟩
def CORE_STATE.BANK_A_VALID : Fld := ⟨0x30004, 9, 1, .ro, 0, false, 0⟩
def CORE_STATE.BANK_B_VALID : Fld := ⟨0x30004, 10, 1, .ro, 0, false, 0⟩
def CORE_STATE.reg : RegSpec := ⟨0x30004, 0, 1, .core, [CORE_STATE.STATE, CORE_STATE.WAITING, CORE_STATE.ROLE, CORE_STATE.SUSPECT, CORE_STATE.NEXT_QUEUED, CORE_STATE.ACTIVE_BANK, CORE_STATE.BANK_A_VALID, CORE_STATE.BANK_B_VALID]⟩
/-! CORE_CTRL (offset 0x30008, R86, 03_stripe_core.md). -/
def CORE_CTRL.EN : Fld := ⟨0x30008, 0, 1, .rw, 0, true, 0⟩
def CORE_CTRL.STOP : Fld := ⟨0x30008, 1, 1, .wo, 0, true, 0⟩
def CORE_CTRL.CNT_CLEAR : Fld := ⟨0x30008, 2, 1, .wo, 0, true, 0⟩
def CORE_CTRL.SCRUB_EN : Fld := ⟨0x30008, 3, 1, .rw, 1, false, 0⟩
def CORE_CTRL.ROLE : Fld := ⟨0x30008, 4, 2, .rw, 0, true, 0⟩
def CORE_CTRL.VALIDATE_A : Fld := ⟨0x30008, 6, 1, .wo, 0, true, 0⟩
def CORE_CTRL.VALIDATE_B : Fld := ⟨0x30008, 7, 1, .wo, 0, true, 0⟩
def CORE_CTRL.INVALIDATE_A : Fld := ⟨0x30008, 8, 1, .wo, 0, true, 0⟩
def CORE_CTRL.INVALIDATE_B : Fld := ⟨0x30008, 9, 1, .wo, 0, true, 0⟩
def CORE_CTRL.reg : RegSpec := ⟨0x30008, 0, 1, .core, [CORE_CTRL.EN, CORE_CTRL.STOP, CORE_CTRL.CNT_CLEAR, CORE_CTRL.SCRUB_EN, CORE_CTRL.ROLE, CORE_CTRL.VALIDATE_A, CORE_CTRL.VALIDATE_B, CORE_CTRL.INVALIDATE_A, CORE_CTRL.INVALIDATE_B]⟩
/-! CORE_BANK_A_CRC (offset 0x3000C, R86, 03_stripe_core.md). -/
def CORE_BANK_A_CRC.CRC : Fld := ⟨0x3000C, 0, 32, .ro, 0, false, 0⟩
def CORE_BANK_A_CRC.reg : RegSpec := ⟨0x3000C, 0, 1, .core, [CORE_BANK_A_CRC.CRC]⟩
/-! CORE_BANK_B_CRC (offset 0x30010, R86, 03_stripe_core.md). -/
def CORE_BANK_B_CRC.CRC : Fld := ⟨0x30010, 0, 32, .ro, 0, false, 0⟩
def CORE_BANK_B_CRC.reg : RegSpec := ⟨0x30010, 0, 1, .core, [CORE_BANK_B_CRC.CRC]⟩
/-! CORE_PC (offset 0x30014, R86, 03_stripe_core.md). -/
def CORE_PC.PC : Fld := ⟨0x30014, 0, 16, .ro, 0, false, 0⟩
def CORE_PC.BANK : Fld := ⟨0x30014, 16, 1, .ro, 0, false, 0⟩
def CORE_PC.reg : RegSpec := ⟨0x30014, 0, 1, .core, [CORE_PC.PC, CORE_PC.BANK]⟩
/-! CORE_SHARE (offset 0x30018, R86, 03_stripe_core.md). -/
def CORE_SHARE.STREAM : Fld := ⟨0x30018, 0, 5, .ro, 0, false, 0⟩
def CORE_SHARE.KIND : Fld := ⟨0x30018, 8, 2, .ro, 0, false, 0⟩
def CORE_SHARE.reg : RegSpec := ⟨0x30018, 0, 1, .core, [CORE_SHARE.STREAM, CORE_SHARE.KIND]⟩
/-! CORE_STRIPE (offset 0x3001C, R86, 03_stripe_core.md). -/
def CORE_STRIPE.STRIPE : Fld := ⟨0x3001C, 0, 32, .ro, 0, false, 0⟩
def CORE_STRIPE.reg : RegSpec := ⟨0x3001C, 0, 1, .core, [CORE_STRIPE.STRIPE]⟩
/-! CORE_ALARM (offset 0x30020, R86, 03_stripe_core.md). -/
def CORE_ALARM.RESIDUE_MAC : Fld := ⟨0x30020, 0, 1, .rw1c, 0, false, 0⟩
def CORE_ALARM.RESIDUE_VEC : Fld := ⟨0x30020, 1, 1, .rw1c, 0, false, 0⟩
def CORE_ALARM.ACC_STORE : Fld := ⟨0x30020, 2, 1, .rw1c, 0, false, 0⟩
def CORE_ALARM.PARITY_LUT : Fld := ⟨0x30020, 3, 1, .rw1c, 0, false, 0⟩
def CORE_ALARM.ECC_CORR : Fld := ⟨0x30020, 4, 1, .rw1c, 0, false, 0⟩
def CORE_ALARM.ECC_UNCORR : Fld := ⟨0x30020, 5, 1, .rw1c, 0, false, 0⟩
def CORE_ALARM.DISPATCH_REFUSED : Fld := ⟨0x30020, 6, 1, .rw1c, 0, false, 0⟩
def CORE_ALARM.BANK_WRITE : Fld := ⟨0x30020, 7, 1, .rw1c, 0, false, 0⟩
def CORE_ALARM.ACC_OVERFLOW : Fld := ⟨0x30020, 8, 1, .rw1c, 0, false, 0⟩
def CORE_ALARM.ACC_FORMAT : Fld := ⟨0x30020, 9, 1, .rw1c, 0, false, 0⟩
def CORE_ALARM.POISON_IN : Fld := ⟨0x30020, 10, 1, .rw1c, 0, false, 0⟩
def CORE_ALARM.reg : RegSpec := ⟨0x30020, 0, 1, .core, [CORE_ALARM.RESIDUE_MAC, CORE_ALARM.RESIDUE_VEC, CORE_ALARM.ACC_STORE, CORE_ALARM.PARITY_LUT, CORE_ALARM.ECC_CORR, CORE_ALARM.ECC_UNCORR, CORE_ALARM.DISPATCH_REFUSED, CORE_ALARM.BANK_WRITE, CORE_ALARM.ACC_OVERFLOW, CORE_ALARM.ACC_FORMAT, CORE_ALARM.POISON_IN]⟩
/-! CORE_FAULT (offset 0x30024, R86, 03_stripe_core.md). -/
def CORE_FAULT.CODE : Fld := ⟨0x30024, 0, 16, .ro, 0, false, 0⟩
def CORE_FAULT.PC : Fld := ⟨0x30024, 16, 12, .ro, 0, false, 0⟩
def CORE_FAULT.BANK : Fld := ⟨0x30024, 28, 1, .ro, 0, false, 0⟩
def CORE_FAULT.CAUSE : Fld := ⟨0x30024, 29, 3, .ro, 0, false, 0⟩
def CORE_FAULT.reg : RegSpec := ⟨0x30024, 0, 1, .core, [CORE_FAULT.CODE, CORE_FAULT.PC, CORE_FAULT.BANK, CORE_FAULT.CAUSE]⟩
/-! CORE_EVENTS (offset 0x30028, R300, 11_fault_containment.md). -/
def CORE_EVENTS.COUNT : Fld := ⟨0x30028, 0, 2, .ro, 0, false, 0⟩
def CORE_EVENTS.HOURS_QUIET : Fld := ⟨0x30028, 8, 5, .ro, 0, false, 0⟩
def CORE_EVENTS.reg : RegSpec := ⟨0x30028, 0, 1, .core, [CORE_EVENTS.COUNT, CORE_EVENTS.HOURS_QUIET]⟩
/-! CORE_CNT_SAT (offset 0x30030, R86, 03_stripe_core.md). -/
def CORE_CNT_SAT.COUNT : Fld := ⟨0x30030, 0, 32, .ro, 0, false, 0⟩
def CORE_CNT_SAT.reg : RegSpec := ⟨0x30030, 0, 1, .core, [CORE_CNT_SAT.COUNT]⟩
/-! CORE_CNT_NANINF (offset 0x30034, R86, 03_stripe_core.md). -/
def CORE_CNT_NANINF.COUNT : Fld := ⟨0x30034, 0, 32, .ro, 0, false, 0⟩
def CORE_CNT_NANINF.reg : RegSpec := ⟨0x30034, 0, 1, .core, [CORE_CNT_NANINF.COUNT]⟩
/-! CORE_CNT_RESIDUE (offset 0x30038, R86, 03_stripe_core.md). -/
def CORE_CNT_RESIDUE.COUNT : Fld := ⟨0x30038, 0, 32, .ro, 0, false, 0⟩
def CORE_CNT_RESIDUE.reg : RegSpec := ⟨0x30038, 0, 1, .core, [CORE_CNT_RESIDUE.COUNT]⟩
/-! CORE_CNT_ECC_CORR (offset 0x3003C, R86, 03_stripe_core.md). -/
def CORE_CNT_ECC_CORR.COUNT : Fld := ⟨0x3003C, 0, 32, .ro, 0, false, 0⟩
def CORE_CNT_ECC_CORR.reg : RegSpec := ⟨0x3003C, 0, 1, .core, [CORE_CNT_ECC_CORR.COUNT]⟩
/-! CORE_CNT_ECC_UNCORR (offset 0x30040, R86, 03_stripe_core.md). -/
def CORE_CNT_ECC_UNCORR.COUNT : Fld := ⟨0x30040, 0, 32, .ro, 0, false, 0⟩
def CORE_CNT_ECC_UNCORR.reg : RegSpec := ⟨0x30040, 0, 1, .core, [CORE_CNT_ECC_UNCORR.COUNT]⟩
/-! CORE_CNT_SHARES (offset 0x30044, R86, 03_stripe_core.md). -/
def CORE_CNT_SHARES.COUNT : Fld := ⟨0x30044, 0, 32, .ro, 0, false, 0⟩
def CORE_CNT_SHARES.reg : RegSpec := ⟨0x30044, 0, 1, .core, [CORE_CNT_SHARES.COUNT]⟩
/-! CORE_CNT_REPLAYS (offset 0x30048, R86, 03_stripe_core.md). -/
def CORE_CNT_REPLAYS.COUNT : Fld := ⟨0x30048, 0, 32, .ro, 0, false, 0⟩
def CORE_CNT_REPLAYS.reg : RegSpec := ⟨0x30048, 0, 1, .core, [CORE_CNT_REPLAYS.COUNT]⟩
/-! CORE_CNT_ALARMS (offset 0x3004C, R86, 03_stripe_core.md). -/
def CORE_CNT_ALARMS.COUNT : Fld := ⟨0x3004C, 0, 32, .ro, 0, false, 0⟩
def CORE_CNT_ALARMS.reg : RegSpec := ⟨0x3004C, 0, 1, .core, [CORE_CNT_ALARMS.COUNT]⟩
/-! CORE_CNT_STEPS_LO (offset 0x30050, R86, 03_stripe_core.md). -/
def CORE_CNT_STEPS_LO.COUNT : Fld := ⟨0x30050, 0, 32, .ro, 0, false, 0⟩
def CORE_CNT_STEPS_LO.reg : RegSpec := ⟨0x30050, 0, 1, .core, [CORE_CNT_STEPS_LO.COUNT]⟩
/-! CORE_CNT_STEPS_HI (offset 0x30054, R86, 03_stripe_core.md). -/
def CORE_CNT_STEPS_HI.COUNT : Fld := ⟨0x30054, 0, 32, .ro, 0, false, 0⟩
def CORE_CNT_STEPS_HI.reg : RegSpec := ⟨0x30054, 0, 1, .core, [CORE_CNT_STEPS_HI.COUNT]⟩
/-! CLU_MARGIN (offset 0x30100, R86, 03_stripe_core.md). -/
def CLU_MARGIN.BASE : Fld := ⟨0x30100, 0, 3, .rw, 3, false, 0⟩
def CLU_MARGIN.SUSPECT : Fld := ⟨0x30100, 4, 2, .rw, 0, false, 0⟩
def CLU_MARGIN.EFFECTIVE : Fld := ⟨0x30100, 8, 3, .ro, 3, false, 0⟩
def CLU_MARGIN.AT_MAX : Fld := ⟨0x30100, 11, 1, .rw1c, 0, false, 0⟩
def CLU_MARGIN.reg : RegSpec := ⟨0x30100, 0, 1, .cluster, [CLU_MARGIN.BASE, CLU_MARGIN.SUSPECT, CLU_MARGIN.EFFECTIVE, CLU_MARGIN.AT_MAX]⟩
/-! CLU_INFO (offset 0x30104, R86, 03_stripe_core.md). -/
def CLU_INFO.IN_SERVICE : Fld := ⟨0x30104, 0, 8, .ro, 0, false, 0⟩
def CLU_INFO.SUSPECT_MASK : Fld := ⟨0x30104, 8, 8, .ro, 0, false, 0⟩
def CLU_INFO.RETIRED_MASK : Fld := ⟨0x30104, 16, 8, .ro, 0, false, 0⟩
def CLU_INFO.reg : RegSpec := ⟨0x30104, 0, 1, .cluster, [CLU_INFO.IN_SERVICE, CLU_INFO.SUSPECT_MASK, CLU_INFO.RETIRED_MASK]⟩
/-! SPAD_CFG (offset 0x30200, R171, 06_scratchpad_rings.md). -/
def SPAD_CFG.GROUP_EN : Fld := ⟨0x30200, 0, 4, .rw, 15, true, 0⟩
def SPAD_CFG.WDOG_16THS : Fld := ⟨0x30200, 8, 5, .rw, 16, true, 0⟩
def SPAD_CFG.reg : RegSpec := ⟨0x30200, 0, 1, .core, [SPAD_CFG.GROUP_EN, SPAD_CFG.WDOG_16THS]⟩
/-! SPAD_PWR_STATUS (offset 0x30204, R171, 06_scratchpad_rings.md). -/
def SPAD_PWR_STATUS.GROUP_STATE : Fld := ⟨0x30204, 0, 8, .ro, 0, false, 0⟩
def SPAD_PWR_STATUS.REENABLE_PENDING : Fld := ⟨0x30204, 8, 4, .ro, 0, false, 0⟩
def SPAD_PWR_STATUS.REMAP_BUSY : Fld := ⟨0x30204, 12, 1, .ro, 0, false, 0⟩
def SPAD_PWR_STATUS.reg : RegSpec := ⟨0x30204, 0, 1, .core, [SPAD_PWR_STATUS.GROUP_STATE, SPAD_PWR_STATUS.REENABLE_PENDING, SPAD_PWR_STATUS.REMAP_BUSY]⟩
/-! SPAD_HAZARD (offset 0x30208, R171, 06_scratchpad_rings.md). -/
def SPAD_HAZARD.COUNT : Fld := ⟨0x30208, 0, 16, .ro, 0, true, 0⟩
def SPAD_HAZARD.CLEAR : Fld := ⟨0x30208, 31, 1, .wo, 0, true, 0⟩
def SPAD_HAZARD.reg : RegSpec := ⟨0x30208, 0, 1, .core, [SPAD_HAZARD.COUNT, SPAD_HAZARD.CLEAR]⟩
/-! SPAD_HAZARD_ADDR (offset 0x3020C, R171, 06_scratchpad_rings.md). -/
def SPAD_HAZARD_ADDR.WORD : Fld := ⟨0x3020C, 0, 14, .ro, 0, false, 0⟩
def SPAD_HAZARD_ADDR.SLOT_A : Fld := ⟨0x3020C, 16, 3, .ro, 0, false, 0⟩
def SPAD_HAZARD_ADDR.SLOT_B : Fld := ⟨0x3020C, 20, 3, .ro, 0, false, 0⟩
def SPAD_HAZARD_ADDR.KIND : Fld := ⟨0x3020C, 23, 1, .ro, 0, false, 0⟩
def SPAD_HAZARD_ADDR.VALID : Fld := ⟨0x3020C, 31, 1, .ro, 0, false, 0⟩
def SPAD_HAZARD_ADDR.reg : RegSpec := ⟨0x3020C, 0, 1, .core, [SPAD_HAZARD_ADDR.WORD, SPAD_HAZARD_ADDR.SLOT_A, SPAD_HAZARD_ADDR.SLOT_B, SPAD_HAZARD_ADDR.KIND, SPAD_HAZARD_ADDR.VALID]⟩
/-! SPAD_ERR (offset 0x30210, R171, 06_scratchpad_rings.md). -/
def SPAD_ERR.RING_RD_WDOG : Fld := ⟨0x30210, 0, 1, .rw1c, 0, false, 0⟩
def SPAD_ERR.RING_WR_WDOG : Fld := ⟨0x30210, 1, 1, .rw1c, 0, false, 0⟩
def SPAD_ERR.CNT_WDOG : Fld := ⟨0x30210, 2, 1, .rw1c, 0, false, 0⟩
def SPAD_ERR.PARITY : Fld := ⟨0x30210, 3, 1, .rw1c, 0, false, 0⟩
def SPAD_ERR.REMAPPED : Fld := ⟨0x30210, 4, 1, .rw1c, 0, false, 0⟩
def SPAD_ERR.SPARES_OUT : Fld := ⟨0x30210, 5, 1, .rw1c, 0, false, 0⟩
def SPAD_ERR.CTRL_REFUSED : Fld := ⟨0x30210, 6, 1, .rw1c, 0, false, 0⟩
def SPAD_ERR.RING_REFUSED : Fld := ⟨0x30210, 7, 1, .rw1c, 0, false, 0⟩
def SPAD_ERR.HAZARD : Fld := ⟨0x30210, 8, 1, .rw1c, 0, false, 0⟩
def SPAD_ERR.STATE_ECC : Fld := ⟨0x30210, 9, 1, .rw1c, 0, false, 0⟩
def SPAD_ERR.reg : RegSpec := ⟨0x30210, 0, 1, .core, [SPAD_ERR.RING_RD_WDOG, SPAD_ERR.RING_WR_WDOG, SPAD_ERR.CNT_WDOG, SPAD_ERR.PARITY, SPAD_ERR.REMAPPED, SPAD_ERR.SPARES_OUT, SPAD_ERR.CTRL_REFUSED, SPAD_ERR.RING_REFUSED, SPAD_ERR.HAZARD, SPAD_ERR.STATE_ECC]⟩
/-! SPAD_CNT_PARITY (offset 0x30214, R171, 06_scratchpad_rings.md). -/
def SPAD_CNT_PARITY.COUNT : Fld := ⟨0x30214, 0, 32, .ro, 0, false, 0⟩
def SPAD_CNT_PARITY.reg : RegSpec := ⟨0x30214, 0, 1, .core, [SPAD_CNT_PARITY.COUNT]⟩
/-! SPAD_REMAP (offset 0x30218, R171, 06_scratchpad_rings.md). -/
def SPAD_REMAP.BANK : Fld := ⟨0x30218, 0, 5, .wo, 0, true, 0⟩
def SPAD_REMAP.ROW : Fld := ⟨0x30218, 8, 9, .wo, 0, true, 0⟩
def SPAD_REMAP.ENTRY : Fld := ⟨0x30218, 24, 3, .wo, 0, true, 0⟩
def SPAD_REMAP.GO : Fld := ⟨0x30218, 31, 1, .wo, 0, true, 0⟩
def SPAD_REMAP.reg : RegSpec := ⟨0x30218, 0, 1, .core, [SPAD_REMAP.BANK, SPAD_REMAP.ROW, SPAD_REMAP.ENTRY, SPAD_REMAP.GO]⟩
/-! SPAD_RING_CFG0 (offset 0x30400, R171, 06_scratchpad_rings.md). -/
def SPAD_RING_CFG0.BASE : Fld := ⟨0x30400, 0, 14, .rw, 0, true, 0⟩
def SPAD_RING_CFG0.SLOT_WM1 : Fld := ⟨0x30400, 16, 3, .rw, 0, true, 0⟩
def SPAD_RING_CFG0.EN : Fld := ⟨0x30400, 31, 1, .rw, 0, true, 0⟩
def SPAD_RING_CFG0.reg : RegSpec := ⟨0x30400, 16, 16, .core, [SPAD_RING_CFG0.BASE, SPAD_RING_CFG0.SLOT_WM1, SPAD_RING_CFG0.EN]⟩
/-! SPAD_RING_CFG1 (offset 0x30404, R171, 06_scratchpad_rings.md). -/
def SPAD_RING_CFG1.COUNT : Fld := ⟨0x30404, 0, 12, .rw, 0, true, 0⟩
def SPAD_RING_CFG1.MIRROR : Fld := ⟨0x30404, 12, 8, .rw, 0, true, 0⟩
def SPAD_RING_CFG1.PRODUCER : Fld := ⟨0x30404, 20, 7, .rw, 0, true, 0⟩
def SPAD_RING_CFG1.PKIND : Fld := ⟨0x30404, 27, 1, .rw, 0, true, 0⟩
def SPAD_RING_CFG1.reg : RegSpec := ⟨0x30404, 16, 16, .core, [SPAD_RING_CFG1.COUNT, SPAD_RING_CFG1.MIRROR, SPAD_RING_CFG1.PRODUCER, SPAD_RING_CFG1.PKIND]⟩
/-! SPAD_RING_STATE (offset 0x30408, R171, 06_scratchpad_rings.md). -/
def SPAD_RING_STATE.HEAD : Fld := ⟨0x30408, 0, 12, .rw, 0, true, 0⟩
def SPAD_RING_STATE.FILL : Fld := ⟨0x30408, 12, 12, .rw, 0, true, 0⟩
def SPAD_RING_STATE.WAIT_RD : Fld := ⟨0x30408, 24, 1, .ro, 0, true, 0⟩
def SPAD_RING_STATE.WAIT_WR : Fld := ⟨0x30408, 25, 1, .ro, 0, true, 0⟩
def SPAD_RING_STATE.BOUND_CONS : Fld := ⟨0x30408, 26, 1, .ro, 0, true, 0⟩
def SPAD_RING_STATE.BOUND_PROD : Fld := ⟨0x30408, 27, 1, .ro, 0, true, 0⟩
def SPAD_RING_STATE.reg : RegSpec := ⟨0x30408, 16, 16, .core, [SPAD_RING_STATE.HEAD, SPAD_RING_STATE.FILL, SPAD_RING_STATE.WAIT_RD, SPAD_RING_STATE.WAIT_WR, SPAD_RING_STATE.BOUND_CONS, SPAD_RING_STATE.BOUND_PROD]⟩
/-! SPAD_CNT (offset 0x30600, R171, 06_scratchpad_rings.md). -/
def SPAD_CNT.VALUE : Fld := ⟨0x30600, 0, 24, .rw, 0, true, 0⟩
def SPAD_CNT.reg : RegSpec := ⟨0x30600, 4, 32, .core, [SPAD_CNT.VALUE]⟩
/-! SPAD_ROWMAP (offset 0x30800, R171, 06_scratchpad_rings.md). -/
def SPAD_ROWMAP.ROW : Fld := ⟨0x30800, 0, 9, .rw, 0, true, 0⟩
def SPAD_ROWMAP.SPARE_BAD : Fld := ⟨0x30800, 14, 1, .ro, 0, true, 0⟩
def SPAD_ROWMAP.VALID : Fld := ⟨0x30800, 15, 1, .rw, 0, true, 0⟩
def SPAD_ROWMAP.SOURCE : Fld := ⟨0x30800, 16, 2, .ro, 0, true, 0⟩
def SPAD_ROWMAP.reg : RegSpec := ⟨0x30800, 4, 256, .core, [SPAD_ROWMAP.ROW, SPAD_ROWMAP.SPARE_BAD, SPAD_ROWMAP.VALID, SPAD_ROWMAP.SOURCE]⟩
/-! ZL_ID (offset 0x40000, R326, 12_zehorn_pair.md). -/
def ZL_ID.LINK : Fld := ⟨0x40000, 0, 2, .ro, 0, false, 0⟩
def ZL_ID.PRESENT : Fld := ⟨0x40000, 2, 1, .ro, 1, false, 0⟩
def ZL_ID.VERSION : Fld := ⟨0x40000, 16, 4, .ro, 1, false, 0⟩
def ZL_ID.GEN_MAX : Fld := ⟨0x40000, 20, 4, .ro, 2, false, 0⟩
def ZL_ID.reg : RegSpec := ⟨0x40000, 0, 1, .link, [ZL_ID.LINK, ZL_ID.PRESENT, ZL_ID.VERSION, ZL_ID.GEN_MAX]⟩
/-! ZL_CTRL (offset 0x40004, R326, 12_zehorn_pair.md). -/
def ZL_CTRL.EN : Fld := ⟨0x40004, 0, 1, .rw, 0, true, 0⟩
def ZL_CTRL.MODE : Fld := ⟨0x40004, 1, 2, .rw, 0, true, 0⟩
def ZL_CTRL.GEN_LIMIT : Fld := ⟨0x40004, 3, 2, .rw, 2, true, 0⟩
def ZL_CTRL.reg : RegSpec := ⟨0x40004, 0, 1, .link, [ZL_CTRL.EN, ZL_CTRL.MODE, ZL_CTRL.GEN_LIMIT]⟩
/-! ZL_STATUS (offset 0x40008, R326, 12_zehorn_pair.md). -/
def ZL_STATUS.STATE : Fld := ⟨0x40008, 0, 3, .ro, 0, false, 0⟩
def ZL_STATUS.GEN : Fld := ⟨0x40008, 3, 2, .ro, 0, false, 0⟩
def ZL_STATUS.LEVEL : Fld := ⟨0x40008, 5, 4, .ro, 0, false, 0⟩
def ZL_STATUS.LANES : Fld := ⟨0x40008, 9, 8, .ro, 0, false, 0⟩
def ZL_STATUS.CFG_REJECT : Fld := ⟨0x40008, 17, 1, .rw1c, 0, false, 0⟩
def ZL_STATUS.reg : RegSpec := ⟨0x40008, 0, 1, .link, [ZL_STATUS.STATE, ZL_STATUS.GEN, ZL_STATUS.LEVEL, ZL_STATUS.LANES, ZL_STATUS.CFG_REJECT]⟩
/-! ZL_PEER_ID_LO (offset 0x4000C, R326, 12_zehorn_pair.md). -/
def ZL_PEER_ID_LO.ID : Fld := ⟨0x4000C, 0, 32, .ro, 0, false, 0⟩
def ZL_PEER_ID_LO.reg : RegSpec := ⟨0x4000C, 0, 1, .link, [ZL_PEER_ID_LO.ID]⟩
/-! ZL_PEER_ID_HI (offset 0x40010, R326, 12_zehorn_pair.md). -/
def ZL_PEER_ID_HI.ID : Fld := ⟨0x40010, 0, 32, .ro, 0, false, 0⟩
def ZL_PEER_ID_HI.reg : RegSpec := ⟨0x40010, 0, 1, .link, [ZL_PEER_ID_HI.ID]⟩
/-! ZL_LATENCY (offset 0x40014, R326, 12_zehorn_pair.md). -/
def ZL_LATENCY.NS : Fld := ⟨0x40014, 0, 16, .ro, 0, false, 0⟩
def ZL_LATENCY.reg : RegSpec := ⟨0x40014, 0, 1, .link, [ZL_LATENCY.NS]⟩
/-! ZL_CNT_CRC (offset 0x40020, R326, 12_zehorn_pair.md). -/
def ZL_CNT_CRC.COUNT : Fld := ⟨0x40020, 0, 32, .ro, 0, false, 0⟩
def ZL_CNT_CRC.reg : RegSpec := ⟨0x40020, 0, 1, .link, [ZL_CNT_CRC.COUNT]⟩
/-! ZL_CNT_REPLAY (offset 0x40024, R326, 12_zehorn_pair.md). -/
def ZL_CNT_REPLAY.COUNT : Fld := ⟨0x40024, 0, 32, .ro, 0, false, 0⟩
def ZL_CNT_REPLAY.reg : RegSpec := ⟨0x40024, 0, 1, .link, [ZL_CNT_REPLAY.COUNT]⟩
/-! ZL_CNT_FWD (offset 0x40028, R326, 12_zehorn_pair.md). -/
def ZL_CNT_FWD.COUNT : Fld := ⟨0x40028, 0, 32, .ro, 0, false, 0⟩
def ZL_CNT_FWD.reg : RegSpec := ⟨0x40028, 0, 1, .link, [ZL_CNT_FWD.COUNT]⟩
/-! ZL_CNT_DROP (offset 0x4002C, R326, 12_zehorn_pair.md). -/
def ZL_CNT_DROP.COUNT : Fld := ⟨0x4002C, 0, 32, .ro, 0, false, 0⟩
def ZL_CNT_DROP.reg : RegSpec := ⟨0x4002C, 0, 1, .link, [ZL_CNT_DROP.COUNT]⟩
/-! ZP_CTRL (offset 0x40100, R326, 12_zehorn_pair.md). -/
def ZP_CTRL.PREFER : Fld := ⟨0x40100, 0, 1, .rw, 0, false, 0⟩
def ZP_CTRL.ROLE_OUT : Fld := ⟨0x40100, 1, 1, .rw, 0, false, 0⟩
def ZP_CTRL.SWAP : Fld := ⟨0x40100, 2, 1, .wo, 0, true, 0⟩
def ZP_CTRL.reg : RegSpec := ⟨0x40100, 0, 1, .once, [ZP_CTRL.PREFER, ZP_CTRL.ROLE_OUT, ZP_CTRL.SWAP]⟩
/-! ZP_STATUS (offset 0x40104, R326, 12_zehorn_pair.md). -/
def ZP_STATUS.ROLE : Fld := ⟨0x40104, 0, 2, .ro, 0, false, 0⟩
def ZP_STATUS.MEMBER : Fld := ⟨0x40104, 2, 1, .ro, 0, false, 0⟩
def ZP_STATUS.PARTNER : Fld := ⟨0x40104, 3, 1, .ro, 0, false, 0⟩
def ZP_STATUS.VOTING : Fld := ⟨0x40104, 4, 1, .ro, 0, false, 0⟩
def ZP_STATUS.reg : RegSpec := ⟨0x40104, 0, 1, .once, [ZP_STATUS.ROLE, ZP_STATUS.MEMBER, ZP_STATUS.PARTNER, ZP_STATUS.VOTING]⟩
/-! ZP_LAST_CHANGE (offset 0x40108, R326, 12_zehorn_pair.md). -/
def ZP_LAST_CHANGE.STRIPE : Fld := ⟨0x40108, 0, 32, .ro, 0, false, 0⟩
def ZP_LAST_CHANGE.reg : RegSpec := ⟨0x40108, 0, 1, .once, [ZP_LAST_CHANGE.STRIPE]⟩
/-! ZP_CNT_MISMATCH (offset 0x40110, R326, 12_zehorn_pair.md). -/
def ZP_CNT_MISMATCH.COUNT : Fld := ⟨0x40110, 0, 32, .ro, 0, false, 0⟩
def ZP_CNT_MISMATCH.reg : RegSpec := ⟨0x40110, 0, 1, .once, [ZP_CNT_MISMATCH.COUNT]⟩
/-! ZP_CNT_VOTE_OWN (offset 0x40114, R326, 12_zehorn_pair.md). -/
def ZP_CNT_VOTE_OWN.COUNT : Fld := ⟨0x40114, 0, 32, .ro, 0, false, 0⟩
def ZP_CNT_VOTE_OWN.reg : RegSpec := ⟨0x40114, 0, 1, .once, [ZP_CNT_VOTE_OWN.COUNT]⟩
/-! ZP_CNT_RETRACT (offset 0x40118, R326, 12_zehorn_pair.md). -/
def ZP_CNT_RETRACT.COUNT : Fld := ⟨0x40118, 0, 32, .ro, 0, false, 0⟩
def ZP_CNT_RETRACT.reg : RegSpec := ⟨0x40118, 0, 1, .once, [ZP_CNT_RETRACT.COUNT]⟩
/-! ZP_CNT_TAKEOVER (offset 0x4011C, R326, 12_zehorn_pair.md). -/
def ZP_CNT_TAKEOVER.COUNT : Fld := ⟨0x4011C, 0, 32, .ro, 0, false, 0⟩
def ZP_CNT_TAKEOVER.reg : RegSpec := ⟨0x4011C, 0, 1, .once, [ZP_CNT_TAKEOVER.COUNT]⟩
/-! ZR_CTRL (offset 0x40180, R326, 12_zehorn_pair.md). -/
def ZR_CTRL.NODE : Fld := ⟨0x40180, 0, 3, .rw, 0, true, 0⟩
def ZR_CTRL.reg : RegSpec := ⟨0x40180, 0, 1, .once, [ZR_CTRL.NODE]⟩
/-! ZR_STATUS (offset 0x40184, R326, 12_zehorn_pair.md). -/
def ZR_STATUS.NODES : Fld := ⟨0x40184, 0, 8, .ro, 0, false, 0⟩
def ZR_STATUS.DUPLICATE : Fld := ⟨0x40184, 8, 1, .rw1c, 0, false, 0⟩
def ZR_STATUS.reg : RegSpec := ⟨0x40184, 0, 1, .once, [ZR_STATUS.NODES, ZR_STATUS.DUPLICATE]⟩
/-! CAL_TBLSEL (offset 0x50000, R348, 13_calibration_life.md). -/
def CAL_TBLSEL.STREAM : Fld := ⟨0x50000, 0, 5, .rw, 0, false, 0⟩
def CAL_TBLSEL.TABLE : Fld := ⟨0x50000, 5, 5, .rw, 0, false, 0⟩
def CAL_TBLSEL.BANK : Fld := ⟨0x50000, 10, 2, .rw, 0, false, 0⟩
def CAL_TBLSEL.PAGE : Fld := ⟨0x50000, 12, 4, .rw, 0, false, 0⟩
def CAL_TBLSEL.reg : RegSpec := ⟨0x50000, 0, 1, .own, [CAL_TBLSEL.STREAM, CAL_TBLSEL.TABLE, CAL_TBLSEL.BANK, CAL_TBLSEL.PAGE]⟩
/-! CAL_CTRL (offset 0x50004, R348, 13_calibration_life.md). -/
def CAL_CTRL.COMMIT : Fld := ⟨0x50004, 0, 1, .wo, 0, true, 0⟩
def CAL_CTRL.DISCARD : Fld := ⟨0x50004, 1, 1, .wo, 0, true, 0⟩
def CAL_CTRL.RUN : Fld := ⟨0x50004, 2, 1, .wo, 0, true, 0⟩
def CAL_CTRL.KIND : Fld := ⟨0x50004, 3, 2, .rw, 0, false, 0⟩
def CAL_CTRL.AUTO_COMMIT : Fld := ⟨0x50004, 5, 1, .rw, 0, false, 0⟩
def CAL_CTRL.COUNT : Fld := ⟨0x50004, 8, 16, .rw, 1024, false, 0⟩
def CAL_CTRL.reg : RegSpec := ⟨0x50004, 0, 1, .calStrm, [CAL_CTRL.COMMIT, CAL_CTRL.DISCARD, CAL_CTRL.RUN, CAL_CTRL.KIND, CAL_CTRL.AUTO_COMMIT, CAL_CTRL.COUNT]⟩
/-! CAL_STATUS (offset 0x50008, R348, 13_calibration_life.md). -/
def CAL_STATUS.STATE : Fld := ⟨0x50008, 0, 3, .ro, 0, false, 0⟩
def CAL_STATUS.REFUSED : Fld := ⟨0x50008, 3, 1, .rw1c, 0, false, 0⟩
def CAL_STATUS.CFG_REJECT : Fld := ⟨0x50008, 4, 1, .rw1c, 0, false, 0⟩
def CAL_STATUS.FAIL_TABLE : Fld := ⟨0x50008, 5, 5, .ro, 0, false, 0⟩
def CAL_STATUS.FAIL_CHECK : Fld := ⟨0x50008, 10, 4, .ro, 0, false, 0⟩
def CAL_STATUS.reg : RegSpec := ⟨0x50008, 0, 1, .calStrm, [CAL_STATUS.STATE, CAL_STATUS.REFUSED, CAL_STATUS.CFG_REJECT, CAL_STATUS.FAIL_TABLE, CAL_STATUS.FAIL_CHECK]⟩
/-! CAL_FAIL_INDEX (offset 0x5000C, R348, 13_calibration_life.md). -/
def CAL_FAIL_INDEX.INDEX : Fld := ⟨0x5000C, 0, 32, .ro, 0, false, 0⟩
def CAL_FAIL_INDEX.reg : RegSpec := ⟨0x5000C, 0, 1, .calStrm, [CAL_FAIL_INDEX.INDEX]⟩
/-! CAL_SET_ID (offset 0x50010, R348, 13_calibration_life.md). -/
def CAL_SET_ID.ID : Fld := ⟨0x50010, 0, 32, .ro, 0, false, 0⟩
def CAL_SET_ID.reg : RegSpec := ⟨0x50010, 0, 1, .calStrm, [CAL_SET_ID.ID]⟩
/-! CAL_EFFECT_STRIPE (offset 0x50014, R348, 13_calibration_life.md). -/
def CAL_EFFECT_STRIPE.STRIPE : Fld := ⟨0x50014, 0, 32, .ro, 0, false, 0⟩
def CAL_EFFECT_STRIPE.reg : RegSpec := ⟨0x50014, 0, 1, .calStrm, [CAL_EFFECT_STRIPE.STRIPE]⟩
/-! CAL_BLEND (offset 0x50018, R348, 13_calibration_life.md). -/
def CAL_BLEND.LINES : Fld := ⟨0x50018, 0, 16, .rw, 4096, false, 0⟩
def CAL_BLEND.reg : RegSpec := ⟨0x50018, 0, 1, .calStrm, [CAL_BLEND.LINES]⟩
/-! CAL_BLEND_POS (offset 0x5001C, R348, 13_calibration_life.md). -/
def CAL_BLEND_POS.RF_J : Fld := ⟨0x5001C, 0, 16, .ro, 0, false, 0⟩
def CAL_BLEND_POS.PB_J : Fld := ⟨0x5001C, 16, 16, .ro, 0, false, 0⟩
def CAL_BLEND_POS.reg : RegSpec := ⟨0x5001C, 0, 1, .calStrm, [CAL_BLEND_POS.RF_J, CAL_BLEND_POS.PB_J]⟩
/-! CAL_LIM_GAIN (offset 0x50020, R348, 13_calibration_life.md). -/
def CAL_LIM_GAIN.MIN : Fld := ⟨0x50020, 0, 16, .rw, 13107, true, 0⟩
def CAL_LIM_GAIN.MAX : Fld := ⟨0x50020, 16, 16, .rw, 20480, true, 0⟩
def CAL_LIM_GAIN.reg : RegSpec := ⟨0x50020, 0, 1, .calStrm, [CAL_LIM_GAIN.MIN, CAL_LIM_GAIN.MAX]⟩
/-! CAL_LIM_LEVEL (offset 0x50024, R348, 13_calibration_life.md). -/
def CAL_LIM_LEVEL.BLACK_MAX : Fld := ⟨0x50024, 0, 15, .rw, 8192, true, 0⟩
def CAL_LIM_LEVEL.OFFSET_MAX : Fld := ⟨0x50024, 16, 14, .rw, 2048, true, 0⟩
def CAL_LIM_LEVEL.reg : RegSpec := ⟨0x50024, 0, 1, .calStrm, [CAL_LIM_LEVEL.BLACK_MAX, CAL_LIM_LEVEL.OFFSET_MAX]⟩
/-! CAL_LIM_SHADE (offset 0x50028, R348, 13_calibration_life.md). -/
def CAL_LIM_SHADE.MIN : Fld := ⟨0x50028, 0, 16, .rw, 12288, true, 0⟩
def CAL_LIM_SHADE.MAX : Fld := ⟨0x50028, 16, 16, .rw, 32768, true, 0⟩
def CAL_LIM_SHADE.reg : RegSpec := ⟨0x50028, 0, 1, .calStrm, [CAL_LIM_SHADE.MIN, CAL_LIM_SHADE.MAX]⟩
/-! CAL_LIM_MISC (offset 0x5002C, R348, 13_calibration_life.md). -/
def CAL_LIM_MISC.STEP_MAX : Fld := ⟨0x5002C, 0, 14, .rw, 1638, true, 0⟩
def CAL_LIM_MISC.DEFECT_MAX : Fld := ⟨0x5002C, 16, 6, .rw, 20, true, 0⟩
def CAL_LIM_MISC.LUT_MONO : Fld := ⟨0x5002C, 22, 1, .rw, 1, true, 0⟩
def CAL_LIM_MISC.reg : RegSpec := ⟨0x5002C, 0, 1, .calStrm, [CAL_LIM_MISC.STEP_MAX, CAL_LIM_MISC.DEFECT_MAX, CAL_LIM_MISC.LUT_MONO]⟩
/-! CAL_PERSIST (offset 0x50030, R348, 13_calibration_life.md). -/
def CAL_PERSIST.SLOT : Fld := ⟨0x50030, 0, 3, .rw, 0, true, 0⟩
def CAL_PERSIST.EN : Fld := ⟨0x50030, 3, 1, .rw, 0, true, 0⟩
def CAL_PERSIST.reg : RegSpec := ⟨0x50030, 0, 1, .calStrm, [CAL_PERSIST.SLOT, CAL_PERSIST.EN]⟩
/-! CAL_CFA_MAP (offset 0x50034, R348, 13_calibration_life.md). -/
def CAL_CFA_MAP.COLOUR : Fld := ⟨0x50034, 0, 32, .rw, 0, false, 0⟩
def CAL_CFA_MAP.reg : RegSpec := ⟨0x50034, 0, 1, .calStrm, [CAL_CFA_MAP.COLOUR]⟩
/-! CAL_TEMP (offset 0x50400, R348, 13_calibration_life.md). -/
def CAL_TEMP.TEMP : Fld := ⟨0x50400, 0, 16, .ro, 0, false, 0⟩
def CAL_TEMP.OFFSET : Fld := ⟨0x50400, 16, 8, .ro, 0, false, 0⟩
def CAL_TEMP.EXCLUDED : Fld := ⟨0x50400, 24, 1, .ro, 0, false, 0⟩
def CAL_TEMP.reg : RegSpec := ⟨0x50400, 4, 24, .once, [CAL_TEMP.TEMP, CAL_TEMP.OFFSET, CAL_TEMP.EXCLUDED]⟩
/-! CAL_CANARY (offset 0x50480, R348, 13_calibration_life.md). -/
def CAL_CANARY.RHO : Fld := ⟨0x50480, 0, 10, .ro, 0, false, 0⟩
def CAL_CANARY.BASE_REQ : Fld := ⟨0x50480, 10, 3, .ro, 3, false, 0⟩
def CAL_CANARY.reg : RegSpec := ⟨0x50480, 4, 16, .once, [CAL_CANARY.RHO, CAL_CANARY.BASE_REQ]⟩
/-! CAL_CANARY_CTRL (offset 0x50500, R348, 13_calibration_life.md). -/
def CAL_CANARY_CTRL.TARGET : Fld := ⟨0x50500, 0, 6, .rw, 20, true, 0⟩
def CAL_CANARY_CTRL.reg : RegSpec := ⟨0x50500, 0, 1, .once, [CAL_CANARY_CTRL.TARGET]⟩
/-! CAL_SELF_STATUS (offset 0x50504, R348, 13_calibration_life.md). -/
def CAL_SELF_STATUS.REJECTED : Fld := ⟨0x50504, 0, 6, .rw1c, 0, false, 0⟩
def CAL_SELF_STATUS.reg : RegSpec := ⟨0x50504, 0, 1, .once, [CAL_SELF_STATUS.REJECTED]⟩
/-! FLT_LAST (offset 0x60000, R301, 11_fault_containment.md). -/
def FLT_LAST.CODE : Fld := ⟨0x60000, 0, 16, .ro, 0, false, 0⟩
def FLT_LAST.INSTANCE : Fld := ⟨0x60000, 16, 8, .ro, 0, false, 0⟩
def FLT_LAST.reg : RegSpec := ⟨0x60000, 0, 1, .once, [FLT_LAST.CODE, FLT_LAST.INSTANCE]⟩
/-! FLT_CNT_REPLAY (offset 0x60010, R301, 11_fault_containment.md). -/
def FLT_CNT_REPLAY.COUNT : Fld := ⟨0x60010, 0, 32, .ro, 0, false, 0⟩
def FLT_CNT_REPLAY.reg : RegSpec := ⟨0x60010, 0, 1, .once, [FLT_CNT_REPLAY.COUNT]⟩
/-! FLT_CNT_SHADOW (offset 0x60014, R301, 11_fault_containment.md). -/
def FLT_CNT_SHADOW.COUNT : Fld := ⟨0x60014, 0, 32, .ro, 0, false, 0⟩
def FLT_CNT_SHADOW.reg : RegSpec := ⟨0x60014, 0, 1, .once, [FLT_CNT_SHADOW.COUNT]⟩
/-! FLT_CNT_SHADOW_DROP (offset 0x60018, R301, 11_fault_containment.md). -/
def FLT_CNT_SHADOW_DROP.COUNT : Fld := ⟨0x60018, 0, 32, .ro, 0, false, 0⟩
def FLT_CNT_SHADOW_DROP.reg : RegSpec := ⟨0x60018, 0, 1, .once, [FLT_CNT_SHADOW_DROP.COUNT]⟩
/-! FLT_CNT_SLICES (offset 0x6001C, R301, 11_fault_containment.md). -/
def FLT_CNT_SLICES.COUNT : Fld := ⟨0x6001C, 0, 32, .ro, 0, false, 0⟩
def FLT_CNT_SLICES.reg : RegSpec := ⟨0x6001C, 0, 1, .once, [FLT_CNT_SLICES.COUNT]⟩
/-! FLT_CNT_EVENTS (offset 0x60020, R301, 11_fault_containment.md). -/
def FLT_CNT_EVENTS.COUNT : Fld := ⟨0x60020, 0, 32, .ro, 0, false, 0⟩
def FLT_CNT_EVENTS.reg : RegSpec := ⟨0x60020, 0, 1, .once, [FLT_CNT_EVENTS.COUNT]⟩
/-! FLT_CNT_POOL_WAIT (offset 0x60024, R301, 11_fault_containment.md). -/
def FLT_CNT_POOL_WAIT.COUNT : Fld := ⟨0x60024, 0, 32, .ro, 0, false, 0⟩
def FLT_CNT_POOL_WAIT.reg : RegSpec := ⟨0x60024, 0, 1, .once, [FLT_CNT_POOL_WAIT.COUNT]⟩
/-! FLT_CNT_CAPTURE_DROP (offset 0x60028, R301, 11_fault_containment.md). -/
def FLT_CNT_CAPTURE_DROP.COUNT : Fld := ⟨0x60028, 0, 32, .ro, 0, false, 0⟩
def FLT_CNT_CAPTURE_DROP.reg : RegSpec := ⟨0x60028, 0, 1, .once, [FLT_CNT_CAPTURE_DROP.COUNT]⟩
/-! FLT_TEST_STATUS (offset 0x60030, R301, 11_fault_containment.md). -/
def FLT_TEST_STATUS.ROUND : Fld := ⟨0x60030, 0, 8, .ro, 0, false, 0⟩
def FLT_TEST_STATUS.CORE : Fld := ⟨0x60030, 8, 8, .ro, 0, false, 0⟩
def FLT_TEST_STATUS.OVERDUE : Fld := ⟨0x60030, 16, 1, .rw1c, 0, false, 0⟩
def FLT_TEST_STATUS.WITHDRAWN : Fld := ⟨0x60030, 17, 1, .rw1c, 0, false, 0⟩
def FLT_TEST_STATUS.reg : RegSpec := ⟨0x60030, 0, 1, .once, [FLT_TEST_STATUS.ROUND, FLT_TEST_STATUS.CORE, FLT_TEST_STATUS.OVERDUE, FLT_TEST_STATUS.WITHDRAWN]⟩
/-! FLT_CHIME_ID (offset 0x60034, R301, 11_fault_containment.md). -/
def FLT_CHIME_ID.VERSION : Fld := ⟨0x60034, 0, 16, .ro, 0, false, 0⟩
def FLT_CHIME_ID.KERNELS : Fld := ⟨0x60034, 16, 16, .ro, 0, false, 0⟩
def FLT_CHIME_ID.reg : RegSpec := ⟨0x60034, 0, 1, .once, [FLT_CHIME_ID.VERSION, FLT_CHIME_ID.KERNELS]⟩
/-! FLT_CTRL (offset 0x60040, R301, 11_fault_containment.md). -/
def FLT_CTRL.SHADOW_EN : Fld := ⟨0x60040, 0, 1, .rw, 1, false, 0⟩
def FLT_CTRL.TEST_EN : Fld := ⟨0x60040, 1, 1, .rw, 1, false, 0⟩
def FLT_CTRL.reg : RegSpec := ⟨0x60040, 0, 1, .once, [FLT_CTRL.SHADOW_EN, FLT_CTRL.TEST_EN]⟩
/-! SSC_STATE (offset 0x60100, R301, 11_fault_containment.md). -/
def SSC_STATE.SAFE : Fld := ⟨0x60100, 0, 1, .ro, 1, false, 0⟩
def SSC_STATE.SAFE_IN : Fld := ⟨0x60100, 1, 1, .ro, 0, false, 0⟩
def SSC_STATE.LOCKED : Fld := ⟨0x60100, 2, 1, .ro, 0, false, 0⟩
def SSC_STATE.STANDBY : Fld := ⟨0x60100, 3, 1, .ro, 0, false, 0⟩
def SSC_STATE.ENTRIES : Fld := ⟨0x60100, 16, 16, .ro, 0, false, 0⟩
def SSC_STATE.reg : RegSpec := ⟨0x60100, 0, 1, .once, [SSC_STATE.SAFE, SSC_STATE.SAFE_IN, SSC_STATE.LOCKED, SSC_STATE.STANDBY, SSC_STATE.ENTRIES]⟩
/-! SSC_CAUSE (offset 0x60104, R301, 11_fault_containment.md). -/
def SSC_CAUSE.CODE : Fld := ⟨0x60104, 0, 16, .ro, 3340, false, 0⟩
def SSC_CAUSE.reg : RegSpec := ⟨0x60104, 0, 1, .once, [SSC_CAUSE.CODE]⟩
/-! SSC_CAUSE_TICK (offset 0x60108, R301, 11_fault_containment.md). -/
def SSC_CAUSE_TICK.TICK : Fld := ⟨0x60108, 0, 32, .ro, 0, false, 0⟩
def SSC_CAUSE_TICK.reg : RegSpec := ⟨0x60108, 0, 1, .once, [SSC_CAUSE_TICK.TICK]⟩
/-! SSC_SAFE_LEVEL (offset 0x6010C, R301, 11_fault_containment.md). -/
def SSC_SAFE_LEVEL.LEVELS : Fld := ⟨0x6010C, 0, 32, .rw, 2863311530, true, 0⟩
def SSC_SAFE_LEVEL.reg : RegSpec := ⟨0x6010C, 0, 1, .once, [SSC_SAFE_LEVEL.LEVELS]⟩
/-! SSC_LOCK (offset 0x60110, R301, 11_fault_containment.md). -/
def SSC_LOCK.LOCK : Fld := ⟨0x60110, 0, 1, .rw, 0, true, 0⟩
def SSC_LOCK.reg : RegSpec := ⟨0x60110, 0, 1, .once, [SSC_LOCK.LOCK]⟩
/-! SSC_CTRL (offset 0x60114, R301, 11_fault_containment.md). -/
def SSC_CTRL.RELEASE : Fld := ⟨0x60114, 0, 8, .wo, 0, true, 0⟩
def SSC_CTRL.reg : RegSpec := ⟨0x60114, 0, 1, .once, [SSC_CTRL.RELEASE]⟩
/-! SSC_DOUBT (offset 0x60118, R301, 11_fault_containment.md). -/
def SSC_DOUBT.CODE : Fld := ⟨0x60118, 0, 16, .wo, 0, true, 0⟩
def SSC_DOUBT.reg : RegSpec := ⟨0x60118, 0, 1, .once, [SSC_DOUBT.CODE]⟩
/-! SSC_WDOG (offset 0x6011C, R301, 11_fault_containment.md). -/
def SSC_WDOG.KICK : Fld := ⟨0x6011C, 0, 1, .wo, 0, true, 0⟩
def SSC_WDOG.reg : RegSpec := ⟨0x6011C, 0, 1, .once, [SSC_WDOG.KICK]⟩
/-! LIFE_POWERED_LO (offset 0x70000, R349, 13_calibration_life.md). -/
def LIFE_POWERED_LO.SECONDS : Fld := ⟨0x70000, 0, 32, .ro, 0, false, 0⟩
def LIFE_POWERED_LO.reg : RegSpec := ⟨0x70000, 0, 1, .once, [LIFE_POWERED_LO.SECONDS]⟩
/-! LIFE_POWERED_HI (offset 0x70004, R349, 13_calibration_life.md). -/
def LIFE_POWERED_HI.SECONDS : Fld := ⟨0x70004, 0, 32, .ro, 0, false, 0⟩
def LIFE_POWERED_HI.reg : RegSpec := ⟨0x70004, 0, 1, .once, [LIFE_POWERED_HI.SECONDS]⟩
/-! LIFE_CYCLES (offset 0x70008, R349, 13_calibration_life.md). -/
def LIFE_CYCLES.COUNT : Fld := ⟨0x70008, 0, 32, .ro, 0, false, 0⟩
def LIFE_CYCLES.reg : RegSpec := ⟨0x70008, 0, 1, .once, [LIFE_CYCLES.COUNT]⟩
/-! LIFE_PEAK (offset 0x7000C, R349, 13_calibration_life.md). -/
def LIFE_PEAK.TEMP : Fld := ⟨0x7000C, 0, 16, .ro, 0, false, 0⟩
def LIFE_PEAK.SENSOR : Fld := ⟨0x7000C, 16, 5, .ro, 0, false, 0⟩
def LIFE_PEAK.reg : RegSpec := ⟨0x7000C, 0, 1, .once, [LIFE_PEAK.TEMP, LIFE_PEAK.SENSOR]⟩
/-! LIFE_COOLANT (offset 0x70010, R349, 13_calibration_life.md). -/
def LIFE_COOLANT.COUNT : Fld := ⟨0x70010, 0, 32, .ro, 0, false, 0⟩
def LIFE_COOLANT.reg : RegSpec := ⟨0x70010, 0, 1, .once, [LIFE_COOLANT.COUNT]⟩
/-! LIFE_WEAR (offset 0x70014, R349, 13_calibration_life.md). -/
def LIFE_WEAR.PPM : Fld := ⟨0x70014, 0, 32, .ro, 0, false, 0⟩
def LIFE_WEAR.reg : RegSpec := ⟨0x70014, 0, 1, .once, [LIFE_WEAR.PPM]⟩
/-! LIFE_LOG_HEAD (offset 0x70018, R349, 13_calibration_life.md). -/
def LIFE_LOG_HEAD.NEXT : Fld := ⟨0x70018, 0, 12, .ro, 0, false, 0⟩
def LIFE_LOG_HEAD.SEQ : Fld := ⟨0x70018, 12, 20, .ro, 0, false, 0⟩
def LIFE_LOG_HEAD.reg : RegSpec := ⟨0x70018, 0, 1, .once, [LIFE_LOG_HEAD.NEXT, LIFE_LOG_HEAD.SEQ]⟩
/-! LIFE_PAGESEL (offset 0x7001C, R349, 13_calibration_life.md). -/
def LIFE_PAGESEL.PAGE : Fld := ⟨0x7001C, 0, 10, .rw, 0, false, 0⟩
def LIFE_PAGESEL.reg : RegSpec := ⟨0x7001C, 0, 1, .own, [LIFE_PAGESEL.PAGE]⟩
/-! RTC_SECONDS (offset 0x70040, R349, 13_calibration_life.md). -/
def RTC_SECONDS.SECONDS : Fld := ⟨0x70040, 0, 32, .ro, 0, false, 0⟩
def RTC_SECONDS.reg : RegSpec := ⟨0x70040, 0, 1, .once, [RTC_SECONDS.SECONDS]⟩
/-! RTC_SET (offset 0x70044, R349, 13_calibration_life.md). -/
def RTC_SET.SECONDS : Fld := ⟨0x70044, 0, 32, .wo, 0, true, 0⟩
def RTC_SET.reg : RegSpec := ⟨0x70044, 0, 1, .once, [RTC_SET.SECONDS]⟩
/-! RTC_TRIM (offset 0x70048, R349, 13_calibration_life.md). -/
def RTC_TRIM.PPM_Q2 : Fld := ⟨0x70048, 0, 10, .rw, 0, false, 0⟩
def RTC_TRIM.reg : RegSpec := ⟨0x70048, 0, 1, .once, [RTC_TRIM.PPM_Q2]⟩
/-! RTC_STATUS (offset 0x7004C, R349, 13_calibration_life.md). -/
def RTC_STATUS.VALID : Fld := ⟨0x7004C, 0, 1, .ro, 0, false, 0⟩
def RTC_STATUS.reg : RegSpec := ⟨0x7004C, 0, 1, .once, [RTC_STATUS.VALID]⟩
/-! DMS_ID (offset 0x80000, R368, 14_damson_metrology.md). -/
def DMS_ID.VERSION : Fld := ⟨0x80000, 0, 4, .ro, 1, false, 0⟩
def DMS_ID.PRESENT : Fld := ⟨0x80000, 4, 1, .ro, 1, false, 0⟩
def DMS_ID.reg : RegSpec := ⟨0x80000, 0, 1, .dms, [DMS_ID.VERSION, DMS_ID.PRESENT]⟩
/-! DMS_STATE (offset 0x80004, R368, 14_damson_metrology.md). -/
def DMS_STATE.STATE : Fld := ⟨0x80004, 0, 3, .ro, 0, false, 0⟩
def DMS_STATE.ADJ_PIN : Fld := ⟨0x80004, 3, 1, .ro, 0, false, 0⟩
def DMS_STATE.READING_INVALID : Fld := ⟨0x80004, 4, 1, .ro, 0, false, 0⟩
def DMS_STATE.OSC_OK : Fld := ⟨0x80004, 5, 1, .ro, 0, false, 0⟩
def DMS_STATE.CAL_VALID : Fld := ⟨0x80004, 6, 1, .ro, 0, false, 0⟩
def DMS_STATE.TRAIL_FILL : Fld := ⟨0x80004, 16, 11, .ro, 0, false, 0⟩
def DMS_STATE.reg : RegSpec := ⟨0x80004, 0, 1, .dms, [DMS_STATE.STATE, DMS_STATE.ADJ_PIN, DMS_STATE.READING_INVALID, DMS_STATE.OSC_OK, DMS_STATE.CAL_VALID, DMS_STATE.TRAIL_FILL]⟩
/-! DMS_EVENTS (offset 0x80008, R368, 14_damson_metrology.md). -/
def DMS_EVENTS.COUNT : Fld := ⟨0x80008, 0, 24, .ro, 0, false, 0⟩
def DMS_EVENTS.reg : RegSpec := ⟨0x80008, 0, 1, .dms, [DMS_EVENTS.COUNT]⟩
/-! DMS_SWVER (offset 0x8000C, R368, 14_damson_metrology.md). -/
def DMS_SWVER.VERSION : Fld := ⟨0x8000C, 0, 32, .ro, 0, false, 0⟩
def DMS_SWVER.reg : RegSpec := ⟨0x8000C, 0, 1, .dms, [DMS_SWVER.VERSION]⟩
/-! DMS_SWID (offset 0x80010, R368, 14_damson_metrology.md). -/
def DMS_SWID.HASH : Fld := ⟨0x80010, 0, 32, .ro, 0, false, 0⟩
def DMS_SWID.reg : RegSpec := ⟨0x80010, 4, 8, .dms, [DMS_SWID.HASH]⟩
/-! DMS_REC_COUNT (offset 0x80030, R368, 14_damson_metrology.md). -/
def DMS_REC_COUNT.COUNT : Fld := ⟨0x80030, 0, 10, .ro, 0, false, 0⟩
def DMS_REC_COUNT.reg : RegSpec := ⟨0x80030, 0, 1, .dms, [DMS_REC_COUNT.COUNT]⟩
/-! DMS_REC_OLDEST (offset 0x80034, R368, 14_damson_metrology.md). -/
def DMS_REC_OLDEST.SEQ : Fld := ⟨0x80034, 0, 32, .ro, 0, false, 0⟩
def DMS_REC_OLDEST.reg : RegSpec := ⟨0x80034, 0, 1, .dms, [DMS_REC_OLDEST.SEQ]⟩
/-! DMS_LAST_CODE (offset 0x80038, R368, 14_damson_metrology.md). -/
def DMS_LAST_CODE.CODE : Fld := ⟨0x80038, 0, 16, .ro, 0, false, 0⟩
def DMS_LAST_CODE.reg : RegSpec := ⟨0x80038, 0, 1, .dms, [DMS_LAST_CODE.CODE]⟩
/-! DMS_LAST_REPLY (offset 0x8003C, R368, 14_damson_metrology.md). -/
def DMS_LAST_REPLY.CMD : Fld := ⟨0x8003C, 0, 8, .ro, 0, false, 0⟩
def DMS_LAST_REPLY.RESULT : Fld := ⟨0x8003C, 16, 16, .ro, 0, false, 0⟩
def DMS_LAST_REPLY.reg : RegSpec := ⟨0x8003C, 0, 1, .dms, [DMS_LAST_REPLY.CMD, DMS_LAST_REPLY.RESULT]⟩
/-! SEC_LIFECYCLE (offset 0x90000, R439, 17_security_management.md). -/
def SEC_LIFECYCLE.STATE : Fld := ⟨0x90000, 0, 2, .ro, 0, false, 0⟩
def SEC_LIFECYCLE.VERSION : Fld := ⟨0x90000, 16, 4, .ro, 1, false, 0⟩
def SEC_LIFECYCLE.reg : RegSpec := ⟨0x90000, 0, 1, .once, [SEC_LIFECYCLE.STATE, SEC_LIFECYCLE.VERSION]⟩
/-! SEC_BOOT (offset 0x90004, R439, 17_security_management.md). -/
def SEC_BOOT.SLOT : Fld := ⟨0x90004, 0, 1, .ro, 0, false, 0⟩
def SEC_BOOT.OTHER_VALID : Fld := ⟨0x90004, 1, 1, .ro, 0, false, 0⟩
def SEC_BOOT.SVN : Fld := ⟨0x90004, 2, 7, .ro, 0, false, 0⟩
def SEC_BOOT.ROLLBACK : Fld := ⟨0x90004, 9, 7, .ro, 0, false, 0⟩
def SEC_BOOT.reg : RegSpec := ⟨0x90004, 0, 1, .once, [SEC_BOOT.SLOT, SEC_BOOT.OTHER_VALID, SEC_BOOT.SVN, SEC_BOOT.ROLLBACK]⟩
/-! SEC_FW_VERSION (offset 0x90008, R439, 17_security_management.md). -/
def SEC_FW_VERSION.VERSION : Fld := ⟨0x90008, 0, 32, .ro, 0, false, 0⟩
def SEC_FW_VERSION.reg : RegSpec := ⟨0x90008, 0, 1, .once, [SEC_FW_VERSION.VERSION]⟩
/-! SEC_KEYS (offset 0x9000C, R439, 17_security_management.md). -/
def SEC_KEYS.VALID : Fld := ⟨0x9000C, 0, 4, .ro, 0, false, 0⟩
def SEC_KEYS.REVOKED : Fld := ⟨0x9000C, 4, 4, .ro, 0, false, 0⟩
def SEC_KEYS.PW_SLOT : Fld := ⟨0x9000C, 8, 2, .ro, 0, false, 0⟩
def SEC_KEYS.MGMT_SLOT : Fld := ⟨0x9000C, 10, 2, .ro, 0, false, 0⟩
def SEC_KEYS.CR_KEY : Fld := ⟨0x9000C, 12, 1, .ro, 0, false, 0⟩
def SEC_KEYS.reg : RegSpec := ⟨0x9000C, 0, 1, .once, [SEC_KEYS.VALID, SEC_KEYS.REVOKED, SEC_KEYS.PW_SLOT, SEC_KEYS.MGMT_SLOT, SEC_KEYS.CR_KEY]⟩
/-! SEC_ACCESS_STATUS (offset 0x90010, R439, 17_security_management.md). -/
def SEC_ACCESS_STATUS.JTAG_OPEN : Fld := ⟨0x90010, 0, 1, .ro, 0, false, 0⟩
def SEC_ACCESS_STATUS.DBGWIN_OPEN : Fld := ⟨0x90010, 1, 1, .ro, 0, false, 0⟩
def SEC_ACCESS_STATUS.TRIES : Fld := ⟨0x90010, 2, 4, .ro, 0, false, 0⟩
def SEC_ACCESS_STATUS.LOCKOUTS : Fld := ⟨0x90010, 6, 4, .ro, 0, false, 0⟩
def SEC_ACCESS_STATUS.LOCKED_OUT : Fld := ⟨0x90010, 10, 1, .ro, 0, false, 0⟩
def SEC_ACCESS_STATUS.TAMPER : Fld := ⟨0x90010, 11, 1, .ro, 0, false, 0⟩
def SEC_ACCESS_STATUS.LOCK_MIN : Fld := ⟨0x90010, 16, 16, .ro, 0, false, 0⟩
def SEC_ACCESS_STATUS.reg : RegSpec := ⟨0x90010, 0, 1, .once, [SEC_ACCESS_STATUS.JTAG_OPEN, SEC_ACCESS_STATUS.DBGWIN_OPEN, SEC_ACCESS_STATUS.TRIES, SEC_ACCESS_STATUS.LOCKOUTS, SEC_ACCESS_STATUS.LOCKED_OUT, SEC_ACCESS_STATUS.TAMPER, SEC_ACCESS_STATUS.LOCK_MIN]⟩
/-! SEC_ACCESS_CTRL (offset 0x90014, R439, 17_security_management.md). -/
def SEC_ACCESS_CTRL.SCOPE : Fld := ⟨0x90014, 0, 2, .rw, 0, false, 0⟩
def SEC_ACCESS_CTRL.SUBMIT_PW : Fld := ⟨0x90014, 2, 1, .wo, 0, true, 0⟩
def SEC_ACCESS_CTRL.SUBMIT_CR : Fld := ⟨0x90014, 3, 1, .wo, 0, true, 0⟩
def SEC_ACCESS_CTRL.NONCE : Fld := ⟨0x90014, 4, 1, .wo, 0, true, 0⟩
def SEC_ACCESS_CTRL.CLOSE : Fld := ⟨0x90014, 5, 1, .wo, 0, true, 0⟩
def SEC_ACCESS_CTRL.reg : RegSpec := ⟨0x90014, 0, 1, .once, [SEC_ACCESS_CTRL.SCOPE, SEC_ACCESS_CTRL.SUBMIT_PW, SEC_ACCESS_CTRL.SUBMIT_CR, SEC_ACCESS_CTRL.NONCE, SEC_ACCESS_CTRL.CLOSE]⟩
/-! SEC_PW_LEN (offset 0x90018, R439, 17_security_management.md). -/
def SEC_PW_LEN.LEN : Fld := ⟨0x90018, 0, 7, .wo, 0, false, 0⟩
def SEC_PW_LEN.reg : RegSpec := ⟨0x90018, 0, 1, .once, [SEC_PW_LEN.LEN]⟩
/-! MGMT_NET_CTRL (offset 0x90200, R439, 17_security_management.md). -/
def MGMT_NET_CTRL.EN : Fld := ⟨0x90200, 0, 1, .rw, 0, false, 0⟩
def MGMT_NET_CTRL.DHCP : Fld := ⟨0x90200, 1, 1, .rw, 0, false, 0⟩
def MGMT_NET_CTRL.reg : RegSpec := ⟨0x90200, 0, 1, .once, [MGMT_NET_CTRL.EN, MGMT_NET_CTRL.DHCP]⟩
/-! MGMT_IP (offset 0x90204, R439, 17_security_management.md). -/
def MGMT_IP.ADDR : Fld := ⟨0x90204, 0, 32, .rw, 0, false, 0⟩
def MGMT_IP.reg : RegSpec := ⟨0x90204, 0, 1, .once, [MGMT_IP.ADDR]⟩
/-! MGMT_PEER_IP (offset 0x90208, R439, 17_security_management.md). -/
def MGMT_PEER_IP.ADDR : Fld := ⟨0x90208, 0, 32, .rw, 0, false, 0⟩
def MGMT_PEER_IP.reg : RegSpec := ⟨0x90208, 0, 1, .once, [MGMT_PEER_IP.ADDR]⟩
/-! MGMT_PORTS (offset 0x9020C, R439, 17_security_management.md). -/
def MGMT_PORTS.LOCAL : Fld := ⟨0x9020C, 0, 16, .rw, 47940, false, 0⟩
def MGMT_PORTS.PEER : Fld := ⟨0x9020C, 16, 16, .rw, 47940, false, 0⟩
def MGMT_PORTS.reg : RegSpec := ⟨0x9020C, 0, 1, .once, [MGMT_PORTS.LOCAL, MGMT_PORTS.PEER]⟩
/-! MGMT_STATUS (offset 0x90210, R439, 17_security_management.md). -/
def MGMT_STATUS.LINK : Fld := ⟨0x90210, 0, 1, .ro, 0, false, 0⟩
def MGMT_STATUS.PEER_OK : Fld := ⟨0x90210, 1, 1, .ro, 0, false, 0⟩
def MGMT_STATUS.RECOVERY : Fld := ⟨0x90210, 2, 1, .ro, 0, false, 0⟩
def MGMT_STATUS.CFG_REJECT : Fld := ⟨0x90210, 3, 1, .rw1c, 0, false, 0⟩
def MGMT_STATUS.QUEUE : Fld := ⟨0x90210, 4, 11, .ro, 0, false, 0⟩
def MGMT_STATUS.FATAL : Fld := ⟨0x90210, 15, 6, .ro, 0, false, 0⟩
def MGMT_STATUS.reg : RegSpec := ⟨0x90210, 0, 1, .once, [MGMT_STATUS.LINK, MGMT_STATUS.PEER_OK, MGMT_STATUS.RECOVERY, MGMT_STATUS.CFG_REJECT, MGMT_STATUS.QUEUE, MGMT_STATUS.FATAL]⟩
/-! MGMT_RATE (offset 0x90214, R439, 17_security_management.md). -/
def MGMT_RATE.RECORDS_PER_S : Fld := ⟨0x90214, 0, 12, .rw, 2000, true, 0⟩
def MGMT_RATE.COALESCE_MS : Fld := ⟨0x90214, 16, 10, .rw, 100, true, 0⟩
def MGMT_RATE.reg : RegSpec := ⟨0x90214, 0, 1, .once, [MGMT_RATE.RECORDS_PER_S, MGMT_RATE.COALESCE_MS]⟩
/-! MGMT_HREP_HEAD (offset 0x90220, R439, 17_security_management.md). -/
def MGMT_HREP_HEAD.SEQ : Fld := ⟨0x90220, 0, 32, .ro, 0, false, 0⟩
def MGMT_HREP_HEAD.reg : RegSpec := ⟨0x90220, 0, 1, .once, [MGMT_HREP_HEAD.SEQ]⟩
/-! MGMT_HREP_TAIL (offset 0x90224, R439, 17_security_management.md). -/
def MGMT_HREP_TAIL.SEQ : Fld := ⟨0x90224, 0, 32, .rw, 0, false, 0⟩
def MGMT_HREP_TAIL.reg : RegSpec := ⟨0x90224, 0, 1, .once, [MGMT_HREP_TAIL.SEQ]⟩
/-! MGMT_CNT_SENT (offset 0x90240, R439, 17_security_management.md). -/
def MGMT_CNT_SENT.COUNT : Fld := ⟨0x90240, 0, 32, .ro, 0, false, 0⟩
def MGMT_CNT_SENT.reg : RegSpec := ⟨0x90240, 0, 1, .once, [MGMT_CNT_SENT.COUNT]⟩
/-! MGMT_CNT_COALESCED (offset 0x90244, R439, 17_security_management.md). -/
def MGMT_CNT_COALESCED.COUNT : Fld := ⟨0x90244, 0, 32, .ro, 0, false, 0⟩
def MGMT_CNT_COALESCED.reg : RegSpec := ⟨0x90244, 0, 1, .once, [MGMT_CNT_COALESCED.COUNT]⟩
/-! MGMT_CNT_DROP (offset 0x90248, R439, 17_security_management.md). -/
def MGMT_CNT_DROP.COUNT : Fld := ⟨0x90248, 0, 32, .ro, 0, false, 0⟩
def MGMT_CNT_DROP.reg : RegSpec := ⟨0x90248, 0, 1, .once, [MGMT_CNT_DROP.COUNT]⟩
/-! MGMT_CNT_HOST_DROP (offset 0x9024C, R439, 17_security_management.md). -/
def MGMT_CNT_HOST_DROP.COUNT : Fld := ⟨0x9024C, 0, 32, .ro, 0, false, 0⟩
def MGMT_CNT_HOST_DROP.reg : RegSpec := ⟨0x9024C, 0, 1, .once, [MGMT_CNT_HOST_DROP.COUNT]⟩
/-! MGMT_CNT_FATAL_OVF (offset 0x90250, R439, 17_security_management.md). -/
def MGMT_CNT_FATAL_OVF.COUNT : Fld := ⟨0x90250, 0, 32, .ro, 0, false, 0⟩
def MGMT_CNT_FATAL_OVF.reg : RegSpec := ⟨0x90250, 0, 1, .once, [MGMT_CNT_FATAL_OVF.COUNT]⟩
/-! MGMT_CNT_AUTH_FAIL (offset 0x90254, R439, 17_security_management.md). -/
def MGMT_CNT_AUTH_FAIL.COUNT : Fld := ⟨0x90254, 0, 32, .ro, 0, false, 0⟩
def MGMT_CNT_AUTH_FAIL.reg : RegSpec := ⟨0x90254, 0, 1, .once, [MGMT_CNT_AUTH_FAIL.COUNT]⟩
/-! MGMT_CNT_RESEND (offset 0x90258, R439, 17_security_management.md). -/
def MGMT_CNT_RESEND.COUNT : Fld := ⟨0x90258, 0, 32, .ro, 0, false, 0⟩
def MGMT_CNT_RESEND.reg : RegSpec := ⟨0x90258, 0, 1, .once, [MGMT_CNT_RESEND.COUNT]⟩
/-! MBX_STATUS (offset 0xA0000, R456, 18_register_map.md). -/
def MBX_STATUS.SLOT_BUSY : Fld := ⟨0xA0000, 0, 8, .ro, 0, false, 0⟩
def MBX_STATUS.ERR : Fld := ⟨0xA0000, 8, 1, .rw1c, 0, false, 0⟩
def MBX_STATUS.reg : RegSpec := ⟨0xA0000, 0, 1, .own, [MBX_STATUS.SLOT_BUSY, MBX_STATUS.ERR]⟩
/-! MBX_DOORBELL (offset 0xA0004, R456, 18_register_map.md). -/
def MBX_DOORBELL.SLOT : Fld := ⟨0xA0004, 0, 3, .wo, 0, true, 0⟩
def MBX_DOORBELL.reg : RegSpec := ⟨0xA0004, 0, 1, .own, [MBX_DOORBELL.SLOT]⟩
/-! MBX_RSP_HEAD (offset 0xA0008, R456, 18_register_map.md). -/
def MBX_RSP_HEAD.SEQ : Fld := ⟨0xA0008, 0, 32, .ro, 0, false, 0⟩
def MBX_RSP_HEAD.reg : RegSpec := ⟨0xA0008, 0, 1, .own, [MBX_RSP_HEAD.SEQ]⟩
/-! MBX_RSP_TAIL (offset 0xA000C, R456, 18_register_map.md). -/
def MBX_RSP_TAIL.SEQ : Fld := ⟨0xA000C, 0, 32, .rw, 0, true, 0⟩
def MBX_RSP_TAIL.reg : RegSpec := ⟨0xA000C, 0, 1, .own, [MBX_RSP_TAIL.SEQ]⟩
/-! MBX_EVT_HEAD (offset 0xA0010, R456, 18_register_map.md). -/
def MBX_EVT_HEAD.SEQ : Fld := ⟨0xA0010, 0, 32, .ro, 0, false, 0⟩
def MBX_EVT_HEAD.reg : RegSpec := ⟨0xA0010, 0, 1, .own, [MBX_EVT_HEAD.SEQ]⟩
/-! MBX_EVT_TAIL (offset 0xA0014, R456, 18_register_map.md). -/
def MBX_EVT_TAIL.SEQ : Fld := ⟨0xA0014, 0, 32, .rw, 0, true, 0⟩
def MBX_EVT_TAIL.reg : RegSpec := ⟨0xA0014, 0, 1, .own, [MBX_EVT_TAIL.SEQ]⟩
/-! MBX_CNT_DISCARD (offset 0xA0018, R456, 18_register_map.md). -/
def MBX_CNT_DISCARD.COUNT : Fld := ⟨0xA0018, 0, 32, .ro, 0, false, 0⟩
def MBX_CNT_DISCARD.reg : RegSpec := ⟨0xA0018, 0, 1, .own, [MBX_CNT_DISCARD.COUNT]⟩
/-! MBX_CNT_EVT_DROP (offset 0xA001C, R456, 18_register_map.md). -/
def MBX_CNT_EVT_DROP.COUNT : Fld := ⟨0xA001C, 0, 32, .ro, 0, false, 0⟩
def MBX_CNT_EVT_DROP.reg : RegSpec := ⟨0xA001C, 0, 1, .own, [MBX_CNT_EVT_DROP.COUNT]⟩
/-! DBG_STATUS (offset 0xF0000, R461, 18_register_map.md). -/
def DBG_STATUS.OPEN : Fld := ⟨0xF0000, 0, 1, .ro, 0, false, 0⟩
def DBG_STATUS.BUSY : Fld := ⟨0xF0000, 1, 1, .ro, 0, false, 0⟩
def DBG_STATUS.ERR : Fld := ⟨0xF0000, 2, 1, .rw1c, 0, false, 0⟩
def DBG_STATUS.reg : RegSpec := ⟨0xF0000, 0, 1, .once, [DBG_STATUS.OPEN, DBG_STATUS.BUSY, DBG_STATUS.ERR]⟩
/-! DBG_ADDR_LO (offset 0xF0004, R461, 18_register_map.md). -/
def DBG_ADDR_LO.ADDR : Fld := ⟨0xF0004, 0, 32, .rw, 0, false, 0⟩
def DBG_ADDR_LO.reg : RegSpec := ⟨0xF0004, 0, 1, .once, [DBG_ADDR_LO.ADDR]⟩
/-! DBG_ADDR_HI (offset 0xF0008, R461, 18_register_map.md). -/
def DBG_ADDR_HI.ADDR : Fld := ⟨0xF0008, 0, 8, .rw, 0, false, 0⟩
def DBG_ADDR_HI.reg : RegSpec := ⟨0xF0008, 0, 1, .once, [DBG_ADDR_HI.ADDR]⟩
/-! DBG_CTRL (offset 0xF000C, R461, 18_register_map.md). -/
def DBG_CTRL.READ : Fld := ⟨0xF000C, 0, 1, .wo, 0, true, 0⟩
def DBG_CTRL.WRITE : Fld := ⟨0xF000C, 1, 1, .wo, 0, true, 0⟩
def DBG_CTRL.HALT : Fld := ⟨0xF000C, 2, 1, .wo, 0, true, 0⟩
def DBG_CTRL.RESUME : Fld := ⟨0xF000C, 3, 1, .wo, 0, true, 0⟩
def DBG_CTRL.CORE : Fld := ⟨0xF000C, 4, 7, .wo, 0, true, 0⟩
def DBG_CTRL.reg : RegSpec := ⟨0xF000C, 0, 1, .once, [DBG_CTRL.READ, DBG_CTRL.WRITE, DBG_CTRL.HALT, DBG_CTRL.RESUME, DBG_CTRL.CORE]⟩

/-- Registers of the map, part 0. -/
def mapPart0 : List RegSpec := [ID_MAGIC.reg, ID_PART.reg, ID_STEP.reg, ID_UNIQUE_LO.reg, ID_UNIQUE_HI.reg, ID_MEMORY.reg, ID_PCI.reg, ID_VERSIONS_0.reg, ID_VERSIONS_1.reg, GLB_PORTSEL.reg, GLB_STRMSEL.reg, GLB_DMASEL.reg, GLB_CORESEL.reg, GLB_LINKSEL.reg, GLB_WIN_STATUS.reg, GLB_RSVW.reg, GLB_STATUS.reg, GLB_INT_STATUS.reg, GLB_INT_ENABLE.reg, GLB_INT_STRM_STATUS.reg, GLB_INT_STRM_ENABLE.reg, GLB_INT_HOLDOFF.reg, PIPE_PACE_CTRL.reg, PIPE_PACE_STATUS.reg]
/-- The feature registers of R451. -/
def mapFeature : List RegSpec := [ID_FEAT_FORMATS.reg, ID_FEAT_OPC_LO.reg, ID_FEAT_OPC_HI.reg, ID_FEAT_DMA.reg, ID_FEAT_LINK.reg, ID_FEAT_IO.reg, ID_FEAT_PKG.reg]
/-- Registers of the map, part 1. -/
def mapPart1 : List RegSpec := [PIPE_SLACK_MIN.reg, PIPE_PROMISE_STATUS.reg, PIPE_LATENCY_MAX.reg, PIPE_ISLAND.reg, TILE_POOL.reg, FIO_TICK_LO.reg, FIO_TICK_HI.reg, FIO_ENC_CTRL.reg, FIO_ENC_POS.reg, FIO_TRIG_CTRL.reg, FIO_ACT_LEVEL.reg, FIO_ACT_FORCE.reg, FIO_ACT_FUNC.reg, FIO_CNT_LATE.reg, FIO_CNT_BADDEC.reg, FIO_CNT_ENCERR.reg, FIO_CNT_TRIG_OVR.reg, PCIE_STATUS.reg, PCIE_XLAT_LO.reg, PCIE_XLAT_HI.reg, BOOT_STATUS.reg, CHG_STATUS.reg, CHG_EFFECT.reg, THERM_STATUS.reg]
/-- Registers of the map, part 2. -/
def mapPart2 : List RegSpec := [THERM_COOLANT.reg, THERM_CTRL.reg, PORT_CFG.reg, PORT_STATUS.reg, PORT_CXP_TRIG.reg, PORT_SLVDS_SYNC0.reg, PORT_SLVDS_SYNC1.reg, PORT_CNT_CORR.reg, PORT_CNT_DROP.reg, PORT_CNT_CRC.reg, PORT_CNT_CODE.reg, PORT_CNT_UNSUP.reg, PORT_CNT_LOSS.reg, STRM_SRC.reg, STRM_GEOM.reg, STRM_LP.reg, STRM_FRAME.reg, STRM_STATUS.reg, STRM_LINE.reg, STRM_CNT_SUBST.reg, STRM_OUT_CTRL.reg, STRM_OUT_STATUS.reg, STRM_HQ_BASE_LO.reg, STRM_HQ_BASE_HI.reg]
/-- Registers of the map, part 3. -/
def mapPart3 : List RegSpec := [STRM_HQ_CFG.reg, STRM_HQ_HEAD.reg, STRM_HQ_TAIL.reg, STRM_HIN_BASE_LO.reg, STRM_HIN_BASE_HI.reg, STRM_HIN_CFG.reg, STRM_HIN_HEAD.reg, STRM_HIN_TAIL.reg, STRM_RF_CTRL.reg, STRM_RF_STATUS.reg, STRM_RF_CNT_SAT.reg, STRM_RF_CNT_UNDER.reg, STRM_RF_CNT_DEFECT.reg, STRM_RF_CNT_LEN.reg, STRM_RF_CNT_RETRY.reg, STRM_PB_CTRL.reg, STRM_PB_STATUS.reg, STRM_PB_CNT_SAT.reg, STRM_PB_CNT_NAN.reg, STRM_PB_CNT_RETRY.reg, STRM_QS_STATUS.reg, STRM_QS_CNT_RESCALE.reg, STRM_QS_CNT_CLAMP.reg, STRM_QS_LAST.reg]
/-- Registers of the map, part 4. -/
def mapPart4 : List RegSpec := [STRM_QS_LAST_INFO.reg, STRM_TILE_INFO.reg, STRM_TILE_FIRST.reg, STRM_TILE_WIDTH.reg, STRM_TILE_STATUS.reg, STRM_FLT_CTRL.reg, STRM_FLT_STATUS.reg, DMA_CH_ID.reg, DMA_CH_STATE.reg, DMA_CH_CTRL.reg, DMA_CH_PROG.reg, DMA_CH_LEN.reg, DMA_CH_SRC_BIAS.reg, DMA_CH_DST_BIAS.reg, DMA_CH_BUDGET.reg, DMA_CH_CRED.reg, DMA_CH_LIMIT.reg, DMA_CH_POS.reg, DMA_CH_ITER.reg, DMA_CH_OFFSET.reg, DMA_CH_FAULT.reg, DMA_CH_FAULT_ADDR_LO.reg, DMA_CH_FAULT_ADDR_HI.reg, DMA_CH_CNT_STEPS.reg]
/-- Registers of the map, part 5. -/
def mapPart5 : List RegSpec := [DMA_CH_CNT_WORDS.reg, DMA_CH_CNT_HALTS.reg, DMA_CH_CNT_SEGABS.reg, DMA_ENG_TAGS.reg, DMA_ENG_CHAIN.reg, DMA_CHAIN_CTRL.reg, DMA_SEG_CTRL.reg, DMA_SEG_TABLE.reg, DMA_SEG_STATUS.reg, DMA_SEG_INVAL.reg, CVU_CTRL.reg, CVU_CFG.reg, CVU_WINDOW.reg, CVU_VAL_LO.reg, CVU_VAL_HI.reg, CVU_COUNT.reg, CVU_STATUS.reg, CORE_ID.reg, CORE_STATE.reg, CORE_CTRL.reg, CORE_BANK_A_CRC.reg, CORE_BANK_B_CRC.reg, CORE_PC.reg, CORE_SHARE.reg]
/-- Registers of the map, part 6. -/
def mapPart6 : List RegSpec := [CORE_STRIPE.reg, CORE_ALARM.reg, CORE_FAULT.reg, CORE_EVENTS.reg, CORE_CNT_SAT.reg, CORE_CNT_NANINF.reg, CORE_CNT_RESIDUE.reg, CORE_CNT_ECC_CORR.reg, CORE_CNT_ECC_UNCORR.reg, CORE_CNT_SHARES.reg, CORE_CNT_REPLAYS.reg, CORE_CNT_ALARMS.reg, CORE_CNT_STEPS_LO.reg, CORE_CNT_STEPS_HI.reg, CLU_MARGIN.reg, CLU_INFO.reg, SPAD_CFG.reg, SPAD_PWR_STATUS.reg, SPAD_HAZARD.reg, SPAD_HAZARD_ADDR.reg, SPAD_ERR.reg, SPAD_CNT_PARITY.reg, SPAD_REMAP.reg, SPAD_RING_CFG0.reg]
/-- Registers of the map, part 7. -/
def mapPart7 : List RegSpec := [SPAD_RING_CFG1.reg, SPAD_RING_STATE.reg, SPAD_CNT.reg, SPAD_ROWMAP.reg, ZL_ID.reg, ZL_CTRL.reg, ZL_STATUS.reg, ZL_PEER_ID_LO.reg, ZL_PEER_ID_HI.reg, ZL_LATENCY.reg, ZL_CNT_CRC.reg, ZL_CNT_REPLAY.reg, ZL_CNT_FWD.reg, ZL_CNT_DROP.reg, ZP_CTRL.reg, ZP_STATUS.reg, ZP_LAST_CHANGE.reg, ZP_CNT_MISMATCH.reg, ZP_CNT_VOTE_OWN.reg, ZP_CNT_RETRACT.reg, ZP_CNT_TAKEOVER.reg, ZR_CTRL.reg, ZR_STATUS.reg, CAL_TBLSEL.reg]
/-- Registers of the map, part 8. -/
def mapPart8 : List RegSpec := [CAL_CTRL.reg, CAL_STATUS.reg, CAL_FAIL_INDEX.reg, CAL_SET_ID.reg, CAL_EFFECT_STRIPE.reg, CAL_BLEND.reg, CAL_BLEND_POS.reg, CAL_LIM_GAIN.reg, CAL_LIM_LEVEL.reg, CAL_LIM_SHADE.reg, CAL_LIM_MISC.reg, CAL_PERSIST.reg, CAL_CFA_MAP.reg, CAL_TEMP.reg, CAL_CANARY.reg, CAL_CANARY_CTRL.reg, CAL_SELF_STATUS.reg, FLT_LAST.reg, FLT_CNT_REPLAY.reg, FLT_CNT_SHADOW.reg, FLT_CNT_SHADOW_DROP.reg, FLT_CNT_SLICES.reg, FLT_CNT_EVENTS.reg, FLT_CNT_POOL_WAIT.reg]
/-- Registers of the map, part 9. -/
def mapPart9 : List RegSpec := [FLT_CNT_CAPTURE_DROP.reg, FLT_TEST_STATUS.reg, FLT_CHIME_ID.reg, FLT_CTRL.reg, SSC_STATE.reg, SSC_CAUSE.reg, SSC_CAUSE_TICK.reg, SSC_SAFE_LEVEL.reg, SSC_LOCK.reg, SSC_CTRL.reg, SSC_DOUBT.reg, SSC_WDOG.reg, LIFE_POWERED_LO.reg, LIFE_POWERED_HI.reg, LIFE_CYCLES.reg, LIFE_PEAK.reg, LIFE_COOLANT.reg, LIFE_WEAR.reg, LIFE_LOG_HEAD.reg, LIFE_PAGESEL.reg, RTC_SECONDS.reg, RTC_SET.reg, RTC_TRIM.reg, RTC_STATUS.reg]
/-- Registers of the map, part 10. -/
def mapPart10 : List RegSpec := [DMS_ID.reg, DMS_STATE.reg, DMS_EVENTS.reg, DMS_SWVER.reg, DMS_SWID.reg, DMS_REC_COUNT.reg, DMS_REC_OLDEST.reg, DMS_LAST_CODE.reg, DMS_LAST_REPLY.reg, SEC_LIFECYCLE.reg, SEC_BOOT.reg, SEC_FW_VERSION.reg, SEC_KEYS.reg, SEC_ACCESS_STATUS.reg, SEC_ACCESS_CTRL.reg, SEC_PW_LEN.reg, MGMT_NET_CTRL.reg, MGMT_IP.reg, MGMT_PEER_IP.reg, MGMT_PORTS.reg, MGMT_STATUS.reg, MGMT_RATE.reg, MGMT_HREP_HEAD.reg, MGMT_HREP_TAIL.reg]
/-- Registers of the map, part 11. -/
def mapPart11 : List RegSpec := [MGMT_CNT_SENT.reg, MGMT_CNT_COALESCED.reg, MGMT_CNT_DROP.reg, MGMT_CNT_HOST_DROP.reg, MGMT_CNT_FATAL_OVF.reg, MGMT_CNT_AUTH_FAIL.reg, MGMT_CNT_RESEND.reg, MBX_STATUS.reg, MBX_DOORBELL.reg, MBX_RSP_HEAD.reg, MBX_RSP_TAIL.reg, MBX_EVT_HEAD.reg, MBX_EVT_TAIL.reg, MBX_CNT_DISCARD.reg, MBX_CNT_EVT_DROP.reg, DBG_STATUS.reg, DBG_ADDR_LO.reg, DBG_ADDR_HI.reg, DBG_CTRL.reg]
/-- Every register of BAR0 (R462), in rising offset. -/
def map : List RegSpec := mapPart0 ++ mapFeature ++ mapPart1 ++ mapPart2 ++ mapPart3 ++ mapPart4 ++ mapPart5 ++ mapPart6 ++ mapPart7 ++ mapPart8 ++ mapPart9 ++ mapPart10 ++ mapPart11

end Sys2Proof.Machine.R
end

