-- ==== Sys2Proof/Machine/Ops.lean ====
section
/-! DEFINITION. Machine/Ops.lean: the operations every chapter shares: register fields, interrupts,
reports and the safe state. -/

namespace Sys2Proof.Machine

open Sys2Proof

/-! ### Registers -/

/-- The value of a register field of an instance. -/
def rd (s : State) (f : Fld) (i : Nat) : Nat := tget f.reset s.regs (f.key i)

/-- Sets a register field of an instance; the value is cut to the field's width. -/
def wr (s : State) (f : Fld) (i v : Nat) : State :=
  { s with regs := tset f.reset s.regs (f.key i) (v % 2 ^ f.width) }

/-- Sets a field by a condition. -/
def wrIf (c : Bool) (s : State) (f : Fld) (i v : Nat) : State := if c then wr s f i v else s

/-- Adds to a counter field that saturates at its greatest value. -/
def bumpBy (s : State) (f : Fld) (i n : Nat) : State := wr s f i (min (2 ^ f.width - 1) (rd s f i + n))

/-- Adds one to a saturating counter field. -/
def bump (s : State) (f : Fld) (i : Nat) : State := bumpBy s f i 1

/-- Sets a sticky bit (an event that sets it wins over a clear of the same moment, R447). -/
def hit (s : State) (f : Fld) (i : Nat) : State := wr s f i 1

/-- Whether a one-bit field is set. -/
def isSet (s : State) (f : Fld) (i : Nat) : Bool := rd s f i == 1

/-- Puts something on one of the part's connections. -/
def emit (s : State) (e : Emit) : State := { s with out := e :: s.out }

/-- A value the manual leaves open, and the state whose counter has moved on (DESIGN CHOICE, log entry 1). -/
def fresh (s : State) : Nat × State := (Config.freeNat s.free, { s with free := s.free + 1 })

/-- The number of cores present (R3, R4). -/
def Part.cores : Part → Nat
  | .c128 | .c128m => 128
  | .c64 | .c64m => 64

/-- Damson is enabled on this part number (R5). -/
def Part.damson : Part → Bool
  | .c128m | .c64m => true
  | .c128 | .c64 => false

/-- The part may form a redundant pair (R6). -/
def Part.pair : Part → Bool
  | .c128 | .c128m => true
  | .c64 | .c64m => false

/-- The code of R308 and ID_PART.PART. -/
def Part.code : Part → Nat
  | .c128 => 1 | .c128m => 2 | .c64 => 3 | .c64m => 4

/-- A DMA channel is present: 0 to 71, on a C64 0 to 31 and 64 to 71 (R445). -/
def Part.hasChannel (p : Part) (c : Nat) : Bool :=
  decide (c < 72) && (p.cores == 128 || decide (c < 32) || decide (64 ≤ c))

/-- A requester's own instance number of a per-requester register (R444). -/
def reqNo : Requester → Nat
  | .host => 0 | .clapper => 1 | .control => 2

/-- The three requesters. -/
def requesters : List Requester := [.host, .clapper, .control]

/-- A period of the field timebase has passed since a tick: counted only while the timebase runs (R22). -/
def elapsed (s : State) (since ticks : Nat) : Bool := !s.fieldLost && decide (since + ticks ≤ s.tick)

/-- The field tick count's low word. -/
def tickLo (s : State) : Nat := s.tick % word32

/-- Calendar seconds as a report carries them: 0xFFFF_FFFF while the calendar is not set (R347). -/
def calNow (s : State) : Nat :=
  if isSet s R.RTC_STATUS.VALID 0 then rd s R.RTC_SECONDS.SECONDS 0 else 0xFFFFFFFF

/-- The part's UNIQUE_ID (R416). -/
def unique (s : State) : Nat := rd s R.ID_UNIQUE_LO.ID 0 + rd s R.ID_UNIQUE_HI.ID 0 * word32

/-! ### Interrupts (R454, R455) -/

/-- The vector of a bit of GLB_INT_STATUS (R454). -/
def vectorOf (b : Nat) : Nat := if b = 3 ∨ b = 4 then 1 else 0

/-- Sends a message to a requester's processor. -/
def message (s : State) (who : Requester) (v : Nat) : State := emit s (.message who v)

/-- Sets bit `b` of one requester's GLB_INT_STATUS, and sends a message if an enabled bit rises. -/
def raiseIntFor (s : State) (who : Requester) (b : Nat) : State :=
  let old := rd s R.GLB_INT_STATUS.STATUS (reqNo who)
  let s1 := wr s R.GLB_INT_STATUS.STATUS (reqNo who) (orBit old b)
  if bit old b then s1
  else if bit (rd s R.GLB_INT_ENABLE.EN (reqNo who)) b then message s1 who (vectorOf b) else s1

/-- Sets bit `b` of every requester's GLB_INT_STATUS (R444). -/
def raiseInt (s : State) (b : Nat) : State := requesters.foldl (fun s w => raiseIntFor s w b) s

/-- Key of a requester's stream vector. -/
def intKey (who : Requester) (k : Nat) : Nat := (reqNo who) * 32 + k

/-- Sends a stream vector's message, or holds it while STRM_US has not passed since its last one (R455). -/
def sendStrm (s : State) (who : Requester) (k : Nat) : State :=
  let last := tget 0 s.intLast (intKey who k)
  let hold := rd s R.GLB_INT_HOLDOFF.STRM_US (reqNo who) * 100
  if last ≠ 0 ∧ s.tick + 1 < last + hold then { s with intHeld := tset false s.intHeld (intKey who k) true }
  else message { s with intLast := tset 0 s.intLast (intKey who k) (s.tick + 1),
                        intHeld := tset false s.intHeld (intKey who k) false } who (2 + k)

/-- Sets bit `k` of one requester's GLB_INT_STRM_STATUS. -/
def raiseStrmFor (s : State) (who : Requester) (k : Nat) : State :=
  let old := rd s R.GLB_INT_STRM_STATUS.STRM (reqNo who)
  let s1 := wr s R.GLB_INT_STRM_STATUS.STRM (reqNo who) (orBit old k)
  if bit old k then s1
  else if bit (rd s R.GLB_INT_STRM_ENABLE.EN (reqNo who)) k then sendStrm s1 who k else s1

/-- Sets bit `k` of every requester's GLB_INT_STRM_STATUS. -/
def raiseStrm (s : State) (k : Nat) : State := requesters.foldl (fun s w => raiseStrmFor s w k) s

/-! ### Reports (R272, R432, R437, R438) -/

/-- The pair agrees and the partner is there: what decides the side of 0x0422, 0x0423 and 0x0732 (R272). -/
def paired (s : State) : Bool := isSet s R.ZP_STATUS.PARTNER 0

/-- The side of a code in the present situation (R272). -/
def sideNow (s : State) (code : Nat) : Side :=
  if code = 0x0422 ∨ code = 0x0423 ∨ code = 0x0732 then (if paired s then .localRepair else .doubt)
  else tableSide code

/-- A record of the queue that a later occurrence merges into. -/
def Report.merges (r : Report) (code inst : Nat) (side : Side) : Bool :=
  r.code == code && r.inst == inst && r.side == side

/-- The record with one more occurrence in it. -/
def Report.again (r : Report) (cal : Nat) : Report := { r with count := r.count + 1, calLast := cal }

/-- Merges an occurrence into the first record that takes it. -/
def mergeInto (code inst : Nat) (side : Side) (cal : Nat) : List Report → List Report
  | [] => []
  | r :: t => if r.merges code inst side then r.again cal :: t else r :: mergeInto code inst side cal t

/-- A new record enters the queue's window, which holds the last 256 (R437, R439). -/
def enterWindow (s : State) (r : Report) : State :=
  let head := rd s R.MGMT_HREP_HEAD.SEQ 0
  let tail := rd s R.MGMT_HREP_TAIL.SEQ 0
  let s1 := wr { s with hrep := (r :: s.hrep).take 256 } R.MGMT_HREP_HEAD.SEQ 0 (head + 1)
  let s2 := if 256 ≤ (head + word32 - tail) % word32 then bump s1 R.MGMT_CNT_HOST_DROP.COUNT 0 else s1
  raiseInt s2 0

/-- Whether a record takes a fatal slot (R437). -/
def isFatal (code : Nat) (side : Side) : Bool := side == .doubt || side == .controlPath || code == 0x0D01

/-- Whether a queued record takes the occurrence. -/
def queuedAlike (s : State) (code inst : Nat) (side : Side) : Bool :=
  (s.fatalQ ++ s.ordQ).any (fun r => r.merges code inst side)

/-- Keeps MGMT_STATUS.QUEUE and FATAL equal to the slots used. -/
def showQueue (s : State) : State :=
  wr (wr s R.MGMT_STATUS.QUEUE 0 s.ordQ.length) R.MGMT_STATUS.FATAL 0 s.fatalQ.length

/-- One occurrence enters the report queue (R437, R438). -/
def enqueue (s : State) (code inst : Nat) (side : Side) (detail : Nat) : State :=
  let cal := calNow s
  let r : Report := ⟨code, inst, side, 1, s.tick, cal, cal, detail⟩
  if queuedAlike s code inst side then
    bump { s with fatalQ := mergeInto code inst side cal s.fatalQ, ordQ := mergeInto code inst side cal s.ordQ,
                  hrep := mergeInto code inst side cal s.hrep } R.MGMT_CNT_COALESCED.COUNT 0
  else if isFatal code side then
    if s.fatalQ.length < 32 then showQueue (enterWindow { s with fatalQ := s.fatalQ ++ [r] } r)
    else bump { s with fatalQ := s.fatalQ.dropLast ++ (s.fatalQ.getLast?.toList.map (fun q => q.again cal)) }
           R.MGMT_CNT_FATAL_OVF.COUNT 0
  else if s.ordQ.length < 1024 then showQueue (enterWindow { s with ordQ := s.ordQ ++ [r] } r)
  else bump { s with repDropped := s.repDropped + 1 } R.MGMT_CNT_DROP.COUNT 0

/-- Reports a code on a given side: FLT_LAST and one occurrence in the queue. -/
def note (s : State) (code inst : Nat) (side : Side) (detail : Nat) : State :=
  enqueue (wr (wr s R.FLT_LAST.CODE 0 code) R.FLT_LAST.INSTANCE 0 inst) code inst side detail

/-! ### The safe state (R294-R298, R388, R394, R395) -/

/-- The safe level of actuator output `k`: 0 low, 1 high, 2 high impedance. -/
def safeLevel (s : State) (k : Nat) : Nat := bits (rd s R.SSC_SAFE_LEVEL.LEVELS 0) (2 * k) 2

/-- SAFE is latched. -/
def isSafe (s : State) : Bool := isSet s R.SSC_STATE.SAFE 0

/-- Drives every output to its safe level, cancels decisions and pulse ends, holds ALIVE low (R295 step 3). -/
def driveSafe (s : State) : State :=
  { s with act := { s.act with drive := (upto 16).map (safeLevel s), ends := [], queue := [], alive := 0, armed := [] } }

/-- Damson is told that no reading is valid (R295 step 4): READING_INVALID, and NOT_VALID on a running measurement
(R367). -/
def readingInvalid (s : State) : State :=
  wr { s with dms := { s.dms with meas := s.dms.meas.map (fun m => { m with notValid := true }) } }
    R.DMS_STATE.READING_INVALID 0 1

/-- The role of this member of a pair, and whether a matched partner is present; a change of ROLE is signalled (R326,
R454). -/
def roleReg (s : State) (role : Nat) (partner : Bool) : State :=
  let s1 := wr (wr s R.ZP_STATUS.ROLE 0 role) R.ZP_STATUS.PARTNER 0 (b2n partner)
  if rd s R.ZP_STATUS.ROLE 0 = role then s1 else raiseInt s1 7

/-- A stream's STATE; a change is signalled on its vector (R398, R454). -/
def strmState (s : State) (k st : Nat) : State :=
  if rd s R.STRM_STATUS.STATE k = st then s else raiseStrm (wr s R.STRM_STATUS.STATE k st) k

/-! ### Zehorn links: sending (R304-R306, R312) -/

/-- A link beyond its registers. -/
def zl (s : State) (l : Nat) : ZLink := tget ZLink.reset s.zlinks l

/-- Sets it. -/
def setZl (s : State) (l : Nat) (z : ZLink) : State := { s with zlinks := tset ZLink.reset s.zlinks l z }

/-- A link is up, on eight lanes or four. -/
def linkUp (s : State) (l : Nat) : Bool := decide (3 ≤ rd s R.ZL_STATUS.STATE l)

/-- A pair link is up. -/
def pairLinkUp (s : State) (l : Nat) : Bool := decide (l < 2) && linkUp s l && rd s R.ZL_CTRL.MODE l == 1

/-- This part is a member of a pair and a pair link is up. -/
def linked (s : State) : Bool := rd s R.ZP_STATUS.ROLE 0 != 0 && (pairLinkUp s 0 || pairLinkUp s 1)

/-- The 16-byte header of a cell, little-endian; `len` is the number of valid payload bytes (R304). -/
def headBytes (h : CellHead) (lseq ack : Nat) (nak : Bool) (len pseq : Nat) : List Byte :=
  leBytes 1 (h.type % 16 + h.level % 16 * 16) ++ leBytes 1 (h.src % 16 + h.dst % 16 * 16) ++
  leBytes 1 (h.stream % 32 + h.hops % 8 * 32) ++ leBytes 3 lseq ++ leBytes 3 ack ++ leBytes 1 (b2n nak) ++ leBytes 1 (len - 1) ++
  leBytes 2 pseq ++ leBytes 3 0

/-- A cell's CRC-64 follows its header and payload; in a stomped cell it is inverted (R304, R311). -/
def sealCell (stomp : Bool) (l : List Byte) : List Byte :=
  l ++ leBytes 8 (if stomp then 2 ^ 64 - 1 - crc64 l else crc64 l)

/-- The 280 bytes of a data cell. -/
def cellBytes (h : CellHead) (lseq ack pseq : Nat) (data : List Byte) (stomp : Bool) : List Byte :=
  sealCell stomp (headBytes h lseq ack false data.length pseq ++ slice data 0 256)

/-- The header of a cell of this part's own: level 2, its ring node, and 7 hops (R304). -/
def ownHead (s : State) (type dst stream : Nat) : CellHead := ⟨type, 2, rd s R.ZR_CTRL.NODE 0, dst, stream, 7⟩

/-- A data cell leaves on a link. -/
def putCell (l : Nat) (s : State) (c : SentCell) : State :=
  emit (setZl s l { zl s l with lastTx := s.tick }) (.cell l (cellBytes c.head c.lseq (zl s l).last c.pseq c.data false) none)

/-- Data cells a crossing buffer or a replay buffer of 128 KiB holds (R29, R306). -/
def cellRoom : Nat := 468

/-- The waiting cells in the order they leave: where forwarded and local cells wait they alternate, each kind in its own order
(R311). The first is of the kind whose turn it is. -/
def alternate : List SentCell → List SentCell → List SentCell
  | [], l => l
  | a :: t, l =>
    match l with
    | [] => a :: t
    | b :: u => a :: b :: alternate t u

/-- The waiting cells of a link in the order they leave. -/
def waitOrder (z : ZLink) : List SentCell :=
  alternate (z.wait.filter (fun c => c.fwd == z.turn)) (z.wait.filter (fun c => c.fwd != z.turn))

/-- Cells that wait are sent while the replay buffer's 468 cells and the receiver's credits have room (R306). -/
def sendWaiting (s : State) (l : Nat) : State :=
  let z := zl s l
  let order := waitOrder z
  let go := order.take (min cellRoom z.credit - z.held.length)
  let cells := (List.zip (upto go.length) go).map (fun p => { p.2 with lseq := (z.next + p.1) % 2 ^ 24, sends := 1 })
  cells.foldl (putCell l) (setZl s l { z with next := (z.next + go.length) % 2 ^ 24, held := z.held ++ cells,
                                              wait := order.drop go.length,
                                              turn := (go.getLast?.map (fun c => !c.fwd)).getD z.turn })

/-- A data cell is given to a link that is up: one of this part's own, or one it forwards. -/
def giveCell (s : State) (l : Nat) (h : CellHead) (pseq : Nat) (data : List Byte) (fwd : Bool) : State :=
  if linkUp s l then
    sendWaiting (setZl s l { zl s l with wait := (zl s l).wait ++ [⟨0, h, pseq, data, 0, fwd⟩] }) l
  else s

/-- A data cell of this part's own on a ring link: PSEQ is zero (R304). -/
def sendOn (s : State) (l type dst stream : Nat) (data : List Byte) : State := giveCell s l (ownHead s type dst stream) 0 data false

/-- A pair cell takes the next PSEQ on a link; its destination is the partner's node. -/
def sendPairOn (s : State) (l type stream : Nat) (data : List Byte) : State :=
  giveCell { s with pair := { s.pair with pOut := (s.pair.pOut + 1) % 65536 } } l
    (ownHead s type ((s.pair.hello.map (·.node)).getD 0) stream) s.pair.pOut data false

/-- A pair cell goes over the pair link that holds fewer cells (R312; DEDUCED, log entry 47). -/
def sendPair (s : State) (type stream : Nat) (data : List Byte) : State :=
  let load := fun l => (zl s l).held.length + (zl s l).wait.length
  if pairLinkUp s 0 && (!pairLinkUp s 1 || decide (load 0 ≤ load 1)) then sendPairOn s 0 type stream data
  else if pairLinkUp s 1 then sendPairOn s 1 type stream data else s

/-- The 16 bytes of a token record (R305). -/
def tokenBytes (kind k seg number epoch cause : Nat) : List Byte :=
  leBytes 1 kind ++ leBytes 1 k ++ leBytes 2 seg ++ leBytes 4 number ++ leBytes 2 epoch ++ leBytes 2 cause ++ leBytes 4 0

/-- A token leaves on the pair links: KIND, STREAM, SEGMENT, NUMBER, EPOCH and CAUSE (R305). -/
def sendRecord (s : State) (kind k seg number epoch cause : Nat) : State := sendPair s 3 k (tokenBytes kind k seg number epoch cause)

/-- A MARK cell leaves before an output line is transmitted, or a decision executed: which of the two, the stream, and the line's or the
decision's number (R316; the layout is a DESIGN CHOICE, log entry 44). -/
def sendMark (s : State) (decision : Bool) (k number : Nat) : State :=
  sendPair s 5 k (leBytes 1 (b2n decision) ++ leBytes 1 k ++ leBytes 2 0 ++ leBytes 8 number)

/-- A member of a pair whose SSC latches SAFE sends LEAVE with the cause on every pair link that is up, and is then an
unmatched listener (R305, R321, R324). -/
def leavePair (s : State) (cause : Nat) : State :=
  if rd s R.ZP_STATUS.ROLE 0 = 0 then s
  else
    let s1 := [0, 1].foldl (fun s l => if pairLinkUp s l then sendPairOn s l 3 0 (tokenBytes 5 0 0 0 0 cause) else s) s
    roleReg s1 3 false

/-- The SSC takes a doubt of a cause (R295). A doubt while SAFE is latched is counted and changes no cause. -/
def doubtWith (s : State) (cause ssc : Nat) : State :=
  let s0 := bump s R.SSC_STATE.ENTRIES 0
  if isSafe s then s0
  else
    let s1 := wr s0 R.SSC_STATE.SAFE 0 1
    let s2 := wr s1 R.SSC_CAUSE.CODE 0 cause
    let s3 := wr s2 R.SSC_CAUSE_TICK.TICK 0 (if s.fieldLost then ssc else s.tick)
    leavePair (raiseInt (note (readingInvalid (driveSafe s3)) 0x0D01 0 .doubt cause) 1) cause

/-- A doubt while the SSC's own count is the state's (R298). -/
def doubt (s : State) (cause : Nat) : State := doubtWith s cause s.sscCount

/-- Reports a code on the side of the present situation, and answers a code on the Doubt or Control-path side with a
doubt (R272, R294). -/
def report (s : State) (code inst detail : Nat) : State :=
  let side := sideNow s code
  let s1 := note s code inst side detail
  if side == .doubt || side == .controlPath then doubt s1 code else s1

/-- Reports a code if a condition holds. -/
def reportIf (c : Bool) (s : State) (code inst detail : Nat) : State := if c then report s code inst detail else s

/-- An environment doubt's condition holds, or no longer: signalled when it begins to hold (R297). -/
def environment (s : State) (code inst detail : Nat) (holds : Bool) : State :=
  if holds then
    (if s.flt.env.contains code then s else report { s with flt := { s.flt with env := code :: s.flt.env } } code inst detail)
  else { s with flt := { s.flt with env := s.flt.env.filter (· != code) } }

/-- A row that comes every n ticks is due, having last run at t. -/
def due (s : State) (t n : Nat) : Bool := decide (t + n ≤ s.tick)

/-- An outcome that is the next state. -/
abbrev ok (s : State) : Host.Outcome State Fault Refusal := .next s

end Sys2Proof.Machine
end

