-- ==== Sys2Proof/Machine/Operands.lean ====
section
/-! DEFINITION. Machine/Operands.lean: the fields of an instruction word (R88), the register files of a core (R91), its
scratchpad words (R151) and the device address space (R27, R28). -/

namespace Sys2Proof.Machine

open Sys2Proof

/-! ### The instruction word (R88) -/

/-- OPCODE, bits [63:58]. -/
def opc (w : Nat) : Nat := bits w 58 6
/-- DST, bits [57:52]. -/
def dst (w : Nat) : Nat := bits w 52 6
/-- SRCA, bits [51:46]. -/
def srcA (w : Nat) : Nat := bits w 46 6
/-- SRCB, bits [45:40]. -/
def srcB (w : Nat) : Nat := bits w 40 6
/-- IMM, bits [39:0]. -/
def imm (w : Nat) : Nat := bits w 0 40

/-- Register files, as the decoder checks an index field against them (R89): `none` is a reserved field. -/
inductive RFile where
  | s | t | v | m | h | c | a | none
  deriving DecidableEq, Repr

/-- The size of a file (R91); a reserved field must be zero. -/
def RFile.size : RFile → Nat
  | .s => 32 | .t => 16 | .v => 16 | .m => 8 | .h => 16 | .c => 32 | .a => 16 | .none => 1

/-- The index fields name registers that exist, and every bit of IMM outside `used` is zero (R89). -/
def decOk (w : Nat) (d a b : RFile) (used : List (Nat × Nat)) : Bool :=
  decide (dst w < d.size) && decide (srcA w < a.size) && decide (srcB w < b.size) &&
  (used.foldl (fun r f => setBits r f.1 f.2 0) (imm w) == 0)

/-! ### Cores -/

/-- A core's state. -/
def coreAt (s : State) (c : Nat) : Core := tget Core.reset s.cores c

/-- Replaces a core's state. -/
def setCore (s : State) (c : Nat) (k : Core) : State := { s with cores := tset Core.reset s.cores c k }

/-- Changes a core's state. -/
def modCore (s : State) (c : Nat) (f : Core → Core) : State := setCore s c (f (coreAt s c))

/-- Scalar register i; s0 reads zero (R91). -/
def sreg (k : Core) (i : Nat) : Nat := if i = 0 then 0 else tget 0 k.s i

/-- Writes scalar register i; a write to s0 is discarded (R91). -/
def setS (k : Core) (i v : Nat) : Core := if i = 0 then k else { k with s := tset 0 k.s i (v % word32) }

/-- Tile descriptor i. -/
def treg (k : Core) (i : Nat) : TileD := tget TileD.reset k.t i

/-- Writes tile descriptor i. -/
def setT (k : Core) (i : Nat) (d : TileD) : Core := { k with t := tset TileD.reset k.t i d }

/-- Vector register i. -/
def vreg (k : Core) (i : Nat) : VReg := tget VReg.reset k.v i

/-- Writes vector register i. -/
def setV (k : Core) (i : Nat) (r : VReg) : Core := { k with v := tset VReg.reset k.v i r }

/-- Every lane of a mask enabled (R81). -/
def allLanes : Nat := 2 ^ 256 - 1

/-- Mask register i. -/
def mreg (k : Core) (i : Nat) : Nat := tget allLanes k.m i

/-- Writes mask register i. -/
def setM (k : Core) (i v : Nat) : Core := { k with m := tset allLanes k.m i v }

/-- Lane j of a mask (R120: modulo 256). -/
def lane (m j : Nat) : Bool := bit m (j % 256)

/-- Accumulator tile i. -/
def tileAt (k : Core) (i : Nat) : Tile := tget Tile.reset k.acc i

/-- Writes accumulator tile i. -/
def setTile (k : Core) (i : Nat) (t : Tile) : Core := { k with acc := tset Tile.reset k.acc i t }

/-- A ring handle's binding. -/
def hreg (k : Core) (i : Nat) : Option Handle := tget none k.h i

/-- A counter handle's binding. -/
def creg (k : Core) (i : Nat) : Option Handle := tget none k.c i

/-- A ring beyond its registers. -/
def ringX (s : State) (c r : Nat) : RingX := tget RingX.reset (coreAt s c).rings r

/-- Replaces a ring beyond its registers. -/
def setRingX (s : State) (c r : Nat) (x : RingX) : State :=
  modCore s c (fun k => { k with rings := tset RingX.reset k.rings r x })

/-- The core is present on this part (R3). -/
def present (s : State) (c : Nat) : Bool := decide (c < s.part.cores)

/-! ### Scratchpads and device addresses (R27, R28, R151, R169) -/

/-- Device address of word w of a core's scratchpad (R151). -/
def spAddr (c w : Nat) : Nat := 0xF000000000 + c * 0x100000 + 32 * w

/-- State of a bank group: 0 OFF, 1 STARTING, 2 ON, 3 DRAINING (R169). -/
def groupState (s : State) (c g : Nat) : Nat := bits (rd s R.SPAD_PWR_STATUS.GROUP_STATE c) (2 * g) 2

/-- Sets a bank group's state. -/
def setGroup (s : State) (c g st : Nat) : State :=
  wr s R.SPAD_PWR_STATUS.GROUP_STATE c (setBits (rd s R.SPAD_PWR_STATUS.GROUP_STATE c) (2 * g) 2 st)

/-- Word w exists and its bank group is ON (R28, R169). -/
def spOk (s : State) (c w : Nat) : Bool := decide (w < 12288) && groupState s c (w / 3072) == 2

/-- Words w to w + n − 1 are all usable. -/
def spSpan (s : State) (c w n : Nat) : Bool := (List.range n).all (fun i => spOk s c (w + i))

/-- A scratchpad word as a 256-bit number. -/
def spWord (s : State) (c w : Nat) : Nat := memLE s.mem (spAddr c w) 32

/-- The stored poison bit of a device address's 32-byte unit (R152). -/
def poisoned (s : State) (addr : Nat) : Bool := tget false s.poison (addr / 32)

/-- Sets the poison bits of the units an n-byte write touches. -/
def setPoison (s : State) (addr n : Nat) (p : Bool) : State :=
  { s with poison := (List.range (cdiv (addr % 32 + n) 32)).foldl (fun t i => tset false t (addr / 32 + i) p) s.poison }

/-- The parity bits of n written bytes are those of their data again (R152). -/
def clearPar (l : List (Nat × Nat)) (addr n : Nat) : List (Nat × Nat) :=
  (l.map (fun e => (e.1, maskOf 32 fun b =>
    bit e.2 b && !(decide (addr ≤ 32 * e.1 + b) && decide (32 * e.1 + b < addr + n))))).filter (fun e => e.2 != 0)

/-- Writes bytes at a device address with a poison bit (R152). -/
def devWrite (s : State) (addr : Nat) (data : List Byte) (p : Bool) : State :=
  setPoison { s with mem := memWrite s.mem addr data, parErr := clearPar s.parErr addr data.length } addr data.length p

/-- Writes a scratchpad word from the core's own engines: poison bit 0 (R152). -/
def spPut (s : State) (c w v : Nat) : State := devWrite s (spAddr c w) (leBytes 32 v) false

/-- Any of words w to w + n − 1 is poisoned. -/
def spPoison (s : State) (c w n : Nat) : Bool := (List.range n).any (fun i => poisoned s (spAddr c (w + i)))

/-- A parity bit of words w to w + n − 1 does not match (R152). -/
def spParity (s : State) (c w n : Nat) : Bool := (List.range n).any (fun i => tget 0 s.parErr (spAddr c (w + i) / 32) != 0)

/-- A parity bit of n bytes from a device address does not match. -/
def parityBad (s : State) (a n : Nat) : Bool := (List.range (cdiv (a % 32 + n) 32)).any (fun i => tget 0 s.parErr (a / 32 + i) != 0)

/-- The alarms of a read of words w to w + n − 1 by the core's own engines (R167). -/
def readCodes (s : State) (c w n : Nat) : List Nat :=
  (if spParity s c w n then [0x0204] else []) ++ (if spPoison s c w n then [0x0401] else [])

/-- Index of a bank's row-map entry. -/
def mapIx (bank e : Nat) : Nat := 8 * bank + e

/-- No entry of the bank is usable: each is VALID or SPARE_BAD. -/
def sparesOut (s : State) (c bank : Nat) : Bool :=
  (List.range 8).all (fun e => isSet s (R.SPAD_ROWMAP.VALID.nth (mapIx bank e)) c ||
    isSet s (R.SPAD_ROWMAP.SPARE_BAD.nth (mapIx bank e)) c)

/-- Number of a logical row of a bank (R153). -/
def rowIx (bank row : Nat) : Nat := 384 * bank + row

/-- 24 hours in ticks. -/
def dayTicks : Nat := 8640000000000

/-- A 0x0204 at word w counts against its row: the second within 24 h is the row's failure, which in a bank with no usable spare
left costs the core (R168). -/
def noteRow (s : State) (c w : Nat) : State :=
  let i := rowIx (w % 32) (w / 32)
  modCore s c fun k =>
    let t := tget 0 k.rowErr i
    { k with rowErr := tset 0 k.rowErr i (s.tick + 1),
             spareless := k.spareless || (t != 0 && decide (s.tick + 1 ≤ t + dayTicks) && sparesOut s c (w % 32)) }

/-- The 0x0204s of a read of words w to w + n − 1 count against their rows (R168). -/
def noteRows (s : State) (c w n : Nat) : State :=
  if spParity s c w n then ((List.range n).filter (fun i => spParity s c (w + i) 1)).foldl (fun s' i => noteRow s' c (w + i)) s else s

/-- Stored bits of a scratchpad word flip: 256 of data, 32 of parity above them. -/
def flipWord (s : State) (c w mask : Nat) : State :=
  if 12288 ≤ w then s
  else
    let u := spAddr c w / 32
    let m := mask % 2 ^ 256
    { s with mem := memWrite s.mem (spAddr c w) (leBytes 32 (Nat.xor (spWord s c w) m)),
             parErr := tset 0 s.parErr u (Nat.xor (tget 0 s.parErr u) (Nat.xor (byteParity 32 m) (bits mask 256 32))) }

/-- Bytes of DRAM addresses (R27). -/
def dramBytes (s : State) : Nat := if s.part.cores = 128 then 0x700000000 else 0x380000000

/-- A device address lies in DRAM. -/
def inDram (s : State) (a : Nat) : Bool := decide (a < dramBytes s)

/-- A device address lies in the host window. -/
def inHostWin (a : Nat) : Bool := decide (0x8000000000 ≤ a) && decide (a < 0xC000000000)

/-- The core and word of a scratchpad address; none elsewhere. -/
def spOf (s : State) (a : Nat) : Option (Nat × Nat) :=
  if 0xF000000000 ≤ a ∧ a < 0xF008000000 then
    let c := (a - 0xF000000000) / 0x100000
    let o := (a - 0xF000000000) % 0x100000
    if present s c ∧ o < 0x60000 then some (c, o / 32) else none
  else none

/-- No address error in n bytes from a: DRAM, the host window, or usable scratchpad words (R27, R28, R169). -/
def devOk (s : State) (a n : Nat) : Bool :=
  if inDram s a then decide (a + n ≤ dramBytes s)
  else if inHostWin a then decide (a + n ≤ 0xC000000000)
  else match spOf s a with
    | some (c, w) => spSpan s c w (cdiv (a % 32 + n) 32)
    | none => false

/-- The memory a store by the core into words of its own scratchpad invalidates a held weight tile for (R68). -/
def heldWords (h : HeldTile) (w : Nat) : Bool :=
  let wpr := cdiv (h.d.cols * fmtWidth h.d.fmt) 256
  let main := (List.range h.d.rows).any (fun i => decide (h.d.base + i * h.d.stride ≤ w) && decide (w < h.d.base + i * h.d.stride + wpr))
  let cb3 := h.d.fmt == 12 && decide (h.d.base ≤ w) && decide (w < h.d.base + cdiv (24 * h.d.rows) 32)
  let scale := isMxFmt h.d.fmt && decide (h.d.base + h.d.rows * h.d.stride ≤ w) &&
    decide (w < h.d.base + h.d.rows * h.d.stride + cdiv (h.d.rows * h.d.cols / 32) 32)
  let book := match h.cb with
    | none => false
    | some b => decide (b ≤ w) && decide (w < b + (if h.d.fmt = 12 then cdiv h.d.rows 2 else h.d.rows))
  main || cb3 || scale || book

/-- Marks a held tile stale after a store to word w of the core's own scratchpad (R68). -/
def spoil (s : State) (c w : Nat) : State :=
  modCore s c (fun k => { k with held := k.held.map (fun h => if heldWords h w then { h with valid := false } else h) })

/-- Marks held tiles stale after a store to words w to w + n − 1. -/
def spoilWords (s : State) (c w n : Nat) : State := (List.range n).foldl (fun s i => spoil s c (w + i)) s

/-- Stores a word from the core's own instruction stream. -/
def spStore (s : State) (c w v : Nat) : State := spoil (spPut s c w v) c w

/-! ### Streams' periods -/

/-- A stream. -/
def strm (s : State) (k : Nat) : Strm := tget Strm.reset s.strms k

/-- Replaces a stream. -/
def setStrm (s : State) (k : Nat) (x : Strm) : State := { s with strms := tset Strm.reset s.strms k x }

/-- Changes a stream. -/
def modStrm (s : State) (k : Nat) (f : Strm → Strm) : State := setStrm s k (f (strm s k))

/-- The stripe period of a stream in ticks, height times line period; 10 ms for one with no line period or not running
(R380). -/
def streamTicks (s : State) (k : Nat) : Nat :=
  let lp := rd s R.STRM_LP.TICKS k
  if lp = 0 ∨ rd s R.STRM_STATUS.STATE k ≠ 2 then 1000000 else (strm s k).height * lp

/-- The stripe period that limits of a share use (R165, R380). -/
def shareTicks (s : State) (d : Desc) : Nat := if d.kind = 3 then 1000000 else streamTicks s d.stream

end Sys2Proof.Machine
end

