-- ==== Sys2Proof/Machine/Outbound.lean ====
section
/-! DEFINITION. Machine/Outbound.lean: datagrams to the management system and change records (R41, R431, R433, R457-R460), and the records of the life store that other units write. -/

namespace Sys2Proof.Machine

open Sys2Proof

/-- The 48-byte header of a datagram of this part's: SEQ, the ACK of what has come in, UNIQUE_ID, CALENDAR, POWERED_S, the body's length,
and UNIT 0xFF (R431). -/
def dgramHead (s : State) (g : Dgram) : List Byte :=
  leBytes 2 0xCA94 ++ leBytes 1 1 ++ leBytes 1 g.kind ++ leBytes 4 g.seq ++ leBytes 4 s.mgmt.lastIn ++ leBytes 8 (unique s) ++
  leBytes 4 (calNow s) ++ leBytes 8 s.life.now.powered ++ leBytes 2 g.body.length ++ leBytes 1 0xFF ++ leBytes 13 0

/-- A datagram's bytes: header, body, and the HMAC-SHA-256 of both under the management key in force (R431); where none is burned, under
the empty key (DESIGN CHOICE, log entry 60). -/
def dgramBytes (s : State) (g : Dgram) : List Byte :=
  let l := dgramHead s g ++ g.body
  l ++ hmac256 ((s.sec.mgmtKeys.getLast?).getD []) l

/-- A held datagram goes out where the management port is enabled. -/
def putDatagram (s : State) (g : Dgram) : State := if isSet s R.MGMT_NET_CTRL.EN 0 then emit s (.datagram (dgramBytes s g)) else s

/-- Clapper sends a datagram and holds it until an ACK covers it (R431). -/
def sendDatagram (s : State) (kind : Nat) (body : List Byte) : State :=
  let m := s.mgmt
  let g : Dgram := ⟨m.nextSeq, kind, body, s.tick⟩
  putDatagram { s with mgmt := { m with held := m.held ++ [g], nextSeq := m.nextSeq + 1 } } g

/-- A mailbox instance. -/
def mbxOf (s : State) (i : Nat) : Mbx := tget Mbx.reset s.mbx i

/-- Sets it, and what its registers show (R454, R456). -/
def setMbx (s : State) (i : Nat) (m : Mbx) : State :=
  wr { s with mbx := tset Mbx.reset s.mbx i m } R.MBX_STATUS.SLOT_BUSY i
    (maskOf 8 (fun b => m.reqs.any (fun r => r.slot == b && !r.gone) || m.rspWait.any (fun r => r.1 == b)))

/-- The 64 bytes of a response (R457). -/
def rspBytes (r : MbxReq) (result value : Nat) (data : List Byte) : List Byte :=
  leBytes 2 r.cmd ++ leBytes 2 r.tag ++ leBytes 1 r.slot ++ leBytes 3 0 ++ leBytes 2 result ++ leBytes 2 0 ++
    leBytes 4 value ++ slice data 0 48

/-- A request completes: its response waits to be posted, or is discarded where its instance was reset (R460). -/
def respond (s : State) (i : Nat) (r : MbxReq) (result value : Nat) (data : List Byte) : State :=
  let m := mbxOf s i
  let rest := m.reqs.erase r
  if r.gone then bump (setMbx s i { m with reqs := rest }) R.MBX_CNT_DISCARD.COUNT i
  else setMbx s i { m with reqs := rest, rspWait := m.rspWait ++ [(r.slot, rspBytes r result value data)] }

/-- Completes every request of an instance that satisfies a condition. -/
def respondAll (s : State) (i : Nat) (is : MbxReq → Bool) (value : MbxReq → Nat) (result : Nat) : State :=
  ((mbxOf s i).reqs.filter is).foldl (fun s r => respond s i r result (value r) []) s

/-- Step 7 of R407 for the lowest stream of a SWAP: its request is answered with the lowest effect stripe, which stands
after its arguments (R458, R460). -/
def swapDone (s : State) (k : Nat) : State :=
  respondAll s 0 (fun r => r.cmd == 2 && firstSuch (bit (fieldLE r.args 16 4)) 32 == some k) (fun r => fieldLE r.args 20 4) 0

/-- Removes the oldest CXP_EVENT or LOAD_PROGRESS of the waiting events. -/
def dropEvent : List (Nat × List Byte) → List (Nat × List Byte)
  | [] => []
  | e :: t => if e.1 = 1 then e :: dropEvent t else t

/-- An event joins the events that wait for the host's ring; beyond 64 the oldest of another kind than SEGMENT_REQUEST is
dropped (R459, R460). -/
def queueEvent (s : State) (kind : Nat) (data : List Byte) : State :=
  let m := mbxOf s 0
  let l := m.evtWait ++ [(kind, data)]
  if l.length ≤ 64 ∨ l.all (fun e => e.1 == 1) then setMbx s 0 { m with evtWait := l }
  else report (bump (setMbx s 0 { m with evtWait := dropEvent l }) R.MBX_CNT_EVT_DROP.COUNT 0) 0x073D 0 kind

/-! ### The ring (R310, R311, R435) -/

/-- Bytes cut into payloads of at most 256 (R304). -/
def payloads (data : List Byte) : List (List Byte) := (upto (cdiv data.length 256)).map (fun i => slice data (256 * i) (min 256 (data.length - 256 * i)))

/-- Another node of the ring has this part's number: this part sends no traffic of its own, until the latch is cleared (R311). -/
def ringMuted (s : State) : Bool := isSet s R.ZR_STATUS.DUPLICATE 0

/-- The ring link of the shorter direction to a node, link 3 where both are equally short: nodes stand on the ring in the order of
their numbers, among those announced (R310; DESIGN CHOICE, log entry 47). -/
def ringLink (s : State) (unit : Nat) : Nat :=
  let own := rd s R.ZR_CTRL.NODE 0
  let nodes := (upto 8).filter (fun n => n == own || n == unit || bit (rd s R.ZR_STATUS.NODES 0) n)
  let at' := fun n => (nodes.filter (fun m => decide (m < n))).length
  let up := (at' unit + nodes.length - at' own) % nodes.length
  if up ≤ nodes.length - up then 3 else 2

/-- The link a cell of this part's own to a node goes over: the shorter direction, or the other where that is down. A node whose number
another has sends nothing of its own (R310, R311). -/
def ringRoute (s : State) (unit : Nat) : Option Nat :=
  let first := ringLink s unit
  [first, 5 - first].find? (fun l => rd s R.ZL_CTRL.MODE l == 2 && linkUp s l && !ringMuted s)

/-- A message to a node goes in MESSAGE cells: its kind (7 a COMMAND, 8 a REPLY), its length, and its bytes (R310; its layout is a
DESIGN CHOICE, log entry 44). -/
def sendMessage (s : State) (l dst kind : Nat) (body : List Byte) : State :=
  (payloads (leBytes 4 kind ++ leBytes 4 body.length ++ body)).foldl (fun s p => sendOn s l 7 dst 0 p) s

/-- Clapper answers: to the management system, or, to a COMMAND that came over the ring, in MESSAGE cells to the node it came from
(R435). -/
def answerVia (s : State) (route : Option Nat) (kind : Nat) (body : List Byte) : State :=
  match route with
  | none => sendDatagram s kind body
  | some n =>
    let g : Dgram := ⟨s.mgmt.nextSeq, kind, body, s.tick⟩
    let s1 := { s with mgmt := { s.mgmt with held := s.mgmt.held ++ [g], nextSeq := s.mgmt.nextSeq + 1 } }
    match ringRoute s1 n with
    | none => s1
    | some l => sendMessage s1 l n 8 (dgramBytes s1 g)

/-- The body of a REPLY: command code, result, argument (R433; the widths are a DESIGN CHOICE, log entry 60). -/
def replyBody (code result : Nat) (arg : List Byte) : List Byte := leBytes 1 code ++ leBytes 2 result ++ arg

/-- The commands of a code that wait for their end are answered (R434). -/
def answerWaiting (s : State) (code result : Nat) (arg : List Byte) : State :=
  (s.mgmt.waiting.filter (·.1 == code)).foldl (fun s w => answerVia s w.2 17 (replyBody code result arg))
    { s with mgmt := { s.mgmt with waiting := s.mgmt.waiting.filter (·.1 != code) } }

/-! ### Changes (R41, R314) -/

/-- The speaker of a pair sends a change of content to the listener in CONTROL cells: its stream, the stripe it takes effect at, what
it is, and its values (R314). The payload's layout is no part of the spec (DESIGN CHOICE, log entry 44). -/
def sendControl (s : State) (k eff what : Nat) (vals : List Nat) : State :=
  if rd s R.ZP_STATUS.ROLE 0 = 1 ∧ linked s then
    (payloads (leBytes 4 k ++ leBytes 4 eff ++ leBytes 4 what ++ vals.flatMap (leBytes 4))).foldl (fun s p => sendPair s 6 k p) s
  else s

/-- The kinds of a change record, in the order R433 lists them. -/
inductive ChangeKind where
  | package | firmware | calibration | tiling | configuration | release
  deriving DecidableEq, Repr

/-- The place of a kind in R433's list. -/
def ChangeKind.code : ChangeKind → Nat
  | .package => 0 | .firmware => 1 | .calibration => 2 | .tiling => 3 | .configuration => 4 | .release => 5

/-- First 8 bytes of the SHA-256 of a stream's package. -/
def pkgSha (s : State) (k : Nat) : Nat :=
  match (tget Strm.reset s.strms k).pkg with
  | some p => p.sha
  | none => 0

/-! ### The life store (R341, R344) -/

/-- A change enters the change log, a ring of 4,096 records (R341). -/
def logChange (s : State) (l : List Nat) : State :=
  let s1 := { s with life := { s.life with log := (s.life.log ++ [l]).drop ((s.life.log.length + 1) - 4096) } }
  wr (wr s1 R.LIFE_LOG_HEAD.NEXT 0 (rd s R.LIFE_LOG_HEAD.NEXT 0 + 1)) R.LIFE_LOG_HEAD.SEQ 0 (rd s R.LIFE_LOG_HEAD.SEQ 0 + 1)

/-- The core record of the life store. -/
def coreRec (s : State) (c : Nat) : CoreRec := tget CoreRec.reset s.life.cores c

/-- Writes it: its trailer's sequence number rises by one (R344). -/
def modRec (s : State) (c : Nat) (f : CoreRec → CoreRec) : State :=
  let r := f (coreRec s c)
  { s with life := { s.life with cores := tset CoreRec.reset s.life.cores c { r with seq := (r.seq + 1) % word32 } } }

/-- Powered ticks since the last event or forgiveness of a core: the seconds its record holds, and what has passed since (R344). -/
def quietTicks (s : State) (c : Nat) : Nat := (coreRec s c).quiet * 100000000 + (s.tick - tget 0 s.flt.quiet c)

/-- QUIET_S of a core's record becomes the whole seconds of a number of ticks, from which the timer goes on (R344). -/
def setQuiet (s : State) (c n : Nat) : State :=
  { modRec s c (fun r => { r with quiet := n / 100000000 }) with
    flt := { s.flt with quiet := tset 0 s.flt.quiet c (s.tick - n % 100000000) } }

/-- The quiet timer of a core restarts (R290). -/
def quietRestart (s : State) (c : Nat) : State := setQuiet s c 0

/-- An event entry: code, kind of share, calendar, POWERED_S and stripe, at the next of 59 places (R344). -/
def recordEvent (s : State) (c code kind stripe : Nat) : State :=
  modRec s c fun r => { r with events := tset [] r.events r.head [code, kind, calNow s, s.life.now.powered % word32, stripe],
                               head := (r.head + 1) % 59 }

/-- A change record to the host and to Clapper: stream, effect stripe, kind, package, firmware, calibration set
(R41, R433). -/
def changeRecord (s : State) (k stripe : Nat) (c : ChangeKind) : State :=
  let fw := rd s R.SEC_FW_VERSION.VERSION 0
  let set := (tget CalStrm.reset s.cals k).setId
  let body := leBytes 1 k ++ leBytes 4 stripe ++ leBytes 1 c.code ++ leBytes 8 (pkgSha s k) ++ leBytes 4 fw ++ leBytes 4 set
  raiseInt (logChange (sendDatagram s 3 body) [k, stripe, c.code, pkgSha s k, fw, set]) 5

end Sys2Proof.Machine
end

