-- ==== Sys2Proof/Machine/Stream.lean ====
section
/-! DEFINITION. Machine/Stream.lean: logical streams: their lines from the crossing buffer to the input buffer, and
the closing of stripes (R18-R21, R40, R176, R178, R371, R372).
Its conventions: DEDUCED, log entry 15. -/

namespace Sys2Proof.Machine

open Sys2Proof

/-! ### Periods and groups -/

/-- Declared line period in ticks; 0 for a host-fed stream without deadlines (R380). -/
def lpOf (s : State) (k : Nat) : Nat := rd s R.STRM_LP.TICKS k

/-- The stream's stripe period: H × LP, or 10 ms for a stream without deadlines (R380). -/
def spOf' (s : State) (k : Nat) : Nat := if lpOf s k = 0 then 1000000 else (strm s k).height * lpOf s k

/-- The stream is enabled. -/
def running (s : State) (k : Nat) : Bool := isSet s R.STRM_SRC.EN k

/-- Lines per frame; 0 for an endless stream. -/
def frameLines (s : State) (k : Nat) : Nat := rd s R.STRM_GEOM.FRAME_LINES k

/-- The enabled members of a stream's lock group in ascending order; the stream alone where it has none (R219). -/
def members (s : State) (k : Nat) : List Nat :=
  let g := rd s R.STRM_SRC.LOCK k
  if g = 0 then [k] else (upto 32).filter (fun j => running s j && rd s R.STRM_SRC.LOCK j == g)

/-- The lowest member: the stream its shares carry (R219). -/
def leader (s : State) (k : Nat) : Nat := (members s k).headD k

/-- Clock domain of a port (R29, R370). -/
def domainOf (port : Nat) : Nat :=
  if port < 4 then port + 1 else if port < 8 then 5 else if port < 12 then 6 else if port = 12 then 7 else 8

/-- Bits of a sensor word by STRM_RF_CTRL.UNPACK. -/
def rawBits : Nat → Nat
  | 0 => 8 | 1 => 10 | 2 => 12 | 3 => 14 | 4 => 16 | _ => 8

/-- Bytes a line of sensor words takes in its crossing buffer, as the port packs them. -/
def crossBytes (s : State) (k : Nat) (words : List Nat) : Nat := cdiv (words.length * rawBits (rd s R.STRM_RF_CTRL.UNPACK k)) 8

/-- Size of a stream's input crossing buffer (R29): 64 KiB for a CSI-2 port, 64 KiB for each CoaXPress link of the
connection, 32 KiB for the sub-LVDS port; none for a stream the part fetches itself. -/
def crossSize (s : State) (k : Nat) : Option Nat :=
  let p := rd s R.STRM_SRC.PORT k
  if p < 4 then some 65536 else if p < 12 then some (65536 * (rd s R.STRM_SRC.LINKS_M1 k + 1)) else if p = 12 then some 32768 else none

/-- Bytes that wait in the crossing buffer of a stream's port: those of every stream of the port. -/
def crossUsed (s : State) (k : Nat) : Nat :=
  ((upto 32).filter (fun j => rd s R.STRM_SRC.PORT j == rd s R.STRM_SRC.PORT k)).foldl (fun a j =>
    a + ((strm s j).cross.map (fun l => crossBytes s j l.words)).foldl (· + ·) 0) 0

/-- A line finds no room in its crossing buffer (R32). -/
def crossFull (s : State) (k : Nat) (words : List Nat) : Bool :=
  match crossSize s k with
  | some n => decide (n < crossUsed s k + crossBytes s k words)
  | none => false

/-- Position of an encoder. -/
def encPos (s : State) (e : Nat) : Nat := rd s (R.FIO_ENC_POS.POS.nth e) 0

/-- This member is the listener of a pair, matched or not. -/
def isListener (s : State) : Bool := decide (2 ≤ rd s R.ZP_STATUS.ROLE 0)

/-! ### Stripes -/

/-- The stripe of a number. -/
def stripeOf (x : Strm) (n : Nat) : Option Stripe := x.stripes.find? (fun t => t.no == n)

/-- Replaces a stripe. -/
def putStripe (x : Strm) (t : Stripe) : Strm :=
  { x with stripes := x.stripes.map (fun u => if u.no == t.no then t else u) }

/-- Changes a stripe of a stream. -/
def modStripe (s : State) (k n : Nat) (f : Stripe → Stripe) : State :=
  modStrm s k fun x =>
    match stripeOf x n with
    | none => x
    | some t => putStripe x (f t)

/-- The stripe a new line opens. -/
def openStripe (x : Strm) (l : Line) : Stripe :=
  { Stripe.reset with no := x.nextStripe, firstLine := l.no, frameAt := l.fline, firstStamp := l.stamp, opening := l.opens }

/-- A line counted into a stripe: T0 is the stamp of the last line received (R18, R21). -/
def addLine (h : Nat) (t : Stripe) (l : Line) : Stripe :=
  { t with got := t.got + 1, real := if l.filled then t.real else t.real + 1, lines := t.lines + 1,
           t0 := if l.filled then t.t0 else l.stamp, subst := t.subst || l.subst, partialS := t.partialS || l.filled,
           closing := t.closing || l.closes, complete := decide (h ≤ t.got + 1) || l.closes }

/-- The open stripe takes the line, or the line opens the next one. -/
def countLine (x : Strm) (l : Line) : Strm :=
  match x.stripes.getLast? with
  | some t =>
    if t.complete then { x with stripes := x.stripes ++ [addLine x.height (openStripe x l) l], nextStripe := x.nextStripe + 1 }
    else { x with stripes := x.stripes.dropLast ++ [addLine x.height t l] }
  | none => { x with stripes := [addLine x.height (openStripe x l) l], nextStripe := x.nextStripe + 1 }

/-! ### Step 1 and 2: lines enter (R18, R371, R391) -/

/-- A line that has passed its link layer, with what its port says of frames: none, its number in the frame, whether it
opens or closes one. Lines outside a frame are not taken. -/
def newLine (s : State) (k : Nat) (words : List Nat) (subst : Bool) : Line :=
  let x := strm s k
  let fl := frameLines s k
  { no := x.nextLine, fline := if fl = 0 then x.nextLine else x.frameLine, stamp := s.tick, enc0 := encPos s 0, enc1 := encPos s 1, words := words,
    subst := subst, opens := if fl = 0 then x.nextLine == 0 else x.frameLine == 0,
    closes := fl != 0 && x.frameLine + 1 == fl, filled := false }

/-- Whether the next line of a stream may be taken: an endless stream always, a stream with FRAME_SRC 2 always, one with
a trigger after its edge (R391), one with sensor markers inside a frame. -/
def takesLine (s : State) (k : Nat) : Bool :=
  let x := strm s k
  running s k && (frameLines s k == 0 || x.inFrame || rd s R.STRM_FRAME.FRAME_SRC k == 2 ||
    (rd s R.STRM_FRAME.FRAME_SRC k == 1 && (match x.edge with
      | some t => decide (t < s.tick)
      | none => false)))

/-- A line enters the crossing buffer (R18 step 1): numbered by the part from the start (R371). One that finds the buffer
full is lost, which is a doubt (R32). -/
def linkLine (s : State) (k : Nat) (words : List Nat) (subst : Bool) : State :=
  if !takesLine s k then s
  else
    let l := newLine s k words subst
    let full := crossFull s k words
    let s1 := modStrm s k fun x =>
      { x with cross := if full then x.cross else x.cross ++ [l], nextLine := x.nextLine + 1,
               frameLine := if l.closes then 0 else x.frameLine + 1,
               inFrame := !l.closes, edge := if l.closes ∨ !x.inFrame then none else x.edge }
    if full then report s1 0x0403 (domainOf (rd s R.STRM_SRC.PORT k)) k
    else if subst then hit (bump s1 R.STRM_CNT_SUBST.COUNT k) R.STRM_STATUS.SUBST k else s1

/-- The next line of a stream opens a stripe that opens an epoch: at a swap's or a hand-over's effect stripe, or where one is due and no
stripe waits for its dispatch (R40). -/
def epochLine (x : Strm) : Bool :=
  let y := (x.done.map (·.line) ++ x.fifo ++ x.cross).foldl countLine x
  let n := y.nextStripe
  (match y.stripes.getLast? with
   | some t => t.complete
   | none => true) &&
    ((x.swap.any fun w => w.eff == some n) || x.handover == some n || (x.renew && y.stripes.all (·.begun)))

/-- A substituted line: a copy of the last accepted line of the epoch, or zero words (R378). -/
def substLine (s : State) (k : Nat) : State :=
  let x := strm s k
  let zero := List.replicate (rd s R.STRM_GEOM.WIDTH k) 0
  linkLine s k (if epochLine x then zero else (x.cross.getLast?.map (·.words)).getD (x.last.getD zero)) true

/-- n substituted lines. -/
def substLines (s : State) (k : Nat) : Nat → State
  | 0 => s
  | n + 1 => substLine (substLines s k n) k

/-- Keeps the encoder stamps of the last 65,536 lines (R393). -/
def keepStamp (x : Strm) (l : Line) : Strm := { x with stamps := ((l.no, l.enc0, l.enc1) :: x.stamps).take 65536 }

/-- A line enters the interior (R18 step 2). -/
def enterLine (s : State) (k : Nat) (l : Line) : State :=
  let s1 := modStrm s k fun x => { keepStamp x l with fifo := x.fifo ++ [l], last := some l.words, lastAt := s.tick }
  strmState (wr s1 R.STRM_LINE.LINE k l.no) k 2

/-- Sensor words packed into bytes, least significant bit first (DESIGN CHOICE, log entry 42). -/
def packWords (bitsEach : Nat) (words : List Nat) : List Byte :=
  leBytes (cdiv (bitsEach * words.length) 8) (words.foldr (fun w v => w % 2 ^ bitsEach + v * 2 ^ bitsEach) 0)

/-- The words of packed bytes. -/
def unpackWords (bitsEach : Nat) (data : List Byte) : List Nat :=
  let v := leNat data
  (upto (8 * data.length / max 1 bitsEach)).map (fun i => bits v (bitsEach * i) bitsEach)

/-- A line as its cells carry it: line number, arrival stamp and length, then its bytes (R304, R312). -/
def lineCellBytes (s : State) (k no stamp : Nat) (words : List Nat) : List Byte :=
  let body := packWords (rawBits (rd s R.STRM_RF_CTRL.UNPACK k)) words
  leBytes 4 no ++ leBytes 8 stamp ++ leBytes 4 body.length ++ body

/-- A line of the stream goes to the partner in LINE cells, and after it a token that settles it: KIND 1 COMMIT, 2 RETRACT (R305, R312,
R317). -/
def forwardLine (s : State) (k kind no stamp : Nat) (words : List Nat) : State :=
  if linked s then
    sendRecord ((payloads (lineCellBytes s k no stamp words)).foldl (fun s p => sendPair s 2 k p) s) kind k 0 no (((strm s k).epoch).getD 0) 0
  else s

/-- A line another node processes goes to it in RSTREAM cells, with its token, by the shorter direction (R310); where no ring link is up
it is undeliverable (0x0506). -/
def ringLine (s : State) (node k kind no stamp : Nat) (words : List Nat) : State :=
  match ringRoute s node with
  | none => report s 0x0506 node 0
  | some l =>
    sendOn ((payloads (lineCellBytes s k no stamp words)).foldl (fun s p => sendOn s l 8 node k p) s) l 3 node k
      (tokenBytes kind k 0 no (((strm s k).epoch).getD 0) 0)

/-- The listener of a pair that is up uses the partner's copy of a dual-fed stream (R313). -/
def usesPartner (s : State) : Bool := isListener s && linked s

/-- A dual-fed listener compares its own copy with the forwarded one, which it uses (R313). -/
def compareOwn (s : State) (k : Nat) (l : Line) : State :=
  let x := strm s k
  match (x.pend.map (·.2) ++ x.fifo).find? (fun p => p.no == l.no) with
  | some p => reportIf (p.words != l.words) s 0x0C0D k l.no
  | none => modStrm s k fun x => { x with own := x.own ++ [l] }

/-- A line crosses into the interior with its stamp, number and parity (R18 step 2). In a pair its source forwards it; of a dual-fed
stream the speaker does, and the listener compares its own copy; a line that another node of the ring processes goes there. -/
def execLineReceived (stream : Nat) (route : LineRoute) (s : State) : Host.Outcome State Fault Refusal :=
  match (strm s stream).cross with
  | [] => ok s
  | l :: rest =>
    let s1 := modStrm s stream fun x => { x with cross := rest, route := route }
    match route with
    | .ring n => ok (ringLine s1 n stream 1 l.no l.stamp l.words)
    | _ =>
      if (strm s stream).fed || (route == .dual && usesPartner s) then ok (compareOwn s1 stream l)
      else ok (forwardLine (enterLine s1 stream l) stream 1 l.no l.stamp l.words)

/-! ### Step 4: the input buffer (R18, R185) -/

/-- Byte address of a code of a network-domain line of the stream in the input buffer (DESIGN CHOICE, log entry 41). -/
def inputAt (p : Place) (netLine off : Nat) : Nat := p.input * 256 + netLine % max 1 p.inputLines * p.inputPitch + off

/-- The codes of one pixel of an input line in the place space-to-depth gives them: pixel (f × X + dx, f × Y + dy)
takes channel dy × f + dx, its place counted from the frame's first line (R174, R185); two codes of YUV422 stand side by side. -/
def codeOff (w : WLine) (i : Nat) : Nat :=
  if w.chans = 2 then i * w.size
  else ((i / w.f * (w.f * w.f)) + w.line.fline % w.f * w.f + i % w.f) * w.size

/-- Writes a processed line. -/
def writeCodes (m : List Host.Cell) (p : Place) (w : WLine) : List Host.Cell :=
  (List.zip (upto w.codes.length) w.codes).foldl (fun m c =>
    memWrite m (inputAt p w.net (codeOff w c.1)) (leBytes w.size c.2)) m

/-- A written line is counted; the stripe it opens keeps the number of its network line. -/
def countWritten (x : Strm) (w : WLine) : Strm :=
  let y := countLine x w.line
  { y with stripes := y.stripes.map fun t => if t.no + 1 = y.nextStripe ∧ t.got = 1 then { t with net := w.net } else t }

/-- A processed line is written to the stream's input buffer (R18 step 4). -/
def execLineWriteToDram (stream : Nat) (s : State) : Host.Outcome State Fault Refusal :=
  let x := strm s stream
  match x.done with
  | [] => ok s
  | w :: rest =>
    ok (setStrm { s with mem := writeCodes s.mem x.place w } stream (countWritten { x with done := rest } w))

/-! ### Step 5: stripes close (R18, R21, R372) -/

/-- The oldest stripe that is complete and not closed. -/
def toClose (x : Strm) : Option Stripe := x.stripes.find? (fun t => t.complete && !t.closed)

/-- The lines of a stripe arrived in less than 0.95 × H × LP (R372): from one declared line period before the first one's stamp, which
a line bears as it ends (R18), to the last one's; in a partial stripe, of the lines received (DEDUCED, log entry 18). -/
def tooFast (s : State) (k : Nat) (t : Stripe) : Bool :=
  t.real != 0 && decide ((t.t0 - t.firstStamp + lpOf s k) * 100 < 95 * t.real * lpOf s k)

/-- The stripe is reported closed to the SSC, but for a stream without deadlines (R294, R380). -/
def watchClose (s : State) (k n : Nat) : State :=
  if lpOf s k = 0 then s else { s with flt := { s.flt with watch := s.flt.watch ++ [(k, n, s.sscCount)] } }

/-- Lines the open stripe still lacks. -/
def missing (s : State) (k : Nat) (t : Stripe) : Nat :=
  let x := strm s k
  let left := x.height - t.got
  if frameLines s k = 0 then left else min left (frameLines s k - x.frameLine)

/-- Number of the next line of a stream: of the next forwarded one while its lines come from the partner. -/
def lineNext (x : Strm) : Nat := if x.fed then x.ownNext else x.nextLine

/-- The i-th missing line repeats the last received line (R21); it takes its place in the frame, and closes it as its last
(R178). -/
def filledLine (x : Strm) (frame i : Nat) : Line :=
  { no := lineNext x + i, fline := if frame = 0 then lineNext x + i else x.frameLine + i, stamp := x.lastAt, enc0 := 0, enc1 := 0,
    words := x.last.getD [], subst := false, opens := false, closes := frame != 0 && x.frameLine + i + 1 == frame, filled := true }

/-- Calibration state of a stream. -/
def calOf (s : State) (k : Nat) : CalStrm := tget CalStrm.reset s.cals k

/-- Sets it, and shows it in CAL_STATUS.STATE (R348): a run first, then a pending commit, a blend. -/
def setCal (s : State) (k : Nat) (c : CalStrm) : State :=
  let run := match c.run with
    | some r => r.phase
    | none => 0
  let st := if run ≠ 0 then run else if c.eff.isSome then 4 else if c.blending then 5 else 0
  wr { s with cals := tset CalStrm.reset s.cals k c } R.CAL_STATUS.STATE k st

/-- A run ends with nothing staged (R334). -/
def failRun (s : State) (k : Nat) : State :=
  hit (report (setCal s k { calOf s k with run := none }) 0x0803 k 0) R.CAL_STATUS.REFUSED k

/-- A capture under way when the stream stops or closes a partial stripe fails (R334). -/
def failCapture (s : State) (k : Nat) : State :=
  match (calOf s k).run with
  | some r => if r.phase = 1 then failRun s k else s
  | none => s

/-- The open stripe's missing lines follow the last received one (R21); a frame whose last line is filled ends. -/
def closePartial (s : State) (k : Nat) (t : Stripe) : State :=
  let m := missing s k t
  let fl := frameLines s k
  let s1 := modStrm s k fun x =>
    let ended := fl != 0 && x.frameLine + m == fl
    { x with fifo := x.fifo ++ (upto m).map (filledLine x fl), nextLine := lineNext x + m, ownNext := lineNext x + m,
             frameLine := if ended then 0 else x.frameLine + m, inFrame := x.inFrame && !ended }
  failCapture (hit s1 R.STRM_STATUS.PARTIAL k) k

/-- After 2 SP without a line the open stripe is closed (R21). -/
def execPartialStripeTimeout (stream : Nat) (s : State) : Host.Outcome State Fault Refusal :=
  let x := strm s stream
  match x.stripes.getLast? with
  | none => ok s
  | some t =>
    if t.complete ∨ !x.cross.isEmpty ∨ !x.fifo.isEmpty ∨ !x.done.isEmpty ∨ s.tick < x.lastAt + 2 * spOf' s stream then ok s
    else ok (closePartial s stream t)

/-! ### Epochs (R40) -/

/-- The number of the next epoch: 0 for the first, then one more modulo 2^32. -/
def nextEpoch (x : Strm) : Nat :=
  match x.epoch with
  | none => 0
  | some e => (e + 1) % word32

end Sys2Proof.Machine
end

