-- ==== Sys2Proof/Machine/Damson.lean ====
section
/-! DEFINITION. Machine/Damson.lean: the Damson metrology unit (R351-R369).
Its conventions: DEDUCED, log entry 11. -/

namespace Sys2Proof.Machine

open Sys2Proof

/-- Damson's structure changed. -/
def dmsMap (s : State) (f : Damson → Damson) : State := { s with dms := f s.dms }

/-- The running measurement changed. -/
def measMap (s : State) (f : Meas → Meas) : State := dmsMap s (fun d => { d with meas := d.meas.map f })

/-- Parameter `id` of R363, 1 to 9. -/
def dmsParam (d : Damson) (id : Nat) : Nat := at? 0 d.params (id - 1)

/-- DMS_STATE.STATE codes (R368). -/
def dmsBootSt : Nat := 0
def dmsIdle : Nat := 1
def dmsMeasuring : Nat := 2
def dmsAdjust : Nat := 3
def dmsHalted : Nat := 4

/-- DMS_STATE.STATE. -/
def dmsState (s : State) : Nat := rd s R.DMS_STATE.STATE 0

/-- Damson is there, has power and has left BOOT: it takes frames and answers commands, in HALTED those that the state admits (R5, R362). -/
def dmsAwake (s : State) : Bool := s.part.damson && s.dms.powered && decide (dmsState s ≠ dmsBootSt)

/-- Damson runs: it is not HALTED either (R353). -/
def dmsRuns (s : State) : Bool := dmsAwake s && decide (dmsState s ≠ dmsHalted)

/-- Damson's clock reading moves forward only. -/
def dmsAt (s : State) (met : Nat) : State := dmsMap s (fun d => { d with metTime := max d.metTime met })

/-- A code of class 0x0A: DMS_LAST_CODE, and the report the control complex makes of it (R368). -/
def dmsReport (s : State) (code : Nat) : State := report (wr s R.DMS_LAST_CODE.CODE 0 code) code 0 0

/-- The image that runs. -/
def dmsRunning (d : Damson) : DmsImage := if d.running = 0 then d.slotA else d.slotB

/-- Keeps DMS_REC_COUNT and DMS_REC_OLDEST equal to the store. -/
def dmsShow (s : State) : State :=
  wr (wr s R.DMS_REC_COUNT.COUNT 0 s.dms.records.length) R.DMS_REC_OLDEST.SEQ 0
    (match s.dms.records with
     | [] => 0
     | r :: _ => fieldLE r 4 4)

/-! ### The serial line (R361) -/

/-- Bytes with 0x7E and 0x7D escaped. -/
def escaped (l : List Byte) : List Byte := l.flatMap fun b => if b = 0x7E ∨ b = 0x7D then [0x7D, b ^^^ 0x20] else [b]

/-- What escaped bytes stand for. -/
def unescaped : List Byte → List Byte
  | [] => []
  | [b] => [b]
  | b :: c :: t => if b = 0x7D then (c ^^^ 0x20) :: unescaped t else b :: unescaped (c :: t)

/-- A frame on the line: 0x7E, the bytes and their CRC-32C with 0x7E and 0x7D escaped, 0x7E (that the CRC's bytes are escaped too is
DEDUCED, log entry 11). -/
def lineFrame (l : List Byte) : List Byte := [0x7E] ++ escaped (l ++ leBytes 4 (crc32c l)) ++ [0x7E]

/-- The frame that bytes of the line carry, none where it is not framed so or its CRC is bad. -/
def frameOf (l : List Byte) : Option (List Byte) :=
  let b := unescaped ((l.drop 1).dropLast)
  let n := b.length - 4
  if l.head? = some 0x7E ∧ l.getLast? = some 0x7E ∧ 2 ≤ l.length ∧ 4 ≤ b.length ∧ fieldLE b n 4 = crc32c (b.take n) then some (b.take n)
  else none

/-- Sends a frame on MET_TX. -/
def metSend (s : State) (l : List Byte) : State := emit s (.metTx (lineFrame l))

/-- The answer to a command: on MET_TX, and in DMS_LAST_REPLY (R361); its bytes are CMD, a zero byte, the result and the number (DESIGN
CHOICE, log entry 11). -/
def dmsReply (s : State) (cmd result num : Nat) : State :=
  metSend (wr (wr s R.DMS_LAST_REPLY.CMD 0 cmd) R.DMS_LAST_REPLY.RESULT 0 result)
    (leBytes 1 cmd ++ leBytes 1 0 ++ leBytes 2 result ++ leBytes 4 num)

/-- A refused command: the code is reported and answered (R362). -/
def dmsRefuse (s : State) (cmd code : Nat) : State := dmsReply (dmsReport s code) cmd code 0

/-- Calendar time as a record carries it (R359): the last valid TIME frame plus the metrology time since. -/
def dmsCalTime (d : Damson) : Nat :=
  match d.cal with
  | none => 0xFFFFFFFF
  | some (sec, at_) => (sec + (d.metTime - at_) / 16384000) % word32

/-- The pulses of a measurement that ends now (R357). -/
def measPulses (d : Damson) (m : Meas) : Int := d.pulses - m.p0

/-- Length in µm (R357). -/
def measLength (d : Damson) (m : Meas) : Int := rneDiv (measPulses d m * 1000000) (dmsParam d 1)

/-- Area in µm² (R357). -/
def measArea (d : Damson) (m : Meas) : Int :=
  rneDiv (m.sum * dmsParam d 3 * 1000000) (16777216 * dmsParam d 1)

/-- The cross-check |n × LINE_DIV − p| exceeds CROSS_TOL (R357, R358). -/
def measCross (d : Damson) (m : Meas) : Bool :=
  decide ((dmsParam d 7 : Int) < (((m.lines * dmsParam d 4 : Nat) : Int) - measPulses d m).natAbs)

/-- A record's STATUS (R358): bits 1 to 3 clear VALID in the area record only, bits 4 to 7 in both. -/
def measStatus (d : Damson) (m : Meas) (area below notValid : Bool) : Nat :=
  let low := b2n m.tapGap * 2 + b2n (measCross d m) * 4 + b2n m.edgeLost * 8
  let high := b2n below * 16 + b2n m.encErr * 32 + b2n (m.notValid || notValid) * 64 + b2n m.ended * 128
  low + high + b2n (decide (high = 0) && (!area || decide (low = 0)))

/-- Bytes 0 to 63 of a measurement record (R359). -/
def recordBody (d : Damson) (m : Meas) (kind status seq events : Nat) (quantity : Int) : List Byte :=
  leBytes 1 1 ++ leBytes 1 1 ++ leBytes 1 kind ++ leBytes 1 status ++ leBytes 4 seq ++ leBytes 8 d.metTime ++
  leBytes 8 m.startTime ++ leBytes 4 (dmsCalTime d) ++ leBytes 3 events ++ leBytes 1 0 ++
  leBytes 8 (wrap 64 quantity) ++ leBytes 8 (wrap 64 (measPulses d m)) ++ leBytes 4 m.lines ++
  leBytes 4 m.roll ++ leBytes 4 (dmsRunning d).version ++ slice (dmsRunning d).sha 0 4

/-- A record with its signature under the record key, whose one-time number is free (R359; DESIGN CHOICE, log entry 7). -/
def signRecord (s : State) (body : List Byte) : List Byte × State :=
  let (v, s1) := fresh s
  (body ++ sign256 s.dms.recordPriv (ecScalar curve256 v) body, s1)

/-- The record key pair is made inside Damson at provisioning (R353), of a free number. -/
def makeRecordKey (s : State) : State :=
  if !s.part.damson then s
  else
    let (v, s1) := fresh s
    let d := ecScalar curve256 v
    dmsMap s1 fun x => { x with recordPriv := d, recordKey := public256 d }

/-- Issues the two records of a measurement (R359, R360): length first, then area, into the store and on MET_TX. -/
def issueRecords (s : State) (m : Meas) : State :=
  let d := s.dms
  let inv := isSet s R.DMS_STATE.READING_INVALID 0
  let ev := rd s R.DMS_EVENTS.COUNT 0
  let len := measLength d m
  let area := measArea d m
  let b1 := recordBody d m 1 (measStatus d m false (decide (len < dmsParam d 8)) inv) (d.seq + 1) ev len
  let b2 := recordBody d m 2 (measStatus d m true (decide (area < dmsParam d 9)) inv) (d.seq + 2) ev area
  let (r1, s1) := signRecord s b1
  let (r2, s2) := signRecord s1 b2
  let s3 := dmsMap s2 (fun d => { d with records := d.records ++ [r1, r2], seq := d.seq + 2, meas := none,
                                          saved := ⟨d.pulses, d.seq + 2, none⟩ })
  let s4 := metSend (metSend s3 r1) r2
  dmsShow (if measCross d m then dmsReport s4 0x0A04 else s4)

/-- Ends the running measurement other than by STOP (R358 bit 7). -/
def endMeas (s : State) : State :=
  match s.dms.meas with
  | none => s
  | some m => issueRecords s { m with ended := true }

/-! ### The tap (R354, R355) -/

/-- A tap frame: TYPE, STREAM, STRIPE, EPOCH, CALSEC, DIGEST over them and the body, and the body (R354). -/
def tapFrame (type stream stripe epoch calsec : Nat) (body : List Byte) : List Byte :=
  let head := leBytes 1 type ++ leBytes 1 stream ++ leBytes 2 (body.length / 16) ++ leBytes 4 stripe ++ leBytes 2 epoch ++ leBytes 6 0 ++
    leBytes 8 calsec
  head ++ leBytes 8 (crc64From (crc64 head) body) ++ body

/-- The tap unit sends a frame into the crossing buffer of 16 KiB, or discards it whole where it does not fit (R351). A fused-off
part has no tap (R5). -/
def tapSend (s : State) (fr : List Byte) : State :=
  if !s.part.damson || decide (16384 < s.dms.tap.flatten.length + fr.length) then s
  else dmsMap s fun d => { d with tap := d.tap ++ [fr] }

/-- TIME frame: calendar seconds, VALID in bit 63 (R354). -/
def execTapTimeFrameSend (s : State) : Host.Outcome State Fault Refusal :=
  if !due s s.timers.timeFrame 100000000 then ok s
  else ok (tapSend { s with timers := { s.timers with timeFrame := s.tick } }
    (tapFrame 3 0 0 0 (rd s R.RTC_SECONDS.SECONDS 0 + rd s R.RTC_STATUS.VALID 0 * 2 ^ 63) []))

/-- The next frame of the tap as Damson reads it, with the bits of it that crossed wrong, where its TYPE is one of a row's; and the
state without it. -/
def tapTake (s : State) (flips : List Nat) (mine : Nat → Bool) : Option (List Byte × State) :=
  match s.dms.tap with
  | [] => none
  | fr :: rest =>
    let got := flips.foldl (fun l i => setAt l (i / 8) ((at? 0 l (i / 8)) ^^^ BitVec.ofNat 8 (2 ^ (i % 8)))) fr
    if mine (fieldLE got 0 1) then some (got, dmsMap s fun d => { d with tap := rest }) else none

/-- The body bytes of a tap frame: COUNT words of 16 bytes. -/
def tapBody (fr : List Byte) : List Byte := slice fr 32 (16 * fieldLE fr 2 2)

/-- DIGEST is CRC-64 over bytes 0 to 23, then the body (R354). -/
def tapDigestOk (fr : List Byte) : Bool := fieldLE fr 24 8 == crc64From (crc64 (slice fr 0 24)) (tapBody fr)

/-- A frame is well formed: its length is its COUNT's and its reserved bytes are zero (R354). -/
def tapFormOk (fr : List Byte) (type : Nat) : Bool :=
  fr.length == 32 + 16 * fieldLE fr 2 2 && fieldLE fr 0 1 == type && fieldLE fr 10 6 == 0

/-- Marks TAP_GAP on a running measurement. -/
def tapGap (s : State) : State := measMap s (fun m => { m with tapGap := true })

/-- A measurement runs. -/
def measuring (s : State) : Bool := s.dms.meas.isSome

/-- One metrology word integrated into a measurement (R354, R357). -/
def integrate (d : Damson) (m : Meas) (w : List Byte) : Meas :=
  let l := fieldLE w 4 4
  let r := fieldLE w 8 4
  let missing := l == 0x80000000 || r == 0x80000000
  let width : Int := if dmsParam d 5 = 1 then 256 * (fieldLE w 12 4 : Int) else sext 32 r - sext 32 l
  let used : Int := if missing ∨ width < 0 then 0 else width
  { m with lines := m.lines + 1, sum := m.sum + used * dmsParam d 4, edgeLost := m.edgeLost || missing }

/-- Every metrology word of a body, in order. -/
def integrateAll (d : Damson) (m : Meas) : Nat → List Byte → Meas
  | 0, _ => m
  | n + 1, l => integrateAll d (integrate d m (l.take 16)) n (l.drop 16)

/-- A LINES frame continues the last one: one stripe more, in the same epoch (R355). -/
def tapInSequence (d : Damson) (stripe epoch : Nat) : Bool :=
  match d.lastLines with
  | none => true
  | some (st, ep) => stripe == (st + 1) % word32 && epoch == ep

/-- A frame is discarded: TAP_GAP on a running measurement, and 0x0A01 (R355, R358). -/
def tapDiscard (s : State) : State := dmsReport (tapGap s) 0x0A01

/-- Damson checks a LINES frame, or one of a reserved TYPE, and integrates its lines, or marks TAP_GAP (R355). -/
def execDmsLinesFrame (flips : List Nat) (met : Nat) (s : State) : Host.Outcome State Fault Refusal :=
  if !dmsAwake s then ok s
  else match tapTake s flips (fun t => t != 2 && t != 3) with
  | none => ok s
  | some (frame, s1) =>
    let s0 := dmsAt s1 met
    if !tapDigestOk frame || !tapFormOk frame 1 || fieldLE frame 1 1 != dmsParam s.dms 6 then ok (tapDiscard s0)
    else
      let stripe := fieldLE frame 4 4
      let epoch := fieldLE frame 8 2
      let n := fieldLE frame 2 2
      let inSeq := tapInSequence s0.dms stripe epoch
      let s1 := measMap s0 (fun m => integrateAll s0.dms m n (tapBody frame))
      let s2 := dmsMap s1 (fun d => { d with lastLines := some (stripe, epoch), lastLinesAt := d.metTime })
      ok (if inSeq || !measuring s0 then s2 else dmsReport (tapGap s2) 0x0A02)

/-- Damson takes calendar time from a TIME frame (R354, R355). -/
def execDmsTimeFrame (flips : List Nat) (met : Nat) (s : State) : Host.Outcome State Fault Refusal :=
  if !dmsAwake s then ok s
  else match tapTake s flips (fun t => t == 3) with
  | none => ok s
  | some (frame, s1) =>
    let s0 := dmsAt s1 met
    if !tapDigestOk frame || !tapFormOk frame 3 || fieldLE frame 1 1 != 0 then ok (tapDiscard s0)
    else
      let c := fieldLE frame 16 8
      if bit c 63 then
        ok (wr (dmsMap s0 (fun d => { d with cal := some (c % 2 ^ 63, d.metTime) })) R.DMS_STATE.CAL_VALID 0 1)
      else ok s0

/-- No LINES frame for 10 ms of the metrology clock while measuring (R355). -/
def execDmsTapSilence (met : Nat) (s : State) : Host.Outcome State Fault Refusal :=
  if !dmsRuns s then ok s
  else
    let s0 := dmsAt s met
    match s0.dms.meas with
    | none => ok s0
    | some m =>
      if max m.startTime s0.dms.lastLinesAt + 163840 ≤ s0.dms.metTime then ok (dmsReport (tapGap s0) 0x0A02)
      else ok s0

/-! ### Encoder 0 (R356) -/

/-- A counter's inputs with the levels seen at a time: a filtered level follows once the raw one has stood for `need`; and what the
filtered levels then show. A cycle counts as A changes while B is low, up as it rises and down as it falls (R356, R390; which of a cycle's
four edges counts is a DESIGN CHOICE, log entry 11). -/
def quadTake (q : Quad) (now need : Nat) (a b : Bool) : Quad × Option EncEv :=
  let sinceA := if a = q.rawA then q.sinceA else now
  let sinceB := if b = q.rawB then q.sinceB else now
  let fa := if sinceA + need ≤ now then a else q.a
  let fb := if sinceB + need ≤ now then b else q.b
  (⟨a, b, sinceA, sinceB, fa, fb⟩,
   if fa != q.a && fb != q.b then some .both
   else if fa != q.a && !fb then some (if fa then .up else .down) else none)

/-- Damson's count takes a step; ENC_DIR inverts it. -/
def dmsPulse (s : State) (up : Bool) : State :=
  let step : Int := if up = decide (dmsParam s.dms 2 = 1) then -1 else 1
  dmsMap s fun d => { d with pulses := d.pulses + step }

/-- A sample of encoder 0's inputs A and B on Damson's clock: each passes a filter of 3 samples, and a quadrature cycle counts; a change
of both in one filtered sample marks a running measurement (R356). Counting needs VDD_MET only. -/
def execDmsEncoderPulse (a b : Bool) (s : State) : Host.Outcome State Fault Refusal :=
  if !(s.part.damson && s.dms.powered) then ok s
  else
    let q := quadTake s.dms.enc s.dms.samples 2 a b
    let s1 := dmsMap s fun d => { d with enc := q.1, samples := d.samples + 1 }
    match q.2 with
    | none => ok s1
    | some .up => ok (dmsPulse s1 true)
    | some .down => ok (dmsPulse s1 false)
    | some .both => ok (dmsReport (measMap s1 (fun m => { m with encErr := true })) 0x0A03)

/-! ### Commands (R361, R362) -/

/-- The ARGS of a frame. -/
def dmsArgs (b : List Byte) : List Byte := slice b 4 (fieldLE b 2 2)

/-- The commands of R362. -/
def dmsCommands : List Nat := [0x01, 0x02, 0x03, 0x04, 0x05, 0x10, 0x11, 0x12]

/-- Damson, awake, takes a frame of a command; `k` is the command's effect on its bytes. A frame from MET_RX with a bad CRC is
dropped without a reply (R361); a spoilt or malformed tap frame is discarded (R355); a CMD that R362 does not list is accepted in no state
(DEDUCED, log entry 11). A sound frame of another command waits for its own row. -/
def dmsCmd (f : DmsFrame) (cmd : Nat) (s : State) (k : List Byte → State → State) : Host.Outcome State Fault Refusal :=
  let act := fun (b : List Byte) (taken s : State) =>
    let c := fieldLE b 0 1
    if c = cmd then ok (k b (dmsAt taken f.met)) else if dmsCommands.contains c then ok s else ok (dmsRefuse (dmsAt taken f.met) c 0x0A06)
  if !dmsAwake s then ok s
  else match f.via with
  | .serial line =>
    match frameOf line with
    | none => ok s
    | some b => act b s s
  | .tap flips =>
    match tapTake s flips (fun t => t == 2) with
    | none => ok s
    | some (frame, s1) =>
      if !tapDigestOk frame || !tapFormOk frame 2 || fieldLE frame 1 1 != 0 then ok (tapDiscard (dmsAt s1 f.met))
      else act (tapBody frame) s1 s

/-- The signed trailer's UNIQUE_ID and EVENTS are Damson's own and the signature verifies (R361, R362). -/
def dmsSigned (s : State) (b : List Byte) (sigOk : Bool) : Bool :=
  let a := dmsArgs b
  let t := a.length - 76
  decide (76 ≤ a.length) && fieldLE a t 8 == unique s && fieldLE a (t + 8) 4 == rd s R.DMS_EVENTS.COUNT 0 && sigOk

/-- START (R362): P₀ is latched and a measurement begins; refused with 0x0A06 in another state, with 0x0A08 while the
store holds more than 766 records (R360). -/
def execDmsStart (f : DmsFrame) (s : State) : Host.Outcome State Fault Refusal :=
  dmsCmd f 0x01 s fun b s =>
    if dmsState s ≠ dmsIdle ∨ s.dms.adjLow ∨ !isSet s R.DMS_STATE.OSC_OK 0 then
      dmsRefuse s 0x01 0x0A06
    else if 766 < s.dms.records.length then dmsRefuse s 0x01 0x0A08
    else
      let m : Meas := ⟨fieldLE (dmsArgs b) 0 4, s.dms.pulses, s.dms.metTime, 0, 0, false, false, false,
        isSet s R.DMS_STATE.READING_INVALID 0, false⟩
      dmsReply (wr (dmsMap s (fun d => { d with meas := some m })) R.DMS_STATE.STATE 0 dmsMeasuring) 0x01 0 0

/-- STOP (R357, R362): the two records are issued. -/
def execDmsStop (f : DmsFrame) (s : State) : Host.Outcome State Fault Refusal :=
  dmsCmd f 0x02 s fun b s =>
    match s.dms.meas with
    | none => dmsRefuse s 0x02 0x0A06
    | some m =>
      let s1 := wr (issueRecords s m) R.DMS_STATE.STATE 0 dmsIdle
      dmsReply s1 0x02 0 s1.dms.seq

/-- REC_ACK (R360): records up to the named SEQ are freed. -/
def execDmsRecAck (f : DmsFrame) (s : State) : Host.Outcome State Fault Refusal :=
  dmsCmd f 0x03 s fun b s =>
    let n := fieldLE (dmsArgs b) 0 4
    dmsReply (dmsShow (dmsMap s (fun d => { d with records := d.records.filter (fun r => decide (n < fieldLE r 4 4)) })))
      0x03 0 n

/-- IDENT (R362, R366): SW_VERSION, the full SHA-256, EVENTS and the record public key on MET_TX. -/
def execDmsIdent (f : DmsFrame) (s : State) : Host.Outcome State Fault Refusal :=
  dmsCmd f 0x04 s fun b s =>
    let ev := rd s R.DMS_EVENTS.COUNT 0
    let im := dmsRunning s.dms
    dmsReply (metSend s (leBytes 4 im.version ++ slice im.sha 0 32 ++ leBytes 4 ev ++ slice s.dms.recordKey 0 64))
      0x04 0 ev

/-- TRAIL_PAGE (R362): the trail window shows 256 entries. -/
def execDmsTrailPage (f : DmsFrame) (s : State) : Host.Outcome State Fault Refusal :=
  dmsCmd f 0x05 s fun b s =>
    dmsReply (dmsMap s (fun d => { d with trailPage := fieldLE (dmsArgs b) 0 1 % 4 })) 0x05 0 0

/-- The widths' ranges of the legally relevant parameters (R363). -/
def paramInRange (id v : Nat) : Bool :=
  match id with
  | 1 => decide (1 ≤ v ∧ v ≤ 10000000)
  | 2 => decide (v ≤ 1)
  | 3 => decide (1 ≤ v ∧ v ≤ 0xFFFFFFFF)
  | 4 => decide (1 ≤ v ∧ v ≤ 256)
  | 5 => decide (v ≤ 1)
  | 6 => decide (v ≤ 31)
  | 7 => decide (v ≤ 65535)
  | 8 => decide (v < 2 ^ 63)
  | 9 => decide (v < 2 ^ 63)
  | _ => false

/-- An audit entry (R365). -/
def auditEntry (d : Damson) (c : DmsChange) (old : Nat) (key : List Byte) : List Byte :=
  let b := leBytes 3 c.events ++ leBytes 1 c.kind ++ leBytes 8 d.metTime ++ leBytes 4 (dmsCalTime d) ++
    leBytes 1 (if c.kind = 1 then c.param else 0) ++ leBytes 7 0 ++ leBytes 8 old ++
    leBytes 8 (if c.kind = 1 then c.value else c.image.version) ++ slice key 0 8 ++
    (if c.kind = 1 then leBytes 8 0 else slice c.image.sha 0 8)
  b ++ leBytes 8 (crc64 b)

/-- R364 step 2: the audit entry is written, the oldest going once 1,024 are held. -/
def auditWrite (s : State) (c : DmsChange) (old : Nat) (key : List Byte) : State :=
  let e := auditEntry s.dms c old key
  let s1 := dmsMap s (fun d =>
    { d with trail := (if d.trail.length < 1024 then d.trail else d.trail.drop 1) ++ [e], change := some c })
  wr s1 R.DMS_STATE.TRAIL_FILL 0 (rd s R.DMS_STATE.TRAIL_FILL 0 + 1)

/-- The designated stream. -/
def designated (s : State) (k : Nat) : Bool := s.part.damson && dmsParam s.dms 6 == k

/-- The digest class is in force for every running stream of a pair and for the designated stream; a stream under
flow-through leaves it at its next stripe, which its change record names (R41, R278). -/
def showDigest (s : State) : State :=
  (upto 32).foldl (fun s k =>
    let on := running s k && (rd s R.ZP_STATUS.ROLE 0 != 0 || designated s k)
    let s1 := wr s R.STRM_FLT_CTRL.DIGEST k (b2n on)
    if on && rd s R.STRM_FLT_CTRL.PROT k == 2 then modStrm s1 k fun x =>
      { x with dropFlow := true, changes := if x.dropFlow then x.changes else x.changes ++ [0x18800] } else s1) s

/-- R364 steps 3 and 4: the new value is written, EVENTS rises and the change is reported. Another designated stream moves the digest
class (R278). -/
def finishChange (s : State) : State :=
  match s.dms.change with
  | none => s
  | some c =>
    let s1 := dmsMap s (fun d =>
      if c.kind = 1 then { d with params := setAt d.params (c.param - 1) c.value, paramsOld := d.params, paramCopy := 1 - d.paramCopy,
                                  change := none }
      else if d.running = 0 then { d with slotB := c.image, change := none }
      else { d with slotA := c.image, change := none })
    let s2 := if c.kind = 1 then showDigest s1 else s1
    dmsReport (wr s2 R.DMS_EVENTS.COUNT 0 c.events) (if c.kind = 1 then 0x0A0C else 0x0A0D)

/-- The conditions R364 step 1 puts on every change: ADJUST, signature, identity and counter, the event counter below its
limit, trail space. Answers the refusal code, if any. -/
def changeRefusal (s : State) (b : List Byte) (sigOk : Bool) : Option Nat :=
  if dmsState s ≠ dmsAdjust then some 0x0A06
  else if !dmsSigned s b sigOk then some 0x0A05
  else if rd s R.DMS_EVENTS.COUNT 0 = 0xFFFFFF then some 0x0A06
  else if 1024 ≤ rd s R.DMS_STATE.TRAIL_FILL 0 then some 0x0A07
  else none

/-- Mailbox fields that the partition and the image do not hold, which a loss of VDD_MET resets (R368). -/
def dmsVolatile : List Fld :=
  [R.DMS_STATE.STATE, R.DMS_STATE.ADJ_PIN, R.DMS_STATE.READING_INVALID, R.DMS_STATE.OSC_OK, R.DMS_STATE.CAL_VALID, R.DMS_LAST_CODE.CODE,
   R.DMS_LAST_REPLY.CMD, R.DMS_LAST_REPLY.RESULT]

/-- Loss of VDD_MET (R367): what Damson has not saved is gone, and what stood in the tap's crossing buffer. -/
def dmsPowerOff (s : State) : State :=
  dmsVolatile.foldl (fun s f => wr s f 0 0) (dmsMap s fun d => { d with
    powered := false, meas := none, tap := [], enc := Quad.reset, samples := 0, adjLow := false, adjAt := d.metTime })

/-- Damson's start (R353, R364, R367): the better verified slot runs, an interrupted change is completed, and a saved
measurement is closed with ENDED. -/
def dmsStart (s : State) (okA okB : Bool) : State :=
  let d := s.dms
  let a := okA && d.slotA.valid
  let b := okB && d.slotB.valid
  let s0 := dmsMap s (fun d => { d with powered := true, pulses := d.saved.pulses, seq := d.saved.seq, meas := none,
                                          trailPage := 0, lastLines := none, cal := none })
  let s1 := if a && b then s0 else dmsReport s0 0x0A0B
  if !a && !b then wr s1 R.DMS_STATE.STATE 0 dmsHalted
  else
    let run := if a && (!b || decide (d.slotB.version ≤ d.slotA.version)) then 0 else 1
    let s2 := dmsMap s1 (fun d => { d with running := run })
    let im := dmsRunning s2.dms
    let s3 := wr (wr s2 R.DMS_STATE.STATE 0 dmsIdle) R.DMS_SWVER.VERSION 0 im.version
    let s4 := (upto 8).foldl (fun s i => wr s (R.DMS_SWID.HASH.nth i) 0 (fieldLE im.sha (4 * i) 4)) s3
    let s5 := finishChange (wr (wr (wr s4 R.DMS_STATE.OSC_OK 0 1) R.DMS_STATE.CAL_VALID 0 0) R.DMS_STATE.READING_INVALID 0 (b2n (isSafe s)))
    match d.saved.meas with
    | none => dmsShow s5
    | some m => dmsReport (issueRecords s5 { m with ended := true }) 0x0A0A

/-- SETPARAM (R364): a parameter changes, with its audit entry. `cut`: power fails between steps 2 and 4. -/
def execDmsSetparam (f : DmsFrame) (cut : Bool) (s : State) : Host.Outcome State Fault Refusal :=
  dmsCmd f 0x10 s fun b s =>
    match changeRefusal s b f.sigOk with
    | some code => dmsRefuse s 0x10 code
    | none =>
      let id := fieldLE (dmsArgs b) 0 1
      let v := fieldLE (dmsArgs b) 4 8
      if !paramInRange id v then
        let (x, s1) := fresh s
        dmsRefuse s1 0x10 (if x % 2 = 0 then 0x0A05 else 0x0A06)
      else
        let ev := rd s R.DMS_EVENTS.COUNT 0 + 1
        let s1 := auditWrite s ⟨ev, 1, id, v, DmsImage.reset⟩ (dmsParam s.dms id) s.dms.adjustKey
        if cut then dmsPowerOff s1 else dmsReply (finishChange s1) 0x10 0 ev

/-- FWUPDATE (R364): the image goes to the slot not running, and Damson restarts. -/
def execDmsFwupdate (f : DmsFrame) (version : Nat) (sha : List Byte) (cut : Bool) (s : State) :
    Host.Outcome State Fault Refusal :=
  dmsCmd f 0x11 s fun b s =>
    match changeRefusal s b f.sigOk with
    | some code => dmsRefuse s 0x11 code
    | none =>
      let ev := rd s R.DMS_EVENTS.COUNT 0 + 1
      let s1 := auditWrite s ⟨ev, 2, 0, 0, ⟨version % word32, slice sha 0 32, true⟩⟩ (dmsRunning s.dms).version
        s.dms.firmwareKey
      if cut then dmsPowerOff s1
      else
        let s2 := dmsReply (finishChange s1) 0x11 0 ev
        dmsStart (dmsMap s2 (fun d => { d with saved := ⟨d.pulses, d.seq, none⟩ })) true true

/-- TRAIL_ACK (R362, R365): entries up to an event number are released. -/
def execDmsTrailAck (f : DmsFrame) (s : State) : Host.Outcome State Fault Refusal :=
  dmsCmd f 0x12 s fun b s =>
    if !dmsSigned s b f.sigOk then dmsRefuse s 0x12 0x0A05
    else
      let n := fieldLE (dmsArgs b) 0 4
      let left := rd s R.DMS_EVENTS.COUNT 0 - n
      dmsReply (wr s R.DMS_STATE.TRAIL_FILL 0 (min (rd s R.DMS_STATE.TRAIL_FILL 0) left)) 0x12 0 n

/-! ### Adjust mode, saving, power and the oscillator (R353, R364, R367) -/

/-- The pin MET_ADJ_n is seen at a level: ADJ_PIN follows it, and a change of it is when the level begins to stand (R364, R368). -/
def adjSeen (s : State) (low : Bool) (met : Nat) : State :=
  let s1 := dmsAt s met
  wr (if s.dms.adjLow = low then s1 else dmsMap s1 fun d => { d with adjLow := low, adjAt := d.metTime }) R.DMS_STATE.ADJ_PIN 0 (b2n low)

/-- The pin's level has stood for 10 ms of the metrology clock. -/
def adjHeld (s : State) : Bool := decide (s.dms.adjAt + 163840 ≤ s.dms.metTime)

/-- MET_ADJ_n is low: once it has been so for 10 ms Damson enters ADJUST, and a running measurement ends with ENDED (R364). The row comes
as the pin falls and again at 10 ms (DEDUCED, log entry 11). -/
def execDmsAdjustEnter (met : Nat) (s : State) : Host.Outcome State Fault Refusal :=
  if !dmsAwake s then ok s
  else
    let s1 := adjSeen s true met
    ok (if dmsRuns s1 && adjHeld s1 && dmsState s1 != dmsAdjust then wr (endMeas s1) R.DMS_STATE.STATE 0 dmsAdjust else s1)

/-- MET_ADJ_n is high: once it has been so for 10 ms ADJUST ends (R364). -/
def execDmsAdjustLeave (met : Nat) (s : State) : Host.Outcome State Fault Refusal :=
  if !dmsAwake s then ok s
  else
    let s1 := adjSeen s false met
    ok (if adjHeld s1 && dmsState s1 == dmsAdjust then wr s1 R.DMS_STATE.STATE 0 dmsIdle else s1)

/-- Every 100 ms the counters and the running measurement go to the state region (R353). -/
def execDmsStateSave (met : Nat) (s : State) : Host.Outcome State Fault Refusal :=
  if !dmsRuns s ∨ met < s.dms.savedAt + 1638400 then ok s
  else ok (dmsMap (dmsAt s met) (fun d => { d with saved := ⟨d.pulses, d.seq, d.meas⟩, savedAt := met }))

/-- VDD_MET rises: Damson boots (R353); its parameters are those of the copy written last, or of the other where that one's CRC is
bad (R341, R353). On a fused-off part encoder 0 counts again (R5). -/
def execDmsBoot (okA okB paramsOk : Bool) (met : Nat) (s : State) : Host.Outcome State Fault Refusal :=
  if s.part.damson then
    ok (dmsStart (dmsMap (dmsAt s met) fun d => if paramsOk then d else { d with params := d.paramsOld, paramCopy := 1 - d.paramCopy }) okA okB) else ok (dmsMap s fun d => { d with powered := true })

/-- The metrology oscillator stops or leaves ±0.1 % (R367): a running measurement gets NOT_VALID and ENDED. -/
def execDmsOscFail (met : Nat) (s : State) : Host.Outcome State Fault Refusal :=
  if !dmsRuns s then ok s
  else
    let s1 := wr (dmsAt s met) R.DMS_STATE.OSC_OK 0 0
    let s2 := endMeas (measMap s1 (fun m => { m with notValid := true }))
    let s3 := if measuring s then wr s2 R.DMS_STATE.STATE 0 dmsIdle else s2
    ok (dmsReport s3 0x0A09)

/-- The oscillator is back within tolerance (R367). -/
def execDmsOscRecover (s : State) : Host.Outcome State Fault Refusal :=
  if dmsRuns s then ok (wr s R.DMS_STATE.OSC_OK 0 1) else ok s

/-- Loss of VDD_MET (R367). -/
def execDmsPowerLoss (s : State) : Host.Outcome State Fault Refusal :=
  if s.part.damson then ok (dmsPowerOff s) else ok (dmsMap s fun d => { d with powered := false })

end Sys2Proof.Machine
end

