-- ==== Sys2Proof/Machine/Access.lean ====
section
/-! DEFINITION. Machine/Access.lean: who may write what, window selection, window errors and
reserved-field errors (R16, R17, R441-R449). -/

namespace Sys2Proof.Machine

open Sys2Proof

/-- The block number of an offset, none in the reserved blocks and between blocks (R441). -/
def blockOf (off : Nat) : Option Nat :=
  if off < 0x1000 then some 0 else if off < 0x10000 then some 1
  else if off < 0x18000 then some 2 else if off < 0x20000 then some 3
  else if off < 0x30000 then some 4 else if off < 0x40000 then some 5
  else if off < 0x50000 then some 6 else if off < 0x60000 then some 7
  else if off < 0x70000 then some 8 else if off < 0x80000 then some 9
  else if off < 0x90000 then some 10 else if off < 0xA0000 then some 11
  else if off < 0xB0000 then some 12
  else if 0xF0000 ≤ off ∧ off < 0x100000 then some 13 else none

/-- Whether a requester may write a register at all (R443). -/
def mayWrite (who : Requester) (kind : InstKind) (off : Nat) : Bool :=
  match blockOf off with
  | some 0 | some 10 | none => false
  | some 1 =>
    if kind = .own then true
    else if 0x4100 ≤ off ∧ off < 0x4300 then who == .host
    else who != .clapper
  | some 2 | some 3 | some 6 => who != .clapper
  | some 7 => kind = .own || who != .clapper
  | some 4 | some 5 => who == .control
  | some 8 => if off = 0x60118 ∨ off = 0x6011C then who == .control else true
  | some 9 => true
  | some 11 => who != .clapper
  | some 12 => who != .control
  | some _ => who == .host

/-- The selected instance of a kind for a requester; none where it is absent (R445, R446): a reserved table makes the
calibration stream's absent. -/
def instOf (s : State) (who : Requester) (k : InstKind) : Option Nat :=
  let n := reqNo who
  match k with
  | .once => some 0
  | .own => some n
  | .port => let i := rd s R.GLB_PORTSEL.INDEX n; if i < 13 then some i else none
  | .strm => let i := rd s R.GLB_STRMSEL.INDEX n; if i < 32 then some i else none
  | .dma => let i := rd s R.GLB_DMASEL.INDEX n; if s.part.hasChannel i then some i else none
  | .dmaEng =>
    let i := rd s R.GLB_DMASEL.INDEX n
    if s.part.hasChannel i then some (if i < 64 then i / 4 else 16) else none
  | .core => let i := rd s R.GLB_CORESEL.INDEX n; if i < s.part.cores then some i else none
  | .cluster => let i := rd s R.GLB_CORESEL.INDEX n; if i < s.part.cores then some (i / 8) else none
  | .link => let i := rd s R.GLB_LINKSEL.INDEX n; if i < 4 then some i else none
  | .calStrm => if rd s R.CAL_TBLSEL.TABLE n < 9 then some (rd s R.CAL_TBLSEL.STREAM n) else none
  | .dms => if s.part.damson then some 0 else none

/-- The WINERR bit of a kind of instance (R449). -/
def winBit : InstKind → Nat
  | .core | .cluster => 0
  | .dma | .dmaEng => 1
  | .port => 2
  | .strm => 3
  | .link => 4
  | .calStrm => 5
  | .dms => 7
  | .once | .own => 8

/-- Bit `b` of GLB_WIN_STATUS as a field, 0 to 9 (R449). -/
def winFld : Nat → Fld
  | 0 => R.GLB_WIN_STATUS.WINERR_CORE
  | 1 => R.GLB_WIN_STATUS.WINERR_DMA
  | 2 => R.GLB_WIN_STATUS.WINERR_PORT
  | 3 => R.GLB_WIN_STATUS.WINERR_STRM
  | 4 => R.GLB_WIN_STATUS.WINERR_LINK
  | 5 => R.GLB_WIN_STATUS.WINERR_CAL
  | 6 => R.GLB_WIN_STATUS.WINERR_LIFE
  | 7 => R.GLB_WIN_STATUS.WINERR_DMS
  | 8 => R.GLB_WIN_STATUS.UNMAPPED
  | _ => R.GLB_WIN_STATUS.SIZE

/-- All of bits 9:0 of the requester's GLB_WIN_STATUS are clear. -/
def winClear (s : State) (n : Nat) : Bool := (upto 10).all (fun b => rd s (winFld b) n == 0)

/-- A window error of a requester's own access: bit `b` is set, and FIRST_OFFSET is taken if no bit was set (R449). -/
def winErr (s : State) (who : Requester) (b off : Nat) : State :=
  let n := reqNo who
  let s1 := if winClear s n then wr s R.GLB_WIN_STATUS.FIRST_OFFSET n (off / 16 % 65536) else s
  hit s1 (winFld b) n

/-- Whether a value has a reserved bit set. -/
def rsvTouched (r : RegSpec) (v : Nat) : Bool :=
  (List.range 32).any (fun b => bit v b && !r.flds.any (fun f => decide (f.lo ≤ b) && decide (b < f.lo + f.width)))

/-- A non-zero value written to a reserved field leaves it zero and sets the block's bit in GLB_RSVW (R17, R449). -/
def noteRsv (s : State) (who : Requester) (r : RegSpec) (off v : Nat) : State :=
  if rsvTouched r v then
    match blockOf off with
    | some b => wr s R.GLB_RSVW.BLOCK (reqNo who) (orBit (rd s R.GLB_RSVW.BLOCK (reqNo who)) b)
    | none => s
  else s

/-- The conditions every register write passes before its own effect `k`: a present instance (R446), all four byte
enables (R442), a requester that may write it (R443). A reserved bit written is noted after the effect, so that a write of
GLB_RSVW itself cannot clear what it sets (R17, R447). -/
def gate (s : State) (w : Wr) (r : RegSpec) (n : Nat) (k : State → Nat → State) : State :=
  let off := r.off + r.stride * n
  match instOf s w.who r.kind with
  | none => winErr s w.who (winBit r.kind) off
  | some i =>
    if w.be ≠ 15 then winErr s w.who 9 off
    else if mayWrite w.who r.kind off && r.flds.any (fun f => f.acc != .ro) then noteRsv (k s i) w.who r off w.val
    else s

/-- The bytes of a 32-bit write with its byte enables, over what was there. -/
def mergeBytes (old : List Byte) (w : Wr) : List Byte :=
  (upto 4).map (fun j => if bit w.be j then BitVec.ofNat 8 (bits w.val (8 * j) 8) else at? 0 old j)

/-- The bits of a written value that a field takes. -/
def fval (f : Fld) (v : Nat) : Nat := bits v f.lo f.width

/-- Writes one field as its access code says (R17): RW takes the bits, RW1C clears the bits written 1, others ignore
the write. -/
def putField (s : State) (f : Fld) (i v : Nat) : State :=
  match f.acc with
  | .rw => wr s f i (fval f v)
  | .rw1c => wr s f i (maskOf f.width (fun b => bit (rd s f i) b && !bit (fval f v) b))
  | .ro | .wo => s

/-- Writes every field of a register (its `n`-th of an array) that has no row of its own. -/
def putPlain (s : State) (r : RegSpec) (n i v : Nat) : State :=
  r.flds.foldl (fun s f => if f.ownRow then s else putField s (f.nth n) i v) s

/-- Writes every RW and RW1C field of a register (its `n`-th of an array). -/
def putAll (s : State) (r : RegSpec) (n i v : Nat) : State :=
  r.flds.foldl (fun s f => putField s (f.nth n) i v) s

/-- The register an offset names, with its index in an array. -/
def regAt (off : Nat) : Option (RegSpec × Nat) :=
  (R.map.find? (fun r =>
    decide (r.off ≤ off) &&
      (if r.count = 1 then off == r.off
       else (off - r.off) % r.stride == 0 && decide ((off - r.off) / r.stride < r.count)))).map
    (fun r => (r, if r.count = 1 then 0 else (off - r.off) / r.stride))

end Sys2Proof.Machine
end

