-- ==== Sys2Proof/Machine/FieldIo.lean ====
section
/-! DEFINITION. Machine/FieldIo.lean: encoders, trigger inputs, actuator decisions, ALIVE and forced outputs
(R389-R395, R474). -/

namespace Sys2Proof.Machine

open Sys2Proof

/-! ### Outputs -/

/-- The pin of an actuator output: 0 low, 1 high, 2 high impedance (R296, R474). -/
def pinOut (s : State) (k : Nat) : Nat :=
  if s.act.ioLow || !isSet s R.SSC_LOCK.LOCK 0 then 2 else at? 2 s.act.drive k

/-- An output with a fixed function (R395). -/
def fixedOut (s : State) (o : Nat) : Bool :=
  ((o == 13 || o == 14) && isSet s R.FIO_ACT_FUNC.CXP_PWR 0) || (o == 15 && isSet s R.ZP_CTRL.ROLE_OUT 0)

/-- Drives an output whatever its function. -/
def drive (s : State) (o v : Nat) : State := { s with act := { s.act with drive := setAt s.act.drive o v } }

/-- A decision drives an output: never one in safe state, with a fixed function, or forced (R393); a listener's stay at
their safe levels (R315). -/
def decide' (s : State) (o v : Nat) : State :=
  if isSafe s || fixedOut s o || bit (rd s R.FIO_ACT_FORCE.MASK 0) o || isListener s then s else drive s o v

/-- A listener drives its actuator outputs at their safe levels, those with a fixed function apart, and no pulse of its stays pending
(R315). -/
def driveListener (s : State) : State :=
  ((upto 16).filter (fun o => !fixedOut s o)).foldl (fun s o => drive s o (safeLevel s o)) { s with act := { s.act with ends := [] } }

/-- Outputs with fixed functions follow what they show: the camera supplies (13 and 14) and the pair role (15). In safe
state every output keeps its safe level (R395). -/
def showFixed (s : State) : State :=
  if isSafe s then s
  else
    let anyEn := fun (a b : Nat) => (upto 13).any (fun p => decide (a ≤ p) && decide (p ≤ b) && isSet s R.PORT_CFG.EN p)
    let s1 := if isSet s R.FIO_ACT_FUNC.CXP_PWR 0 then drive (drive s 13 (b2n (anyEn 4 7))) 14 (b2n (anyEn 8 11)) else s
    if isSet s1 R.ZP_CTRL.ROLE_OUT 0 then
      drive s1 15 (if rd s1 R.ZP_STATUS.ROLE 0 = 1 then 1 else safeLevel s1 15) else s1

/-! ### Decisions (R393, R394) -/

/-- The signed advance of an encoder beyond a stamp. -/
def advance (s : State) (e stamp : Nat) : Int := sext 32 ((encPos s e + word32 - stamp) % word32)

/-- A decision has come due. -/
def isDue (s : State) (d : Decision) : Bool :=
  if d.whenSel = 0 then decide (d.base + d.offset ≤ s.tick)
  else decide ((d.offset : Int) ≤ advance s (if d.whenSel = 1 then 1 else 0) d.base)

/-- Moves an output's pulse end to the later of the one pending and the new one. -/
def setEnd (l : List (Nat × Nat × Nat)) (o t v : Nat) : List (Nat × Nat × Nat) :=
  let old := (l.find? (fun e => e.1 == o)).map (fun e => e.2.1)
  l.filter (fun e => e.1 != o) ++ [(o, max t (old.getD 0), v)]

/-- Executes a decision: a set cancels a pending pulse end; a pulse drives its level, and after WIDTH the opposite. In a
pair the speaker marks it first (R316). -/
def runDecision (s : State) (d : Decision) : State :=
  let s0 := if rd s R.ZP_STATUS.ROLE 0 = 1 then sendMark s true (d.number / 2 ^ 43) d.number else s
  if d.action = 1 ∨ d.action = 2 then
    let s1 := { s0 with act := { s0.act with ends := s0.act.ends.filter (fun e => e.1 != d.output) } }
    decide' s1 d.output (d.action - 1)
  else if d.action = 3 ∨ d.action = 4 then
    let v := if d.action = 3 then 1 else 0
    let s1 := { s0 with act := { s0.act with ends := setEnd s0.act.ends d.output (s0.tick + d.width * 100) (1 - v) } }
    decide' s1 d.output v
  else s0

/-- Insertion in ascending decision number. -/
def insertDecision (d : Decision) : List Decision → List Decision
  | [] => [d]
  | e :: t => if d.number ≤ e.number then d :: e :: t else e :: insertDecision d t

/-- Every decision that is due is executed, in ascending decision number (R394). A listener keeps its decisions until
the speaker has marked them (R316). -/
def execDecisionDue (s : State) : Host.Outcome State Fault Refusal :=
  if isListener s then ok s
  else
    let due := (s.act.queue.filter (isDue s)).foldr insertDecision []
    ok (due.foldl runDecision { s with act := { s.act with queue := s.act.queue.filter (fun d => !isDue s d) } })

/-- Pulses whose width has passed drive the opposite level. -/
def execPulseEnd (s : State) : Host.Outcome State Fault Refusal :=
  let due := s.act.ends.filter (fun e => decide (e.2.1 ≤ s.tick))
  ok (due.foldl (fun s e => decide' s e.1 e.2.2)
    { s with act := { s.act with ends := s.act.ends.filter (fun e => decide (s.tick < e.2.1)) } })

/-- A decision record as the package writes it. -/
structure DecRec where
  output : Nat
  action : Nat
  width : Nat
  whenSel : Nat
  line : Nat
  offset : Nat
  rsv : Bool
  deriving DecidableEq, Repr

/-- Reads a record of 16 bytes. -/
def decRec (s : State) (a : Nat) : DecRec :=
  { output := memLE s.mem a 1 % 16, action := memLE s.mem (a + 1) 1, width := memLE s.mem (a + 2) 2,
    whenSel := memLE s.mem (a + 4) 1, line := memLE s.mem (a + 8) 4, offset := memLE s.mem (a + 12) 4,
    rsv := memLE s.mem a 1 / 16 != 0 || memLE s.mem (a + 5) 3 != 0 }

/-- The held encoder stamp of a line (R393). -/
def stampOf (x : Strm) (line e : Nat) : Option Nat :=
  (x.stamps.find? (fun p => p.1 == line)).map (fun p => if e = 1 then p.2.2 else p.2.1)

/-- A record is malformed (R394). -/
def badDecision (s : State) (x : Strm) (r : DecRec) : Bool :=
  r.rsv || decide (4 < r.action) || ((r.action == 3 || r.action == 4) && r.width == 0) || decide (2 < r.whenSel) ||
    (r.whenSel == 2 && s.part.damson) || (r.whenSel != 0 && (decide (2 ^ 31 ≤ r.offset) ||
      (stampOf x r.line (if r.whenSel = 1 then 1 else 0)).isNone)) || fixedOut s r.output

/-- Releases one record into the decision queue (R393, R394): skipped if malformed, discarded while SAFE stays latched or
before the epoch of a release, executed at once if already due, lost with a doubt if the queue is full. In a listener, one the speaker
has marked already is the speaker's (R316). -/
def releaseRecord (k stripe t0 : Nat) (live : Bool) (s : State) (ri : Nat × DecRec) : State :=
  let r := ri.2
  let x := strm s k
  if badDecision s x r then bump (report s 0x0615 k stripe) R.FIO_CNT_BADDEC.COUNT 0
  else if isSafe s || !live then s
  else
    let base := if r.whenSel = 0 then t0 else (stampOf x r.line (if r.whenSel = 1 then 1 else 0)).getD 0
    let d : Decision := ⟨k * 2 ^ 43 + stripe * 2 ^ 11 + ri.1, r.output, r.action, r.width, r.whenSel, r.offset, base⟩
    if isListener s && s.pair.decMarks.contains d.number then
      { s with pair := { s.pair with decMarks := s.pair.decMarks.filter (· != d.number) } }
    else if isDue s d && !isListener s then runDecision (bump (report s 0x0609 k stripe) R.FIO_CNT_LATE.COUNT 0) d
    else if 4096 ≤ s.act.queue.length then report s 0x060A k stripe
    else { s with act := { s.act with queue := s.act.queue ++ [d] } }

/-- Addresses of the records of a stripe in release order (R393). -/
def decisionRecords (s : State) (base decMax n : Nat) : List Nat :=
  (upto 256).flatMap fun i =>
    let a := base * 256 + (n % 4 * 256 + i) * (16 + 16 * decMax)
    (upto (min decMax (memLE s.mem a 4))).map (fun j => a + 16 + 16 * j)

/-- Releases a stripe's decision records (R393). -/
def releaseDecisions (s : State) (k n t0 base decMax : Nat) (live : Bool) : State :=
  let l := (decisionRecords s base decMax n).map (decRec s)
  (List.zip (upto l.length) l).foldl (releaseRecord k n t0 live) s

/-! ### Encoders and triggers (R390-R392) -/

/-- A trigger packet leaves on a CoaXPress connection's uplink, or is dropped while one is still being sent (R392). -/
def sendTrigger (busy : List Nat) (s : State) (port : Nat) : State :=
  if busy.contains port then bump (report s 0x0614 port 0) R.FIO_CNT_TRIG_OVR.COUNT 0 else emit s (.cxp port 1 [])

/-- CoaXPress ports, each the master link of its connection, whose trigger source is the given one. -/
def trigPorts (s : State) (src : Nat) : List Nat :=
  (upto 12).filter (fun p => decide (4 ≤ p) && isSet s R.PORT_CFG.EN p && rd s R.PORT_CFG.LANES p != 0 && rd s R.PORT_CXP_TRIG.SRC p == src)

/-- A forward pulse of an encoder source: every DIV-th triggers. -/
def pulseTrigger (busy : List Nat) (s : State) (port : Nat) : State :=
  let n := tget 0 s.act.trigCnt port + 1
  let due := decide (max 1 (rd s R.PORT_CXP_TRIG.DIV port) ≤ n)
  let s1 := { s with act := { s.act with trigCnt := tset 0 s.act.trigCnt port (if due then 0 else n) } }
  if due then sendTrigger busy s1 port else s1

/-- An encoder's position takes a pulse, whose sign DIR inverts; a forward one feeds the triggers (R390, R392). -/
def encPulse (enc : Nat) (busy : List Nat) (s : State) (up : Bool) : State :=
  let f := R.FIO_ENC_POS.POS.nth enc
  let fwd := up != isSet s (R.FIO_ENC_CTRL.DIR.nth enc) 0
  let s1 := wr s f 0 (rd s f 0 + if fwd then 1 else word32 - 1)
  if fwd then (trigPorts s1 (if enc = 1 then 1 else 3)).foldl (pulseTrigger busy) s1 else s1

/-- An encoder's inputs A and B are seen at levels (R390), at their edges and again once they have stood for FILT + 1 ticks (DEDUCED, log
entry 11); `busy` are the ports still sending a trigger packet. Encoder 0 belongs to Damson where Damson is enabled, and needs VDD_MET
(R5, R477). -/
def execEncoderPulse (enc : Nat) (a b : Bool) (busy : List Nat) (s : State) : Host.Outcome State Fault Refusal :=
  if 2 ≤ enc ∨ (enc = 0 ∧ (s.part.damson ∨ !s.dms.powered)) then ok s
  else
    let q := quadTake (tget Quad.reset s.act.encs enc) s.tick (rd s (R.FIO_ENC_CTRL.FILT.nth enc) 0) a b
    let s1 := { s with act := { s.act with encs := tset Quad.reset s.act.encs enc q.1 } }
    match if isSet s (R.FIO_ENC_CTRL.EN.nth enc) 0 then q.2 else none with
    | none => ok s1
    | some .both => ok (bump (report s1 0x0618 enc 0) R.FIO_CNT_ENCERR.COUNT 0)
    | some .up => ok (encPulse enc busy s1 true)
    | some .down => ok (encPulse enc busy s1 false)

/-- Since when an input that is seen at a level has stood at it. -/
def trigSince (s : State) (input : Nat) (high : Bool) : Nat :=
  let r := tget (false, 0) s.act.trigRaw input
  if high = r.1 then r.2 else s.tick

/-- A trigger input is seen at a level (R391), at an edge and again once it has stood for 3 ticks (DEDUCED, log entry 11). The edge of an
enabled input is accepted then: the frame start of the streams that wait for it, by the tick the level was first seen, and the trigger
of the connections it feeds. -/
def execTriggerEdge (input : Nat) (high : Bool) (busy : List Nat) (s : State) : Host.Outcome State Fault Refusal :=
  if 8 ≤ input then ok s
  else
    let since := trigSince s input high
    let s0 := { s with act := { s.act with trigRaw := tset (false, 0) s.act.trigRaw input (high, since) } }
    if !bit (rd s R.FIO_TRIG_CTRL.EN 0) input ∨ tget false s.act.trigLevel input = high ∨ s.tick < since + 3 then ok s0
    else
      let s1 := { s0 with act := { s0.act with trigLevel := tset false s.act.trigLevel input high } }
      let mine := fun k => rd s R.STRM_FRAME.FRAME_SRC k == 1 && rd s R.STRM_FRAME.TRIG k == input &&
        rd s R.STRM_FRAME.TRIG_EDGE k == (if high then 0 else 1) && running s k && !(strm s k).inFrame
      let s2 := ((upto 32).filter mine).foldl (fun s k => modStrm s k fun x => { x with edge := some since }) s1
      ok (((trigPorts s2 2).filter (fun p => rd s2 R.PORT_CXP_TRIG.INPUT p == input)).foldl (sendTrigger busy) s2)

/-- FIO_TRIG_CTRL (R391): an input being enabled takes its present level as its starting level; bit i of `levels` is
input i's. -/
def execFioTrigCtrlWrite (w : Wr) (levels : Nat) (s : State) : Host.Outcome State Fault Refusal :=
  ok (gate s w R.FIO_TRIG_CTRL.reg 0 fun s _ =>
    let old := rd s R.FIO_TRIG_CTRL.EN 0
    let new := (upto 8).filter (fun i => bit w.val i && !bit old i)
    let l := new.foldl (fun l i => tset false l i (bit levels i)) s.act.trigLevel
    let r := new.foldl (fun l i => tset (false, 0) l i (bit levels i, s.tick)) s.act.trigRaw
    putAll { s with act := { s.act with trigLevel := l, trigRaw := r } } R.FIO_TRIG_CTRL.reg 0 0 w.val)

/-- Every 1 ms of field timebase ALIVE toggles while SAFE is 0, and is held low while it is 1 (R395). -/
def execAliveToggle (s : State) : Host.Outcome State Fault Refusal :=
  if !elapsed s s.act.aliveAt 100000 then ok s
  else ok { s with act := { s.act with alive := if isSafe s then 0 else 1 - s.act.alive, aliveAt := s.tick } }

/-- No stream is enabled. -/
def noStream (s : State) : Bool := (upto 32).all (fun k => !running s k)

/-- FIO_ACT_FORCE (R395): only while no stream is enabled and SAFE is 0. -/
def execFioActForceWrite (w : Wr) (s : State) : Host.Outcome State Fault Refusal :=
  ok (gate s w R.FIO_ACT_FORCE.reg 0 fun s _ =>
    if !noStream s || isSafe s then report s 0x0612 0 0
    else
      let s1 := putAll s R.FIO_ACT_FORCE.reg 0 0 w.val
      ((upto 16).filter (fun o => bit w.val (16 + o) && !fixedOut s1 o)).foldl (fun s o => drive s o (bits w.val o 1)) s1)

/-- VDD_IO_33 falls below 2.7 V: outputs and ALIVE are at high impedance, whatever the SSC drives; THERM_TRIP_n is no
longer driven (R474; DEDUCED, log entry 58). -/
def execVddIo33Below2v7 (s : State) : Host.Outcome State Fault Refusal :=
  let s1 := { s with act := { s.act with ioLow := true, tripLow := false }, rails := if s.rails.contains 5 then s.rails else 5 :: s.rails }
  ok (if s.pwrGood then environment s1 0x0B0F 5 0 true else s1)

end Sys2Proof.Machine
end

