-- ==== Sys2Proof/Machine/Channel.lean ====
section
/-! DEFINITION. Machine/Channel.lean: a DMA channel's record, its state, and a start of it (R238, R239, R266, R269). -/

namespace Sys2Proof.Machine

open Sys2Proof

/-! ### Channels -/

/-- A channel beyond its registers. -/
def dmaCh (s : State) (c : Nat) : DmaCh := tget DmaCh.reset s.dmas c

/-- States of a channel (R239). -/
def chIdle : Nat := 1
/-- RUNNING. -/
def chRunning : Nat := 2
/-- WAITING. -/
def chWaiting : Nat := 3
/-- HALTED. -/
def chHalted : Nat := 4
/-- CANCELLING. -/
def chCancelling : Nat := 5

/-- Sets a channel's record and what its registers show of it. -/
def setDma (s : State) (c : Nat) (d : DmaCh) : State :=
  let s1 := { s with dmas := tset DmaCh.reset s.dmas c d }
  let s2 := wr (wr s1 R.DMA_CH_STATE.QUEUED c (b2n d.next.isSome)) R.DMA_CH_STATE.CHECK_RUN c (b2n d.check.isSome)
  wr (wr s2 R.DMA_CH_STATE.MAIN_TAGS c (d.pieces.filter (fun q => !q.light)).length) R.DMA_CH_STATE.LIGHT_TAGS c
    (d.pieces.filter (·.light)).length

/-- Changes a channel's record. -/
def modDma (s : State) (c : Nat) (f : DmaCh → DmaCh) : State := setDma s c (f (dmaCh s c))

/-- A channel's state. -/
def chState (s : State) (c : Nat) : Nat := rd s R.DMA_CH_STATE.STATE c

/-- Sets it. -/
def setChState (s : State) (c st : Nat) : State := wr s R.DMA_CH_STATE.STATE c st

/-! ### A start (R239, R266) -/

/-- A program starts in a channel whose record keeps its outstanding results. -/
def beginProgram (d : DmaCh) (st : DmaStart) : DmaCh :=
  { DmaCh.reset with run := some st, next := d.next, seq := d.seq, pieces := d.pieces }

/-- What GO copies. -/
def startOf (s : State) (c : Nat) : DmaStart :=
  ⟨rd s R.DMA_CH_PROG.ADDR c, rd s R.DMA_CH_LEN.LEN c, rd s R.DMA_CH_LEN.EVENT_TAG c, rd s R.DMA_CH_SRC_BIAS.BIAS c,
   rd s R.DMA_CH_DST_BIAS.BIAS c, rd s R.DMA_CH_BUDGET.STEPS c⟩

/-- A start (R266). -/
def goCh (s : State) (c : Nat) : State :=
  let d := dmaCh s c
  let st := startOf s c
  if st.len = 0 ∨ 4096 < st.len ∨ chState s c = chCancelling ∨ (d.run.isSome ∧ d.next.isSome) then report s 0x030C c 0
  else if d.run.isSome then modDma s c fun d => { d with next := some st }
  else setChState (setDma s c (beginProgram d st)) c chRunning

end Sys2Proof.Machine
end

