-- ==== Sys2Proof/Machine/Pace.lean ====
section
/-! DEFINITION. Machine/Pace.lean: the field timebase's monitors and the pace monitor (R32-R37, the island trims of
R329).
Its conventions: DEDUCED, log entry 12. -/

namespace Sys2Proof.Machine

open Sys2Proof

/-! ### The field timebase (R32) -/

/-- Loss of the field timebase: a doubt 0x0B05 whose tick is the SSC's count (R298). -/
def fieldLoss (s : State) (ssc : Nat) : State :=
  doubtWith { note { s with fieldLost := true } 0x0B05 0 .doubt 0 with sscCount := ssc } 0x0B05 ssc

/-- No field tick for 1 µs of the SSC oscillator (R32). -/
def execFieldTickLoss (ssc : Nat) (s : State) : Host.Outcome State Fault Refusal := ok (fieldLoss s ssc)

/-- The end of a 10 µs SYS_REFCLK window: 995 to 1,005 field ticks are within tolerance (R32). -/
def execFieldFrequencyWindowEnd (count ssc : Nat) (s : State) : Host.Outcome State Fault Refusal :=
  if 995 ≤ count ∧ count ≤ 1005 then ok { s with fieldLost := false } else ok (fieldLoss s ssc)

/-- A stop of SYS_REFCLK, handled alike (R32). -/
def execSysRefclkLoss (ssc : Nat) (s : State) : Host.Outcome State Fault Refusal := ok (fieldLoss s ssc)

/-! ### The pace monitor (R33-R36) -/

/-- Clusters of the part. -/
def clusters (s : State) : Nat := s.part.cores / 8

/-- CORE_STATE.STATE codes (R86). -/
def coreOff : Nat := 1
def coreStarting : Nat := 2
def coreIdle : Nat := 3
def coreRunning : Nat := 4
def coreDraining : Nat := 5
def coreRetired : Nat := 6

/-- A core is in service: IDLE or RUNNING (R86). -/
def inService (s : State) (c : Nat) : Bool :=
  rd s R.CORE_STATE.STATE c == coreIdle || rd s R.CORE_STATE.STATE c == coreRunning

/-- A cluster has a core in service. -/
def clusterInService (s : State) (cl : Nat) : Bool := (upto 8).any (fun i => inService s (8 * cl + i))

/-- The window length, 2^WINDOW_LOG2 shares. -/
def winLen (s : State) : Nat := 2 ^ rd s R.PIPE_PACE_CTRL.WINDOW_LOG2 0

/-- A cluster's slack window: the last `winLen` shares it completed (R33). -/
def paceWin (s : State) (cl : Nat) : PaceWin :=
  let w := tget PaceWin.reset s.pace.wins cl
  { w with slacks := w.slacks.take (winLen s) }

/-- Replaces a cluster's slack window. -/
def setPaceWin (s : State) (cl : Nat) (w : PaceWin) : State :=
  { s with pace := { s.pace with wins := tset PaceWin.reset s.pace.wins cl w } }

/-- The smaller of two slacks, as fractions. -/
def slackMin (a b : Int × Nat) : Int × Nat := if a.1 * b.2 ≤ b.1 * a.2 then a else b

/-- The minimum of a window, none before the first share. -/
def winMin (w : PaceWin) : Option (Int × Nat) :=
  match w.slacks with
  | [] => none
  | a :: t => some (t.foldl slackMin a)

/-- A slack in whole percent, rounded down. -/
def slackPct (a : Int × Nat) : Int := a.1 * 100 / (a.2 : Int)

/-- A slack is below `p` percent. -/
def slackBelow (a : Int × Nat) (p : Nat) : Bool := decide (a.1 * 100 < (p * a.2 : Nat))

/-- A slack is above `p` percent. -/
def slackAbove (a : Int × Nat) (p : Nat) : Bool := decide (((p * a.2 : Nat) : Int) < a.1 * 100)

/-- PIPE_SLACK_MIN: the lowest window minimum over all clusters and its cluster (R37); of clusters with the same minimum
the lowest-numbered one (DESIGN CHOICE, log entry 12). -/
def showSlack (s : State) : State :=
  let best := (upto (clusters s)).foldl (fun (b : Option (Nat × (Int × Nat))) cl =>
    match winMin (paceWin s cl), b with
    | none, b => b
    | some m, none => some (cl, m)
    | some m, some (c, n) => if m.1 * n.2 < n.1 * m.2 then some (cl, m) else some (c, n)) none
  match best with
  | none => s
  | some (cl, m) => wr (wr s R.PIPE_SLACK_MIN.SLACK_PCT 0 (wrap 8 (clampI (-128) 127 (slackPct m))))
      R.PIPE_SLACK_MIN.CLUSTER 0 cl

/-- A share of a cluster completes with a slack (R33). -/
def paceRecord (s : State) (cl : Nat) (slack : Int) (sp : Nat) : State :=
  let w := paceWin s cl
  showSlack (setPaceWin s cl ⟨((slack, sp) :: w.slacks).take (winLen s), w.since + 1⟩)

/-- An island's output before the headroom limit: pace setting plus 20 mV a suspect step, at most 825 mV (R33, R34);
575 mV for a cluster with no core in service (R36). -/
def islandWant (s : State) (cl : Nat) : Nat :=
  if clusterInService s cl then
    min 825 (rd s (R.PIPE_ISLAND.PACE_MV.nth cl) 0 + 20 * rd s (R.PIPE_ISLAND.SUSPECT_STEPS.nth cl) 0)
  else 575

/-- Island outputs within the headroom of VDD_CORE (R33, R34 step 6). Under HOLD voltages are frozen (R36). -/
def showIslands (s : State) : State :=
  if isSet s R.PIPE_PACE_CTRL.HOLD 0 then s
  else (upto (clusters s)).foldl (fun s cl =>
    wr s (R.PIPE_ISLAND.OUT_MV.nth cl) 0 (min (islandWant s cl) (s.pace.vddNow - 25))) s

/-- The voltages are frozen: HOLD, or the loop is off (R36, R37). -/
def paceFrozen (s : State) : Bool :=
  isSet s R.PIPE_PACE_CTRL.HOLD 0 || !isSet s R.PIPE_PACE_CTRL.EN 0

/-- R34 steps 1 to 3 for one cluster: rise by `up`, or fall by 5 mV after a fresh full window, then clamp. A cluster
with no core in service is held at 575 mV (R36): the pace setting itself goes there, and the one it had is lost (DESIGN CHOICE, log entry 12: the rule does not say whether the
setting or the output alone is held). -/
def paceIsland (up : Nat) (s : State) (cl : Nat) : State :=
  let f := R.PIPE_ISLAND.PACE_MV.nth cl
  let w := paceWin s cl
  let old := rd s f 0
  if !clusterInService s cl then wr s f 0 575
  else
    let new :=
      match winMin w with
      | none => old
      | some m =>
        if slackBelow m (rd s R.PIPE_PACE_CTRL.TARGET_SLACK 0) then min 825 (old + up)
        else if slackAbove m (rd s R.PIPE_PACE_CTRL.RELAX_SLACK 0) ∧ winLen s ≤ w.since then max 575 (old - 5)
        else old
    if new = old then s else wr (setPaceWin s cl { w with since := 0 }) f 0 new

/-- Need of R34 step 4: the highest island output over clusters in service, plus 25 mV. -/
def paceNeed (s : State) : Nat :=
  ((upto (clusters s)).filter (clusterInService s)).foldl (fun a cl => max a (islandWant s cl + 25)) 0

/-- PMBus failure (R36): VDD_CORE commands stop, the last commanded value is assumed, and the islands are steered within
its headroom. -/
def pmbusFail (s : State) (code : Nat) : State :=
  let s1 := { s with pace := { s.pace with fail := true, unread := false, vddNow := rd s R.PIPE_PACE_STATUS.VDD_CORE_MV 0 } }
  hit (report (wr (showIslands s1) R.PIPE_PACE_STATUS.STATE 0 4) code 0 0) R.PIPE_PACE_STATUS.PMBUS_FAULT 0

/-- A transfer to the VDD_CORE regulator at address 0x40: its command code, its data, and the slew rate it asks for in
mV/µs, 0 where it asks for none (R35). -/
def pmbus (s : State) (command data slew : Nat) : State := emit s (.pmbus 0x40 command data slew)

/-- A VDD_CORE command on PMBus, at a slew rate of 2 mV/µs (R35). An upward change counts for the headroom only once it is
read back. -/
def vddCommand (s : State) (mv : Nat) : State :=
  let s1 := wr s R.PIPE_PACE_STATUS.VDD_CORE_MV 0 mv
  pmbus { s1 with pace := { s1.pace with lastCmd := s.tick + 1, unread := true, vddNow := min s.pace.vddNow mv } } 0x21 mv 2

/-- R34 steps 4 and 5: at most one command a millisecond, within 0.60 to 0.85 V. -/
def paceVdd (busFail : Bool) (s : State) : State :=
  let cmd := rd s R.PIPE_PACE_STATUS.VDD_CORE_MV 0
  let need := paceNeed s
  let new := if cmd < need then min 850 (cmd + 10) else if need + 20 ≤ cmd then max 600 (cmd - 10) else cmd
  if new = cmd ∨ s.pace.fail ∨ !s.pace.used ∨ (s.pace.lastCmd ≠ 0 ∧ s.tick + 1 < s.pace.lastCmd + 100000) then s
  else if busFail then pmbusFail s 0x0B02 else vddCommand s new

/-- Some cluster's window minimum is below the target. -/
def someBelow (s : State) : Bool :=
  (upto (clusters s)).any (fun cl => match winMin (paceWin s cl) with
    | none => false
    | some m => slackBelow m (rd s R.PIPE_PACE_CTRL.TARGET_SLACK 0))

/-- Every window minimum there is lies above the relax slack. -/
def allRelaxed (s : State) : Bool :=
  (upto (clusters s)).any (fun cl => (winMin (paceWin s cl)).isSome) &&
  (upto (clusters s)).all (fun cl => match winMin (paceWin s cl) with
    | none => true
    | some m => slackAbove m (rd s R.PIPE_PACE_CTRL.RELAX_SLACK 0))

/-- PIPE_PACE_STATUS.STATE (R36, R37), with 0x0B01 on entering CEILING. Where rows of R36 hold together PMBUS_FAIL is shown
before HOLD, and HOLD before CEILING and FLOOR (DESIGN CHOICE, log entry 12). -/
def paceState (s : State) : State :=
  let cmd := rd s R.PIPE_PACE_STATUS.VDD_CORE_MV 0
  let st := if s.pace.fail then 4 else if isSet s R.PIPE_PACE_CTRL.HOLD 0 then 1
    else if cmd = 850 ∧ someBelow s then 2 else if cmd = 600 ∧ allRelaxed s then 3 else 0
  let s1 := wr s R.PIPE_PACE_STATUS.STATE 0 st
  reportIf (st == 2 && decide (rd s R.PIPE_PACE_STATUS.STATE 0 ≠ 2)) s1 0x0B01 0 0

/-- One evaluation (R34): `up` is 5 mV, or 20 mV at an immediate one. -/
def paceEval (s : State) (up : Nat) (busFail : Bool) : State :=
  if paceFrozen s then paceState s
  else paceState (showIslands (paceVdd busFail ((upto (clusters s)).foldl (paceIsland up) s)))

/-- The trim of a cluster's island regulator moves by 1 mV toward its supply monitor's target, within ±15 mV; a target
beyond that is rejected with 0x0807 (R329). -/
def trimStep (s : State) (cl measured : Nat) : State :=
  let old := tget 0 s.self.trims cl
  let out : Int := rd s (R.PIPE_ISLAND.OUT_MV.nth cl) 0
  let want := old + (out - measured)
  if want < -15 ∨ 15 < want then
    hitRejected (report s 0x0807 cl 0) 3
  else
    let new := if old < want then old + 1 else if want < old then old - 1 else old
    { s with self := { s.self with trims := tset 0 s.self.trims cl new } }
where
  /-- CAL_SELF_STATUS.REJECTED, a bit per item of R329 in table order. -/
  hitRejected (s : State) (item : Nat) : State :=
    wr s R.CAL_SELF_STATUS.REJECTED 0 (orBit (rd s R.CAL_SELF_STATUS.REJECTED 0) item)

/-- Every 1 ms of field timebase (R34): one evaluation, then one trim step for each island whose monitor was read (R329). -/
def execPaceEvaluation (busFail : Bool) (monitors : List Nat) (s : State) : Host.Outcome State Fault Refusal :=
  if !elapsed s s.pace.evalAt 100000 then ok s
  else
    let s1 := paceEval { s with pace := { s.pace with evalAt := s.tick } } 5 busFail
    ok ((List.zip (upto (clusters s)) monitors).foldl (fun s m => trimStep s m.1 m.2) s1)

/-- Once for each VOUT_COMMAND, within 2 ms of it: READ_VOUT within ±15 mV of the command (R35, R36). -/
def execPmbusReadbackCheck (readMv : Nat) (statusFault busFail : Bool) (s : State) :
    Host.Outcome State Fault Refusal :=
  let cmd := rd s R.PIPE_PACE_STATUS.VDD_CORE_MV 0
  if !s.pace.used || s.pace.fail || !s.pace.unread || decide (s.pace.lastCmd + 200000 < s.tick + 1) then ok s
  else
    let s1 := pmbus (pmbus { s with pace := { s.pace with unread := false } } 0x79 0 0) 0x8B 0 0
    if busFail then ok (pmbusFail s1 0x0B02)
    else if statusFault ∨ readMv + 15 < cmd ∨ cmd + 15 < readMv then ok (pmbusFail s1 0x0B03)
    else ok (showIslands { s1 with pace := { s1.pace with vddNow := cmd } })

/-- Once per second of field timebase VOUT_MODE is read again (R36). -/
def execVoutModeRecheck (ulinear16 busFail : Bool) (s : State) : Host.Outcome State Fault Refusal :=
  if !s.pace.used || s.pace.fail || !elapsed s s.pace.modeAt 100000000 then ok s
  else
    let s1 := pmbus { s with pace := { s.pace with modeAt := s.tick } } 0x20 0 0
    if busFail then ok (pmbusFail s1 0x0B02)
    else if ulinear16 then ok s1 else ok (pmbusFail s1 0x0B03)

/-- The values of a PIPE_PACE_CTRL write are within their ranges (R36). -/
def paceCtrlOk (v : Nat) : Bool :=
  let t := fval R.PIPE_PACE_CTRL.TARGET_SLACK v
  let r := fval R.PIPE_PACE_CTRL.RELAX_SLACK v
  let w := fval R.PIPE_PACE_CTRL.WINDOW_LOG2 v
  decide (5 ≤ t) && decide (t ≤ 50) && decide (t + 5 ≤ r) && decide (4 ≤ w) && decide (w ≤ 12)

/-- A write to PIPE_PACE_CTRL (R36): taken whole or ignored whole with CFG_REJECT. -/
def execPipePaceCtrlWrite (w : Wr) (s : State) : Host.Outcome State Fault Refusal :=
  ok (gate s w R.PIPE_PACE_CTRL.reg 0 fun s _ =>
    if paceCtrlOk w.val then paceState (showSlack (putAll s R.PIPE_PACE_CTRL.reg 0 0 w.val))
    else hit s R.PIPE_PACE_STATUS.CFG_REJECT 0)

/-- PIPE_LATENCY_MAX.CLEAR sets MAX_TICKS to zero (R37). -/
def execLatencyMaxClear (w : Wr) (s : State) : Host.Outcome State Fault Refusal :=
  ok (gate s w R.PIPE_LATENCY_MAX.reg 0 fun s _ =>
    if bit w.val 31 then wr s R.PIPE_LATENCY_MAX.MAX_TICKS 0 0 else s)

end Sys2Proof.Machine
end

