-- ==== Sys2Proof/Machine/Flags.lean ====
section
/-! DEFINITION. Machine/Flags.lean: what a core counts and flags: saturations, NaN and infinity events, sticky register
and tile flags, alarms, faults and refusals (R56, R59, R79, R83, R86, R121, R148-R150, R167, R171). -/

namespace Sys2Proof.Machine

open Sys2Proof

/-- Least of a count and 2^32 − 1. -/
def sat32n (n : Nat) : Nat := min (word32 - 1) n

/-- Counts saturations of the running share (R56). -/
def countSat (s : State) (c n : Nat) : State :=
  modCore (bumpBy s R.CORE_CNT_SAT.COUNT c n) c (fun k => { k with satCount := sat32n (k.satCount + n) })

/-- Counts NaN and infinity events of the running share (R59). -/
def countNan (s : State) (c n : Nat) : State :=
  modCore (bumpBy s R.CORE_CNT_NANINF.COUNT c n) c (fun k => { k with nanCount := sat32n (k.nanCount + n) })

/-- Counts both. -/
def countBoth (s : State) (c sat nan : Nat) : State := countNan (countSat s c sat) c nan

/-- Adds array steps to the count pair and to the share (R67, R82, R86). Of the count the low word saturates and the high word wraps, as
R86 says of the two registers. -/
def countSteps (s : State) (c n : Nat) : State :=
  let total := (coreAt s c).allSteps + n
  let s1 := wr (wr s R.CORE_CNT_STEPS_LO.COUNT c (sat32n total)) R.CORE_CNT_STEPS_HI.COUNT c (total / word32)
  modCore s1 c (fun k => { k with steps := sat32n (k.steps + n), allSteps := total })

/-- The flags of a vector register an instruction writes (R121): of the registers read, of its own events, and its own
earlier ones where it keeps lanes. -/
def flagV (data : Nat) (srcs : List VReg) (old : VReg) (kept sat nan : Bool) : VReg :=
  ⟨data, srcs.any (·.sat) || sat || (kept && old.sat), srcs.any (·.nan) || nan || (kept && old.nan)⟩

/-- Sets a bit of CORE_ALARM or SPAD_ERR, and the counters of R86 and R171, for a code (R86, R171). -/
def coreSticky (s : State) (c code : Nat) : State :=
  match code with
  | 0x0101 => bump (hit s R.CORE_ALARM.RESIDUE_MAC c) R.CORE_CNT_RESIDUE.COUNT c
  | 0x0102 => bump (hit s R.CORE_ALARM.RESIDUE_VEC c) R.CORE_CNT_RESIDUE.COUNT c
  | 0x0103 => bump (hit s R.CORE_ALARM.ACC_STORE c) R.CORE_CNT_RESIDUE.COUNT c
  | 0x0104 => hit s R.CORE_ALARM.PARITY_LUT c
  | 0x0105 => bump (hit s R.CORE_ALARM.ECC_CORR c) R.CORE_CNT_ECC_CORR.COUNT c
  | 0x0106 => bump (hit s R.CORE_ALARM.ECC_UNCORR c) R.CORE_CNT_ECC_UNCORR.COUNT c
  | 0x0107 => hit s R.CORE_ALARM.DISPATCH_REFUSED c
  | 0x0108 => hit s R.CORE_ALARM.BANK_WRITE c
  | 0x0109 => hit s R.CORE_ALARM.ACC_OVERFLOW c
  | 0x010A => hit s R.CORE_ALARM.ACC_FORMAT c
  | 0x0401 => hit s R.CORE_ALARM.POISON_IN c
  | 0x0201 => hit s R.SPAD_ERR.RING_RD_WDOG c
  | 0x0202 => hit s R.SPAD_ERR.RING_WR_WDOG c
  | 0x0203 => hit s R.SPAD_ERR.CNT_WDOG c
  | 0x0204 => bump (hit s R.SPAD_ERR.PARITY c) R.SPAD_CNT_PARITY.COUNT c
  | 0x0205 => hit s R.SPAD_ERR.REMAPPED c
  | 0x0206 => hit s R.SPAD_ERR.SPARES_OUT c
  | 0x0207 => hit s R.SPAD_ERR.CTRL_REFUSED c
  | 0x0208 => hit s R.SPAD_ERR.RING_REFUSED c
  | 0x0209 => hit s R.SPAD_ERR.HAZARD c
  | 0x020A => hit s R.SPAD_ERR.STATE_ECC c
  | _ => s

/-- The bank of the running or last share. -/
def activeBank (s : State) (c : Nat) : Nat := rd s R.CORE_STATE.ACTIVE_BANK c

/-- The program counter of a core. -/
def pcOf (s : State) (c : Nat) : Nat := rd s R.CORE_PC.PC c

/-- Place of a word of an instruction bank (R77). -/
def bankIx (c b a : Nat) : Nat := 8192 * c + 4096 * b + a

/-- The stored bits of a bank word that have flipped. -/
def bankFlips (s : State) (c b a : Nat) : Nat := tget 0 s.bankErr (bankIx c b a)

/-- The word of an instruction bank as SEC-DED gives it (R77): with one flipped bit of the 72 the word that was written.
Three or more escape the check (R76), and the data bits are read as they stand (DESIGN CHOICE, log entry 13). -/
def bankWord (s : State) (c b a : Nat) : Nat :=
  let w := tget 0 s.banks (bankIx c b a)
  let e := bankFlips s c b a
  if popcount 72 e ≤ 1 then w else Nat.xor w (e % 2 ^ 64)

/-- Clears the waiting bits of the ring a core's abandoned wait stood on, and the reservation it asks for (R150, R171). -/
def dropWaitBits (s : State) (c : Nat) : State :=
  let k := coreAt s c
  let w := bankWord s c (activeBank s c) (pcOf s c)
  match k.wait with
  | some ⟨.ringRead, _⟩ =>
    match hreg k (srcA w) with
    | some h => wr s (R.SPAD_RING_STATE.WAIT_RD.nth h.index) c 0
    | none => s
  | some ⟨.ringWrite, _⟩ =>
    match hreg k (dst w) with
    | some h => wr (setRingX s h.core h.index { ringX s h.core h.index with want := false })
        (R.SPAD_RING_STATE.WAIT_WR.nth h.index) h.core 0
    | none => s
  | _ => s

/-- CORE_FAULT takes an alarm, fault or refusal code with its program counter, bank and cause (R86). PC has no room for the
4,096 of a fetch past the last word and shows 0 (DESIGN CHOICE, log entry 13). -/
def coreFaultReg (s : State) (c code pc cause : Nat) : State :=
  wr (wr (wr (wr s R.CORE_FAULT.CODE c code) R.CORE_FAULT.PC c pc) R.CORE_FAULT.BANK c (activeBank s c))
    R.CORE_FAULT.CAUSE c cause

/-- Reports a code of a core: its sticky bit, its counter and one occurrence. -/
def coreReport (s : State) (c code : Nat) : State := report (coreSticky s c code) code c 0

/-- Reports a refusal or event of the core outside a share's instructions, with its CORE_FAULT record. -/
def coreRefuse (s : State) (c code cause : Nat) : State := coreReport (coreFaultReg s c code 0 cause) c code

/-- A report-only code of the running share, which its record shows where no alarm or fault arises (R83). -/
def noteEvent (s : State) (c code : Nat) : State :=
  modCore s c (fun k => { k with event := if k.run.isSome && k.event == 0 then code else k.event })

/-- Codes whose share ends as ALARM; the other share-ending codes end it as FAULT (R148). -/
def isAlarm (code : Nat) : Bool :=
  code == 0x0101 || code == 0x0102 || code == 0x0103 || code == 0x0104 || code == 0x0106 || code == 0x0109 ||
  code == 0x0114 || code == 0x0116 || code == 0x0201 || code == 0x0202 || code == 0x0203 || code == 0x0204 ||
  code == 0x020A || code == 0x0401

/-- A fault or an alarm of the running share at an instruction: issue stops, any wait is abandoned, and CODE is the
earliest in program order (R83, R150). -/
def shareEvent (s : State) (c code pc seq : Nat) : State :=
  let s1 := coreReport (coreFaultReg (dropWaitBits s c) c code pc 0) c code
  let s2 := wr s1 R.CORE_STATE.WAITING c 0
  modCore s2 c (fun k =>
    let first := k.code == 0 || decide (seq < k.codeSeq)
    { k with
      ending := true, wait := none,
      alarm := k.alarm || isAlarm code,
      fault := k.fault || !isAlarm code,
      code := if first then code else k.code,
      codeSeq := if first then seq else k.codeSeq,
      endPc := if first then pc else k.endPc })

end Sys2Proof.Machine
end

