-- ==== Sys2Proof/Machine/Sequencer.lean ====
section
/-! DEFINITION. Machine/Sequencer.lean: fetch, decode, issue and the program counter (R77, R88-R90, R94, R103, R104,
R142, R149, R150). A command of an Otvan row executes the word at the program counter of its core if that word is the
row's instruction; otherwise nothing happens (DESIGN CHOICE, log entry 4). -/

namespace Sys2Proof.Machine

open Sys2Proof

/-- What an instruction does once its checks are made. -/
inductive Eff where
  /-- Not executed: the share ends with this code (R148). -/
  | stop (code : Nat)
  /-- Issue is held: nothing changes. -/
  | hold
  /-- Issue is held while an earlier instruction comes to its end. -/
  | defer (s : State)
  /-- The sequencer waits (R142). -/
  | wait (s : State) (what : WaitFor)
  /-- Completes, with the alarm codes that arose in it; control passes to the next word. -/
  | go (s : State) (alarms : List Nat)
  /-- Completes and transfers control. -/
  | jump (s : State) (pc : Nat)
  deriving DecidableEq, Repr

/-- Sets it. -/
def setPc (s : State) (c pc : Nat) : State := wr s R.CORE_PC.PC c pc

/-- The vector registers a word names (R74: an XFER read holds later instructions that use its register). -/
def vregsOf (w : Nat) : List Nat :=
  let o := opc w
  if o = 0x20 ∨ o = 0x23 then [dst w, srcA w, srcB w]
  else if o = 0x22 then [srcA w, srcB w]
  else if o = 0x25 then (if bit w 8 then [dst w, srcA w, srcB w] else [dst w, srcA w])
  else if o = 0x21 ∨ (0x24 ≤ o ∧ o ≤ 0x29) ∨ o = 0x2B then [dst w, srcA w]
  else if o = 0x2A ∨ o = 0x2C ∨ o = 0x30 ∨ o = 0x35 then [dst w]
  else if o = 0x31 ∨ o = 0x34 then [srcB w]
  else if o = 0x37 then (if bit w 19 then [dst w] else [srcB w])
  else []

/-- BR, JMP, CALL, RET and LOOP may not stand at the innermost active loop's END (R104). -/
def badLoopEnd (k : Core) (w pc : Nat) : Bool :=
  match k.loops with
  | [] => false
  | l :: _ => l.stop == pc && decide (5 ≤ opc w) && decide (opc w ≤ 9)

/-- The END test of R103 at word w: passes again, or pops and tests the next. -/
def loopNext (k : Core) (w : Nat) : List LoopRec → Core × Nat
  | [] => ({ k with loops := [] }, w + 1)
  | l :: rest =>
    if l.stop = w then
      if l.iter + 1 < l.n then (setS { k with loops := { l with iter := l.iter + 1 } :: rest } l.d (l.iter + 1), l.start)
      else loopNext k w rest
    else ({ k with loops := l :: rest }, w + 1)

/-- An instruction at pc has issued and completed: the program counter moves on. -/
def completed (s : State) (c pc : Nat) : State :=
  let k := coreAt s c
  let r := loopNext { k with seq := k.seq + 1, lastPc := pc } pc k.loops
  setPc (setCore s c r.1) c r.2

/-- An instruction at pc has completed and transferred control. -/
def transferred (s : State) (c pc target : Nat) : State :=
  setPc (modCore s c (fun k => { k with seq := k.seq + 1, lastPc := pc })) c target

/-- A wait that CORE_STATE.WAITING shows (R86). -/
def WaitFor.shown : WaitFor → Bool
  | .fence => false
  | _ => true

/-- Ends a fetch on an uncorrectable word (R77): not executed, 0x0106, the bank's VALID cleared. -/
def badFetch (s : State) (c pc : Nat) : State :=
  let s1 := if activeBank s c = 0 then wr s R.CORE_STATE.BANK_A_VALID c 0 else wr s R.CORE_STATE.BANK_B_VALID c 0
  shareEvent s1 c 0x0106 pc (coreAt s c).seq

/-- An instruction that completed meets its alarms, in the order given (DESIGN CHOICE, log entry 13: CODE is the first). -/
def alarmed (s : State) (c pc seq : Nat) (codes : List Nat) : State := codes.foldl (fun s code => shareEvent s c code pc seq) s

/-- Takes an instruction's effect at pc. -/
def applyEff (s : State) (c pc : Nat) : Eff → State
  | .stop code => shareEvent s c code pc (coreAt s c).seq
  | .hold => s
  | .defer s1 => s1
  | .wait s1 what =>
    wrIf what.shown (modCore s1 c (fun k => { k with wait := some ⟨what, s.tick⟩, lastPc := pc })) R.CORE_STATE.WAITING c 1
  | .go s1 codes => alarmed (completed s1 c pc) c pc (coreAt s1 c).seq codes
  | .jump s1 t => transferred s1 c pc t

/-- The core may issue: a share runs on it, nothing has ended it, no wait holds it, the debug window has not halted it
(R83, R142, R461). -/
def mayIssue (s : State) (c : Nat) : Bool :=
  let k := coreAt s c
  present s c && k.run.isSome && !k.ending && k.wait.isNone && !k.halted

/-- The ring or counter a ring or counter instruction uses. -/
def objectOf (k : Core) (w : Nat) : Option Handle × Option Handle :=
  let o := opc w
  (if o = 0x34 then hreg k (dst w) else if o = 0x35 ∨ o = 0x36 then hreg k (srcA w) else none,
    if o = 0x38 then creg k (srcA w) else if o = 0x39 then creg k (dst w) else none)

/-- Bits of the state of the ring or counter an instruction uses flip (R167): one is corrected and counted; with two the
object answers every use with 0x020A until the control complex rewrites it. -/
def flipState (s : State) (c w n : Nat) : State :=
  match objectOf (coreAt s c) w with
  | (some h, _) =>
    if n = 1 then bump s R.SPAD_CNT_PARITY.COUNT h.core
    else if 2 ≤ n then setRingX s h.core h.index { ringX s h.core h.index with bad := true } else s
  | (none, some h) =>
    if n = 1 then bump s R.SPAD_CNT_PARITY.COUNT h.core
    else if 2 ≤ n then modCore s h.core (fun k => { k with badCnt := tset false k.badCnt h.index true }) else s
  | (none, none) => s

/-- Stored bits of an accumulator element flip: 32 of its value, 4 of its residue above them. -/
def Tile.flip (t : Tile) (e mask : Nat) : Tile :=
  { t with elems := tset 0 t.elems e (Nat.xor (tget 0 t.elems e) (mask % word32)),
           res := tset 0 t.res e (Nat.xor (tget 0 t.res e) (bits mask 32 4)) }

/-- Bits of a line of a weight buffer flip, and parity bits of it. -/
def HeldTile.flip (h : HeldTile) (line mask par : Nat) : HeldTile :=
  { h with lines := setAt h.lines line (Nat.xor (at? 0 h.lines line) mask),
           par := setAt h.par line (Nat.xor (at? 0 h.par line) par) }

/-- An instruction that loads and uses a weight buffer: of the MMA family. -/
def isMma (w : Nat) : Bool := decide (0x13 ≤ opc w) && decide (opc w ≤ 0x16)

/-- Bits of a line of the weight buffer used last, or of the idle one, flip. -/
def strikeHeld (l : List HeldTile) (idle : Bool) (line mask par : Nat) : List HeldTile :=
  match l[b2n idle]? with
  | some h => setAt l (b2n idle) (h.flip line mask par)
  | none => l

/-- The weight buffers as an instruction of the MMA family uses them, its tile loaded. -/
def strikeBuffers (k : Chk) (l : List HeldTile) : List HeldTile :=
  k.upsets.foldl (fun l u => match u with
    | .weight idle line mask par => strikeHeld l idle line mask par
    | _ => l) l

/-- A fault strikes what an instruction of a core is about to use; what strikes a weight buffer of an instruction of the MMA family does
so once its tile is loaded. -/
def strike (s : State) (c w : Nat) : Upset → State
  | .spad a mask => flipWord s c a mask
  | .acc t e mask => modCore s c fun k => setTile k t ((tileAt k t).flip e mask)
  | .weight idle line mask par =>
    if isMma w then s else modCore s c fun k => { k with held := strikeHeld k.held idle line mask par }
  | .state n => flipState s c w n
  | .fetch _ | .result _ _ _ => s

/-- Faults strike the instruction word about to be fetched. -/
def strikeFetch (s : State) (ix : Nat) (l : List Upset) : State :=
  l.foldl (fun s u => match u with
    | .fetch mask => { s with bankErr := tset 0 s.bankErr ix (Nat.xor (tget 0 s.bankErr ix) (mask % 2 ^ 72)) }
    | _ => s) s

/-- The error of a checked operation on a lane or element, 0 for none. -/
def errOf (k : Chk) (lane op : Nat) : Int :=
  k.upsets.foldl (fun a u => match u with
    | .result l o e => if l = lane ∧ o = op then a + e else a
    | _ => a) 0

/-- The lanes or elements whose operation's result is off. -/
def errLanes (k : Chk) : List Nat := k.upsets.filterMap (fun u => match u with
  | .result l _ _ => some l
  | _ => none)

/-- A single-bit error of the word at pc is corrected, written back, counted and reported (R77). -/
def corrected (s : State) (c ix : Nat) : State :=
  noteEvent (coreReport { s with bankErr := tset 0 s.bankErr ix 0 } c 0x0105) c 0x0105

/-- One instruction of a core: `mine` tells this row's words, `body` its effect. -/
def issue (s : State) (c : Nat) (k : Chk) (mine : Nat → Bool) (body : State → Core → Nat → Eff) : State :=
  let pc := pcOf s c
  if !mayIssue s c || decide (4095 < pc) then s
  else
    let b := activeBank s c
    let ix := bankIx c b pc
    let s0 := strikeFetch s ix k.upsets
    let bad := popcount 72 (bankFlips s0 c b pc)
    let w := bankWord s0 c b pc
    if bad = 2 then badFetch s0 c pc
    else if !mine w then s
    else if (coreAt s c).reads.any (fun r => (vregsOf w).contains r.vd) then s
    else
      let s1 := if bad = 1 then corrected s0 c ix else s0
      let s2 := k.upsets.foldl (fun s u => strike s c w u) s1
      if badLoopEnd (coreAt s2 c) w pc then shareEvent s2 c 0x0110 pc (coreAt s2 c).seq
      else applyEff s2 c pc (body s2 (coreAt s2 c) w)

/-- A word's opcode. -/
def isOp (o : Nat) (w : Nat) : Bool := opc w == o

end Sys2Proof.Machine
end

