-- ==== Sys2Proof/Machine/Tensor.lean ====
section
/-! DEFINITION. Machine/Tensor.lean: tile descriptors, the MMA family, the outlier path and accumulator tiles
(R67-R72, R106-R119). Content is applied when an instruction issues, in program order (R74; DEDUCED, log entry 14). -/

namespace Sys2Proof.Machine

open Sys2Proof

/-! ### Descriptors (R106-R111) -/

/-- Words per row (R106). -/
def wpr (d : TileD) : Nat := cdiv (d.cols * fmtWidth d.fmt) 256

/-- A descriptor is valid at use (R51, R52, R106). -/
def descOk (d : TileD) : Bool :=
  decide (1 ≤ d.rows) && decide (d.rows ≤ 32) && decide (1 ≤ d.cols) && decide (d.cols ≤ 64) && decide (d.fmt ≤ 14) &&
  (if d.fmt = 12 then d.stride == 0 else decide (wpr d ≤ d.stride)) &&
  (!isMxFmt d.fmt || d.cols % 32 == 0)

/-- Word of the scale plane of an MX tile (R51). -/
def scaleBase (d : TileD) : Nat := d.base + d.rows * d.stride

/-- The words a dense, CB3 or MX tile is read from, as (first word, count) runs (R107). -/
def footprint (d : TileD) : List (Nat × Nat) :=
  if d.fmt = 12 then [(d.base, cdiv (24 * d.rows) 32)]
  else (List.range d.rows).map (fun i => (d.base + i * d.stride, wpr d)) ++
    (if isMxFmt d.fmt then [(scaleBase d, cdiv (d.rows * d.cols / 32) 32)] else [])

/-- Every word of a footprint is usable (R28, R107). -/
def fpOk (s : State) (c : Nat) (f : List (Nat × Nat)) : Bool := f.all (fun r => spSpan s c r.1 r.2)

/-- The alarms of a read of a footprint by the core's engines: 0x0204 where parity fails, 0x0401 for a stored poison bit
(R167). -/
def fpCodes (s : State) (c : Nat) (f : List (Nat × Nat)) : List Nat :=
  (if f.any (fun r => spParity s c r.1 r.2) then [0x0204] else []) ++
  (if f.any (fun r => spPoison s c r.1 r.2) then [0x0401] else [])

/-- The 0x0204s of a footprint count against their rows (R168). -/
def noteFoot (s : State) (c : Nat) (f : List (Nat × Nat)) : State := f.foldl (fun s r => noteRows s c r.1 r.2) s

/-- Bits of an element of a row (R45, R52): three of a CB3 index. -/
def elemBits (fmt : Nat) : Nat := if fmt = 12 then 3 else fmtWidth fmt

/-- The elements in the bits of a row of a tile. -/
def rowElems (d : TileD) (x : Nat) : List Nat := (List.range d.cols).map (fun k => bits x (elemBits d.fmt * k) (elemBits d.fmt))

/-- The bits of row i of a dense or CB3 tile (R45, R52). -/
def rowBits (s : State) (c : Nat) (d : TileD) (i : Nat) : Nat :=
  if d.fmt = 12 then memLE s.mem (spAddr c d.base + 24 * i) 24
  else memLE s.mem (spAddr c (d.base + i * d.stride)) (32 * wpr d)

/-- The elements of row i of a dense or CB3 tile. -/
def tileRow (s : State) (c : Nat) (d : TileD) (i : Nat) : List Nat := rowElems d (rowBits s c d i)

/-- The scale bytes in the bits of a row of them. -/
def scaleElems (d : TileD) (x : Nat) : List Nat := (List.range (d.cols / 32)).map (fun b => bits x (8 * b) 8)

/-- The bits of the scale bytes of row i of an MX tile (R51). -/
def scaleBits (s : State) (c : Nat) (d : TileD) (i : Nat) : Nat :=
  memLE s.mem (spAddr c (scaleBase d) + i * (d.cols / 32)) (d.cols / 32)

/-- The scale bytes of row i of an MX tile. -/
def scaleRow (s : State) (c : Nat) (d : TileD) (i : Nat) : List Nat := scaleElems d (scaleBits s c d i)

/-- Entries of a codebook (R52). -/
def bookLen (fmt : Nat) : Nat := if fmt = 12 then 8 else 16

/-- The bits of the codebook of output channel n at word cb (R52). -/
def bookBits (s : State) (c cb fmt n : Nat) : Nat :=
  if fmt = 12 then memLE s.mem (spAddr c (cb + n / 2) + 16 * (n % 2)) 16 else memLE s.mem (spAddr c (cb + n)) 32

/-- TSET (R109). -/
def execTset (core : Nat) (k : Chk) (s : State) : Host.Outcome State Fault Refusal :=
  ok (issue s core k (isOp 0x10) fun s k w =>
    if !decOk w .t .s .s [(0, 40)] ∨ 15 ≤ bits w 19 5 then .stop 0x0110
    else .go (modCore s core fun k' => setT k' (dst w)
      { base := (sreg k (srcA w) + bits w 30 10) % 65536, stride := bits w 0 12,
        rows := (sreg k (srcB w) + bits w 24 6) % 64, cols := bits w 12 7, fmt := bits w 19 5 }) [])

/-- TADV (R110). -/
def execTadv (core : Nat) (k : Chk) (s : State) : Host.Outcome State Fault Refusal :=
  ok (issue s core k (isOp 0x11) fun s k w =>
    if !decOk w .t .s .s [(0, 16)] then .stop 0x0110
    else
      let d := treg k (dst w)
      .go (modCore s core fun k' => setT k' (dst w)
        { d with base := wrap 16 ((d.base : Int) + sreg k (srcA w) + sext 16 w),
                 rows := if srcB w = 0 then d.rows else sreg k (srcB w) % 64 }) [])

/-- TEDGE (R111). -/
def execTedge (core : Nat) (k : Chk) (s : State) : Host.Outcome State Fault Refusal :=
  ok (issue s core k (isOp 0x12) fun s k w =>
    if !decOk w .m .s .none [(0, 9)] then .stop 0x0110
    else .go (modCore s core fun k' => setM k' (dst w) (2 ^ min 256 (sreg k (srcA w) + bits w 0 9) - 1)) [])

/-! ### Pairings (R54, R67, R114) -/

/-- A pairing's accumulator tag, chunk group and steps per M row. -/
def pairing (a b : Nat) : Option (Nat × Nat × Nat) :=
  if (a = 1 ∨ a = 2) ∧ (b = 1 ∨ b = 2) then some (1, 32, 1)
  else if a = 1 ∧ b = 0 then some (1, 32, 1)
  else if a = 0 ∧ b = 0 then some (1, 64, 1)
  else if isFp8 a ∧ isFp8 b then some (2, 32, 1)
  else if (a = 8 ∧ b = 8) ∨ (a = 9 ∧ b = 9) then some (2, 32, 4)
  else if a = 13 ∧ b = 13 then some (2, 64, 1)
  else if a = 14 ∧ b = 14 then some (2, 32, 1)
  else if (a = 1 ∨ a = 2 ∨ isFp8 a) ∧ isCbFmt b then some (2, 64, 1)
  else if a = 8 ∧ isCbFmt b then some (2, 64, 8)
  else none

/-- The pairing of MMA: any of R54 without codebooks. -/
def mmaPairing (a b : Nat) : Option (Nat × Nat × Nat) := if isCbFmt b then none else pairing a b

/-- The pairing of MMAW and MMAD: no codebook, no microscaling, no INT4 activations. -/
def mmawPairing (a b : Nat) : Option (Nat × Nat × Nat) :=
  if a = 0 ∨ isMxFmt a ∨ isCbFmt b ∨ isMxFmt b then none else pairing a b

/-- The pairing of MMAC: codebook weights only. -/
def mmacPairing (a b : Nat) : Option (Nat × Nat × Nat) := if isCbFmt b then pairing a b else none

/-! ### The weight buffers (R68, R69) -/

/-- Reads a weight tile and codebook set into a buffer, with the parity of each byte. -/
def loadHeld (s : State) (c : Nat) (d : TileD) (cb : Option Nat) : HeldTile :=
  let n := List.range d.rows
  let lines := n.map (rowBits s c d) ++ (if isMxFmt d.fmt then n.map (scaleBits s c d) else []) ++
    (match cb with
      | none => []
      | some b => n.map (bookBits s c b d.fmt))
  ⟨d, cb, lines, lines.map (byteParity 128), true⟩

/-- A buffer holds the tile and codebook set an instruction names, unspoilt. -/
def HeldTile.serves (h : HeldTile) (d : TileD) (cb : Option Nat) : Bool := h.valid && h.d == d && h.cb == cb

/-- The buffer whose tile is not reloaded for an instruction (R68). Either of the two counts as holding a tile (DESIGN CHOICE,
log entry 63). -/
def reusable (k : Core) (d : TileD) (cb : Option Nat) (reload : Bool) : Option HeldTile :=
  if reload then none else k.held.find? (fun h => h.serves d cb)

/-- The buffer an instruction computes from. -/
def heldFor (s : State) (c : Nat) (k : Core) (d : TileD) (cb : Option Nat) (reload : Bool) : HeldTile :=
  (reusable k d cb reload).getD (loadHeld s c d cb)

/-- The two buffers after an instruction used one: the one it has reused comes first, or its load has gone into the idle one, whatever
that held (R68). -/
def nextHeld (k : Core) (h : HeldTile) (reused : Bool) : List HeldTile := h :: (if reused then k.held.erase h else k.held).take 1

/-- Bytes of a line of a buffer that an instruction uses: of each active column's weights, of its scales, and of its codebook the
entries its indices select (R69). -/
def HeldTile.usedBytes (h : HeldTile) (active : Nat → Bool) (j : Nat) : Nat :=
  if j < h.d.rows then (if active j then 2 ^ cdiv (h.d.cols * elemBits h.d.fmt) 8 - 1 else 0)
  else if !active (j - h.d.rows) then 0
  else if isMxFmt h.d.fmt then 2 ^ (h.d.cols / 32) - 1
  else
    let row := rowElems h.d (at? 0 h.lines (j - h.d.rows))
    maskOf 32 fun b => row.contains (b / 2)

/-- A byte that an instruction uses does not match its parity bit (R69). -/
def HeldTile.parityBad (h : HeldTile) (active : Nat → Bool) : Bool :=
  (List.zip (upto h.lines.length) (List.zip h.lines h.par)).any fun x =>
    byteParity 128 x.2.1 != x.2.2 && Nat.land (Nat.xor (byteParity 128 x.2.1) x.2.2) (h.usedBytes active x.1) != 0

/-- The words of a codebook set (R118). -/
def cbFoot (d : TileD) : Option Nat → List (Nat × Nat)
  | none => []
  | some b => [(b, if d.fmt = 12 then cdiv d.rows 2 else d.rows)]

/-! ### Accumulation (R55, R58, R61, R71, R72, R113) -/

/-- An accumulator element after the chunks of one row pair. -/
def accElem (fa fb tag : Nat) (as bs xas xbs : List Nat) (acc : Nat) : Res :=
  if tag = 1 then
    let r := accInt fa fb 2 as bs (acc, 0)
    ⟨r.1, r.2, 0⟩
  else if isMxFmt fa then
    let r := accMx fa 2 as bs xas xbs (acc, 0)
    ⟨r.1, 0, r.2⟩
  else
    let r := accFloat fa fb 2 as bs (acc, 0)
    ⟨r.1, 0, r.2⟩

/-- The weights of column n as the accumulation takes them: indices become their codebook's FP16 entries (R69). -/
def weightsOf (h : HeldTile) (n : Nat) : List Nat :=
  let row := rowElems h.d (at? 0 h.lines n)
  if isCbFmt h.d.fmt then
    let book := at? 0 h.lines (h.d.rows + n)
    row.map (fun i => if i < bookLen h.d.fmt then bits book (16 * i) 16 else 0)
  else row

/-- The scale bytes of column n of an MX tile held. -/
def scalesOf (h : HeldTile) (n : Nat) : List Nat := scaleElems h.d (at? 0 h.lines (h.d.rows + n))

/-- The format the weights of a held tile are multiplied in. -/
def weightFmt (h : HeldTile) : Nat := if isCbFmt h.d.fmt then 8 else h.d.fmt

/-! ### Residues (R71, R75) -/

/-- The significand of an FP32 pattern. -/
def significand (v : Nat) : Nat := bits v 0 23 + (if bits v 23 8 = 0 then 0 else 2 ^ 23)

/-- The residue stored beside an accumulator element: of the integer, or of the significand (DEDUCED, log entry 63). -/
def elemResidue (tag v : Nat) : Nat := if tag = 2 then significand v % 15 else res15 (sext 32 v)

/-- A residue under a shift by s bits: 2^4 is 1 modulo 15 (R75). -/
def resShift (r : Nat) (s : Int) : Nat := r * 2 ^ (s % 4).toNat % 15

/-- A residue with a sign. -/
def resSign (neg : Bool) (r : Nat) : Nat := if neg then (15 - r % 15) % 15 else r % 15

/-- The residue predicted for a product of two values' significands. -/
def mulPredicted : FV → FV → Nat
  | .fin na ma _, .fin nb mb _ => resSign (na != nb) (ma % 15 * (mb % 15))
  | _, _ => 0

/-- The residue predicted for the sum of two values' significands, aligned. -/
def addPredicted : FV → FV → Nat
  | .fin na ma ea, .fin nb mb eb =>
    let e := min ea eb
    (resSign na (resShift (ma % 15) (ea - e)) + resSign nb (resShift (mb % 15) (eb - e))) % 15
  | _, _ => 0

/-- The exact value of an operation rounded to FP32, its significand off by `err`: the result, and whether its residue, shifted back, with
that of the bits the rounding has discarded, differs from the one predicted. Exponents and special values are not checked (R75, R76). -/
def fpChecked (predicted : Nat) (x : FV × Nat) (err : Int) : Res × Bool :=
  let r := frnd 10 x
  if err = 0 then (r, false)
  else
    let actual := (significand r.v : Int) + err
    let off : Res := ⟨setBits r.v 0 23 (wrap 23 actual), r.sat, r.nan⟩
    match x.1 with
    | .fin neg m e =>
      if isSpecial 10 r.v then (off, false)
      else
        let k : Int := (max 1 (bits r.v 23 8) : Nat) - 150 - e
        let lost : Int := if 0 ≤ k then (m : Int) - (significand r.v * 2 ^ k.toNat : Nat) else 0
        (off, (resShift (res15 actual) k + res15 lost) % 15 != resSign neg predicted)
    | _ => (off, false)

/-- A product of two elements. -/
def prodChecked (fa a fb b : Nat) (err : Int) : Res × Bool :=
  fpChecked (mulPredicted (elemFV fa a) (elemFV fb b)) (fvMul (elemFV fa a) (elemFV fb b)) err

/-- A sum of two FP32 values. -/
def addChecked (a b : Nat) (err : Int) : Res × Bool :=
  fpChecked (addPredicted (fdec 10 a) (fdec 10 b)) (fvAdd (fdec 10 a) (fdec 10 b)) err

/-- The products of two rows, numbered from `i`: values, new special values, and whether a comparison failed. -/
def productsChecked (fa fb : Nat) (err : Nat → Int) : Nat → List Nat → List Nat → List Nat × Nat × Bool
  | i, a :: as, b :: bs =>
    let r := prodChecked fa a fb b (err i)
    let p := productsChecked fa fb err (i + 1) as bs
    (r.1.v :: p.1, r.1.nan + p.2.1, r.2 || p.2.2)
  | _, _, _ => ([], 0, false)

/-- One level of the tree, its additions numbered from `i`. -/
def pairUpChecked (err : Nat → Int) : Nat → List Nat → List Nat × Nat × Bool
  | i, a :: b :: t =>
    let r := addChecked a b (err i)
    let p := pairUpChecked err (i + 1) t
    (r.1.v :: p.1, r.1.nan + p.2.1, r.2 || p.2.2)
  | _, l => (l, 0, false)

/-- The tree of R58 over 2^n values. -/
def treeChecked (err : Nat → Int) : Nat → Nat → List Nat → Nat × Nat × Bool
  | 0, _, l => (l.headD 0, 0, false)
  | n + 1, i, l =>
    let p := pairUpChecked err i l
    let r := treeChecked err n (i + 2 ^ n) p.1
    (r.1, p.2.1 + r.2.1, p.2.2 || r.2.2)

/-- What a checked accumulation has come to: the value, what it has counted, and whether a comparison failed. -/
abbrev Sum := Nat × Nat × Bool

/-- The FP32 chunk additions of an element, chunk by chunk; `i` numbers the first operation. -/
def floatChecked (fa fb : Nat) (err : Nat → Int) : Nat → Nat → List Nat → List Nat → Sum → Sum
  | 0, _, _, _, acc => acc
  | n + 1, i, as, bs, acc =>
    if as.isEmpty ∨ bs.isEmpty then acc
    else
      let p := productsChecked fa fb err i (as.take 32) (bs.take 32)
      let t := treeChecked err 5 (i + 32) (padTo 32 p.1)
      let r := addChecked acc.1 t.1 (err (i + 63))
      floatChecked fa fb err n (i + 64) (as.drop 32) (bs.drop 32)
        (r.1.v, acc.2.1 + p.2.1 + t.2.1 + r.1.nan, acc.2.2 || p.2.2 || t.2.2 || r.2)

/-- The products of two integer rows, each compared with r(a) × r(b) mod 15, and their sum. -/
def dotChecked (fa fb : Nat) (err : Nat → Int) : Nat → List Nat → List Nat → Int × Bool
  | i, a :: as, b :: bs =>
    let p := intVal fa a * intVal fb b + err i
    let r := dotChecked fa fb err (i + 1) as bs
    (p + r.1, res15 p != res15 (intVal fa a) * res15 (intVal fb b) % 15 || r.2)
  | _, _, _ => (0, false)

/-- The INT32 chunk additions of an element: the residue of each exact sum is compared before the clamp, after which it is computed again
(R75). -/
def intChecked (fa fb : Nat) (err : Nat → Int) : Nat → Nat → List Nat → List Nat → Sum → Sum
  | 0, _, _, _, acc => acc
  | n + 1, i, as, bs, acc =>
    if as.isEmpty ∨ bs.isEmpty then acc
    else
      let p := dotChecked fa fb err i (as.take 32) (bs.take 32)
      let sum := intVal 5 acc.1 + p.1 + err (i + 63)
      let r := toIntFmt 5 sum
      intChecked fa fb err n (i + 64) (as.drop 32) (bs.drop 32)
        (r.v, acc.2.1 + r.sat, acc.2.2 || p.2 || res15 sum != (elemResidue 1 acc.1 + res15 p.1) % 15)

/-- The additions of the blocks of an MX row pair: the exact integer sum of a block's products, then its addition (R61, R75). -/
def mxChecked (fmt : Nat) (err : Nat → Int) : Nat → Nat → List Nat → List Nat → List Nat → List Nat → Sum → Sum
  | n + 1, i, as, bs, xa :: xas, xb :: xbs, acc =>
    if as.isEmpty ∨ bs.isEmpty then acc
    else
      let dot := mxDot fmt (as.take 32) (bs.take 32)
      let c : Res := if xa = 255 ∨ xb = 255 then ⟨canonNan 10, 0, 0⟩
        else fenc 10 (fvScaled (dot + err (i + 32)) ((xa : Int) + xb - 254 - (if fmt = 14 then 12 else 2)))
      let r := addChecked acc.1 c.v (err (i + 63))
      mxChecked fmt err n (i + 64) (as.drop 32) (bs.drop 32) xas xbs
        (r.1.v, acc.2.1 + c.nan + r.1.nan, acc.2.2 || res15 (dot + err (i + 32)) != res15 dot || r.2)
  | _, _, _, _, _, _, acc => acc

/-- What an accumulating instruction does to one element: its result, and whether a residue comparison failed. -/
abbrev ElemFn := Nat → Nat → Nat → Res × Bool

/-- An element of the MMA family, `faulty` where some checked operation of it is off by what `err` says. -/
def checkedElem (fa fb tag : Nat) (as bs xas xbs : List Nat) (old : Nat) (faulty : Bool) (err : Nat → Int) : Res × Bool :=
  if !faulty then (accElem fa fb tag as bs xas xbs old, false)
  else if tag = 1 then
    let r := intChecked fa fb err 2 0 as bs (old, 0, false)
    (⟨r.1, r.2.1, 0⟩, r.2.2)
  else
    let r := if isMxFmt fa then mxChecked fa err 2 0 as bs xas xbs (old, 0, false) else floatChecked fa fb err 2 0 as bs (old, 0, false)
    (⟨r.1, 0, r.2.1⟩, r.2.2)

/-- The stored residue of an element is 0b1111 or disagrees with the value read (R72). -/
def storeBad (t : Tile) (x : Nat) : Bool :=
  let r := tget 0 t.res x
  r == 15 || r != elemResidue t.tag (tget 0 t.elems x)

/-- Elements and residues listed by place, those that are not zero. -/
def nonzero (l : List (Nat × Nat)) : List (Nat × Nat) := l.filter (fun o => o.2 != 0)

/-- A tile after an accumulating instruction, its counts, and the alarms that arose: element (i, n) is `f` of its old value
where it is active, zero where it is not and START is set (R71, R72, R113). -/
def accumulate (t : Tile) (start : Bool) (tag : Nat) (active : Nat → Nat → Bool) (f : ElemFn) : Tile × Nat × Nat × List Nat :=
  let fresh := start || !t.init
  let outs := (List.range 1024).map (fun x =>
    let i := x / 32
    let n := x % 32
    let old := if fresh then 0 else tget 0 t.elems x
    if active i n then (x, f i n old, true) else (x, ((⟨old, 0, 0⟩ : Res), false), false))
  let sat := outs.foldl (fun a o => a + o.2.1.1.sat) 0
  let nan := outs.foldl (fun a o => a + o.2.1.1.nan) 0
  let special := tag == 2 && outs.any (fun o => o.2.2 && isSpecial 10 o.2.1.1.v)
  let store := !fresh && outs.any (fun o => o.2.2 && storeBad t o.1)
  ({ elems := nonzero (outs.map (fun o => (o.1, o.2.1.1.v))),
     res := nonzero (outs.map (fun o => (o.1, if o.2.2 || fresh then elemResidue tag o.2.1.1.v else tget 0 t.res o.1))),
     tag := tag, sat := (!start && t.sat) || decide (0 < sat), nan := (!start && t.nan) || special, init := true }, sat, nan,
   (if store then [0x0103] else []) ++ (if outs.any (fun o => o.2.1.2) then [0x0101] else []))

/-- An instruction of the MMA family after its decode: descriptors, mask, pairing, activation rows and their words,
weight words and steps (R113-R118). -/
structure MmaArgs where
  a : TileD
  b : TileD
  cb : Option Nat
  pair : Option (Nat × Nat × Nat)
  shapeOk : Bool
  aFoot : List (Nat × Nat)
  aRow : Nat → List Nat
  aScale : Nat → List Nat
  steps : Nat → Nat

/-- The bytes an instruction's operand capture copies, at most 4 KiB: the words of its activation tile, and what the weight buffer
holds of its weights and codebooks (R288). -/
def operandBytes (s : State) (c : Nat) (aFoot : List (Nat × Nat)) (lines : List Nat) : List Byte :=
  (aFoot.flatMap (fun f => memBytes s.mem (spAddr c f.1) (32 * f.2)) ++ lines.flatMap (fun l => leBytes (if l < 2 ^ 256 then 32 else 64) l)).take 4096

/-- Keeps them where the instruction alarms. -/
def keepOperands (s : State) (c : Nat) (codes : List Nat) (aFoot : List (Nat × Nat)) (lines : List Nat) : State :=
  if codes.any (fun x => decide (0x0101 ≤ x) && decide (x ≤ 0x0104)) then
    modCore s c fun k => { k with operands := operandBytes s c aFoot lines }
  else s

/-- Starts or queues the steps of an instruction of the MMA family (R68, R112). -/
def queueMma (s : State) (c n : Nat) : State :=
  if (coreAt s c).computing then modCore s c (fun k => { k with waiting := some n })
  else countSteps (modCore s c (fun k => { k with computing := true })) c n

/-- The words of an instruction's weights and codebooks. -/
def weightFoot (g : MmaArgs) : List (Nat × Nat) := footprint g.b ++ cbFoot g.b g.cb

/-- The words an instruction reads: its activations, and its weights and codebooks where they are loaded (R68). -/
def mmaReads (k : Core) (g : MmaArgs) (reload : Bool) : List (Nat × Nat) :=
  g.aFoot ++ (if (reusable k g.b g.cb reload).isSome then [] else weightFoot g)

/-- Columns whose weights it uses: those of its tile that its mask enables. -/
def mmaColumn (k : Core) (w : Nat) (g : MmaArgs) (n : Nat) : Bool := decide (n < g.b.rows) && lane (mreg k (bits w 2 3)) n

/-- What it does to its accumulator tile, where checked operations of some elements are off. -/
def mmaSum (k : Core) (w : Nat) (g : MmaArgs) (tag : Nat) (h : HeldTile) (chk : Chk) : Tile × Nat × Nat × List Nat :=
  accumulate (tileAt k (dst w)) (bit w 0) tag
    (fun i n => decide (i < g.a.rows) && mmaColumn k w g n)
    (fun i n old => checkedElem g.a.fmt (weightFmt h) tag (g.aRow i) (weightsOf h n) (g.aScale i) (scalesOf h n) old
      ((errLanes chk).contains (32 * i + n)) (errOf chk (32 * i + n)))

/-- The common course of the MMA family: START and RELOAD at bits 0 and 1, MASK at [4:2]; checks in the order of
R94, then the alarms of what it reads, holds, adds and multiplies (R69, R72, R75, R167). Where several arise in one instruction they
are met in the order 0x0204, 0x0401, 0x0104, 0x0103, 0x0101, and CODE is the first (DESIGN CHOICE, log entry 13: R94 and R148 set no order
among them). -/
def mma (chk : Chk) (s : State) (c : Nat) (k : Core) (w : Nat) (g : MmaArgs) : Eff :=
  let start := bit w 0
  let reload := bit w 1
  let d := dst w
  let t := tileAt k d
  if k.computing ∧ k.waiting.isSome then .hold
  else if !descOk g.a ∨ !descOk g.b ∨ !g.shapeOk then .stop 0x0110
  else match g.pair, k.run with
    | none, _ => .stop 0x0110
    | _, none => .hold
    | some (tag, group, p), some desc =>
      if group < g.b.cols then .stop 0x0110
      else if desc.accTiles ≤ d then .stop 0x0109
      else if !start ∧ t.init ∧ t.tag ≠ tag then .stop 0x010A
      else if !fpOk s c g.aFoot ∨ !fpOk s c (weightFoot g) then .stop 0x0112
      else
        let l := strikeBuffers chk (nextHeld k (heldFor s c k g.b g.cb reload) (reusable k g.b g.cb reload).isSome)
        let h := l.headD (loadHeld s c g.b g.cb)
        let r := mmaSum k w g tag h chk
        let s1 := modCore (noteFoot s c (mmaReads k g reload)) c fun k' => setTile { k' with held := l } d r.1
        let s2 := queueMma (countBoth s1 c r.2.1 r.2.2.1) c (g.a.rows * g.steps p)
        let codes := fpCodes s c (mmaReads k g reload) ++ (if h.parityBad (mmaColumn k w g) then [0x0104] else []) ++ r.2.2.2
        .go (keepOperands s2 c codes g.aFoot h.lines) codes

/-- MMA (R115). -/
def execMma (core : Nat) (chk : Chk) (s : State) : Host.Outcome State Fault Refusal :=
  ok (issue s core chk (isOp 0x13) fun s k w =>
    if !decOk w .a .t .t [(0, 5)] then .stop 0x0110
    else
      let a := treg k (srcA w)
      let b := treg k (srcB w)
      mma chk s core k w
        { a := a, b := b, cb := none, pair := mmaPairing a.fmt b.fmt, shapeOk := a.cols == b.cols,
          aFoot := footprint a, aRow := tileRow s core a, aScale := scaleRow s core a, steps := id })

/-- Word offset of output position i from the map's tap (R116). -/
def pixOff (a : TileD) (w y0 i : Nat) : Int :=
  let hout := bits w 5 6
  let sx := bits w 11 2 + 1
  let sy := bits w 13 2 + 1
  let q := (y0 + i) / hout
  let y := (y0 + i) % hout
  ((q * sx * a.stride : Nat) : Int) + ((y : Int) - y0) * ((sy * wpr a : Nat) : Int)

/-- A signed word as an address: below 0 it is none of the scratchpad. -/
def wordAt (x : Int) : Nat := if x < 0 then 0xFFFFF else x.toNat

/-- Elements [first, first + n) of the pixel whose words start at `word`. -/
def pixElems (s : State) (c : Nat) (fmt word first n : Nat) : List Nat :=
  let b := fmtWidth fmt
  (List.range n).map (fun j =>
    let p := (first + j) * b
    bits (spWord s c (word + p / 256)) (p % 256) b)

/-- MMAW (R116). -/
def execMmaw (core : Nat) (chk : Chk) (s : State) : Host.Outcome State Fault Refusal :=
  ok (issue s core chk (isOp 0x14) fun s k w =>
    if !decOk w .a .t .t [(0, 20)] ∨ bits w 5 6 = 0 then .stop 0x0110
    else
      let a := treg k (srcA w)
      let b := treg k (srcB w)
      let y0 := sreg k (bits w 15 5)
      let pix := fun i => wordAt ((a.base : Int) + pixOff a w y0 i)
      mma chk s core k w
        { a := a, b := b, cb := none, pair := mmawPairing a.fmt b.fmt,
          shapeOk := a.cols == b.cols && decide (y0 < bits w 5 6),
          aFoot := (List.range a.rows).map (fun i => (pix i, wpr a)),
          aRow := fun i => pixElems s core a.fmt (pix i) 0 a.cols, aScale := fun _ => [], steps := id })

/-- MMAD (R117): activation row i gathers T taps of G channels; the steps follow the gathered words. -/
def execMmad (core : Nat) (chk : Chk) (s : State) : Host.Outcome State Fault Refusal :=
  ok (issue s core chk (isOp 0x15) fun s k w =>
    if !decOk w .a .t .t [(0, 39)] ∨ bits w 5 6 = 0 then .stop 0x0110
    else
      let a := treg k (srcA w)
      let b := treg k (srcB w)
      let y0 := sreg k (bits w 15 5)
      let c0 := bits w 34 5
      let g := bits w 29 5 + 1
      let dl := bits w 26 3 + 1
      let kw := bits w 23 3 + 1
      let kh := bits w 20 3 + 1
      let taps := kh * kw
      let bw := fmtWidth a.fmt
      let tap := fun i t => wordAt ((a.base : Int) + pixOff a w y0 i +
        ((t % kw * dl * a.stride + t / kw * dl * wpr a : Nat) : Int))
      let first := c0 * bw / 256
      let words := ((c0 + g) * bw - 1) / 256 + 1 - first
      mma chk s core k w
        { a := a, b := b, cb := none, pair := mmawPairing a.fmt b.fmt,
          shapeOk := decide (y0 < bits w 5 6) && decide (g * taps ≤ 32) && decide (c0 + g ≤ a.cols) && b.cols == g * taps,
          aFoot := (List.range a.rows).flatMap (fun i => (List.range taps).map (fun t => (tap i t + first, words))),
          aRow := fun i => (List.range (g * taps)).map (fun e =>
            (pixElems s core a.fmt (tap i (e % taps)) (c0 + e / taps) 1).headD 0),
          aScale := fun _ => [], steps := fun p => max p (cdiv (words * taps) 4) })

/-- MMAC (R118). -/
def execMmac (core : Nat) (chk : Chk) (s : State) : Host.Outcome State Fault Refusal :=
  ok (issue s core chk (isOp 0x16) fun s k w =>
    if !decOk w .a .t .t [(0, 26)] then .stop 0x0110
    else
      let a := treg k (srcA w)
      let b := treg k (srcB w)
      let cb := (sreg k (bits w 5 5) + bits w 10 16) % 65536
      mma chk s core k w
        { a := a, b := b, cb := some cb, pair := mmacPairing a.fmt b.fmt, shapeOk := a.cols == b.cols,
          aFoot := footprint a, aRow := tileRow s core a, aScale := fun _ => [], steps := id })

/-- A waiting matrix instruction starts (R68). -/
def execMmaFamilyStart (core : Nat) (s : State) : Host.Outcome State Fault Refusal :=
  match (coreAt s core).waiting with
  | none => ok s
  | some n => ok (countSteps (modCore s core (fun k => { k with waiting := none, computing := true })) core n)

/-- The outlier sum q of R70 over at most 8 products. -/
def outlierSum (as bs : List Nat) : Nat × Nat :=
  let p := products 8 as 8 bs
  let t := treeSum 3 (padTo 8 p.1)
  (t.1, p.2 + t.2)

/-- One element of OACC (R70). -/
def outlierElem (tag f : Nat) (as bs : List Nat) (acc : Nat) : Res :=
  let q := outlierSum as bs
  if tag = 2 then
    let r := fadd 10 acc q.1
    ⟨r.v, 0, q.2 + r.nan⟩
  else
    let t := fmul 10 q.1 f
    let i := fToInt 10 5 t.v false
    let r := toIntFmt 5 (intVal 5 acc + intVal 5 i.v)
    ⟨r.v, i.sat + r.sat, q.2 + t.nan + i.nan⟩

/-- An element of OACC, `faulty` where some checked operation of it is off by what `err` says: a product, a tree addition, the scaling, or
the addition to the accumulator, of an integer before its clamp (R70, R75). -/
def checkedOutlier (tag f : Nat) (as bs : List Nat) (old : Nat) (faulty : Bool) (err : Nat → Int) : Res × Bool :=
  if !faulty then (outlierElem tag f as bs old, false)
  else
    let p := productsChecked 8 8 err 0 as bs
    let q := treeChecked err 3 32 (padTo 8 p.1)
    let bad := p.2.2 || q.2.2
    if tag = 2 then
      let r := addChecked old q.1 (err 63)
      (⟨r.1.v, 0, p.2.1 + q.2.1 + r.1.nan⟩, bad || r.2)
    else
      let t := prodChecked 10 q.1 10 f (err 62)
      let i := fToInt 10 5 t.1.v false
      let sum := intVal 5 old + intVal 5 i.v + err 63
      let r := toIntFmt 5 sum
      (⟨r.v, i.sat + r.sat, p.2.1 + q.2.1 + t.1.nan + i.nan⟩,
        bad || t.2 || res15 sum != (elemResidue 1 old + elemResidue 1 i.v) % 15)

/-- OACC (R119). The outlier path holds one (R112): a further one is held, by which time the first has completed (DESIGN
CHOICE, log entry 63). Alarms of one instruction are met in the order of `mma` (DESIGN CHOICE, log entry 13). -/
def execOacc (core : Nat) (chk : Chk) (s : State) : Host.Outcome State Fault Refusal :=
  ok (issue s core chk (isOp 0x17) fun s k w =>
    let a := treg k (srcA w)
    let b := treg k (srcB w)
    let d := dst w
    let t := tileAt k d
    let start := bit w 0
    let tag := if start ∨ !t.init then 2 else t.tag
    let mask := mreg k (bits w 2 3)
    let f := sreg k (bits w 5 5)
    let read := footprint a ++ footprint b
    if k.outlier then .defer (modCore s core fun k' => { k' with outlier := false })
    else match k.run with
    | none => .hold
    | some desc =>
      if !decOk w .a .t .t [(0, 1), (2, 8)] then .stop 0x0110
      else if !descOk a ∨ !descOk b ∨ a.fmt ≠ 8 ∨ b.fmt ≠ 8 ∨ 8 < a.cols ∨ a.cols ≠ b.cols then .stop 0x0110
      else if desc.accTiles ≤ d then .stop 0x0109
      else if !fpOk s core read then .stop 0x0112
      else
        let r := accumulate t start tag
          (fun i n => decide (i < a.rows) && decide (n < b.rows) && lane mask n)
          (fun i n old => checkedOutlier tag f (tileRow s core a i) (tileRow s core b n) old
            ((errLanes chk).contains (32 * i + n)) (errOf chk (32 * i + n)))
        let codes := fpCodes s core read ++ r.2.2.2
        let s1 := countBoth (modCore (noteFoot s core read) core (fun k' => setTile { k' with outlier := true } d r.1)) core
          r.2.1 r.2.2.1
        .go (keepOperands s1 core codes read []) codes)

/-- The register of VACC (R72, R131): rows 2r and 2r + 1 of a tile. -/
def tileRows (t : Tile) (r : Nat) : Nat :=
  if t.init then (List.range 64).foldl (fun a j => a + tget 0 t.elems (64 * r + j) * 2 ^ (32 * j)) 0 else 0

/-- The alarm of a read of those rows (R72). -/
def storeCodes (t : Tile) (r : Nat) : List Nat :=
  if t.init && (List.range 64).any (fun j => storeBad t (64 * r + j)) then [0x0103] else []

end Sys2Proof.Machine
end

