-- ==== Sys2Proof/Machine/MemRing.lean ====
section
/-! DEFINITION. Machine/MemRing.lean: memory, ring and counter instructions of the core, its outstanding writes and its
ring slots (R134-R143, R158-R164). -/

namespace Sys2Proof.Machine

open Sys2Proof

/-! ### Loads and stores (R134, R136) -/

/-- Local word address of a memory instruction (R134). -/
def localWord (k : Core) (w : Nat) : Nat := wrap 16 ((sreg k (srcA w) : Int) + sext 16 w)

/-- WORDS of a memory instruction. -/
def wordsOf (w : Nat) : Nat := bits w 16 3 + 1

/-- n words of a scratchpad as one number. -/
def spWords (s : State) (c w n : Nat) : Nat := memLE s.mem (spAddr c w) (32 * n)

/-- The core stores n words of a number from word w on. -/
def spStores (s : State) (c w v : Nat) : Nat → State
  | 0 => s
  | n + 1 => spStore (spStores s c w v n) c (w + n) (bits v (256 * n) 256)

/-- OUT: the source register's flags enter the share's record (R121). -/
def markOut (s : State) (c : Nat) (out : Bool) (r : VReg) : State :=
  if out then modCore s c (fun k => { k with outSat := k.outSat || r.sat, outNan := k.outNan || r.nan }) else s

/-- VLD (R136). -/
def execVld (core : Nat) (k : Chk) (s : State) : Host.Outcome State Fault Refusal :=
  ok (issue s core k (isOp 0x30) fun s k w =>
    let a := localWord k w
    let n := wordsOf w
    if !decOk w .v .s .none [(0, 19)] then .stop 0x0110
    else if !spSpan s core a n then .stop 0x0112
    else .go (modCore (noteRows s core a n) core fun k' => setV k' (dst w) ⟨spWords s core a n, false, false⟩) (readCodes s core a n))

/-- VST (R136). -/
def execVst (core : Nat) (k : Chk) (s : State) : Host.Outcome State Fault Refusal :=
  ok (issue s core k (isOp 0x31) fun s k w =>
    let a := localWord k w
    let n := wordsOf w
    if !decOk w .none .s .v [(0, 20)] then .stop 0x0110
    else if !spSpan s core a n then .stop 0x0112
    else
      let r := vreg k (srcB w)
      .go (markOut (spStores s core a r.data n) core (bit w 19) r) [])

/-- SLS, DIR 0 (R136). -/
def execSlsLoad (core : Nat) (k : Chk) (s : State) : Host.Outcome State Fault Refusal :=
  ok (issue s core k (fun w => isOp 0x32 w && !bit w 19) fun s k w =>
    let a := localWord k w
    if !decOk w .s .s .none [(0, 20)] then .stop 0x0110
    else if !spOk s core a then .stop 0x0112
    else .go (modCore (noteRows s core a 1) core fun k' => setS k' (dst w) (bits (spWord s core a) (32 * bits w 16 3) 32))
      (readCodes s core a 1))

/-- SLS, DIR 1 (R136): one lane of the word is stored. -/
def execSlsStore (core : Nat) (k : Chk) (s : State) : Host.Outcome State Fault Refusal :=
  ok (issue s core k (fun w => isOp 0x32 w && bit w 19) fun s k w =>
    let a := localWord k w
    let lane := bits w 16 3
    if !decOk w .none .s .s [(0, 20)] then .stop 0x0110
    else if !spOk s core a then .stop 0x0112
    else .go (spStore s core a (setBits (spWord s core a) (32 * lane) 32 (sreg k (srcB w)))) [])

/-! ### XFER (R134, R137) -/

/-- Device address of an XFER. -/
def xferAddr (k : Core) (w : Nat) : Nat := wrap 40 ((sreg k (srcA w) * 256 : Nat) + sext 16 w * 32)

/-- A remote access error (R134): host window, or a misaligned DRAM span. -/
def remoteBad (s : State) (a n : Nat) : Bool := inHostWin a || (inDram s a && (a % 64 != 0 || n % 2 != 0))

/-- What an unacknowledged write goes to: a core's number, or 1000 for DRAM. -/
def destOf (s : State) (a : Nat) : Nat :=
  match spOf s a with
  | some (c, _) => c
  | none => 1000

/-- Engine of a channel: its cluster, or 16 for the host engine (R238). -/
def engOf (c : Nat) : Nat := if c < 64 then c / 4 else 16

/-- Main and light tags of an engine (R238). -/
def tagsMax (eng : Nat) (light : Bool) : Nat := if light then 16 else if eng = 16 then 128 else 64

/-- Light-path tags that XFER writes of a cluster's cores hold (R252). -/
def xferTags (s : State) (eng : Nat) : Nat :=
  if 16 ≤ eng then 0
  else (upto 8).foldl (fun n i => n + ((coreAt s (8 * eng + i)).outw.filter (fun o => match o.kind with
    | .xfer _ _ _ _ => true
    | _ => false)).length) 0

/-- Tags in use on a path of an engine (R238, R252). -/
def tagsBusy (s : State) (eng : Nat) (light : Bool) : Nat :=
  s.dmas.foldl (fun n p => if engOf p.1 = eng then n + (p.2.pieces.filter (fun q => q.light == light)).length else n)
    (if light then xferTags s eng else 0)

/-- A path of an engine has a free tag. -/
def tagFree (s : State) (eng : Nat) (light : Bool) : Bool := decide (tagsBusy s eng light < tagsMax eng light)

/-- Issues a write that its destination has still to acknowledge. -/
def sendWrite (s : State) (c dst : Nat) (kind : OutKind) : State :=
  let pc := pcOf s c
  modCore s c (fun k => { k with outw := k.outw ++ [⟨dst, kind, pc, k.seq⟩] })

/-- The handle of a counted write is bound to a counter of another core than the destination's (R137, check 4). -/
def wrongCounter (s : State) (a : Nat) : Option Handle → Bool
  | none => true
  | some h => match spOf s a with
    | some (c, _) => h.core != c
    | none => false

/-- The core's own words of a scratchpad write spoil its held tile (R68). -/
def spoilSpan (s : State) (c a n : Nat) : State :=
  match spOf s a with
  | some (o, w) => if o = c then (List.range n).foldl (fun s i => spoil s c (w + i)) s else s
  | none => s

/-- XFER, DIR 0 (R137): it waits for a light-path tag of its cluster's engine (R252). -/
def execXferWrite (core : Nat) (k : Chk) (s : State) : Host.Outcome State Fault Refusal :=
  ok (issue s core k (fun w => isOp 0x37 w && !bit w 19) fun s k w =>
    let a := xferAddr k w
    let n := wordsOf w
    let cen := bit w 21
    let h := creg k (bits w 22 5)
    if !decOk w .none .s .v [(0, 27)] then .stop 0x0110
    else if cen ∧ wrongCounter s a h then .stop 0x0115
    else if !devOk s a (32 * n) then .stop 0x0112
    else if remoteBad s a n ∨ (cen ∧ inDram s a) then .stop 0x0113
    else if !tagFree s (core / 8) true then .hold
    else
      let r := vreg k (srcB w)
      let count := if cen then h.map (fun h => (h.core, h.index)) else none
      .go (markOut (spoilSpan (sendWrite s core (destOf s a) (.xfer a n (r.data % 2 ^ (256 * n)) count)) core a n) core (bit w 20) r) [])

/-- XFER, DIR 1 (R137). -/
def execXferRead (core : Nat) (k : Chk) (s : State) : Host.Outcome State Fault Refusal :=
  ok (issue s core k (fun w => isOp 0x37 w && bit w 19) fun s k w =>
    let a := xferAddr k w
    let n := wordsOf w
    if !decOk w .v .s .none [(0, 20)] then .stop 0x0110
    else if !devOk s a (32 * n) then .stop 0x0112
    else if remoteBad s a n then .stop 0x0113
    else .go (modCore s core fun k' => { k' with reads := k'.reads ++ [⟨dst w, a, n, pcOf s core, k.seq, s.tick⟩] }) [])

/-- Drops element i of a list. -/
def dropAt {α : Type} (l : List α) (i : Nat) : List α := l.take i ++ l.drop (i + 1)

/-! ### Counters (R143, R163) -/

/-- A counter's value. -/
def cntVal (s : State) (c n : Nat) : Nat := rd s (R.SPAD_CNT.VALUE.nth n) c

/-- Sets a counter; a write makes it usable again (R163, R167). -/
def setCnt (s : State) (c n v : Nat) : State :=
  modCore (wr s (R.SPAD_CNT.VALUE.nth n) c v) c (fun k => { k with badCnt := tset false k.badCnt n false })

/-- Adds to a counter, modulo 2^24; an unusable counter stays as it is and answers with 0x020A (R163, R167). -/
def addCnt (s : State) (c n v : Nat) : State :=
  if tget false (coreAt s c).badCnt n then coreReport s c 0x020A else wr s (R.SPAD_CNT.VALUE.nth n) c (cntVal s c n + v)

/-- An XFER of the core to its own scratchpad that counts its arrival in counter n is still outstanding (R164). -/
def countsSelf (k : Core) (c n : Nat) : Bool := k.outw.any (fun o => match o.kind with
  | .xfer _ _ _ (some (d, i)) => d == c && i == n
  | _ => false)

/-- A counter has reached a target (R143). -/
def reached (c t : Nat) : Bool := decide ((c + 2 ^ 24 - t % 2 ^ 24) % 2 ^ 24 < 2 ^ 23)

/-! ### Rings (R158-R162) -/

/-- Slot size in words. -/
def slotWords (s : State) (c r : Nat) : Nat := rd s (R.SPAD_RING_CFG0.SLOT_WM1.nth r) c + 1
/-- First word of slot 0. -/
def ringBase (s : State) (c r : Nat) : Nat := rd s (R.SPAD_RING_CFG0.BASE.nth r) c
/-- The ring is configured. -/
def ringEn (s : State) (c r : Nat) : Bool := isSet s (R.SPAD_RING_CFG0.EN.nth r) c
/-- Slots. -/
def ringCount (s : State) (c r : Nat) : Nat := rd s (R.SPAD_RING_CFG1.COUNT.nth r) c
/-- Mirrored slots. -/
def ringMirror (s : State) (c r : Nat) : Nat := rd s (R.SPAD_RING_CFG1.MIRROR.nth r) c
/-- Head slot. -/
def ringHead (s : State) (c r : Nat) : Nat := rd s (R.SPAD_RING_STATE.HEAD.nth r) c
/-- Filled slots. -/
def ringFill (s : State) (c r : Nat) : Nat := rd s (R.SPAD_RING_STATE.FILL.nth r) c

/-- The one producer of a ring (R158, R159). -/
def ringProducer (s : State) (c r : Nat) : Producer :=
  let n := rd s (R.SPAD_RING_CFG1.PRODUCER.nth r) c
  if isSet s (R.SPAD_RING_CFG1.PKIND.nth r) c then .dma n else .core n

/-- A reservation is granted only while FILL plus the reservations outstanding is less than COUNT (R160). -/
def ringRoom (s : State) (c r : Nat) : Bool :=
  decide (ringFill s c r + (ringX s c r).out.length < ringCount s c r)

/-- Reserves the tail slot. -/
def reserve (s : State) (c r : Nat) : State :=
  let x := ringX s c r
  let slot := (ringHead s c r + ringFill s c r + x.out.length) % max 1 (ringCount s c r)
  wr (setRingX s c r { x with out := x.out ++ [⟨slot, none, false, false⟩], want := false }) (R.SPAD_RING_STATE.WAIT_WR.nth r) c 0

/-- A producer's reservation waits for room. -/
def wantSlot (s : State) (c r : Nat) : State :=
  wr (setRingX s c r { ringX s c r with want := true }) (R.SPAD_RING_STATE.WAIT_WR.nth r) c 1

/-- The first words of a slot and of its mirror copy (R158, R160). -/
def slotPlaces (s : State) (c r slot : Nat) : List Nat :=
  let at0 := fun i => ringBase s c r + i * slotWords s c r
  if slot < ringMirror s c r then [at0 slot, at0 (ringCount s c r + slot)] else [at0 slot]

/-- Writes a slot's words, and again at its mirror (R160 step 3). -/
def writeSlot (s : State) (c r slot data : Nat) (poison : Bool) : State :=
  (slotPlaces s c r slot).foldl (fun s w => devWrite s (spAddr c w) (leBytes (32 * slotWords s c r) data) poison) s

/-- Landed slots at the front of the reservations complete in order; FILL rises by each (R160 steps 4 and 5). -/
def settleSlots (s : State) (c r : Nat) : State :=
  let x := ringX s c r
  let n := (x.out.takeWhile (·.landed)).length
  wr (setRingX s c r { x with out := x.out.drop n }) (R.SPAD_RING_STATE.FILL.nth r) c (ringFill s c r + n)

/-- The first reservation with no data yet takes a slot's data; `landed` if its words are in place. -/
def giveData (data : Nat) (poison landed : Bool) : List Resv → List Resv
  | [] => []
  | v :: t => if v.data.isNone then { v with data := some data, landed := landed, poison := poison } :: t
    else v :: giveData data poison landed t

/-- The slot the next data goes to: the first reservation with none. -/
def nextSlot (l : List Resv) : Option Nat := (l.find? (fun v => v.data.isNone)).map (·.slot)

/-- A slot is produced into a granted reservation: a local producer's words land at once (R160), others' when
RING_SLOT_LANDED comes. -/
def produce (s : State) (c r data : Nat) (here : Bool) : State :=
  let x := ringX s c r
  match nextSlot x.out with
  | none => s
  | some slot =>
    let s1 := setRingX s c r { x with out := giveData data false here x.out }
    if here then settleSlots (writeSlot s1 c r slot data false) c r else s1

/-- The core has a granted reservation it has not used. -/
def granted (s : State) (c r : Nat) : Bool := (nextSlot (ringX s c r).out).isSome

/-- RPUT (R139). The ring's error state is looked at after the checks of R149. -/
def execRput (core : Nat) (k : Chk) (s : State) : Host.Outcome State Fault Refusal :=
  ok (issue s core k (isOp 0x34) fun s k w =>
    if !decOk w .h .none .v [(0, 1)] then .stop 0x0110
    else match hreg k (dst w) with
      | none => .stop 0x0115
      | some h =>
        if !h.producer then .stop 0x0115
        else if (ringX s h.core h.index).bad then .stop 0x020A
        else if granted s h.core h.index ∨ ringRoom s h.core h.index then putSlot s core w h
        else .wait (wantSlot s h.core h.index) .ringWrite)
where
  /-- The reservation is granted and the slot sent; a slot of the core's own ring, and its mirror copy, spoil a tile held from
  their words (R68, R160). -/
  putSlot (s : State) (c w : Nat) (h : Handle) : Eff :=
    let r := vreg (coreAt s c) (srcB w)
    let z := slotWords s h.core h.index
    let s1 := if granted s h.core h.index then s else reserve s h.core h.index
    let here := h.core == c
    let slot := (nextSlot (ringX s1 h.core h.index).out).getD 0
    let s2 := produce s1 h.core h.index (r.data % 2 ^ (256 * z)) here
    let s3 := if here then (slotPlaces s c h.index slot).foldl (fun s a => spoilWords s c a z) s2
      else sendWrite s2 c h.core (.slot h.index)
    .go (markOut s3 c (bit w 0) r) []

/-- Removes a remote producer's oldest unacknowledged slot write to a ring: the landing acknowledges it. -/
def ackSlot (s : State) (p c r : Nat) : State :=
  modCore s p (fun k =>
    match k.outw.findIdx? (fun o => o.dst == c && o.kind == .slot r) with
    | none => k
    | some i => { k with outw := dropAt k.outw i })

/-- The program counter and place of a remote producer's oldest unacknowledged slot write to a ring; those it has now where it has
none. -/
def slotOf (s : State) (p c r : Nat) : Nat × Nat :=
  ((coreAt s p).outw.find? (fun o => o.dst == c && o.kind == .slot r)).elim (pcOf s p, (coreAt s p).seq) (fun o => (o.pc, o.seq))

/-- A use of a ring whose state no correction could save is answered with 0x020A: the producing share is alarmed; a DMA channel asks
again when the ring has been rewritten (R167; DESIGN CHOICE, log entry 17: the channel waits). -/
def ringSpoilt (s : State) (c r : Nat) (at_ : Nat × Nat) : State :=
  match ringProducer s c r with
  | .core p => if (coreAt s p).run.isSome then shareEvent s p 0x020A at_.1 at_.2 else coreReport s c 0x020A
  | .dma _ => coreReport s c 0x020A

/-- The owning core grants a waiting producer's reservation (R160 step 2). -/
def execRingReservationGrant (core ring : Nat) (s : State) : Host.Outcome State Fault Refusal :=
  let x := ringX s core ring
  if !x.want then ok s
  else if x.bad then
    match ringProducer s core ring with
    | .core p => ok (ringSpoilt s core ring (pcOf s p, (coreAt s p).seq))
    | .dma _ => ok (wr (setRingX (ringSpoilt s core ring (0, 0)) core ring { x with want := false }) (R.SPAD_RING_STATE.WAIT_WR.nth ring) core 0)
  else if ringRoom s core ring then ok (reserve s core ring)
  else ok s

/-- All words of the i-th reserved slot, mirror included, have landed (R160), with the poison they arrived with (R26, R152). A ring with
an uncorrectable error takes no slot: the write is answered with 0x020A (R167). -/
def execRingSlotLanded (core ring index : Nat) (poisoned : Bool) (s : State) : Host.Outcome State Fault Refusal :=
  let x := ringX s core ring
  match x.out[index]? with
  | none => ok s
  | some v =>
    match v.data with
    | none => ok s
    | some data =>
      if v.landed then ok s
      else
        let s1 := writeSlot s core ring v.slot data (v.poison || poisoned)
        let s2 := if x.bad then setRingX s1 core ring { x with out := dropAt x.out index }
          else settleSlots (setRingX s1 core ring { x with out := setAt x.out index { v with landed := true } }) core ring
        match ringProducer s core ring with
        | .core p =>
          let s3 := ackSlot s2 p core ring
          ok (if x.bad then ringSpoilt s3 core ring (slotOf s p core ring) else s3)
        | .dma _ => ok (if x.bad then ringSpoilt s2 core ring (0, 0) else s2)

/-- Advances a ring's head by n slots. -/
def advanceHead (s : State) (c r n : Nat) : State :=
  wr (wr s (R.SPAD_RING_STATE.HEAD.nth r) c ((ringHead s c r + n) % max 1 (ringCount s c r)))
    (R.SPAD_RING_STATE.FILL.nth r) c (ringFill s c r - n)

/-- A consumer waits on a ring. -/
def waitRing (s : State) (c r : Nat) : Eff := .wait (wr s (R.SPAD_RING_STATE.WAIT_RD.nth r) c 1) .ringRead

/-- A consumer handle's ring; none faults with 0x0115 (R139). -/
def consumerRing : Option Handle → Option Nat
  | none => none
  | some h => if h.producer then none else some h.index

/-- An XFER read of the core that is still outstanding reads words of slots HEAD to HEAD + n − 1 of its ring, directly or in
their mirror copies (R161). -/
def readsSlots (s : State) (c r n : Nat) : Bool :=
  let z := slotWords s c r
  let words := (List.range n).flatMap (fun i => slotPlaces s c r ((ringHead s c r + i) % max 1 (ringCount s c r)))
  (coreAt s c).reads.any (fun x => words.any (fun w => decide (x.addr < spAddr c (w + z)) && decide (spAddr c w < x.addr + 32 * x.words)))

/-- RGET (R139, R161). -/
def execRget (core : Nat) (k : Chk) (s : State) : Host.Outcome State Fault Refusal :=
  ok (issue s core k (isOp 0x35) fun s k w =>
    if !decOk w .v .h .none [] then .stop 0x0110
    else match consumerRing (hreg k (srcA w)) with
      | none => .stop 0x0115
      | some r =>
        if (ringX s core r).bad then .stop 0x020A
        else if ringFill s core r < 1 then waitRing s core r
        else
          let z := slotWords s core r
          let a := ringBase s core r + ringHead s core r * z
          .go (advanceHead (modCore (noteRows s core a z) core fun k' => setV k' (dst w) ⟨spWords s core a z, false, false⟩) core r 1)
            (readCodes s core a z))

/-- RWIN acquire (R139, R161). -/
def execRwinAcquire (core : Nat) (k : Chk) (s : State) : Host.Outcome State Fault Refusal :=
  ok (issue s core k (fun w => isOp 0x36 w && !bit w 8) fun s k w =>
    let n := bits w 0 8
    if !decOk w .s .h .none [(0, 9)] ∨ n = 0 then .stop 0x0110
    else match consumerRing (hreg k (srcA w)) with
      | none => .stop 0x0115
      | some r =>
        if ringCount s core r < n ∨ ringMirror s core r + 1 < n then .stop 0x0115
        else if (ringX s core r).bad then .stop 0x020A
        else if ringFill s core r < n then waitRing s core r
        else .go (modCore s core fun k' => setS k' (dst w) (ringBase s core r + ringHead s core r * slotWords s core r)) [])

/-- RWIN release (R139, R161). -/
def execRwinRelease (core : Nat) (k : Chk) (s : State) : Host.Outcome State Fault Refusal :=
  ok (issue s core k (fun w => isOp 0x36 w && bit w 8) fun s k w =>
    let n := bits w 0 8
    if !decOk w .none .h .none [(0, 9)] ∨ n = 0 then .stop 0x0110
    else match consumerRing (hreg k (srcA w)) with
      | none => .stop 0x0115
      | some r =>
        if ringFill s core r < n then .stop 0x0115
        else if (ringX s core r).bad then .stop 0x020A
        else if readsSlots s core r n then .hold
        else .go (advanceHead s core r n) [])

/-- A handle to ring r of core c is bound in a running share: consumer handles of the owner, producer handles of any
core (R171). -/
def ringBound (s : State) (c r : Nat) (producer : Bool) : Bool :=
  s.cores.any (fun e => e.2.run.isSome &&
    e.2.h.any (fun p => match p.2 with
      | none => false
      | some h => h.core == c && h.index == r && h.producer == producer))

/-- BIND of a ring handle (R138, R159). -/
def execBindRing (core : Nat) (k : Chk) (s : State) : Host.Outcome State Fault Refusal :=
  ok (issue s core k (fun w => isOp 0x33 w && !bit w 5) fun s k w =>
    let r := bits w 0 5
    let producer := bit w 7
    let c := if bit w 6 then core else sreg k (srcA w)
    if !decOk w .h .s .none [(0, 8)] ∨ 16 ≤ r then .stop 0x0110
    else if !present s c ∨ !ringEn s c r ∨ (!producer ∧ c ≠ core) ∨ (producer ∧ ringProducer s c r ≠ .core core) then .stop 0x0115
    else .go (modCore s core fun k' => { k' with h := tset none k'.h (dst w) (some ⟨c, r, producer⟩) }) [])

/-- BIND of a counter handle (R138). -/
def execBindCounter (core : Nat) (k : Chk) (s : State) : Host.Outcome State Fault Refusal :=
  ok (issue s core k (fun w => isOp 0x33 w && bit w 5) fun s k w =>
    let c := if bit w 6 then core else sreg k (srcA w)
    if !decOk w .c .s .none [(0, 7)] then .stop 0x0110
    else if !present s c then .stop 0x0115
    else .go (modCore s core fun k' => { k' with c := tset none k'.c (dst w) (some ⟨c, bits w 0 5, false⟩) }) [])

/-! ### Acknowledgements (R137, R166) -/

/-- The counter a remote write adds to, and by how much. -/
def OutWrite.adds (o : OutWrite) : Option (Nat × Nat × Nat) :=
  match o.kind with
  | .xfer _ _ _ (some (c, i)) => some (c, i, 1)
  | .cset n v => some (o.dst, n, v)
  | _ => none

/-- The effect of a remote write of core `c` that lands. One that adds to an unusable counter alarms the share that made it
(R167). -/
def land (s : State) (c : Nat) (o : OutWrite) (poison : Bool) : State :=
  let s1 := match o.kind with
    | .xfer a n data _ => devWrite s a (leBytes (32 * n) data) poison
    | _ => s
  match o.adds with
  | none => s1
  | some (d, i, v) =>
    if tget false (coreAt s1 d).badCnt i then shareEvent s1 c 0x020A o.pc o.seq
    else wr s1 (R.SPAD_CNT.VALUE.nth i) d (cntVal s1 d i + v)

/-- A write of the list may land now: no earlier write of this core to the same destination is outstanding (R25, R143). -/
def mayLand (l : List OutWrite) (i : Nat) (o : OutWrite) : Bool := (l.take i).all (fun p => p.dst != o.dst)

/-- The i-th outstanding write of a core lands and is acknowledged, or answers an error status, which alarms the share
with 0x0114 (R137); a slot write is acknowledged by RING_SLOT_LANDED. -/
def execRemoteWriteAck (core index : Nat) (error poisoned : Bool) (s : State) : Host.Outcome State Fault Refusal :=
  let k := coreAt s core
  match k.outw[index]? with
  | none => ok s
  | some o =>
    if !mayLand k.outw index o then ok s
    else
      let s1 := setCore s core { k with outw := dropAt k.outw index }
      match o.kind with
      | .slot _ => ok s
      | .cset _ _ => ok (if error then shareEvent s1 core 0x0114 o.pc o.seq else land s1 core o poisoned)
      | .xfer a n _ _ =>
        ok (if error ∨ !devOk s a (32 * n) then shareEvent s1 core 0x0114 o.pc o.seq else land s1 core o poisoned)

/-! ### CWAIT, CSET, FENCE (R143, R146) -/

/-- CWAIT (R143): only on the core's own counter. -/
def execCwait (core : Nat) (k : Chk) (s : State) : Host.Outcome State Fault Refusal :=
  ok (issue s core k (isOp 0x38) fun s k w =>
    if !decOk w .none .c .s [(0, 24)] then .stop 0x0110
    else match creg k (srcA w) with
      | none => .stop 0x0115
      | some h =>
        if h.core ≠ core then .stop 0x0115
        else if tget false k.badCnt h.index then .stop 0x020A
        else if reached (cntVal s core h.index) ((sreg k (srcB w) + bits w 0 24) % 2 ^ 24) then .go s []
        else .wait s .counter)

/-- CSET ADD (R143): another core's counter is reached after every write issued to that core. -/
def execCsetAdd (core : Nat) (k : Chk) (s : State) : Host.Outcome State Fault Refusal :=
  ok (issue s core k (fun w => isOp 0x39 w && !bit w 24) fun s k w =>
    let v := (sreg k (srcA w) + bits w 0 24) % 2 ^ 24
    if !decOk w .c .s .none [(0, 25)] then .stop 0x0110
    else match creg k (dst w) with
      | none => .stop 0x0115
      | some h =>
        if h.core = core then
          (if tget false k.badCnt h.index then .stop 0x020A
           else if countsSelf k core h.index then .hold else .go (addCnt s core h.index v) [])
        else .go (sendWrite s core h.core (.cset h.index v)) [])

/-- FENCE (R146). -/
def execFence (core : Nat) (k : Chk) (s : State) : Host.Outcome State Fault Refusal :=
  ok (issue s core k (isOp 0x3B) fun s k w =>
    if !decOk w .none .none .none [] then .stop 0x0110
    else if k.outw.isEmpty then .go s [] else .wait s .fence)

/-! ### The ends of waits -/

/-- The wait of a core ends and the waiting instruction completes with an effect, or its share ends with an alarm, which abandons
the wait (R150). -/
def endWait (s : State) (c : Nat) (e : State → Core → Nat → Eff) : State :=
  let pc := pcOf s c
  let s1 := wr (modCore s c (fun k => { k with wait := none })) R.CORE_STATE.WAITING c 0
  match e s1 (coreAt s1 c) (bankWord s c (activeBank s c) pc) with
  | .wait _ _ | .hold | .defer _ => s
  | .stop code => shareEvent s c code pc (coreAt s c).seq
  | .go s2 codes => alarmed (completed s2 c pc) c pc (coreAt s2 c).seq codes
  | .jump s2 t => transferred s2 c pc t

/-- The last outstanding write is acknowledged and a waiting FENCE ends (R146). -/
def execFenceComplete (core : Nat) (s : State) : Host.Outcome State Fault Refusal :=
  match (coreAt s core).wait with
  | some ⟨.fence, _⟩ => if (coreAt s core).outw.isEmpty then ok (endWait s core fun s _ _ => .go s []) else ok s
  | _ => ok s

/-- A counter update makes a pending CWAIT's target reached (R143, R163). -/
def execCounterWaitSatisfied (core : Nat) (s : State) : Host.Outcome State Fault Refusal :=
  match (coreAt s core).wait with
  | some ⟨.counter, _⟩ =>
    ok (endWait s core fun s k w =>
      match creg k (srcA w) with
      | none => .hold
      | some h =>
        if tget false k.badCnt h.index then .stop 0x020A
        else if reached (cntVal s core h.index) ((sreg k (srcB w) + bits w 0 24) % 2 ^ 24) then .go s [] else .hold)
  | _ => ok s

/-- A stalled RGET, RPUT or RWIN acquire resumes when its ring condition is true (R160, R161). -/
def execRingWaitSatisfied (core : Nat) (s : State) : Host.Outcome State Fault Refusal :=
  match (coreAt s core).wait with
  | some ⟨.ringWrite, _⟩ =>
    ok (endWait s core fun s k w =>
      match hreg k (dst w) with
      | none => .hold
      | some h =>
        if (ringX s h.core h.index).bad then .stop 0x020A
        else if granted s h.core h.index ∨ ringRoom s h.core h.index then execRput.putSlot s core w h else .hold)
  | some ⟨.ringRead, _⟩ =>
    ok (endWait s core fun s k w =>
      match hreg k (srcA w) with
      | none => .hold
      | some h =>
        let r := h.index
        let s1 := wr s (R.SPAD_RING_STATE.WAIT_RD.nth r) core 0
        let z := slotWords s core r
        let a := ringBase s core r + ringHead s core r * z
        if (ringX s core r).bad then .stop 0x020A
        else if opc w = 0x35 then
          if ringFill s core r < 1 then .hold
          else .go (advanceHead (modCore (noteRows s1 core a z) core fun k' => setV k' (dst w) ⟨spWords s core a z, false, false⟩) core r 1)
            (readCodes s core a z)
        else if ringFill s core r < bits w 0 8 then .hold
        else .go (modCore s1 core fun k' => setS k' (dst w) a) [])
  | _ => ok s

/-- The stall limit of a share in ticks (R165). -/
def stallLimit (s : State) (c : Nat) (d : Desc) : Nat := max 1 (rd s R.SPAD_CFG.WDOG_16THS c) * shareTicks s d / 16

/-- A ring or counter wait outlasts its limit (R165, R479): it is abandoned and the share alarmed. -/
def execStallWatchdogExpiry (core : Nat) (s : State) : Host.Outcome State Fault Refusal :=
  let k := coreAt s core
  match k.wait, k.run with
  | some ⟨what, since⟩, some d =>
    let code := match what with
      | .ringRead => 0x0201
      | .ringWrite => 0x0202
      | .counter => 0x0203
      | _ => 0
    if code = 0 ∨ s.tick < since + stallLimit s core d then ok s
    else ok (shareEvent s core code (pcOf s core) k.seq)
  | _, _ => ok s

end Sys2Proof.Machine
end

