-- ==== Sys2Proof/Machine/Scalar.lean ====
section
/-! DEFINITION. Machine/Scalar.lean: the scalar and control-flow instructions (R95-R105). -/

namespace Sys2Proof.Machine

open Sys2Proof

/-- An opcode no instruction has (R92, R122, R147). -/
def unassigned (w : Nat) : Bool :=
  let o := opc w
  (decide (0x0A ≤ o) && decide (o ≤ 0x0F)) || (decide (0x18 ≤ o) && decide (o ≤ 0x1F)) ||
  (decide (0x2D ≤ o) && decide (o ≤ 0x2F)) || decide (0x3E ≤ o)

/-- NOP (R96). The row also stands for a word with an unassigned opcode and for a sequential fetch beyond word 4,095,
which raise the illegal-instruction fault (R77, R92). -/
def execNop (core : Nat) (k : Chk) (s : State) : Host.Outcome State Fault Refusal :=
  if mayIssue s core ∧ 4095 < pcOf s core then
    ok (shareEvent s core 0x0110 (pcOf s core) (coreAt s core).seq)
  else
    ok (issue s core k (fun w => isOp 0 w || unassigned w) fun s _ w => if w = 0 then .go s [] else .stop 0x0110)

/-- LI (R97). -/
def execLi (core : Nat) (k : Chk) (s : State) : Host.Outcome State Fault Refusal :=
  ok (issue s core k (isOp 1) fun s _ w =>
    if !decOk w .s .none .none [(0, 32)] then .stop 0x0110
    else .go (modCore s core fun k => setS k (dst w) (bits w 0 32)) [])

/-- The functions of R98 on 32-bit numbers; `y` is cut to 5 bits in a shift. -/
def aluFn (fn x y : Nat) : Nat :=
  let sx := sext 32 x
  let sy := sext 32 y
  let sh := y % 32
  match fn with
  | 0 => (x + y) % word32
  | 1 => wrap 32 ((x : Int) - y)
  | 2 => x * y % word32
  | 3 => wrap 32 (sx * sy / (word32 : Int))
  | 4 => Nat.land x y
  | 5 => Nat.lor x y
  | 6 => Nat.xor x y
  | 7 => x * 2 ^ sh % word32
  | 8 => x / 2 ^ sh
  | 9 => wrap 32 (sx / ((2 ^ sh : Nat) : Int))
  | 10 => if sx < sy then x else y
  | 11 => if sx < sy then y else x
  | 12 => min x y
  | 13 => max x y
  | 14 => b2n (decide (sx < sy))
  | _ => b2n (decide (x < y))

/-- ALU (R98). -/
def execAlu (core : Nat) (k : Chk) (s : State) : Host.Outcome State Fault Refusal :=
  ok (issue s core k (isOp 2) fun s k w =>
    if !decOk w .s .s .s [(0, 4)] then .stop 0x0110
    else .go (modCore s core fun k' => setS k' (dst w) (aluFn (bits w 0 4) (sreg k (srcA w)) (sreg k (srcB w)))) [])

/-- ALUI (R98): a shift amount above 31 is a reserved bit. -/
def execAlui (core : Nat) (k : Chk) (s : State) : Host.Outcome State Fault Refusal :=
  ok (issue s core k (isOp 3) fun s k w =>
    let fn := bits w 0 4
    let y := bits w 4 32
    if !decOk w .s .s .none [(0, 36)] ∨ (7 ≤ fn ∧ fn ≤ 9 ∧ 32 ≤ y) then .stop 0x0110
    else .go (modCore s core fun k' => setS k' (dst w) (aluFn fn (sreg k (srcA w)) y)) [])

/-- The share information of R99. -/
def mfsrVal (k : Core) (core : Nat) (d : Desc) : Nat → Nat
  | 0 => d.stream | 1 => d.stripe | 2 => d.epoch | 3 => d.bandStart | 4 => d.bandWidth | 5 => d.accTiles
  | 6 => d.kind | 7 => core | 8 => k.satCount | 9 => k.nanCount | 10 => 1 | _ => 0x7FFF

/-- MFSR (R99). -/
def execMfsr (core : Nat) (k : Chk) (s : State) : Host.Outcome State Fault Refusal :=
  ok (issue s core k (isOp 4) fun s k w =>
    let sel := bits w 0 5
    if !decOk w .s .none .none [(0, 5)] ∨ 12 ≤ sel then .stop 0x0110
    else match k.run with
      | none => .hold
      | some d => .go (modCore s core fun k' => setS k' (dst w) (mfsrVal k core d sel)) [])

/-- The conditions of R101. -/
def condHolds (c x y : Nat) : Bool :=
  match c with
  | 0 => x == y
  | 1 => x != y
  | 2 => decide (sext 32 x < sext 32 y)
  | 3 => decide (sext 32 y ≤ sext 32 x)
  | 4 => decide (x < y)
  | _ => decide (y ≤ x)

/-- Loops are popped until the target lies in the innermost remaining body (R104). -/
def popLoops (t : Nat) : List LoopRec → List LoopRec
  | [] => []
  | l :: rest => if l.start ≤ t ∧ t ≤ l.stop then l :: rest else popLoops t rest

/-- BR (R101): the target is checked even when not taken. -/
def execBr (core : Nat) (k : Chk) (s : State) : Host.Outcome State Fault Refusal :=
  ok (issue s core k (isOp 5) fun s k w =>
    let t := bits w 0 16
    if !decOk w .none .s .s [(0, 20)] ∨ 6 ≤ bits w 16 4 ∨ 4095 < t then .stop 0x0110
    else if condHolds (bits w 16 4) (sreg k (srcA w)) (sreg k (srcB w)) then
      .jump (modCore s core fun k' => { k' with loops := popLoops t k'.loops }) t
    else .go s [])

/-- JMP (R102). -/
def execJmp (core : Nat) (k : Chk) (s : State) : Host.Outcome State Fault Refusal :=
  ok (issue s core k (isOp 6) fun s k w =>
    let t := (sreg k (srcA w) + bits w 0 16) % word32
    if !decOk w .none .s .none [(0, 16)] ∨ 4095 < t then .stop 0x0110
    else .jump (modCore s core fun k' => { k' with loops := popLoops t k'.loops }) t)

/-- CALL (R102): the return stack holds 8 entries. -/
def execCall (core : Nat) (k : Chk) (s : State) : Host.Outcome State Fault Refusal :=
  ok (issue s core k (isOp 7) fun s k w =>
    let t := (sreg k (srcA w) + bits w 0 16) % word32
    if !decOk w .none .s .none [(0, 16)] ∨ 4095 < t then .stop 0x0110
    else if 8 ≤ k.ret.length then .stop 0x0111
    else .jump (modCore s core fun k' => { k' with ret := (pcOf s core + 1) :: k'.ret }) t)

/-- RET (R102). -/
def execRet (core : Nat) (k : Chk) (s : State) : Host.Outcome State Fault Refusal :=
  ok (issue s core k (isOp 8) fun s k w =>
    if !decOk w .none .none .none [] then .stop 0x0110
    else match k.ret with
      | [] => .stop 0x0111
      | t :: rest => .jump (modCore s core fun k' => { k' with ret := rest }) t)

/-- A LOOP inside the innermost body must end before that body's END (R103). -/
def badNest (k : Core) (pc stop : Nat) : Bool :=
  match k.loops with
  | [] => false
  | l :: _ => decide (l.start ≤ pc) && decide (pc ≤ l.stop) && decide (l.stop ≤ stop)

/-- LOOP (R103): the loop stack holds 4 entries. -/
def execLoopOpen (core : Nat) (k : Chk) (s : State) : Host.Outcome State Fault Refusal :=
  ok (issue s core k (isOp 9) fun s k w =>
    let pc := pcOf s core
    let stop := bits w 16 16
    let n := (sreg k (srcA w) + bits w 0 16) % word32
    if !decOk w .s .s .none [(0, 32)] ∨ stop ≤ pc ∨ 4095 < stop ∨ badNest k pc stop then .stop 0x0110
    else if n = 0 then .jump s (stop + 1)
    else if 4 ≤ k.loops.length then .stop 0x0111
    else .go (modCore s core fun k' => setS { k' with loops := ⟨pc + 1, stop, n, 0, dst w⟩ :: k'.loops } (dst w) 0) [])

end Sys2Proof.Machine
end

