-- ==== Sys2Proof/Machine/Sync.lean ====
section
/-! DEFINITION. Machine/Sync.lean: Gong barriers and the system instructions (R144, R145, R147, R165). -/

namespace Sys2Proof.Machine

open Sys2Proof

/-! ### Gong (R144, R145) -/

/-- Whether a barrier is that of a stripe and number. -/
def Gong.isFor (g : Gong) (stream stripe id : Nat) : Bool := g.stream == stream && g.stripe == stripe && g.id == id

/-- The armed barrier of a share's stripe. -/
def gongOf (s : State) (stream stripe id : Nat) : Option Gong := s.gongs.find? (fun g => g.isFor stream stripe id)

/-- Replaces a barrier. -/
def setGong (s : State) (g : Gong) : State :=
  { s with gongs := s.gongs.map (fun x => if x.isFor g.stream g.stripe g.id then g else x) }

/-- Arms a barrier with a participant count, for the generations its stripe runs through (R144, R205). -/
def armGong (s : State) (stream stripe count : Nat) (b : Nat × Nat) : State :=
  { s with gongs := s.gongs.filter (fun g => !g.isFor stream stripe b.1) ++ [⟨stream, stripe, b.1, count, b.2, 0, [], []⟩] }

/-- Distinct arrivals have reached the participant count. -/
def Gong.full (g : Gong) : Bool := decide (g.count ≤ g.arrived.length)

/-- Generation n has completed. -/
def Gong.complete (g : Gong) (n : Nat) : Bool := decide (n < g.gen) || (n == g.gen && g.full)

/-- Every generation of the stripe has completed (R205). -/
def Gong.done (g : Gong) : Bool := g.gens == 0 || g.complete (g.gens - 1)

/-- The next arrival opens the following generation once the current one is complete. -/
def Gong.opened (g : Gong) : Gong := if g.full then { g with gen := g.gen + 1, arrived := [] } else g

/-- The generations an identity has arrived in, oldest first. -/
def Gong.past (g : Gong) (who : Nat) : List Nat := ((g.history.find? (fun p => p.1 == who)).map (·.2)).getD []

/-- Counts an identity's arrival in the current generation. -/
def Gong.count1 (g : Gong) (who : Nat) : Gong :=
  { g with arrived := g.arrived ++ [who],
           history := (g.history.filter (fun p => p.1 != who)) ++ [(who, g.past who ++ [g.gen])] }

/-- Arrivals of the running share at a barrier so far. -/
def myArrivals (k : Core) (id : Nat) : Nat := tget 0 k.gong id

/-- ARRIVE (R144, R145): a replay's arrival that the share it replaces had made is accepted without counting; a second
arrival in one generation is a fault. -/
def arrive (s : State) (c : Nat) (k : Core) (d : Desc) (id : Nat) : State ⊕ Nat :=
  match gongOf s d.stream d.stripe id with
  | none => .inr 0x0115
  | some g0 =>
    let n := myArrivals k id
    let bumped := fun s => modCore s c (fun k => { k with gong := tset 0 k.gong id (n + 1) })
    if n < (g0.past d.bandStart).length then .inl (bumped s)
    else
      let g := g0.opened
      if (g.past d.bandStart).contains g.gen then .inr 0x0115
      else .inl (bumped (setGong s (g.count1 d.bandStart)))

/-- WAIT: the generation of this share's last arrival, or a fault with none (R145). -/
def gongWait (s : State) (k : Core) (d : Desc) (id : Nat) : Eff :=
  match gongOf s d.stream d.stripe id with
  | none => .stop 0x0115
  | some g =>
    let n := myArrivals k id
    if n = 0 then .stop 0x0115
    else
      let gen := at? 0 (g.past d.bandStart) (n - 1)
      if g.complete gen then .go s [] else .wait s (.gong d.stream d.stripe id gen)

/-- A GONG instruction of a share: KIND 2 and 3 neither count nor wait (R144). -/
def gong (s : State) (k : Core) (w : Nat) (f : Desc → Eff) : Eff :=
  if !decOk w .none .none .none [(0, 5)] ∨ bits w 3 2 = 3 then .stop 0x0110
  else match k.run with
    | none => .hold
    | some d => if 2 ≤ d.kind then .go s [] else f d

/-- GONG ARRIVE (R144). -/
def execGongArrive (core : Nat) (k : Chk) (s : State) : Host.Outcome State Fault Refusal :=
  ok (issue s core k (fun w => isOp 0x3A w && bits w 3 2 == 0) fun s k w =>
    gong s k w fun d =>
      match arrive s core k d (bits w 0 3) with
      | .inr code => .stop code
      | .inl s1 => .go s1 [])

/-- GONG WAIT (R144). -/
def execGongWait (core : Nat) (k : Chk) (s : State) : Host.Outcome State Fault Refusal :=
  ok (issue s core k (fun w => isOp 0x3A w && bits w 3 2 == 1) fun s k w =>
    gong s k w fun d => gongWait s k d (bits w 0 3))

/-- GONG SYNC: ARRIVE followed by WAIT (R144); the row also stands for OP 3, which raises 0x0110 (R141). -/
def execGongSync (core : Nat) (k : Chk) (s : State) : Host.Outcome State Fault Refusal :=
  ok (issue s core k (fun w => isOp 0x3A w && decide (2 ≤ bits w 3 2)) fun s k w =>
    gong s k w fun d =>
      match arrive s core k d (bits w 0 3) with
      | .inr code => .stop code
      | .inl s1 => gongWait s1 (coreAt s1 core) d (bits w 0 3))

/-- The cores whose wait a completed generation of a barrier ends, the current one or an earlier one (R144). -/
def gongWaiters (s : State) (g : Gong) : List Nat :=
  (s.cores.filter (fun e => match e.2.wait with
    | some ⟨.gong a b i n, _⟩ => g.isFor a b i && g.complete n
    | _ => false)).map (·.1)

/-- A barrier generation completes when distinct arrivals reach the participant count, releasing its waiters (R144). -/
def execGongGenerationComplete (stream stripe id : Nat) (s : State) : Host.Outcome State Fault Refusal :=
  match gongOf s stream stripe id with
  | none => ok s
  | some g => ok ((gongWaiters s g).foldl (fun s c => endWait s c fun s _ _ => .go s []) s)

/-- A Gong wait lasts 2 stripe periods: it is abandoned and the share alarmed (R145, R479). -/
def execGongWaitLimitExpiry (core : Nat) (s : State) : Host.Outcome State Fault Refusal :=
  let k := coreAt s core
  match k.wait, k.run with
  | some ⟨.gong _ _ _ _, since⟩, some d =>
    if s.tick < since + 2 * shareTicks s d then ok s else ok (shareEvent s core 0x0116 (pcOf s core) k.seq)
  | _, _ => ok s

/-! ### END and CHK (R147) -/

/-- END (R147): issues when every earlier instruction has completed. -/
def execEndShare (core : Nat) (k : Chk) (s : State) : Host.Outcome State Fault Refusal :=
  ok (issue s core k (isOp 0x3C) fun s k w =>
    if !decOk w .none .none .none [] then .stop 0x0110
    else if !k.reads.isEmpty ∨ k.waiting.isSome then .hold
    else .jump (modCore s core fun k' => { k' with done := true, ending := true, endPc := pcOf s core, loops := [], ret := [] })
      (pcOf s core))

/-- CHK (R147). -/
def execChk (core : Nat) (k : Chk) (s : State) : Host.Outcome State Fault Refusal :=
  ok (issue s core k (isOp 0x3D) fun s k w =>
    if !decOk w .none .s .s [(0, 4)] ∨ 6 ≤ bits w 0 4 then .stop 0x0110
    else if condHolds (bits w 0 4) (sreg k (srcA w)) (sreg k (srcB w)) then .go s [] else .stop 0x0117)

end Sys2Proof.Machine
end

