-- ==== Sys2Proof/Machine/CoreCtl.lean ====
section
/-! DEFINITION. Machine/CoreCtl.lean: share descriptors and instruction banks, and the CORE_CTRL and CLU_MARGIN
registers (R77-R86, R405, R406). -/

namespace Sys2Proof.Machine

open Sys2Proof

/-! ### Shares (R79-R81) -/

/-- A share descriptor's fields (R80). -/
def descOf (ws : List Nat) : Desc :=
  let w := fun i => at? 0 ws i
  { bank := bits (w 0) 1 1, kind := bits (w 0) 2 2, entryPc := bits (w 0) 8 12, accTiles := bits (w 0) 20 5,
    stream := bits (w 1) 0 5, epoch := bits (w 1) 16 16, stripe := w 2 % word32, bandStart := bits (w 3) 0 16,
    bandWidth := bits (w 3) 16 16, s1 := w 4 % word32, s2 := w 5 % word32, s3 := w 6 % word32, s4 := w 7 % word32 }

/-- An RSV field of a descriptor is not zero (R80). -/
def descRsv (ws : List Nat) : Bool :=
  bits (at? 0 ws 0) 4 4 != 0 || bits (at? 0 ws 0) 25 7 != 0 || bits (at? 0 ws 1) 5 11 != 0

/-- A core at the start of a share (R81): what carries over is outside its architectural state. -/
def freshCore (k : Core) (d : Desc) : Core :=
  { Core.reset with
    run := some d, next := k.next, rings := k.rings, badCnt := k.badCnt, remap := k.remap, rowErr := k.rowErr,
    spareless := k.spareless, hazTick := k.hazTick,
    validating := k.validating, scrubAt := k.scrubAt, allSteps := k.allSteps, halted := k.halted, since := k.since,
    s := [(1, d.s1), (2, d.s2), (3, d.s3), (4, d.s4)].filter (fun p => p.2 != 0), endPc := d.entryPc,
    lastPc := d.entryPc }

/-- A share starts on a core (R78, R81, R86); a draining core stays DRAINING (R406). -/
def startShare (s : State) (c : Nat) (d : Desc) : State :=
  let s1 := setCore s c (freshCore (coreAt s c) d)
  let s2 := if rd s R.CORE_STATE.STATE c = coreDraining then s1 else wr s1 R.CORE_STATE.STATE c coreRunning
  let s3 := wr (wr s2 R.CORE_STATE.ACTIVE_BANK c d.bank) R.CORE_STATE.WAITING c 0
  let s4 := wr (wr s3 R.CORE_PC.PC c d.entryPc) R.CORE_PC.BANK c d.bank
  wr (wr (wr s4 R.CORE_SHARE.STREAM c d.stream) R.CORE_SHARE.KIND c d.kind) R.CORE_STRIPE.STRIPE c d.stripe

/-- The VALID bit of a bank. -/
def bankValid (s : State) (c b : Nat) : Bool :=
  if b = 0 then isSet s R.CORE_STATE.BANK_A_VALID c else isSet s R.CORE_STATE.BANK_B_VALID c

/-- Sets it. -/
def setBankValid (s : State) (c b v : Nat) : State :=
  if b = 0 then wr s R.CORE_STATE.BANK_A_VALID c v else wr s R.CORE_STATE.BANK_B_VALID c v

/-- The refusal cause of a descriptor, first of R79's order; 0 for none. A core the debug window has halted accepts none (R461), which
is cause 4, the core's state (DESIGN CHOICE, log entry 13). -/
def descCause (s : State) (c : Nat) (ws : List Nat) : Nat :=
  let d := descOf ws
  let k := coreAt s c
  if !inService s c ∨ rd s R.CORE_CTRL.ROLE c = 2 ∨ k.halted then 4
  else if d.accTiles = 0 ∨ 16 < d.accTiles ∨ descRsv ws then 3
  else if !bankValid s c d.bank then 1
  else if k.run.isSome ∧ k.next.isSome then 2 else 0

/-- The dispatch journal takes a dispatch, or drops it when its status is in or it is withdrawn (R277). -/
def journalise (s : State) (c : Nat) (d : Desc) (on : Bool) : State :=
  let l := s.flt.journal.filter (· != (c, d))
  { s with flt := { s.flt with journal := if on then l ++ [(c, d)] else l } }

/-- A descriptor enters a core's slot: it starts at once on an idle core, or waits for the running share's end. -/
def takeDesc (s : State) (c : Nat) (d : Desc) : State :=
  if (coreAt s c).run.isNone then startShare s c d
  else wr (modCore s c fun k => { k with next := some d }) R.CORE_STATE.NEXT_QUEUED c 1

/-- A dispatch of the control complex: it stands in the journal, and its descriptor enters the core's slot (R79, R277). -/
def offerDesc (s : State) (c : Nat) (d : Desc) : State := takeDesc (journalise s c d true) c d

/-- A queued descriptor is withdrawn: no status will come of it. -/
def dropNext (s : State) (c : Nat) : State :=
  match (coreAt s c).next with
  | none => s
  | some d => journalise (modCore s c fun k => { k with next := none }) c d false

/-- A core acknowledges a dispatch by holding its descriptor. -/
def holdsDesc (s : State) (c : Nat) (d : Desc) : Bool := (coreAt s c).run == some d || (coreAt s c).next == some d

/-- The standby pair sends again every dispatch of the journal that no core has acknowledged, where the core's slot can take it
(R277 step 2). -/
def resendJournal (s : State) : State :=
  s.flt.journal.foldl (fun s e =>
    let k := coreAt s e.1
    if holdsDesc s e.1 e.2 ∨ !inService s e.1 ∨ rd s R.CORE_CTRL.ROLE e.1 = 2 ∨ k.halted ∨ !bankValid s e.1 e.2.bank ∨
      (k.run.isSome ∧ k.next.isSome) then s
    else takeDesc s e.1 e.2) s

/-- A share descriptor written into a core's slot (R79, R80). -/
def execShareDescriptorWrite (core : Nat) (words : List Nat) (s : State) : Host.Outcome State Fault Refusal :=
  if !present s core ∨ !bit (at? 0 words 0) 0 then ok s
  else
    let cause := descCause s core words
    if cause ≠ 0 then ok (coreRefuse s core 0x0107 cause) else ok (offerDesc s core (descOf words))

/-! ### Instruction banks (R77, R78) -/

/-- A bank is in use while the running or the queued share names it (R77). -/
def bankInUse (s : State) (c b : Nat) : Bool :=
  let k := coreAt s c
  (match k.run with | some d => d.bank == b | none => false) || (match k.next with | some d => d.bank == b | none => false)

/-- A bank word is stored with its check bits (R77). -/
def putWord (s : State) (ix word : Nat) : State :=
  { s with banks := tset 0 s.banks ix (word % 2 ^ 64), bankErr := tset 0 s.bankErr ix 0 }

/-- The control complex writes a bank word: refused with 0x0108 in use, else VALID is cleared (R77, R79). -/
def execBankWrite (core bank addr word : Nat) (s : State) : Host.Outcome State Fault Refusal :=
  if !present s core ∨ 2 ≤ bank ∨ 4096 ≤ addr then ok s
  else if bankInUse s core bank then ok (coreRefuse s core 0x0108 0)
  else ok (setBankValid (putWord s (bankIx core bank addr) word) core bank 0)

/-- Little-endian bytes of all 4,096 words of a bank (R78). -/
def bankBytes (s : State) (c b : Nat) : List Byte := (List.range 4096).flatMap (fun a => leBytes 8 (bankWord s c b a))

/-- The CRC-32C of a bank's words is stored and its VALID set (R78). -/
def validated (s : State) (core bank : Nat) : State :=
  let crc := crc32c (bankBytes s core bank)
  setBankValid (if bank = 0 then wr s R.CORE_BANK_A_CRC.CRC core crc else wr s R.CORE_BANK_B_CRC.CRC core crc) core bank 1

/-- A VALIDATE ends (R78): of the words as they stand at the end, also where the bank was written or invalidated meanwhile
(DESIGN CHOICE, log entry 13). -/
def execValidateComplete (core bank : Nat) (s : State) : Host.Outcome State Fault Refusal :=
  if !tget false (coreAt s core).validating bank then ok s
  else ok (validated (modCore s core fun k => { k with validating := tset false k.validating bank false }) core bank)

/-- The scrubber meets a stored word with flipped bits (R77): one is corrected in place; two clear the bank's VALID and are
reported with the program counter as it stands, and the running share is not alarmed. -/
def scrubWord (c : Nat) (s : State) (e : Nat × Nat) : State :=
  match popcount 72 e.2 with
  | 1 => coreReport { s with bankErr := tset 0 s.bankErr e.1 0 } c 0x0105
  | 2 => coreReport (coreFaultReg (setBankValid s c (e.1 / 4096 % 2) 0) c 0x0106 (pcOf s c) 0) c 0x0106
  | _ => s

/-- One scrub of both banks, due 100 ms after the last (R77); `flips` are bits that have flipped since: bank, address and mask of
the 72. -/
def execInstructionScrubPass (core : Nat) (flips : List (Nat × Nat × Nat)) (s : State) : Host.Outcome State Fault Refusal :=
  if !present s core ∨ !isSet s R.CORE_CTRL.SCRUB_EN core ∨ !elapsed s (coreAt s core).scrubAt 10000000 then ok s
  else
    let s1 := modCore s core fun k => { k with scrubAt := s.tick }
    let s2 := flips.foldl (fun s f => strikeFetch s (bankIx core f.1 f.2.1) [.fetch f.2.2]) s1
    ok ((s2.bankErr.filter (fun e => e.1 / 8192 == core)).foldl (scrubWord core) s2)

/-! ### CORE_CTRL (R83, R86, R405) -/

/-- The running share ends at the next instruction boundary as ABORTED (R83, R150). -/
def stopShare (s : State) (c : Nat) : State :=
  let k := coreAt s c
  if k.run.isNone ∨ k.ending then s
  else
    let s1 := dropWaitBits s c
    wr (modCore s1 c fun k => { k with ending := true, aborted := true, wait := none, endPc := k.lastPc }) R.CORE_STATE.WAITING c 0

/-- Zeroes every per-core counter (R86, R171). -/
def clearCounts (s : State) (c : Nat) : State :=
  [R.CORE_CNT_SAT.COUNT, R.CORE_CNT_NANINF.COUNT, R.CORE_CNT_RESIDUE.COUNT, R.CORE_CNT_ECC_CORR.COUNT,
   R.CORE_CNT_ECC_UNCORR.COUNT, R.CORE_CNT_SHARES.COUNT, R.CORE_CNT_REPLAYS.COUNT, R.CORE_CNT_ALARMS.COUNT,
   R.CORE_CNT_STEPS_LO.COUNT, R.CORE_CNT_STEPS_HI.COUNT, R.SPAD_CNT_PARITY.COUNT].foldl (fun s f => wr s f c 0) (modCore s c fun k => { k with allSteps := 0 })

/-- The core becomes RETIRED once no share runs on a core of ROLE 2 (R292). -/
def settleRetired (s : State) (c : Nat) : State :=
  if rd s R.CORE_CTRL.ROLE c = 2 ∧ (coreAt s c).run.isNone then wr s R.CORE_STATE.STATE c coreRetired else s

/-- A write of ROLE (R86): once 2, further writes are ignored until reset; 2 discards the queued descriptor. -/
def writeRole (s : State) (c v : Nat) : State :=
  if rd s R.CORE_CTRL.ROLE c = 2 then s
  else
    let s1 := wr (wr s R.CORE_CTRL.ROLE c v) R.CORE_STATE.ROLE c v
    if v = 2 then settleRetired (wr (dropNext s1 c) R.CORE_STATE.NEXT_QUEUED c 0) c else s1

/-- A core that failed its test set twice is held OFF until the next power-up (R404). -/
def heldOff (s : State) (c : Nat) : Bool := s.flt.failedRun.contains (c, 2)

/-- A write of EN (R405): the core's power request. -/
def writeEn (s : State) (c v : Nat) : State :=
  let s1 := wr s R.CORE_CTRL.EN c v
  let st := rd s R.CORE_STATE.STATE c
  if v = 1 ∧ st = coreOff then if heldOff s c then s1 else modCore (wr s1 R.CORE_STATE.STATE c coreStarting) c fun k => { k with since := s.tick }
  else if v = 0 ∧ inService s c then modCore (wr s1 R.CORE_STATE.STATE c coreDraining) c fun k => { k with since := s.tick }
  else s1

/-- VALIDATE starts the CRC of a bank (R78). -/
def startValidate (s : State) (c b : Nat) : State :=
  modCore s c fun k => { k with validating := tset false k.validating b true }

/-- INVALIDATE clears a bank's VALID, ignored with 0x0108 while in use (R86). -/
def invalidate (s : State) (c b : Nat) : State :=
  if bankInUse s c b then coreRefuse s c 0x0108 0 else setBankValid s c b 0

/-- A write of CORE_CTRL takes every field (R86). Where one write names a bank in INVALIDATE and in VALIDATE, VALID is cleared first and the
VALIDATE then started, so that the bank ends valid (DESIGN CHOICE, log entry 13: the rule gives no order). -/
def writeCoreCtrl (s : State) (c v : Nat) : State :=
  let when := fun b (f : State → State) (s : State) => if bit v b then f s else s
  let s1 := wr s R.CORE_CTRL.SCRUB_EN c (bits v 3 1)
  let s2 := when 2 (fun s => clearCounts s c) s1
  let s3 := when 9 (fun s => invalidate s c 1) (when 8 (fun s => invalidate s c 0) s2)
  let s4 := when 7 (fun s => startValidate s c 1) (when 6 (fun s => startValidate s c 0) s3)
  writeEn (writeRole (when 1 (fun s => stopShare s c) s4) c (bits v 4 2)) c (bits v 0 1)

/-- CORE_CTRL with VALIDATE_A or VALIDATE_B (R78). -/
def execValidateBank (w : Wr) (s : State) : Host.Outcome State Fault Refusal :=
  ok (gate s w R.CORE_CTRL.reg 0 fun s c => if bits w.val 6 2 = 0 then s else writeCoreCtrl s c w.val)

/-- CORE_CTRL with INVALIDATE_A or INVALIDATE_B (R86). -/
def execInvalidateBank (w : Wr) (s : State) : Host.Outcome State Fault Refusal :=
  ok (gate s w R.CORE_CTRL.reg 0 fun s c => if bits w.val 8 2 = 0 then s else writeCoreCtrl s c w.val)

/-- CORE_CTRL with EN as requested (R405). -/
def execCoreEnWrite (w : Wr) (s : State) : Host.Outcome State Fault Refusal :=
  ok (gate s w R.CORE_CTRL.reg 0 fun s c => writeCoreCtrl s c w.val)

/-- CORE_CTRL with STOP (R83). -/
def execCoreStop (w : Wr) (s : State) : Host.Outcome State Fault Refusal :=
  ok (gate s w R.CORE_CTRL.reg 0 fun s c => if bit w.val 1 then writeCoreCtrl s c w.val else s)

/-- CORE_CTRL with CNT_CLEAR (R86). -/
def execCoreCntClear (w : Wr) (s : State) : Host.Outcome State Fault Refusal :=
  ok (gate s w R.CORE_CTRL.reg 0 fun s c => if bit w.val 2 then writeCoreCtrl s c w.val else s)

/-- The banks of a core cleared with VALID clear (R406). -/
def clearBanks (s : State) (c : Nat) : State :=
  let keep := fun (p : Nat × Nat) => decide (p.1 / 8192 ≠ c)
  setBankValid (setBankValid { s with banks := s.banks.filter keep, bankErr := s.bankErr.filter keep } c 0 0) c 1 0

/-- A core that has left OFF has its whole test set to pass (R406). -/
def clearTests (s : State) (c : Nat) : State :=
  { s with flt := { s.flt with passed := s.flt.passed.filter (· != c), tested := s.flt.tested.filter (·.1 != c),
                               rattle := s.flt.rattle.filter (·.1 != c) } }

/-- A starting core is done: IDLE, or DRAINING where a disable is recorded (R405, R406). -/
def execCoreStartDone (core : Nat) (s : State) : Host.Outcome State Fault Refusal :=
  if !present s core ∨ rd s R.CORE_STATE.STATE core ≠ coreStarting then ok s
  else
    let k := coreAt s core
    let s0 := clearTests (clearBanks s core) core
    let s1 := setCore { s0 with flt := { s0.flt with failedRun := s0.flt.failedRun.filter (·.1 != core) } } core
      { Core.reset with rings := k.rings, badCnt := k.badCnt, remap := k.remap, since := s.tick }
    ok (wr s1 R.CORE_STATE.STATE core (if isSet s R.CORE_CTRL.EN core then coreIdle else coreDraining))

/-- A draining core whose shares have ended goes OFF, or to STARTING if EN was written again (R405, R406). -/
def execCoreDrainDone (core : Nat) (s : State) : Host.Outcome State Fault Refusal :=
  let k := coreAt s core
  if !present s core ∨ rd s R.CORE_STATE.STATE core ≠ coreDraining ∨ k.run.isSome ∨ k.next.isSome then ok s
  else ok (modCore (wr s R.CORE_STATE.STATE core (if isSet s R.CORE_CTRL.EN core then coreStarting else coreOff)) core
    fun k => { k with since := s.tick })

/-- The longest stripe period of the shares a core holds (R406). -/
def drainLimit (s : State) (c : Nat) : Nat :=
  let k := coreAt s c
  let p := fun (d : Option Desc) => (d.map (shareTicks s)).getD 0
  2 * max (p k.run) (p k.next)

/-- Shares of a draining core that have not ended after 2 stripe periods are stopped; they are replayed (R280, R406). -/
def execCoreDrainTimeout (core : Nat) (s : State) : Host.Outcome State Fault Refusal :=
  let k := coreAt s core
  if rd s R.CORE_STATE.STATE core ≠ coreDraining ∨ k.run.isNone ∨ s.tick < k.since + drainLimit s core then ok s
  else ok (stopShare s core)

/-! ### The delay margin (R85) -/

/-- CLU_MARGIN.EFFECTIVE is min(7, BASE + SUSPECT). -/
def showMargin (s : State) (cl : Nat) : State :=
  wr s R.CLU_MARGIN.EFFECTIVE cl (min 7 (rd s R.CLU_MARGIN.BASE cl + rd s R.CLU_MARGIN.SUSPECT cl))

/-- A widening of the cluster of a suspect core (R85): at step 7 it changes nothing, sets AT_MAX and reports 0x010B. -/
def widenMargin (s : State) (core : Nat) : State :=
  let cl := core / 8
  if 7 ≤ rd s R.CLU_MARGIN.EFFECTIVE cl then coreReport (hit s R.CLU_MARGIN.AT_MAX cl) core 0x010B
  else showMargin (wr s R.CLU_MARGIN.SUSPECT cl (min 3 (rd s R.CLU_MARGIN.SUSPECT cl + 1))) cl

/-- A SUSPECT widening of CLU_MARGIN (R85). -/
def execMarginWiden (core : Nat) (s : State) : Host.Outcome State Fault Refusal :=
  if present s core then ok (widenMargin s core) else ok s

end Sys2Proof.Machine
end

