-- ==== Sys2Proof/Machine/Spad.lean ====
section
/-! DEFINITION. Machine/Spad.lean: the Ratchet, same-row hazards, bank groups, row maps and the scratchpad registers
(R151-R172). -/

namespace Sys2Proof.Machine

open Sys2Proof

/-! ### Hazards (R155, R156, R164) -/

/-- PIPE_PROMISE_STATUS.HAZARD is 1 while any core's count is not zero (R156). -/
def showHazard (s : State) : State :=
  let on := (List.range s.part.cores).any (fun c => rd s R.SPAD_HAZARD.COUNT c != 0)
  let s1 := wr s R.PIPE_PROMISE_STATUS.HAZARD 0 (b2n on)
  if on then hit s1 R.PIPE_PROMISE_STATUS.VOID 0 else s1

/-- One hazard: counted, recorded if none is, marked in the running share, and reported once a share or once a
millisecond (R155). -/
def spHazard (s : State) (c word slotA slotB kind : Nat) : State :=
  let s1 := showHazard (bump s R.SPAD_HAZARD.COUNT c)
  let s2 := if isSet s R.SPAD_HAZARD_ADDR.VALID c then s1
    else wr (wr (wr (wr (wr s1 R.SPAD_HAZARD_ADDR.WORD c word) R.SPAD_HAZARD_ADDR.SLOT_A c slotA)
      R.SPAD_HAZARD_ADDR.SLOT_B c slotB) R.SPAD_HAZARD_ADDR.KIND c kind) R.SPAD_HAZARD_ADDR.VALID c 1
  let k := coreAt s c
  if k.run.isSome then
    (if k.hazard then s2 else noteEvent (coreReport (modCore s2 c fun k => { k with hazard := true }) c 0x0209) c 0x0209)
  else if k.hazTick ≠ 0 ∧ s.tick + 1 < k.hazTick + 100000 then s2
  else coreReport (modCore s2 c fun k => { k with hazTick := s.tick + 1 }) c 0x0209

/-- Two accesses of a rotation make a same-row hazard: same word, different slots, one a write, one in slot 5, 6 or 7,
neither exempt (R155). -/
def hazardPair (a b : RotAcc) : Bool :=
  let outer := fun (x : RotAcc) => decide (5 ≤ x.slot) && decide (x.slot ≤ 7)
  a.word == b.word && a.slot != b.slot && (a.wdata.isSome || b.wdata.isSome) && (outer a || outer b) &&
  !a.exempt && !b.exempt

/-- All pairs of a list, in order. -/
def pairs {α : Type} : List α → List (α × α)
  | [] => []
  | a :: t => t.map (fun b => (a, b)) ++ pairs t

/-- The accesses a bank serves in a rotation: at most one a slot, in slot order, words of this bank (R153). -/
def served (bank : Nat) (l : List RotAcc) : List RotAcc :=
  (List.range 8).flatMap (fun i =>
    ((l.filter (fun a => a.slot == i + 1 && a.word % 32 == bank && decide (a.word < 12288))).head?).toList)

/-- What an access of slot k reads: slots 1 to 3 the word before the rotation, slot 6 writes of slots 4 and 5, slot 7
the same, slot 8 also those of slot 7 (R154 item 3). `old` is the state before the rotation, `now` after the slots
before this one. -/
def rotRead (old now : State) (c : Nat) (a : RotAcc) : Nat := spWord (if a.slot ≤ 3 then old else now) c a.word

/-- What a read of a word that fails its parity, or carries poison, comes to (R167): by the core's engines the running share is
alarmed; in slots 6 and 7 a mismatch is reported here. -/
def readChecked (s : State) (c : Nat) (a : RotAcc) : State :=
  let k := coreAt s c
  if a.slot ≤ 3 then (if k.run.isSome then alarmed (noteRows s c a.word 1) c k.lastPc k.seq (readCodes s c a.word 1) else s)
  else if (a.slot == 6 || a.slot == 7) && spParity s c a.word 1 then coreReport (noteRows s c a.word 1) c 0x0204 else s

/-- Serves one access: a write changes the word, a read is answered with the data and its poison; data that leaves in slot 6 or
7 with a parity mismatch is poisoned (R167). -/
def serve (old : State) (c : Nat) (now : State) (a : RotAcc) : State :=
  let s0 := if a.flips = 0 then now else flipWord now c a.word a.flips
  match a.wdata with
  | some (d, p) => devWrite s0 (spAddr c a.word) (slice d 0 32) p
  | none =>
    let bad := spPoison s0 c a.word 1 || (decide (6 ≤ a.slot) && decide (a.slot ≤ 7) && spParity s0 c a.word 1)
    emit (readChecked s0 c a) (.answer 0x153 [c, a.slot, a.word, rotRead old s0 c a, b2n bad])

/-- One rotation of a bank (R153-R155). -/
def execRatchetRotation (core bank : Nat) (accesses : List RotAcc) (s : State) : Host.Outcome State Fault Refusal :=
  if !present s core then ok s
  else
    let l := (served bank accesses).filter (fun a => spOk s core a.word)
    let s1 := l.foldl (serve s core) s
    ok (((pairs l).filter (fun p => hazardPair p.1 p.2)).foldl
      (fun s p => spHazard s core p.1.word (p.1.slot - 1) (p.2.slot - 1) 0) s1)

/-- Zeroes a core's hazard count and address record (R156). -/
def clearHazard (s : State) (c : Nat) : State :=
  showHazard (wr (wr (wr (wr (wr (wr s R.SPAD_HAZARD.COUNT c 0) R.SPAD_HAZARD_ADDR.WORD c 0) R.SPAD_HAZARD_ADDR.SLOT_A c 0)
    R.SPAD_HAZARD_ADDR.SLOT_B c 0) R.SPAD_HAZARD_ADDR.KIND c 0) R.SPAD_HAZARD_ADDR.VALID c 0)

/-- SPAD_HAZARD.CLEAR (R156). -/
def execSpadHazardClear (w : Wr) (s : State) : Host.Outcome State Fault Refusal :=
  ok (gate s w R.SPAD_HAZARD.reg 0 fun s c => if bit w.val 31 then clearHazard s c else s)

/-! ### Bank groups (R169, R170, R405) -/

/-- The words of a ring's region (R158). -/
def ringRegion (s : State) (c r : Nat) : Nat × Nat :=
  (ringBase s c r, (ringCount s c r + ringMirror s c r) * slotWords s c r)

/-- An enabled ring's region lies partly in a group. -/
def ringInGroup (s : State) (c g : Nat) : Bool :=
  (List.range 16).any (fun r => ringEn s c r &&
    (let x := ringRegion s c r
     decide (x.1 < 3072 * (g + 1)) && decide (3072 * g < x.1 + x.2)))

/-- A request to take a group out of ON is refused (R170). -/
def groupHeld (s : State) (c g : Nat) : Bool :=
  ringInGroup s c g || (coreAt s c).run.isSome || (coreAt s c).next.isSome || isSet s R.SPAD_PWR_STATUS.REMAP_BUSY c

/-- One group's request (R405). -/
def requestGroup (s : State) (c g : Nat) (on : Bool) : State :=
  let pend := rd s R.SPAD_PWR_STATUS.REENABLE_PENDING c
  match groupState s c g with
  | 0 => if on then setGroup s c g 1 else s
  | 2 => if on then s else setGroup s c g 3
  | 3 => wr s R.SPAD_PWR_STATUS.REENABLE_PENDING c (setBits pend g 1 (b2n on))
  | _ => s

/-- A write to SPAD_CFG, refused whole with 0x0207 where R170 refuses one of its requests. -/
def execSpadCfgWrite (w : Wr) (s : State) : Host.Outcome State Fault Refusal :=
  ok (gate s w R.SPAD_CFG.reg 0 fun s c =>
    if (List.range 4).any (fun g => groupState s c g == 2 && !bit w.val g && groupHeld s c g) then coreRefuse s c 0x0207 0
    else
      let s1 := putAll s R.SPAD_CFG.reg 0 c w.val
      (List.range 4).foldl (fun s g => requestGroup s c g (bit w.val g)) s1)

/-- Device address range of a bank group. -/
def groupBase (c g : Nat) : Nat := spAddr c (3072 * g)

/-- A group's words are zero with correct parity and poison clear (R169). -/
def zeroGroup (s : State) (c g : Nat) : State :=
  { s with mem := memClear s.mem (groupBase c g) 98304,
           poison := s.poison.filter (fun p => decide (p.1 < groupBase c g / 32 ∨ groupBase c g / 32 + 3072 ≤ p.1)),
           parErr := clearPar s.parErr (groupBase c g) 98304 }

/-- A starting group finishes zeroing: ON, or DRAINING where a disable is recorded (R169, R405). -/
def execBankGroupStartDone (core group : Nat) (s : State) : Host.Outcome State Fault Refusal :=
  if !present s core ∨ 4 ≤ group ∨ groupState s core group ≠ 1 then ok s
  else ok (setGroup (zeroGroup s core group) core group (if bit (rd s R.SPAD_CFG.GROUP_EN core) group then 2 else 3))

/-- A draining group reaches OFF, or starts again (R169, R405). -/
def execBankGroupDrainDone (core group : Nat) (s : State) : Host.Outcome State Fault Refusal :=
  let pend := rd s R.SPAD_PWR_STATUS.REENABLE_PENDING core
  if !present s core ∨ 4 ≤ group ∨ groupState s core group ≠ 3 then ok s
  else
    let s1 := wr s R.SPAD_PWR_STATUS.REENABLE_PENDING core (clrBit pend group)
    ok (setGroup s1 core group (if bit pend group then 1 else 0))

/-! ### Row maps (R168, R171) -/

/-- The row copy completes and the map switches (R168 steps 2 and 3). -/
def execRemapCopyDone (core : Nat) (s : State) : Host.Outcome State Fault Refusal :=
  match (coreAt s core).remap with
  | none => ok s
  | some r =>
    if r.stage ≠ 0 then ok s
    else
      let s1 := (List.range 8).foldl (fun s e =>
        let ix := mapIx r.bank e
        if isSet s (R.SPAD_ROWMAP.VALID.nth ix) core ∧ rd s (R.SPAD_ROWMAP.ROW.nth ix) core = r.row then
          wr s (R.SPAD_ROWMAP.VALID.nth ix) core 0 else s) s
      let ix := mapIx r.bank r.entry
      let s2 := wr (wr (wr s1 (R.SPAD_ROWMAP.ROW.nth ix) core r.row) (R.SPAD_ROWMAP.VALID.nth ix) core 1)
        (R.SPAD_ROWMAP.SOURCE.nth ix) core 1
      ok (modCore s2 core fun k => { k with remap := some { r with stage := 1 }, rowErr := tset 0 k.rowErr (rowIx r.bank r.row) 0 })

/-- The row maps in the life store after a remap in the field: the row's earlier entry is gone, the new one made (R168). -/
def recordRow (l : List (Nat × Nat)) (core : Nat) (r : Remap) : List (Nat × Nat) :=
  tset 0 (l.filter (fun e => !(e.1 / 8 == core * 32 + r.bank && e.2 % 1024 == r.row + 1))) ((core * 32 + r.bank) * 8 + r.entry)
    (r.row + 1 + 1024)

/-- REMAP_BUSY clears; the remap is recorded in the life store and reported (R168 step 4). -/
def execRemapRecorded (core : Nat) (s : State) : Host.Outcome State Fault Refusal :=
  match (coreAt s core).remap with
  | none => ok s
  | some r =>
    if r.stage ≠ 1 then ok s
    else
      let s1 := modCore (wr s R.SPAD_PWR_STATUS.REMAP_BUSY core 0) core fun k => { k with remap := none }
      let s2 := modRec s1 core (fun r => { r with remaps := r.remaps + 1 })
      ok (coreReport { s2 with rowMaps := recordRow s2.rowMaps core r } core 0x0205)

/-- A row-map entry write: only while the group that contains ROW is STARTING (R171). -/
def execSpadRowmapWrite (w : Wr) (n : Nat) (s : State) : Host.Outcome State Fault Refusal :=
  if 256 ≤ n then ok s
  else ok (gate s w R.SPAD_ROWMAP.reg n fun s c =>
    let row := bits w.val 0 9
    if 384 ≤ row ∨ groupState s c (row / 96) ≠ 1 then coreRefuse s c 0x0207 0
    else putAll s R.SPAD_ROWMAP.reg n c w.val)

/-! ### Ring and counter registers (R162, R171) -/

/-- A handle to the ring is bound or a reservation is outstanding. -/
def ringBusy (s : State) (c r : Nat) : Bool :=
  ringBound s c r true || ringBound s c r false || !(ringX s c r).out.isEmpty || (ringX s c r).want

/-- The whole configuration of ring r is sound (R171). -/
def ringCfgOk (s : State) (c r : Nat) : Bool :=
  let x := ringRegion s c r
  let p := match ringProducer s c r with
    | .core n => present s n
    | .dma ch => s.part.hasChannel ch
  decide (x.1 + x.2 ≤ 12288) && spSpan s c x.1 x.2 && decide (1 ≤ ringCount s c r) &&
  decide (ringMirror s c r < ringCount s c r) && p

/-- SPAD_RING_CFG0 (R171): setting EN checks the whole configuration. -/
def execSpadRingCfg0Write (w : Wr) (r : Nat) (s : State) : Host.Outcome State Fault Refusal :=
  if 16 ≤ r then ok s
  else ok (gate s w R.SPAD_RING_CFG0.reg r fun s c =>
    let s1 := putAll s R.SPAD_RING_CFG0.reg r c w.val
    if (ringEn s c r ∧ bit w.val 31) ∨ ringBusy s c r ∨ (bit w.val 31 ∧ !ringCfgOk s1 c r) then coreRefuse s c 0x0208 0
    else s1)

/-- SPAD_RING_CFG1 (R171). -/
def execSpadRingCfg1Write (w : Wr) (r : Nat) (s : State) : Host.Outcome State Fault Refusal :=
  if 16 ≤ r then ok s
  else ok (gate s w R.SPAD_RING_CFG1.reg r fun s c =>
    if ringEn s c r ∨ ringBusy s c r then coreRefuse s c 0x0208 0 else putAll s R.SPAD_RING_CFG1.reg r c w.val)

/-- SPAD_RING_STATE (R162, R171): HEAD and FILL; a rewrite makes a ring with an uncorrectable error usable again
(R167). -/
def execSpadRingStateWrite (w : Wr) (r : Nat) (s : State) : Host.Outcome State Fault Refusal :=
  if 16 ≤ r then ok s
  else ok (gate s w R.SPAD_RING_STATE.reg r fun s c =>
    if ringBusy s c r ∨ ringCount s c r ≤ bits w.val 0 12 ∨ ringCount s c r < bits w.val 12 12 then coreRefuse s c 0x0208 0
    else setRingX (putAll s R.SPAD_RING_STATE.reg r c w.val) c r { ringX s c r with bad := false })

/-- SPAD_CNT: a write is a SET (R163); one that meets another agent's increment is a hazard (R164), whose record holds 0 for both
slots: a counter is reached in none (DESIGN CHOICE, log entry 13: R171 gives a counter hazard KIND and WORD). -/
def execSpadCntWrite (w : Wr) (n : Nat) (meets : Bool) (s : State) : Host.Outcome State Fault Refusal :=
  if 32 ≤ n then ok s
  else ok (gate s w R.SPAD_CNT.reg n fun s c =>
    let s1 := setCnt s c n (bits w.val 0 24)
    if meets then spHazard s1 c n 0 0 1 else s1)

/-- CSET SET (R143): only on the core's own counter; one that meets another agent's increment is a hazard
(R164). -/
def execCsetSet (core : Nat) (chk : Chk) (s : State) : Host.Outcome State Fault Refusal :=
  ok (issue s core chk (fun w => isOp 0x39 w && bit w 24) fun s k w =>
    if !decOk w .c .s .none [(0, 25)] then .stop 0x0110
    else match creg k (dst w) with
      | none => .stop 0x0115
      | some h =>
        if h.core ≠ core then .stop 0x0115
        else if tget false k.badCnt h.index then .stop 0x020A
        else if countsSelf k core h.index then .hold
        else
          let s1 := wr s (R.SPAD_CNT.VALUE.nth h.index) core (sreg k (srcA w) + bits w 0 24)
          .go (if chk.meets then spHazard s1 core h.index 0 0 1 else s1) [])

end Sys2Proof.Machine
end

