-- ==== Sys2Proof/Machine/Package.lean ====
section
/-! DEFINITION. Machine/Package.lean: what the loader computes from a package's records: shapes, lags and output lines, and the
checks that need no state (R8, R24, R173-R181, R185, R186, R192, R196-R203, R210, R212, R220, R226, R227, R232, R282, R324).
Its conventions: log entry 40. -/

namespace Sys2Proof

open Sys2Proof.Machine

/-! ### Walking the layers in package order -/

/-- What a layer's sources give: of source 0 the package's input, of source i the i-th layer. -/
def Layer.sees {α : Type} (l : Layer) (input : α) (acc : List α) : List α :=
  match l.srcs with
  | [] => [input]
  | _ => l.srcs.map fun
    | 0 => input
    | i + 1 => (acc[i]?).getD input

/-- A value for each layer, from those of its sources; `input` is the input's, of crop work and of stream work. -/
def walk {α : Type} (ls : List Layer) (input : Bool → α) (f : Layer → List α → α) : List α :=
  ls.foldl (fun acc l => acc ++ [f l (l.sees (input l.crop) acc)]) []

/-- The greatest of some numbers. -/
def greatest (l : List Nat) : Nat := l.foldl max 0

/-- The value of the package's output: its last layer of stream work, or what the input has. -/
def Pkg.ofOutput {α : Type} (g : Pkg) (d : α) (vals : List α) : α :=
  ((((List.zip g.layers vals).filter (fun x => !x.1.crop)).getLast?).map (·.2)).getD d

/-- What a package declares for a stream; its first declaration for one it does not name. -/
def Pkg.domain (g : Pkg) (k : Nat) : Domain :=
  match g.domains.find? (fun d => d.stream == k) with
  | some d => d
  | none => g.domains.headD ⟨k, 0, 1, 0, 0, 0, []⟩

/-- Its dynamic tensors, in declaration order (R205). -/
def Pkg.tensors (g : Pkg) : List DynTensor := (g.layers.filter (fun l => !l.crop)).filterMap (·.dyn)

/-- q_max of a dynamic tensor's format, as an FP32 code (R203). -/
def DynTensor.qMax (d : DynTensor) : Nat :=
  match d.fmt with
  | 0 => 0x40E00000
  | 1 => 0x42FE0000
  | _ => 0x437F0000

/-- Carry rings and their G (R229). -/
def Pkg.carry (g : Pkg) : List (Nat × Nat) := (g.rings.filter (·.carry)).map (fun r => (r.ring, r.count / 2))

/-! ### Shapes (R173-R176, R220) -/

/-- W_out of R174; H_out alike. -/
def winOut (n lo hi taps dil stride : Nat) : Nat :=
  if n + lo + hi < (taps - 1) * dil + 1 then 0 else (n + lo + hi - (taps - 1) * dil - 1) / max 1 stride + 1

/-- Output columns of a layer whose input has n. -/
def Layer.outCols (l : Layer) (n : Nat) : Nat := winOut n l.win.padL l.win.padR l.win.kw l.win.dil l.win.sx

/-- Output lines of a layer whose input is a whole frame of n lines. -/
def Layer.outLines (l : Layer) (n : Nat) : Nat := winOut n l.win.padT l.win.padB l.win.kh l.win.dil l.win.sy

/-- Lines beyond y × sy that output line y waits for (R176). -/
def Layer.reach (l : Layer) : Nat := (l.win.kh - 1) * l.win.dil - l.win.padT

/-- Output columns of each layer, for a band domain of w columns and crops of c. -/
def Pkg.cols (g : Pkg) (w c : Nat) : List Nat := walk g.layers (fun crop => if crop then c else w) fun l xs => l.outCols (xs.headD 0)

/-- Output lines of each layer over a whole frame of n network lines and crops of c. -/
def Pkg.frameLines (g : Pkg) (n c : Nat) : List Nat :=
  walk g.layers (fun crop => if crop then c else n) fun l xs => l.outLines (xs.headD 0)

/-- Products of the vertical strides along every path to each layer's output (R175). -/
def Pkg.vProducts (g : Pkg) : List (List Nat) :=
  walk g.layers (fun _ => [1]) fun l xs => (xs.flatten.eraseDups).map (· * max 1 l.win.sy)

/-- S_l: product of the horizontal strides up to each layer (R220). -/
def Pkg.hStrides (g : Pkg) : List Nat := walk g.layers (fun _ => 1) fun l xs => greatest xs * max 1 l.win.sx

/-- Of each layer: the product of the vertical strides up to it, and its lag in network-domain lines along its deepest path
(R176). A layer of vertical stride sy lags by its reach in whole steps of sy (DEDUCED, log entry 40). -/
def Pkg.lags (g : Pkg) : List (Nat × Nat) :=
  walk g.layers (fun _ => (1, 0)) fun l xs =>
    (greatest (xs.map (·.1)) * max 1 l.win.sy,
     greatest (xs.map fun x => x.2 + x.1 * (l.reach / max 1 l.win.sy * max 1 l.win.sy)))

/-- L: the package's output lag (R176). -/
def Pkg.lag (g : Pkg) : Nat := (g.ofOutput (1, 0) g.lags).2

/-- Network lines of an ordinary stripe: H ÷ f (R175). -/
def Pkg.netHeight (g : Pkg) : Nat := g.height / max 1 g.fIn

/-- Output lines of an ordinary stripe. -/
def Pkg.netLines (g : Pkg) : Nat := g.netHeight / max 1 (g.ofOutput (1, 0) g.lags).1

/-- Columns of an output line of a stream. -/
def Pkg.outWidth (g : Pkg) (k : Nat) : Nat :=
  let w := (g.domain k).width
  g.ofOutput w (g.cols w 0)

/-- Channels of the output. -/
def Pkg.outChans (g : Pkg) : Nat := g.ofOutput (g.fIn * g.fIn) (g.layers.map (·.chOut))

/-- Output lines of each layer that are decided once n network lines of a frame have come (R176). -/
def Pkg.decidedLines (g : Pkg) (n : Nat) : List Nat :=
  walk g.layers (fun _ => n) fun l xs =>
    let m := xs.foldl min (xs.headD 0)
    if m ≤ l.reach then 0 else (m - 1 - l.reach) / max 1 l.win.sy + 1

/-- Output lines decided once n network lines of a frame have come; all of the frame's once its last has (R176). -/
def Pkg.decided (g : Pkg) (n : Nat) (ended : Bool) : Nat :=
  g.ofOutput n (if ended then g.frameLines n 0 else g.decidedLines n)

/-! ### Layer records (R173, R181, R186, R196, R199, R203, R210, R212) -/

/-- A layer is a pooling. -/
def Layer.pools (l : Layer) : Bool :=
  match l.op with
  | .maxPool | .minPool | .avgPool _ => true
  | _ => false

/-- Taps of an output position along one direction that lie inside an input of n (R174). -/
def insideTaps (n pad taps dil stride x : Nat) : Nat :=
  ((upto taps).filter fun t => decide (pad ≤ x * stride + t * dil) && decide (x * stride + t * dil < n + pad)).length

/-- n of an average at column x and line y of an input of w columns and h lines: KH × KW in AREA mode, the taps inside the input in
VALID mode (R187). -/
def Layer.divisor (l : Layer) (w h x y : Nat) : Nat :=
  if l.op = .avgPool true then
    insideTaps w l.win.padL l.win.kw l.win.dil l.win.sx x * insideTaps h l.win.padT l.win.kh l.win.dil l.win.sy y
  else l.win.kh * l.win.kw

/-- k of an average of n values: ceil(log2 n) (R187). -/
def avgK (n : Nat) : Nat := if n ≤ 1 then 0 else log2 (n - 1) + 1

/-- M of an average of n values; the shift beside it is 30 + k (R187). -/
def avgMult (n : Nat) : Nat := (rneDiv ((2 ^ (30 + avgK n) : Nat) : Int) n).toNat

/-- The average of n values of an integer format, whose sum is exact: a requantisation with M and 30 + k (R187). -/
def avgInt (fmt n : Nat) (xs : List Int) : Nat := (requant (xs.foldl (· + ·) 0) (avgMult n) (30 + avgK n) 0 fmt).v

/-- rne32(1 ÷ n). -/
def rneRecip (n : Nat) : Nat := (fenc 10 (.fin false (2 ^ 80 / max 1 n * 2 + b2n (2 ^ 80 % max 1 n != 0)) (-81))).v

/-- The average of n floating-point values, widened to FP32: the tree of R128 over 2^g positions, times rne32(1 ÷ n), rounded once
(R187). -/
def avgFloat (g n : Nat) (xs : List Nat) : Nat :=
  (fmul 10 (fenc 10 (fdec 10 (treeSum g (xs ++ List.replicate (2 ^ g - xs.length) 0)).1)).v (rneRecip n)).v

/-- Parameters within the ranges of R173: kernel, strides, dilation, padding, mode and groups. An ordinary convolution has its input
channels as c, which need not divide its output channels (DEDUCED, log entry 40). -/
def Layer.windowOk (l : Layer) : Bool :=
  let w := l.win
  let top := if l.pools then 8 else 4
  let within := fun (v hi : Nat) => decide (1 ≤ v) && decide (v ≤ hi)
  within w.kh 8 && within w.kw 8 && within w.sx top && within w.sy top && within w.dil 8 &&
    [w.padT, w.padB].all (fun p => decide (p ≤ min 15 ((w.kh - 1) * w.dil))) &&
    [w.padL, w.padR].all (fun p => decide (p ≤ min 15 ((w.kw - 1) * w.dil))) &&
    (w.mode != .min || l.op == .maxPool) &&
    (l.group == l.chIn || (l.chIn % max 1 l.group == 0 && l.chOut % max 1 l.group == 0)) && l.group != 0

/-- An argmax has at most 256 classes (R186). -/
def Layer.classesOk (l : Layer) : Bool :=
  match l.op with
  | .argmax n => decide (n ≤ 256)
  | _ => true

/-- The number of the first layer R173 or R186 refuses, for a band domain of w columns and crops of every declared size: a parameter,
an output of no columns, or a stride that does not divide the layer's input stripe height. -/
def Pkg.badLayer (g : Pkg) (w : Nat) : Option Nat :=
  let sizes := if g.cropSizes.isEmpty then [(0, 0)] else g.cropSizes
  let paths := walk g.layers (fun _ => ([1], [1])) fun l xs =>
    let p := (xs.flatMap (·.2)).eraseDups
    (p, p.map (· * max 1 l.win.sy))
  sizes.findSome? fun crop => ((List.zip (List.zip g.layers (g.cols w crop.1)) paths).find? fun x =>
    let l := x.1.1
    !l.windowOk || !l.classesOk || x.1.2 == 0 ||
      (!l.crop && x.2.1.any (fun p => g.netHeight / max 1 p % max 1 l.win.sy != 0))).map (·.1.1.number)

/-- Lines each layer yields in the closing stripe of a frame of many stripes (R173, R176): what a frame has, less what was decided
before its last stripe. -/
def Pkg.closingLines (g : Pkg) : List Nat :=
  let n := 1024 * g.netHeight
  (List.zip (g.frameLines n 0) (g.decidedLines (n - g.netHeight))).map fun x => x.1 - x.2

/-- The number of the first layer of stream work with more than 63 output lines in a stripe, closing stripes included (R173). -/
def Pkg.tallLayer (g : Pkg) : Option Nat :=
  ((List.zip g.layers g.closingLines).find? fun x => !x.1.crop && decide (63 < x.2)).map (·.1.number)

/-- For every output position along a direction of several taps at most one tap lies inside an input of n (R181). -/
def sparse (n pad taps dil stride out : Nat) : Bool :=
  decide (1 < taps) && (upto out).all fun x =>
    decide (((upto taps).filter fun t => decide (pad ≤ x * stride + t * dil) && decide (x * stride + t * dil - pad < n)).length ≤ 1)

/-- Layers the loader warns of (R181): along columns, or along the lines of a frame of n network lines (0: endless), for stream
work of w columns; for crop work at any of the declared sizes. A direction of one tap is not meant (DEDUCED, log entry 40). -/
def Pkg.warned (g : Pkg) (w n : Nat) : List Nat :=
  let sizes := if g.cropSizes.isEmpty then [(0, 0)] else g.cropSizes
  let inputs := fun (c : Nat × Nat) => walk g.layers (fun crop => if crop then (c, c) else ((w, n), (w, n))) fun l xs =>
    let i := (xs.headD ((0, 0), (0, 0))).2
    (i, (l.outCols i.1, if !l.crop && n == 0 then 0 else l.outLines i.2))
  (List.zip (upto g.layers.length) g.layers).filterMap fun x =>
    let l := x.2
    let hit := sizes.any fun c =>
      let v := at? ((0, 0), (0, 0)) (inputs c) x.1
      sparse v.1.1 l.win.padL l.win.kw l.win.dil l.win.sx v.2.1 ||
        ((l.crop || n != 0) && sparse v.1.2 l.win.padT l.win.kh l.win.dil l.win.sy v.2.2)
    if hit then some l.number else none

/-- A declared scale is positive and finite, and not subnormal (R196). -/
def scaleOk (v : Nat) : Bool := v < 2 ^ 31 && v / 2 ^ 23 != 0 && v / 2 ^ 23 != 255

/-- A tensor's scale, and its zero point within the code range of its format; 0 for the others (R196, R198). -/
def TensorDecl.ok (t : TensorDecl) : Bool :=
  scaleOk t.scale && (if t.fmt ≤ 5 then decide (intMin t.fmt ≤ t.zero) && decide (t.zero ≤ intMax t.fmt) else t.zero == 0)

/-- A codebook layer takes 8-bit activations with zero point 0, or FP16 activations (R199). -/
def Layer.bookOk (l : Layer) : Bool :=
  !isCbFmt l.wFmt || l.input.fmt == 8 || ([1, 2, 6, 7].contains l.input.fmt && l.input.zero == 0)

/-- Scales, an initial dynamic scale among them, zero points and codebook input of a layer (R196, R199, R203). -/
def Layer.scalesOk (l : Layer) : Bool :=
  l.input.ok && l.output.ok && l.wScales.all scaleOk && l.dyn.all (fun d => scaleOk d.s0) && l.bookOk

/-- A dynamic scale of a layer (R203): a format with zero point 0, 0 < σ_min ≤ σ_0 ≤ σ_max, stream work of an HX940 package. -/
def Layer.dynOk (l : Layer) (format : Nat) : Bool :=
  match l.dyn with
  | none => true
  | some d => decide (d.fmt ≤ 2) && l.output.zero == 0 && !l.crop && format != 1 &&
      decide (0 < d.sMin) && decide (d.sMin ≤ d.s0) && decide (d.s0 ≤ d.sMax) && decide (d.sMax < 0x7F800000)

/-- Outlier channels (R210): at most 8, distinct, within the input channels, and none on a codebook, microscaling or FP16 layer. -/
def Layer.outliersOk (l : Layer) : Bool :=
  l.outliers.isEmpty || (decide (l.outliers.length ≤ 8) && l.outliers.eraseDups.length == l.outliers.length &&
    l.outliers.all (fun c => decide (c < l.chIn)) &&
    [l.wFmt, l.input.fmt].all (fun f => f != 8 && !isCbFmt f && !isMxFmt f))

/-- A rotation record (R212): a block of 32 or 64 that divides the channels, on FP16 input. -/
def Layer.rotationOk (l : Layer) : Bool :=
  match l.op with
  | .rotation b _ => (b == 32 || b == 64) && l.chIn % b == 0 && l.input.fmt == 8
  | _ => true

/-- H of a rotation step: H_ij = (−1)^popcount(i AND j) (R212). -/
def hadamardNeg (i j : Nat) : Bool := ((upto 6).filter (fun b => bit i b && bit j b)).length % 2 == 1

/-- H as a weight tile of ±1.0: FP16 codes, row by row (R212). -/
def hadamardTile (b : Nat) : List Byte :=
  (upto b).flatMap fun i => (upto b).flatMap fun j => leBytes 2 (if hadamardNeg i j then 0xBC00 else 0x3C00)

/-! ### Resources (R158, R226, R227, R232) -/

/-- Accumulator tiles a layer needs (R226): `positions` are those of one crop. -/
def Layer.tiles (l : Layer) (batch positions : Nat) : Nat :=
  (if l.crop then 2 * cdiv (batch * positions) 32 else if l.spans then cdiv l.chOut 32 + 1 else 2) + (if l.fused then 2 else 0)

/-- Every layer's tiles are within the declared ACC_TILES, at most 16, and no fused intermediate exceeds 64 columns (R226, R227,
R232). -/
def Pkg.tilesOk (g : Pkg) : Bool :=
  let sizes := if g.cropSizes.isEmpty then [(0, 0)] else g.cropSizes
  decide (g.accTiles ≤ 16) && decide (g.cropAcc ≤ 16) && sizes.all fun c =>
    (List.zip g.layers (List.zip (g.cols 0 c.1) (g.frameLines 0 c.2))).all fun x =>
      decide (x.1.tiles g.cropB (x.2.1 * x.2.2) ≤ (if x.1.crop then g.cropAcc else g.accTiles)) &&
        (!x.1.fused || decide (x.1.chOut ≤ 64))

/-- Words [a, a + n) of a scratchpad lie in the enabled bank groups. -/
def Pkg.inGroups (g : Pkg) (a n : Nat) : Bool :=
  decide (a + n ≤ 12288) && (upto 4).all (fun i => !(decide (a < 3072 * (i + 1)) && decide (3072 * i < a + n)) || g.groups.contains i)

/-- Words of a ring's region (R158). -/
def RingDecl.words (r : RingDecl) : Nat := (r.count + r.mirror) * r.z

/-- Words a pixel of a layer's input takes (R106). -/
def Layer.inWords (l : Layer) : Nat := cdiv (l.chIn * fmtWidth l.input.fmt) 256

/-- Columns of a layer's input range in the widest band, one of BW_max with the input's halo (R220, R229). -/
def Pkg.widest (g : Pkg) (d : Domain) (l : Layer) : Nat :=
  let spans := (List.zip g.hStrides (d.halos ++ List.replicate g.layers.length (0, 0))).map fun x =>
    cdiv (d.bwMax - d.haloL - d.haloR) (max 1 x.1) + x.2.1 + x.2.2
  greatest (l.sees d.bwMax spans)

/-- G of a carry ring of slot size z: for each layer it serves and each column of the layer's input range in the widest band of any
stream ceil(c × WPR ÷ z) slots, with c = (KH − 1) × D (R229). -/
def Pkg.carrySlots (g : Pkg) (r : RingDecl) : Nat :=
  greatest (g.domains.map fun d => (r.serves.filterMap (g.layers[·]?)).foldl
    (fun a l => a + g.widest d l * cdiv ((l.win.kh - 1) * l.win.dil * l.inWords) (max 1 r.z)) 0)

/-- The first scratchpad word beyond a package's declared buffers and its other rings. -/
def Pkg.freeWord (g : Pkg) : Nat :=
  greatest (((g.buffers.filter (·.spad)).map fun b => cdiv (b.base + b.len) 32) ++
    (g.rings.filter (fun r => !r.carry || r.serves.isEmpty)).map fun r => r.base + r.words)

/-- The loader sizes and places the carry rings of a package (R229): COUNT 2G, one behind the other from the first free word (their
place is a DESIGN CHOICE, log entry 40). -/
def Pkg.sized (g : Pkg) : Pkg :=
  let step := fun (a : List RingDecl × Nat) (r : RingDecl) =>
    if r.carry && !r.serves.isEmpty then
      let q := { r with count := 2 * g.carrySlots r, base := a.2 }
      (a.1 ++ [q], a.2 + q.words)
    else (a.1 ++ [r], a.2)
  { g with rings := (g.rings.foldl step ([], g.freeWord)).1 }

/-- A ring's own limits (R158, R229, R232). -/
def RingDecl.ok (r : RingDecl) : Bool :=
  decide (r.ring < 16) && decide (1 ≤ r.z) && decide (r.z ≤ 8) && decide (1 ≤ r.count) && decide (r.count ≤ 4095) &&
    decide (r.mirror ≤ min 255 (r.count - 1)) && decide (r.window ≤ r.mirror + 1) && (!r.carry || r.count % 2 == 0)

/-- Two rings share no word and no number. -/
def RingDecl.apart (r q : RingDecl) : Bool :=
  r.ring != q.ring && (decide (r.base + r.words ≤ q.base) || decide (q.base + q.words ≤ r.base))

/-- Every two of a list of rings are apart. -/
def allApart : List RingDecl → Bool
  | [] => true
  | r :: t => t.all r.apart && allApart t

/-- The rings of R232. -/
def Pkg.ringsOk (g : Pkg) : Bool :=
  decide (g.rings.length ≤ 16) && g.rings.all (fun r => r.ok && g.inGroups r.base r.words) && allApart g.rings

/-- Scratchpad words of the package's resident set: its buffers and its rings. -/
def Pkg.footprint (g : Pkg) : Nat :=
  ((g.buffers.filter (·.spad)).map (fun b => cdiv b.len 32)).foldl (· + ·) 0 + (g.rings.map RingDecl.words).foldl (· + ·) 0

/-- The resident set fits the bank groups the package enables (R232). -/
def Pkg.residentOk (g : Pkg) : Bool :=
  decide (g.footprint ≤ 3072 * g.groups.length) && (g.buffers.filter (·.spad)).all (fun b => g.inGroups (b.base / 32) (cdiv b.len 32))

/-- Counters, barriers and signal counts of R232. -/
def Pkg.countersOk (g : Pkg) : Bool :=
  decide (g.cnts.length ≤ 32) && g.cnts.all (fun c => decide (c.1 < 32)) && decide (g.barriers.length ≤ 8) &&
    g.barriers.all (fun b => decide (b.1 < 8)) && g.signals.all (fun x => x.2.1 == x.2.2)

/-- The weight window's length in bytes (R259). -/
def windowBytes : Nat := 2 ^ 33

/-- Buffers of R232: alignment, whole words, and the weight set within the window or declared segmented. -/
def Pkg.buffersOk (g : Pkg) : Bool :=
  g.buffers.all (fun b => let n := if b.spad then 32 else 64
                          b.base % n == 0 && b.len % n == 0) && (g.segmented || decide (g.weights.2 ≤ windowBytes))

/-- A combination of R24. -/
def CombineOp.exact : CombineOp → Bool
  | .other => false
  | _ => true

/-- A counted effect is on the share's own core (R282). -/
def CountedEffect.own : CountedEffect → Bool
  | .xferCen b | .rput b | .csetAdd b => b

/-- A value clipped to [0, n]. -/
def clip (v : Int) (n : Nat) : Nat := min n v.toNat

/-- Computed columns of each layer for a band, from and to (R220). -/
def Pkg.ranges (g : Pkg) (d : Domain) (start width : Nat) : List (Nat × Nat) :=
  (List.zip (List.zip g.hStrides (g.cols d.width 0)) (d.halos ++ List.replicate g.layers.length (0, 0))).map fun x =>
    let s := max 1 x.1.1
    (clip ((start / s : Nat) - (x.2.1 : Int)) x.1.2, clip (cdiv (start + width) s + x.2.2 : Nat) x.1.2)

/-- For every layer of stream work the input columns of its output range lie within its input's computed range (R232). -/
def Pkg.haloOk (g : Pkg) (d : Domain) (start width : Nat) : Bool :=
  let ranges := g.ranges d start width
  let cols := g.cols d.width 0
  let input := (clip ((start : Nat) - (d.haloL : Int)) d.width, min d.width (start + width + d.haloR))
  (List.zip g.layers ranges).all fun x =>
    let l := x.1
    let lo := clip ((x.2.1 * l.win.sx : Nat) - (l.win.padL : Int)) 65535
    let hi := clip (((x.2.2 - 1) * l.win.sx + (l.win.kw - 1) * l.win.dil : Nat) - (l.win.padL : Int)) 65535
    l.crop || decide (x.2.2 ≤ x.2.1) ||
      (List.zip (l.sees input ranges) (l.sees d.width cols)).all fun y =>
        decide (y.1.1 ≤ min lo (y.2 - 1)) && decide (min hi (y.2 - 1) < y.1.2)

/-! ### Checks that need no state, in the order of the rules (R173-R212) -/

/-- A package's first failing check of its layer records: its code and layer number. Where H ÷ f + L exceeds 63 it is R176 that refuses,
with 0x0722, and not the lines of a layer (R173). -/
def Pkg.layerCode (g : Pkg) (k : Nat) : Option (Nat × Nat) :=
  let first := fun (ok : Layer → Bool) => (g.layers.find? (fun l => !ok l)).map (·.number)
  [(g.badLayer (g.domain k).width).map (Prod.mk 0x0720),
   (if g.netHeight + g.lag ≤ 63 then g.tallLayer else none).map (Prod.mk 0x0720), (first Layer.scalesOk).map (Prod.mk 0x0727),
   (first (Layer.dynOk · g.format)).map (Prod.mk 0x0726), if 16 < g.tensors.length then some (0x0726, 0) else none,
   (first Layer.outliersOk).map (Prod.mk 0x0724), (first Layer.rotationOk).map (Prod.mk 0x0725)].findSome? id

/-- Stripe height: a multiple of f and of the product of the vertical strides along every path of stream work, with at most 63 output lines in a
closing stripe (R175, R176). -/
def Pkg.heightOk (g : Pkg) : Bool :=
  g.height % max 1 g.fIn == 0 && ((List.zip g.layers g.vProducts).filter (fun x => !x.1.crop)).all (fun x => x.2.all fun p => g.height % max 1 p == 0) && decide (g.netHeight + g.lag ≤ 63)

/-- SETTLE and DIGEST_SEGMENTS (R324). -/
def Pkg.settleOk (g : Pkg) : Bool :=
  decide (cdiv (g.lag + 56) (max 1 g.netHeight) + g.tensors.length + 1 ≤ g.settle) && decide (g.settle ≤ 64) &&
    decide (1 ≤ g.segments) && decide (g.segments ≤ 128)

end Sys2Proof
end

