-- ==== Sys2Proof/Machine/Tiling.lean ====
section
/-! DEFINITION. Machine/Tiling.lean: bands, home cores, stream tables and band maps (R219-R223, R232, R234-R236). -/

namespace Sys2Proof.Machine

open Sys2Proof

/-! ### The tiling algorithm (R221) -/

/-- What R221 takes of one stream. -/
structure TileIn where
  stream : Nat
  width : Nat
  lp : Nat
  align : Nat
  halo : Nat
  bwMax : Nat
  deriving DecidableEq, Repr

/-- Weight of a stream. -/
def TileIn.weight (t : TileIn) : Nat := t.width * 2 ^ 24 / (if t.lp = 0 then 2 ^ 24 else t.lp)

/-- Cores scheduled: n of R221. -/
def scheduled (p : Part) (inServ : Nat) : Nat :=
  if p.cores = 128 then min 120 (inServ - 4) else min 60 (inServ - 2)

/-- The greatest remainder of a list not yet served; ties go to the lower index. -/
def bestRem (rem : List Nat) (given : List Nat) : Nat :=
  (upto rem.length).foldl (fun b i =>
    if given.contains i then b
    else if given.contains b ∨ at? 0 rem b < at? 0 rem i then i else b) 0

/-- Gives one core each to the streams of greatest remainder. -/
def giveLeft (rem : List Nat) : Nat → List Nat → List Nat → List Nat
  | 0, _, nk => nk
  | left + 1, given, nk =>
    let i := bestRem rem given
    giveLeft rem left (i :: given) (setAt nk i (at? 0 nk i + 1))

/-- The index of the largest element; ties go to the higher index. -/
def largest (l : List Nat) : Nat := (upto l.length).foldl (fun b i => if at? 0 l b ≤ at? 0 l i then i else b) 0

/-- No stream is left without a core. -/
def fillZeros : Nat → List Nat → List Nat
  | 0, nk => nk
  | fuel + 1, nk =>
    match nk.findIdx? (· == 0) with
    | none => nk
    | some k =>
      let j := largest nk
      fillZeros fuel (setAt (setAt nk j (at? 0 nk j - 1)) k 1)

/-- Cores of each stream (R221). -/
def coreShares (n : Nat) (ins : List TileIn) : List Nat :=
  let w := ins.map TileIn.weight
  let wt := max 1 (w.foldl (· + ·) 0)
  let nk := w.map (fun x => n * x / wt)
  let rem := w.map (fun x => n * x % wt)
  fillZeros ins.length (giveLeft rem (n - nk.foldl (· + ·) 0) [] nk)

/-- The bands of one stream: start and width (R221). -/
def bandsOf (t : TileIn) (nk : Nat) : List (Nat × Nat) :=
  let u := cdiv t.width (max 1 t.align)
  let m := min nk u
  let q := u / max 1 m
  let r := u % max 1 m
  (upto m).map fun i =>
    let start := (q * i + min i r) * t.align
    (start, min ((q + if i < r then 1 else 0) * t.align) (t.width - start))

/-- A tiling on n cores, or the code that refuses it (R221). -/
def tilingOn (n : Nat) (ins : List TileIn) : Nat ⊕ List (List (Nat × Nat)) :=
  if n < ins.length then .inl 0x0731
  else
    let b := (List.zip ins (coreShares n ins)).map (fun x => bandsOf x.1 x.2)
    if (List.zip ins b).any (fun x => x.2.any (fun y => decide (x.1.bwMax < y.2 + x.1.halo)) || decide (128 < x.2.length)) then
      .inl 0x0728
    else .inr b

/-- A tiling of the cores in service. -/
def tiling (p : Part) (inServ : Nat) (ins : List TileIn) : Nat ⊕ List (List (Nat × Nat)) := tilingOn (scheduled p inServ) ins

/-- n of the cost check at a load (R232). -/
def nominal (p : Part) : Nat := if p.cores = 128 then 120 else 60

/-! ### Home cores (R222) -/

/-- A core is IDLE or RUNNING, is not being retired, and its chain switch is open (R221, R257, R292). -/
def isOn (s : State) (c : Nat) : Bool :=
  present s c && (rd s R.CORE_STATE.STATE c == coreIdle || rd s R.CORE_STATE.STATE c == coreRunning) &&
    rd s R.CORE_CTRL.ROLE c != 2 && !bit (rd s R.DMA_ENG_CHAIN.BYPASS (c / 8)) (c % 8)

/-- A core counts as in service for R221: it is on and has passed its test set since it left OFF (R406). -/
def forWork (s : State) (c : Nat) : Bool := isOn s c && s.flt.passed.contains c

/-- A core that left OFF in service and has its test set still to pass (R406). -/
def untested (s : State) (c : Nat) : Bool := isOn s c && !s.flt.passed.contains c

/-- Cores in service, ascending. -/
def workers (s : State) : List Nat := (upto s.part.cores).filter (forWork s)

/-- Deals cores to bands in order. -/
def deal : List Nat → List (List (Nat × Nat)) → List (List Band)
  | _, [] => []
  | cs, b :: t => (List.zip b cs).map (fun x => ⟨x.1.1, x.1.2, x.2⟩) :: deal (cs.drop b.length) t

/-- A stream tiled by the part: enabled, with a package, and the lowest of its lock group. -/
def tiled (s : State) (k : Nat) : Bool := running s k && (strm s k).pkg.isSome && leader s k == k

/-- Streams the tiling covers, ascending. -/
def tiledStreams (s : State) : List Nat := (upto 32).filter (tiled s)

/-- The newest map of a stream. -/
def newestMap (x : Strm) : BandMap := (x.newMaps.getLast?).getD x.map

/-- A stream's inputs to R221, as its package declares them (R220). -/
def tileIn (s : State) (k : Nat) (p : Pkg) : TileIn :=
  let d := p.domain k
  ⟨k, d.width, lpOf s k, d.align, d.haloL + d.haloR, d.bwMax⟩

/-- The package a stream's next map is for: the one of a swap whose effect stripe stands, else its own (R222, R411). -/
def pkgAhead (x : Strm) : Option Pkg :=
  match x.swap with
  | some ⟨g, _, _, _, some _⟩ => some g
  | _ => x.pkg

/-- Inputs of every tiled stream. -/
def tileIns (s : State) : List TileIn :=
  (tiledStreams s).filterMap (fun k => (pkgAhead (strm s k)).map (tileIn s k))

/-- Every home core of a set of band lists. -/
def homesOf (l : List (List Band)) : List Nat := l.flatMap (fun b => b.map (·.home))

/-- A home core that left service gives way to the lowest spare (R222). -/
def replaceHomes (serv : List Nat) : List Nat → List (List Band) → List (List Band)
  | _, [] => []
  | used, b :: t =>
    let r := b.foldl (fun (a : List Band × List Nat) x =>
      if serv.contains x.home then (a.1 ++ [x], a.2)
      else match serv.find? (fun c => !a.2.contains c) with
        | some c => (a.1 ++ [{ x with home := c }], c :: a.2)
        | none => (a.1 ++ [x], a.2)) ([], used)
    r.1 :: replaceHomes serv r.2 t

/-- The band lists of a tiling: rebuilt where n, the streams or a band count changed, else with the cores that left
replaced (R222). -/
def bandLists (s : State) (ks : List Nat) (b : List (List (Nat × Nat))) : List (List Band) :=
  let serv := workers s
  let old := ks.map (fun k => (newestMap (strm s k)).bands)
  let same := rd s R.TILE_POOL.SCHEDULED 0 == scheduled s.part serv.length &&
    (List.zip old b).all (fun x => x.1.length == x.2.length && !x.1.isEmpty) &&
    (upto 32).all (fun k => ks.contains k || (newestMap (strm s k)).bands.isEmpty)
  if same then
    let shaped := (List.zip old b).map (fun x => (List.zip x.1 x.2).map (fun y => { y.1 with start := y.2.1, width := y.2.2 }))
    replaceHomes serv (homesOf old) shaped
  else deal serv b

/-! ### Tables in DRAM (R223) -/

/-- The stream table of a stream's placement, with its three shadow areas where it is the shadow's copy (R285). -/
def tableBytes (p : Place) (g : Pkg) (k : Nat) (shadow : Bool) : List Byte :=
  leBytes 4 p.input ++ leBytes 4 p.inputPitch ++ leBytes 4 (if shadow then p.shStaging else p.staging) ++
  leBytes 4 p.stagingPitch ++ leBytes 4 (if shadow then p.shCombine else p.combine) ++
  leBytes 4 (if shadow then p.shCrop else p.crop) ++ leBytes 2 (g.domain k).width ++ leBytes 1 g.height ++ leBytes 1 0 ++
  leBytes 4 p.decision ++ leBytes 2 g.decMax ++ leBytes 1 g.cropSlots ++ leBytes 29 0

/-- A band map (R223). -/
def mapBytes (m : BandMap) (prev : Nat) : List Byte :=
  leBytes 1 m.bands.length ++ leBytes 1 0 ++ leBytes 2 m.gen ++ leBytes 4 m.first ++ leBytes 4 prev ++ leBytes 4 0 ++
  m.bands.flatMap (fun b => leBytes 2 b.start ++ leBytes 2 b.width ++ leBytes 1 b.home ++ leBytes 3 0)

/-- The control complex writes a stream's tables (R223). -/
def writeTable (s : State) (p : Place) (g : Pkg) (k : Nat) : State :=
  { s with mem := memWrite (memWrite s.mem (p.table * 256) (tableBytes p g k false)) (p.shTable * 256) (tableBytes p g k true) }

/-- And a band map. -/
def writeMap (s : State) (m : BandMap) (prev : Nat) : State := { s with mem := memWrite s.mem (m.addr * 256) (mapBytes m prev) }

/-- Where a map of a generation lies. -/
def mapAddr (p : Place) (gen : Nat) : Nat := p.maps + 5 * (gen % 4)

/-! ### Costs (R232) -/

/-- Declared steps of a core's shares per stripe period. -/
def shareCost (g : Pkg) (width bands : Nat) : Nat := g.c0 + g.c1 * width + g.cb * cdiv g.cropMax (max 1 bands)

/-- The cost is within (1 − TARGET_SLACK) × SP × 1.6 G steps/s; a stream without deadlines has no bound (R380). -/
def costOk (s : State) (k : Nat) (g : Pkg) (b : List (Nat × Nat)) : Bool :=
  lpOf s k == 0 || b.all (fun x => decide (shareCost g x.2 b.length * 100 ≤
    (100 - rd s R.PIPE_PACE_CTRL.TARGET_SLACK 0) * (g.height * lpOf s k) * 16))

/-- The first check of R232 a stream's bands fail, beside their widths and cost: the halo, or the decision records of a block
(R393); 0 for none. -/
def bandsCode (g : Pkg) (k : Nat) (b : List (Nat × Nat)) : Nat :=
  if !b.all (fun x => g.haloOk (g.domain k) x.1 x.2) then 0x072F
  else if 2048 < g.decMax * (b.length + g.cropMax) then 0x072C
  else 0

/-! ### Re-tiling (R234, R235) -/

/-- The first stripe of a stream not yet dispatched. One that has begun counts as dispatched, a band of it that still waits under R231
too: such a band keeps the home core of its stripe's map (R234; DESIGN CHOICE, log entry 16). -/
def firstUndispatched (x : Strm) : Nat := ((x.stripes.find? (fun t => !t.begun)).map (·.no)).getD x.nextStripe

/-- TILE_POOL (R236). -/
def showPool (s : State) : State :=
  let serv := workers s
  let homes := homesOf ((tiledStreams s).map (fun k => (newestMap (strm s k)).bands))
  let s1 := wr s R.TILE_POOL.IN_SERVICE 0 serv.length
  let s2 := wr s1 R.TILE_POOL.SCHEDULED 0 (scheduled s.part serv.length)
  wr s2 R.TILE_POOL.POOL 0 (serv.filter (fun c => !homes.contains c)).length

/-- A spare: in service and in no band list (R222). -/
def isSpare (s : State) (c : Nat) : Bool :=
  forWork s c && !(homesOf ((tiledStreams s).flatMap (fun k =>
    (strm s k).map.bands :: (strm s k).newMaps.map (·.bands)))).contains c

/-- A stream's new map: in force from its first undispatched stripe, at least one stripe after a map that has not
committed its own; a pending swap's effect stripe where that is later, which opens an epoch, so that PREV is 0 (R223, R234, R235,
R411). -/
def newMapFor (s : State) (k : Nat) (bands : List Band) : State :=
  let x := strm s k
  let last := newestMap x
  if last.bands = bands then s
  else
    let f0 := firstUndispatched x
    let f1 := if x.newMaps.isEmpty then f0 else max f0 (last.first + 1)
    let e := x.swap.bind (·.eff)
    let f := max f1 (e.getD 0)
    let gen := if last.bands.isEmpty then last.gen else (last.gen + 1) % 65536
    let m : BandMap := ⟨bands, gen, f, mapAddr x.place gen⟩
    writeMap (modStrm s k fun x => { x with newMaps := x.newMaps ++ [m] }) m
      (if last.bands.isEmpty ∨ e = some f then 0 else last.addr)

/-- Cost check of a re-tiling: used anyway, and reported (R235, R272). -/
def noteCost (s : State) (k : Nat) (b : List (Nat × Nat)) : State :=
  match pkgAhead (strm s k) with
  | none => s
  | some g => if costOk s k g b then s else hit (note s 0x0730 k .reportOnly 0) R.STRM_TILE_STATUS.COST_OVER k

/-- A tiling's bands pass the other checks of R232 for every stream. -/
def bandsPass (s : State) (l : List (Nat × List (Nat × Nat))) : Bool :=
  l.all fun x => match pkgAhead (strm s x.1) with
    | some g => bandsCode g x.1 x.2 == 0
    | none => true

/-- A stream that is tiled no longer has no band list (R222); its stripes keep their maps. -/
def dropMap (x : Strm) : Strm := { x with map := { x.map with bands := [] }, newMaps := [] }

/-- The streams not among those tiled lose their band lists. -/
def dropMaps (s : State) (ks : List Nat) : State :=
  ((upto 32).filter (fun k => !ks.contains k && !(newestMap (strm s k)).bands.isEmpty)).foldl (fun s k => modStrm s k dropMap) s

/-- No valid tiling: a doubt; in a pair the cause of the yield that the stripes left without cores bring (R235, R325). -/
def noTiling (s : State) : State :=
  if paired s then
    (tiledStreams s).foldl (fun s k => modStrm s k fun x =>
      { x with stripes := x.stripes.map fun t => if t.committed || t.why != 0 then t else { t with why := 0x0731 } })
      (note s 0x0731 0 .localRepair 0)
  else report s 0x0731 0 0

/-- The tiling of the present core set and streams comes into each stream's maps (R234, R235). -/
def retile (s : State) : State :=
  let ks := tiledStreams s
  if ks.isEmpty then showPool (dropMaps s ks)
  else match tiling s.part (workers s).length (tileIns s) with
    | .inl _ => noTiling (showPool s)
    | .inr b =>
      if !bandsPass s (List.zip ks b) then noTiling (showPool s)
      else
        let lists := bandLists s ks b
        let s1 := (List.zip ks lists).foldl (fun s x => newMapFor s x.1 x.2) (dropMaps s ks)
        showPool ((List.zip ks b).foldl (fun s x => noteCost s x.1 x.2) s1)

/-- The set of cores in service has changed (R234). -/
def execRetiling (s : State) : Host.Outcome State Fault Refusal := ok (retile s)

end Sys2Proof.Machine
end

