-- ==== Sys2Proof/Machine/Replay.lean ====
section
/-! DEFINITION. Machine/Replay.lean: replays, events charged to cores, their remedies, retirement and operand captures
(R230, R278, R280, R281, R284, R288-R292).
Its conventions: DEDUCED, log entry 16. -/

namespace Sys2Proof.Machine

open Sys2Proof

/-! ### Shares of a stripe -/

/-- Whether a share is the band or the batch of an index. -/
def Share.isFor (h : Share) (crop : Bool) (idx : Nat) : Bool := h.crop == crop && h.idx == idx

/-- A share of a stripe. -/
def shareOf (t : Stripe) (crop : Bool) (idx : Nat) : Option Share := t.shares.find? (fun h => h.isFor crop idx)

/-- Replaces a share. -/
def putShare (t : Stripe) (h : Share) : Stripe :=
  { t with shares := t.shares.map (fun g => if g.isFor h.crop h.idx then h else g) }

/-- Changes a share of a stripe of a stream. -/
def modShare (s : State) (k n : Nat) (crop : Bool) (idx : Nat) (f : Share → Share) : State :=
  modStripe s k n fun t =>
    match shareOf t crop idx with
    | none => t
    | some h => putShare t (f h)

/-- Word 0 of a record shows DONE and neither ALARM nor FAULT (R279). -/
def cleanEnd (w : Nat) : Bool := bit w 0 && !bit w 1 && !bit w 2 && !bit w 6

/-- The latest attempt of a share has ended clean. -/
def Share.clean (h : Share) : Bool :=
  match h.atts.getLast? with
  | some ⟨_, _, some (w, _)⟩ => cleanEnd w
  | _ => false

/-- The latest attempt of a share has ended, whatever the outcome. -/
def Share.finished (h : Share) : Bool :=
  match h.atts.getLast? with
  | some ⟨_, _, some _⟩ => true
  | _ => false

/-- The share word's index of a descriptor (R223): crop work, and the band or the batch. -/
def descKey (d : Desc) : Bool × Nat := if bit d.s2 15 then (true, bits d.s2 20 12) else (false, bits d.s2 0 7)

/-! ### Operand captures (R288) -/

/-- Fragments of 1,024 bytes of a record, sent as CAPTURE datagrams (R433). -/
def sendFragments (s : State) (number off : Nat) (l : List Byte) : Nat → State
  | 0 => s
  | n + 1 => sendFragments (sendDatagram s 2 (leBytes 4 number ++ leBytes 4 off ++ l.take 1024)) number (off + 1024) (l.drop 1024) n

/-- The header and payload of a capture record (R288). -/
def captureBytes (code core kind stripe stream band pc word seed endTick : Nat) (payload : List Byte) : List Byte :=
  leBytes 2 code ++ leBytes 1 core ++ leBytes 1 kind ++ leBytes 4 stripe ++ leBytes 1 stream ++ leBytes 1 band ++
  leBytes 2 pc ++ leBytes 8 word ++ leBytes 4 seed ++ leBytes 4 endTick ++ leBytes 4 payload.length ++ leBytes 32 0 ++ payload

/-- A capture is taken, or dropped and counted where all eight records are held. -/
def capture (s : State) (core : Nat) (l : List Byte) : State :=
  if 8 ≤ s.flt.captures.length then bump s R.FLT_CNT_CAPTURE_DROP.COUNT 0
  else
    let n := s.flt.nextCapture
    let s1 := { s with flt := { s.flt with captures := s.flt.captures ++ [⟨n, l, cdiv l.length 1024⟩], nextCapture := n + 1 } }
    report (sendFragments s1 n 0 l (cdiv l.length 1024)) 0x0138 core n

/-! ### Replays (R280, R281) -/

/-- An idle spare. -/
def idleSpare (s : State) (c : Nat) : Bool := isSpare s c && (coreAt s c).run.isNone && (coreAt s c).next.isNone

/-- A spare whose work may be stopped for a replay: a shadow or a test slice (R280 step 3). -/
def softSpare (s : State) (c : Nat) : Bool :=
  isSpare s c && (coreAt s c).next.isNone && !(coreAt s c).ending &&
    (match (coreAt s c).run with
    | some d => decide (2 ≤ d.kind)
    | none => false)

/-- The core of a replay by steps 1 to 3 of R280, and whether it must be stopped first; one that waits takes the first spare that is
free, whatever it has run (step 4). -/
def pickSpare (s : State) (tried : List Nat) (waits : Bool) : Option (Nat × Bool) :=
  let cs := upto s.part.cores
  match cs.find? (fun c => idleSpare s c && !(tried.map (· / 8)).contains (c / 8)) with
  | some c => some (c, false)
  | none =>
    match cs.find? (fun c => idleSpare s c && !tried.contains c) with
    | some c => some (c, false)
    | none =>
      match cs.find? (softSpare s) with
      | some c => some (c, true)
      | none => if waits then (cs.find? (idleSpare s)).map (fun c => (c, false)) else none

/-- A shadow or a vote's third run that has not ended runs on a core. -/
def Shadow.runsOn (h : Shadow) (c : Nat) : Bool := (h.core == c && h.ended.isNone) || (h.third == some c && !h.thirdDone)

/-- The shadow, or a vote's third run, that a core runs is discarded and counted (R280 step 3, R285). A vote may still find another
third run (R286; DEDUCED, log entry 16). -/
def dropShadowOn (s : State) (c : Nat) : State :=
  if s.flt.shadows.any (·.runsOn c) then
    let l := (s.flt.shadows.filter (fun h => !(h.core == c && h.ended.isNone))).map fun h =>
      if h.third = some c ∧ !h.thirdDone then { h with third := none } else h
    bump { s with flt := { s.flt with shadows := l } } R.FLT_CNT_SHADOW_DROP.COUNT 0
  else s

/-- The slice on a core is discarded. -/
def dropSliceOn (s : State) (c : Nat) : State :=
  match s.flt.slice with
  | some t => if t.core = c then { s with flt := { s.flt with slice := none } } else s
  | none => s

/-- HEAD of a ring at its start in stripe n: a carry ring's next generation to be written is n mod 2, behind the lines it starts
with (R229, R40). -/
def ringStart (r : RingDecl) (n : Nat) : Nat :=
  let g := r.count / 2
  if r.carry then (n % 2 * g + 2 * g - r.fill) % max 1 (2 * g) else r.head

/-- The rings a package declares are set to their start values on a core for stripe n; the producer of a carry ring is the core
itself (R229, R281). -/
def openRings (s : State) (c n : Nat) (g : Pkg) : State :=
  g.rings.foldl (fun s r =>
    let put := fun (s : State) (x : Fld × Nat) => wr s (x.1.nth r.ring) c x.2
    setRingX ([(R.SPAD_RING_CFG0.BASE, r.base), (R.SPAD_RING_CFG0.SLOT_WM1, r.z - 1), (R.SPAD_RING_CFG0.EN, 1),
      (R.SPAD_RING_CFG1.COUNT, r.count), (R.SPAD_RING_CFG1.MIRROR, r.mirror),
      (R.SPAD_RING_CFG1.PRODUCER, if r.carry then c else r.producer), (R.SPAD_RING_CFG1.PKIND, if r.carry then 0 else r.pkind),
      (R.SPAD_RING_STATE.HEAD, ringStart r n), (R.SPAD_RING_STATE.FILL, r.fill)].foldl put s) c r.ring RingX.reset) s

/-- The counters a package declares are set to their start values on a core (R254, R281). -/
def openCnts (s : State) (c : Nat) (g : Pkg) : State := g.cnts.foldl (fun s n => setCnt s c n.1 n.2) s

/-- Both. -/
def resetRings (s : State) (c n : Nat) (g : Pkg) : State := openCnts (openRings s c n g) c g

/-! ### The fetch program of a replay (R281) -/

/-- The channel of a core's cluster that is to run a program: the lowest idle one, else the lowest with a free start slot. -/
def fetchChannel (s : State) (c : Nat) : Option Nat :=
  let cs := ((upto 4).map (c / 8 * 4 + ·)).filter s.part.hasChannel
  match cs.find? (fun ch => chState s ch == chIdle && (dmaCh s ch).run.isNone) with
  | some ch => some ch
  | none => cs.find? (fun ch => chState s ch != chHalted && chState s ch != chCancelling && (dmaCh s ch).next.isNone)

/-- A fresh start of the fetch program a package declares for a share of stripe t, on a channel of the cluster of core c (R281). Its
addresses are those of the input buffer's first line and of core 0: the biases carry it to the stripe's lines and to the core
(DESIGN CHOICE, log entry 40). -/
def startFetch (s : State) (t : Stripe) (g : Pkg) (crop : Bool) (idx c : Nat) : State :=
  match g.fetches.find? (fun f => f.crop == crop && f.idx == idx), fetchChannel s c with
  | some f, some ch =>
    let line := t.net % max 1 t.place.inputLines * t.place.inputPitch / 256
    goCh (([(R.DMA_CH_PROG.ADDR, f.prog), (R.DMA_CH_LEN.LEN, f.len), (R.DMA_CH_LEN.EVENT_TAG, f.tag), (R.DMA_CH_SRC_BIAS.BIAS, line),
      (R.DMA_CH_DST_BIAS.BIAS, 4096 * c), (R.DMA_CH_BUDGET.STEPS, f.budget)] ++
      (if (dmaCh s ch).run.isNone then [(R.DMA_CH_CRED.CRED, 0xFFFFFE)] else [])).foldl
      (fun (s : State) (x : Fld × Nat) => wr s x.1 ch x.2) s) ch
  | _, _ => s

/-- A share's carry source in its replay: the home core's ring; none, or a cold read, stay as they were (R230). -/
def replaySrc (s2 : Nat) : Nat := if bits s2 16 2 = 0 then setBits s2 16 2 1 else s2

/-- The replay's descriptor: KIND 1 and its carry source, all else as the original (R281). -/
def replayDesc (d : Desc) : Desc := { d with kind := 1, s2 := replaySrc d.s2 }

/-- A replay of a share of stripe t goes to a core, which is set to the package's start values and given the share's fetch program
first (R281). -/
def sendReplay (s : State) (k : Nat) (t : Stripe) (h : Share) (g : Pkg) (c : Nat) (stop : Bool) : State :=
  let n := t.no
  let s1 := if stop then dropSliceOn (dropShadowOn (stopShare s c) c) c else s
  let s2 := startFetch (resetRings s1 c n g) t g h.crop h.idx c
  let s3 := bump (offerDesc s2 c (replayDesc h.desc)) R.FLT_CNT_REPLAY.COUNT 0
  let s4 := modShare s3 k n h.crop h.idx fun h => { h with atts := h.atts ++ [⟨c, 1, none⟩], want := false }
  modStripe s4 k n fun t => { t with replayed := true }

/-- The latest attempt of a share of a stripe still held has not ended clean. -/
def unclean (s : State) (w : Writer) : Bool :=
  (((stripeOf (strm s w.stream) w.stripe).bind fun t => shareOf t w.crop w.idx).map fun h => !h.clean).getD false

/-- Shares that write again what was found spoilt come before a share: those of an earlier stripe of its stream, and for a crop
share those of its own stripe's bands (R275). -/
def writersFirst (s : State) (k n : Nat) (crop : Bool) : Bool :=
  s.flt.rewrites.any fun w => w.stream == k && (decide (w.stripe < n) || (w.stripe == n && !w.crop && crop)) && unclean s w

/-! ### Digests of a replayed share (R318-R320) -/

/-- Output columns of a segment of a stream's package: from and to. -/
def segColumns (g : Pkg) (k seg : Nat) : Nat × Nat :=
  let w := g.outWidth k / max 1 g.segments
  (seg * w, if seg + 1 = g.segments then g.outWidth k else (seg + 1) * w)

/-- A band covers part of a segment's columns; bands are counted in network columns of the stripe's whole width. -/
def coversSeg (g : Pkg) (k : Nat) (m : BandMap) (i seg : Nat) : Bool :=
  match m.bands[i]? with
  | none => false
  | some b =>
    let total := m.bands.foldl (fun a c => max a (c.start + c.width)) 0
    let c := segColumns g k seg
    decide (b.start * g.outWidth k < c.2 * total) && decide (c.1 * total < (b.start + b.width) * g.outWidth k)

/-- A digest covers a share's results: the bands over a segment, or a crop batch (0x8000 + index). -/
def coversShare (g : Pkg) (k : Nat) (t : Stripe) (seg : Nat) (crop : Bool) (idx : Nat) : Bool :=
  if 0x8000 ≤ seg then crop && idx == seg - 0x8000 else !crop && coversSeg g k t.map idx seg

/-- Digests already sent that cover a share whose results are computed anew are withdrawn (R317, R318); those a vote is open on
stand for its originals (R320). -/
def withdraw (s : State) (k n : Nat) (g : Pkg) (crop : Bool) (idx : Nat) : State :=
  match stripeOf (strm s k) n with
  | none => s
  | some t =>
    let l := (t.segs.map (·.1)).filter (fun seg => coversShare g k t seg crop idx && !t.votes.any (·.seg == seg))
    if t.committed || l.isEmpty then s
    else
      l.foldl (fun s seg => report (sendRecord s 4 k seg n t.epoch 0) 0x0C09 k seg)
        (modStripe s k n fun t => { t with segs := t.segs.filter (fun p => !l.contains p.1), ready := false })

/-- A replay is dispatched, or waits: for the shares that rewrite its data (R275), or for a spare, which is reported (R280). -/
def replay (s : State) (k n : Nat) (crop : Bool) (idx : Nat) : State :=
  match (stripeOf (strm s k) n).bind (fun t => (shareOf t crop idx).bind (fun h => t.pkg.map (fun g => (t, h, g)))) with
  | none => s
  | some (t, h, g) =>
    let s0 := withdraw s k n g crop idx
    if writersFirst s0 k n crop then modShare s0 k n crop idx fun h => { h with want := true }
    else match pickSpare s0 (h.atts.map (·.core)) h.want with
    | some (c, stop) => sendReplay s0 k t h g c stop
    | none =>
      if h.want then s0
      else bump (report (modShare s0 k n crop idx fun h => { h with want := true }) 0x0D0D k n) R.FLT_CNT_POOL_WAIT.COUNT 0

/-- The first fault of a stripe that no replay repairs is kept, as the cause of a yield (R323, R325). -/
def noteWhy (s : State) (k n code : Nat) : State :=
  modStripe s k n fun t => if t.why = 0 then { t with why := code } else t

/-- The core a share's latest attempt runs on; none once it has ended or before it starts. -/
def runningOn (s : State) (w : Writer) : Option Nat :=
  match ((stripeOf (strm s w.stream) w.stripe).bind fun t => shareOf t w.crop w.idx).bind fun h => h.atts.getLast? with
  | some ⟨c, _, none⟩ =>
    match (coreAt s c).run with
    | some d => if d.kind ≤ 1 ∧ d.stream = w.stream ∧ d.stripe = w.stripe ∧ descKey d = (w.crop, w.idx) then some c else none
    | none => none
  | _ => none

/-- A share that has ended clean, of a stripe not yet committed. -/
def endedClean (s : State) (w : Writer) : Bool :=
  match (stripeOf (strm s w.stream) w.stripe).bind fun t => (shareOf t w.crop w.idx).map fun h => (t, h) with
  | some (t, h) => !t.committed && h.clean
  | none => false

/-- A share of a flow-through stripe, whose alarm brings no replay: its output leaves as it has landed, with the error flag on every
line of the stripe (R278, R284). An attempt that has not ended counts as ended here with ABORTED. -/
def flagShare (s : State) (w : Writer) : State :=
  modShare s w.stream w.stripe w.crop w.idx fun h =>
    { h with atts := h.atts.map fun a => { a with fin := some (orBit ((a.fin.map (·.1)).getD 64) 1, (a.fin.map (·.2)).getD 0) } }

/-- A share whose data is found spoilt is replayed, but for one of a flow-through stripe (R278, R280, R284). -/
def mendShare (s : State) (w : Writer) : State :=
  if ((stripeOf (strm s w.stream) w.stripe).map (·.flow)).getD false then flagShare s w else replay s w.stream w.stripe w.crop w.idx

/-- The control complex alarms a share whose data a check outside it has found spoilt (R264, R268, R275, R280): one that
runs carries the alarm into its record, one that has ended is replayed, or flagged under flow-through. -/
def alarmShare (s : State) (w : Writer) : State :=
  match runningOn s w with
  | some c => modCore s c fun k => { k with alarm := true }
  | none => if endedClean s w then mendShare s w else s

/-- A stripe's staging is being written again (R275). -/
def restaging (s : State) (k n : Nat) : Bool := s.flt.rewrites.any fun w => w.stream == k && w.stripe == n && unclean s w

/-- A waiting replay: its commit deadline, stream, stripe, and share. -/
structure Waiting where
  due : Nat
  stream : Nat
  stripe : Nat
  crop : Bool
  idx : Nat
  deriving DecidableEq, Repr

/-- Every replay that waits for a spare, and for nothing else. -/
def waitingReplays (s : State) : List Waiting :=
  (upto 32).flatMap fun k => (strm s k).stripes.flatMap fun t =>
    (t.shares.filter (fun h => h.want && !writersFirst s k t.no h.crop)).map fun h => ⟨t.t0 + 2 * spOf' s k, k, t.no, h.crop, h.idx⟩

/-- The one served first: earliest commit deadline, then lower stream, then lower band (R280). -/
def firstWaiting : List Waiting → Option Waiting
  | [] => none
  | a :: t =>
    match firstWaiting t with
    | none => some a
    | some b => if b.due < a.due ∨ (b.due = a.due ∧ (b.stream < a.stream ∨ (b.stream = a.stream ∧ b.idx < a.idx))) then some b
      else some a

/-- Serves the waiting replays while a spare is free. -/
def serveWaiting : Nat → State → State
  | 0, s => s
  | fuel + 1, s =>
    match firstWaiting (waitingReplays s) with
    | none => s
    | some w => if (pickSpare s [] true).isNone then s else serveWaiting fuel (replay s w.stream w.stripe w.crop w.idx)

/-! ### Events, remedies and retirement (R289-R292) -/

/-- The core enters SUSPECT's remedy (R291): an island raise, a margin widening, or none. -/
def remedy (s : State) (c : Nat) : State :=
  let cl := c / 8
  let steps := R.PIPE_ISLAND.SUSPECT_STEPS.nth cl
  if rd s steps 0 < 3 ∧ rd s (R.PIPE_ISLAND.OUT_MV.nth cl) 0 + 20 ≤ 825 then
    showIslands (wr s steps 0 (rd s steps 0 + 1))
  else if rd s R.CLU_MARGIN.SUSPECT cl < 3 ∧ rd s R.CLU_MARGIN.EFFECTIVE cl < 7 then widenMargin s c
  else report s 0x010B c 0

/-- The queued share a retirement discards is dispatched as a replay on a spare (R292). -/
def replayDiscarded (s : State) : Option Desc → State
  | none => s
  | some d => if d.kind ≤ 1 then replay s d.stream d.stripe (descKey d).1 (descKey d).2 else s

/-- A core is retired: it leaves SUSPECT, and the retirement is recorded (R290, R292, R344). -/
def retire (s : State) (c : Nat) : State :=
  let q := (coreAt s c).next
  let s1 := wr (modRec s c fun r => { r with retireTime := calNow s, retirePowered := s.life.now.powered }) R.CORE_STATE.SUSPECT c 0
  report (retile (replayDiscarded (writeRole s1 c 2) q)) 0x0136 c 0

/-- An event of a code is charged to a core, in a share of a kind and stripe (R289, R290, R344). -/
def charge (s : State) (c code kind stripe : Nat) : State :=
  let e := rd s R.CORE_EVENTS.COUNT c
  let s0 := bump (quietRestart s c) R.FLT_CNT_EVENTS.COUNT 0
  let s1 := wr (recordEvent s0 c code kind stripe) R.CORE_EVENTS.HOURS_QUIET c 0
  if e = 0 then wr s1 R.CORE_EVENTS.COUNT c 1
  else if e = 1 then
    let s2 := modRec s1 c fun r => { r with suspicions := r.suspicions + 1 }
    report (remedy (wr (wr s2 R.CORE_EVENTS.COUNT c 2) R.CORE_STATE.SUSPECT c 1) c) 0x0135 c 0
  else if rd s R.CORE_CTRL.ROLE c = 2 then s1 else retire s1 c

/-- A further row of a core has failed in a bank with no usable spare left: 0x0206, and the core is handed to retirement (R168, R172,
R292). -/
def settleSpares (s : State) (c : Nat) : State :=
  if (coreAt s c).spareless then
    let s1 := coreReport (modCore s c fun k => { k with spareless := false }) c 0x0206
    if rd s R.CORE_CTRL.ROLE c = 2 then s1 else retire s1 c
  else s

/-- The cores that run no share hand over what their failed rows have cost them (R168). -/
def settleSpareless (s : State) : State :=
  ((s.cores.filter (fun e => e.2.spareless && e.2.run.isNone)).map (·.1)).foldl settleSpares s

/-- SPAD_REMAP (R168, R171): a refused one gives 0x0207. -/
def execSpadRemap (w : Wr) (s : State) : Host.Outcome State Fault Refusal :=
  ok (gate s w R.SPAD_REMAP.reg 0 fun s c =>
    let bank := bits w.val 0 5
    let row := bits w.val 8 9
    let e := bits w.val 24 3
    let ix := mapIx bank e
    if !bit w.val 31 then s
    else if isSet s (R.SPAD_ROWMAP.VALID.nth ix) c ∨ isSet s (R.SPAD_ROWMAP.SPARE_BAD.nth ix) c ∨ 384 ≤ row ∨
        groupState s c (row / 96) ≠ 2 ∨ isSet s R.SPAD_PWR_STATUS.REMAP_BUSY c then
      coreRefuse s c 0x0207 0
    else modCore (wr s R.SPAD_PWR_STATUS.REMAP_BUSY c 1) c fun k => { k with remap := some ⟨bank, row, e, 0⟩ })

/-- Codes of a share that charge an event to the core it ran on (R289). -/
def chargesEvent (code : Nat) : Bool :=
  [0x0101, 0x0102, 0x0103, 0x0104, 0x0106, 0x0204, 0x020A].contains code

/-- Codes on which an operand capture is taken of the share itself (R288). -/
def capturesOperands (code : Nat) : Bool := [0x0101, 0x0102, 0x0103, 0x0104].contains code

/-! ### Carry of a replay (R230, R231) -/

/-- HEAD and FILL of a package's carry rings on a core, FILL 0 or G: the next generation to be read, or where none is, to be
written, is n mod 2. -/
def placeCarry (s : State) (home n : Nat) (full : Bool) (g : Pkg) : State :=
  g.carry.foldl (fun s r =>
    wr (wr (setRingX s home r.1 RingX.reset) (R.SPAD_RING_STATE.HEAD.nth r.1) home (n % 2 * r.2))
      (R.SPAD_RING_STATE.FILL.nth r.1) home (if full then r.2 else 0)) s

/-- After a clean replay of stripe n the control complex sets the home core's carry rings: HEAD g × G and FILL G, with
g = n mod 2 (R230). -/
def setCarry (s : State) (home n : Nat) (g : Pkg) : State := placeCarry s home n true g

/-- A home core whose share ended with an alarm takes shares of the stream again: its declared rings and counters are rewritten,
its carry rings as after stripe n (R231, R281). -/
def restoreHome (s : State) (k home n : Nat) (g : Pkg) : State :=
  modStrm (setCarry (resetRings s home n g) home n g) k fun x => { x with alarmed := x.alarmed.erase home }

/-- A word of a core's carry rings of a generation is poisoned or has a bad parity bit. -/
def carrySpoilt (s : State) (home gen : Nat) (g : Pkg) : Bool :=
  (g.rings.filter (·.carry)).any fun r =>
    let n := r.count / 2 * r.z
    let w := r.base + gen % 2 * n
    spPoison s home w n || spParity s home w n

/-- The home cores of the map in force before a stripe's own: those a first stripe of a tiling reads (R230, R235). -/
def homesBefore (x : Strm) (t : Stripe) : List Nat :=
  (((x.oldMaps.filter (fun m => decide (m.first < t.map.first))).getLast?).map (fun m => m.bands.map (·.home))).getD []

/-- The carry a band's replay reads is spoilt: of its home core, or at the first stripe of a tiling of a home of the map before
(R230, R235). -/
def carryUnreadable (s : State) (k : Nat) (t : Stripe) (src home : Nat) (g : Pkg) : Bool :=
  let homes := if src = 1 then [home] else if src = 2 then homesBefore (strm s k) t else []
  homes.any fun c => carrySpoilt s c (t.no + 1) g

end Sys2Proof.Machine
end

