-- ==== Sys2Proof/Machine/Dram.lean ====
section
/-! DEFINITION. Machine/Dram.lean: device reads and writes of agents outside the cores, DRAM errors, and the answer of an
XFER read (R26, R28, R137, R262, R275, R382).
Its conventions: DEDUCED, log entry 17. -/

namespace Sys2Proof.Machine

open Sys2Proof

/-! ### Device addresses, the host window among them (R27, R382) -/

/-- Translation entry of a host-window address, and the host address it is sent to. -/
def xlat (s : State) (a : Nat) : Nat × Nat :=
  let e := (a - 0x8000000000) / 2 ^ 32
  let lo := rd s (R.PCIE_XLAT_LO.BASE.nth e) 0 * 4096
  (e, rd s (R.PCIE_XLAT_HI.BASE.nth e) 0 * 2 ^ 32 + lo + (a - 0x8000000000) % 2 ^ 32)

/-- A device access of n bytes is no address error; through the host window its entry must be valid (R382). -/
def busOk (s : State) (a n : Nat) : Bool :=
  devOk s a n && (!inHostWin a || isSet s (R.PCIE_XLAT_LO.VALID.nth (xlat s a).1) 0)

/-- Reads n bytes of a device address, with their poison; data of a scratchpad that fails its parity leaves poisoned
(R167). -/
def busRead (s : State) (a n : Nat) : List Byte × Bool :=
  if inHostWin a then (memBytes s.hostMem (xlat s a).2 n, false)
  else (memBytes s.mem a n, parityBad s a n || (upto (cdiv (a % 32 + n) 32)).any (fun i => poisoned s (a + 32 * i)))

/-- The 32-byte words of n bytes from a device address that leave poisoned: a stored poison bit, or a scratchpad parity error
(R152, R167). -/
def busBad (s : State) (a n : Nat) : List Nat :=
  if inHostWin a then []
  else (upto (cdiv (a % 32 + n) 32)).filter (fun i => poisoned s (a + 32 * i) || tget 0 s.parErr (a / 32 + i) != 0)

/-- Words of a write at a device address are poisoned (R26); host memory holds no poison. -/
def poisonWords (s : State) (a : Nat) (l : List Nat) : State :=
  if inHostWin a then s else { s with poison := l.foldl (fun t i => tset false t (a / 32 + i) true) s.poison }

/-- A read in slot 6 or 7 that fails its parity is reported at the core that owns the words (R167). -/
def noteParity (s : State) (a n : Nat) : State :=
  match spOf s a with
  | some (c, w) => if parityBad s a n then coreReport (noteRows s c w (cdiv (a % 32 + n) 32)) c 0x0204 else s
  | none => s

/-- Writes bytes at a device address. -/
def busWrite (s : State) (a : Nat) (data : List Byte) (p : Bool) : State :=
  if inHostWin a then { s with hostMem := memWrite s.hostMem (xlat s a).2 data } else devWrite s a data p

/-! ### DRAM errors (R275) -/

/-- DRAM channel of an address (R396). -/
def dramChannel (a : Nat) : Nat := a / 256 % 8

/-- One 0x0303, 0x0420 or 0x0423 on a DRAM channel counts; the fourth within 1 s declares the channel failed. -/
def dramCount (s : State) (a : Nat) : State :=
  let ch := dramChannel a
  let recent := (ch, s.tick) :: s.flt.dramErrs.filter (fun e => decide (s.tick < e.2 + 100000000))
  let s2 := { s with flt := { s.flt with dramErrs := recent } }
  if 4 ≤ (recent.filter (fun e => e.1 == ch)).length ∧ !s.flt.dramFailed.contains ch then
    report { s2 with flt := { s2.flt with dramFailed := ch :: s2.flt.dramFailed } } 0x0422 ch 0
  else s2

/-- A parity error of DRAM is reported and counted. -/
def dramError (s : State) (a code : Nat) : State := dramCount (report s code (dramChannel a) (a / 256)) a

/-- The shares that wrote spoilt data are replayed; the replays of the shares that read it wait for them (R275). -/
def replayWriters (s : State) (l : List Writer) : State :=
  l.foldl (fun s w => replay { s with flt := { s.flt with rewrites := w :: s.flt.rewrites.filter (fun v => v != w && unclean s v) } }
    w.stream w.stripe w.crop w.idx) s

/-- What an answer to a read of DRAM or elsewhere reports, and the words its data is poisoned in. -/
def takeAnswer (s : State) (a : Nat) : Answer → State × List Nat
  | .good => (s, [])
  | .poisoned l => (s, l)
  | .error => (s, [])
  | .refetched second => takeAnswer (report s 0x0421 (dramChannel a) (a / 256)) a second
  | .parity l ws => (replayWriters (dramError s a 0x0420) ws, l)
  | .input l => (dramError s a 0x0423, l)

/-- An answer, or the one of the second read that decides, is an error status. -/
def answerFailed : Answer → Bool
  | .error => true
  | .refetched second => answerFailed second
  | _ => false

/-- An answer, or the one of the second read that decides, is an uncorrectable error of an input buffer. -/
def answerInput : Answer → Bool
  | .input _ => true
  | .refetched second => answerInput second
  | _ => false

/-! ### XFER reads -/

/-- The i-th unanswered XFER read ends with an error status: 0x0114, and the register stays. -/
def failRead (s : State) (core index : Nat) : State :=
  match (coreAt s core).reads[index]? with
  | none => s
  | some r =>
    shareEvent (modCore s core fun k => { k with reads := dropAt k.reads index }) core 0x0114 r.pc r.seq

/-- The data of the i-th unanswered XFER read arrives: an error status or a timeout alarms with 0x0114 and leaves the
register; poisoned data is written and alarms with 0x0401 (R26, R137). -/
def execXferReadResponse (core index : Nat) (how : Answer) (s : State) : Host.Outcome State Fault Refusal :=
  match (coreAt s core).reads[index]? with
  | none => ok s
  | some r =>
    if answerFailed how ∨ !devOk s r.addr (32 * r.words) then ok (failRead (takeAnswer s r.addr how).1 core index)
    else
      let d := busRead s r.addr (32 * r.words)
      let s1 := modCore (noteParity s r.addr (32 * r.words)) core fun k => setV { k with reads := dropAt k.reads index } r.vd ⟨leNat d.1, false, false⟩
      let t := takeAnswer s1 r.addr how
      let s2 := match (coreAt s core).run with
        | some d => if answerInput how ∧ d.kind ≤ 1 then noteWhy t.1 d.stream d.stripe 0x0423 else t.1
        | none => t.1
      ok (if d.2 || t.2.any (fun i => decide (i < r.words)) then shareEvent s2 core 0x0401 r.pc r.seq else s2)

end Sys2Proof.Machine
end

