-- ==== Sys2Proof/Machine/Dma.lean ====
section
/-! DEFINITION. Machine/Dma.lean: DMA channels: their programs, halts, cancels and every instruction but the transfers
(R238-R240, R243-R249, R262-R266).
Its conventions: DEDUCED, log entry 17. -/

namespace Sys2Proof.Machine

open Sys2Proof

/-! ### Completion records and halts (R247, R262-R264) -/

/-- Posts a completion record: bit 0 DONE, 1 HALTED or 2 CANCELLED of `outcome`. -/
def postRecord (s : State) (c outcome : Nat) : State :=
  let d := dmaCh s c
  let tag := (d.run.map (·.tag)).getD 0
  let ws := [outcome + 8 * b2n d.poison + d.code * 65536, c % 128 + tag * 65536, d.steps, d.words, d.pc % 4096, s.tick % word32, 0, 0]
  emit { s with dmaRecs := tset [] s.dmaRecs c ws } (.toControl 2 c tag)

/-- Position registers of a halt (R264). -/
def savePos (s : State) (c : Nat) : State :=
  let d := dmaCh s c
  let s1 := wr (wr s R.DMA_CH_POS.PC c d.pc) R.DMA_CH_POS.DEPTH c d.loops.length
  let s2 := (upto 4).foldl (fun s i => wr s (R.DMA_CH_ITER.ITER.nth i) c ((d.loops[i]?).map (·.iter) |>.getD 0)) s1
  wr s2 R.DMA_CH_OFFSET.OFFSET c d.offset

/-- The fault registers show a code, a cause and the failing address; the record keeps the first code (R247, R269). -/
def noteFault (s : State) (c code cause addr : Nat) : State :=
  let s1 := modDma s c fun d => { d with code := if d.code = 0 then code else d.code }
  let s2 := wr (wr s1 R.DMA_CH_FAULT.CODE c code) R.DMA_CH_FAULT.CAUSE c cause
  wr (wr s2 R.DMA_CH_FAULT_ADDR_LO.ADDR c addr) R.DMA_CH_FAULT_ADDR_HI.ADDR c (addr / 2 ^ 32)

/-- A channel halts with a code, a cause and the failing address (R264). One that is halted already cannot be resumed after a
further fault; one being cancelled goes on with its cancel. -/
def haltCh (s : State) (c code cause addr : Nat) : State :=
  let s0 := noteFault s c code cause addr
  if chState s c = chHalted then report (wr s0 R.DMA_CH_STATE.RESUMABLE c 0) code c (addr / 256)
  else if chState s c = chCancelling then report s0 code c (addr / 256)
  else
    let s1 := setChState (modDma s0 c fun d => { d with wait := none }) c chHalted
    let s2 := savePos (wr s1 R.DMA_CH_STATE.RESUMABLE c (b2n (cause == 6))) c
    postRecord (report (bump s2 R.DMA_CH_CNT_HALTS.COUNT c) code c (addr / 256)) c 2

/-! ### Fetching (R240, R263) -/

/-- Device address of the instruction at the program counter. -/
def instrAt (st : DmaStart) (pc : Nat) : Nat := st.prog * 256 + 32 * pc

/-- The instruction at the program counter: 256 bits, Q0 lowest. -/
def dmaInstr (s : State) (st : DmaStart) (pc : Nat) : Nat := memLE s.mem (instrAt st pc) 32

/-- A program word lies in DRAM or in a usable scratchpad word (R28, R240). -/
def fetchOk (s : State) (a : Nat) : Bool := devOk s a 32 && !inHostWin a

/-- Every bit outside the listed fields (low bit and width) is zero. -/
def onlyBits (w : Nat) (l : List (Nat × Nat)) : Bool := l.foldl (fun w f => setBits w f.1 f.2 0) w == 0

/-- The step budget; 0 means 2^32. -/
def budgetOf (st : DmaStart) : Nat := if st.budget = 0 then word32 else st.budget

/-- Counts one step of a channel. -/
def countStep (s : State) (c : Nat) : State :=
  bump (modDma s c fun d => { d with steps := d.steps + 1 }) R.DMA_CH_CNT_STEPS.COUNT c

/-- Runs a running channel's present instruction where `is` accepts it: a fetch beyond the program or at an address that does not
exist, a parity error in the word (`bad`, or one its scratchpad holds) and an exhausted budget halt it; its step is counted once. -/
def dmaIssue (s : State) (c : Nat) (bad : Bool) (is : Nat → Bool) (f : State → DmaStart → Nat → State) : State :=
  let d := dmaCh s c
  match d.run with
  | none => s
  | some st =>
    if chState s c ≠ chRunning then s
    else if st.len ≤ d.pc then haltCh s c 0x0304 0 0
    else if !fetchOk s (instrAt st d.pc) then haltCh s c 0x0302 0 (instrAt st d.pc)
    else if bad ∨ !(busBad s (instrAt st d.pc) 32).isEmpty then
      haltCh (noteParity s (instrAt st d.pc) 32) c 0x030B 0 (instrAt st d.pc)
    else
      let w := dmaInstr s st d.pc
      if !is w then s
      else if d.begun then f s st w
      else if budgetOf st ≤ d.steps then haltCh s c 0x0305 0 0
      else f s st w

/-- The instruction's step, before its effect. -/
def beginStep (s : State) (c : Nat) : State :=
  if (dmaCh s c).begun then s else countStep (modDma s c fun d => { d with begun := true }) c

/-- On to the next instruction. -/
def nextInstr (d : DmaCh) : DmaCh := 
  { d with pc := d.pc + 1, offset := 0, sub := 0, begun := false, asked := 0, index := [], ring := none }

/-- The instruction takes effect and the channel goes on. -/
def stepOn (s : State) (c : Nat) (f : DmaCh → DmaCh) : State := modDma (beginStep s c) c fun d => nextInstr (f d)

/-- The channel waits. -/
def waitOn (s : State) (c : Nat) (w : DmaWait) : State :=
  setChState (modDma (beginStep s c) c fun d => { d with wait := some (w, s.tick) }) c chWaiting

/-- Opcode of an instruction. -/
def dmaOp (w : Nat) : Nat := bits w 0 4

/-! ### Loops (R243) -/

/-- LOOP. -/
def execDmaLoop (channel : Nat) (bad : Bool) (s : State) : Host.Outcome State Fault Refusal :=
  ok (dmaIssue s channel bad (fun w => dmaOp w == 3) fun s _ w =>
    let n := bits w 8 24
    if !onlyBits w [(0, 4), (8, 24), (64, 40), (128, 40)] ∨ n = 0 ∨ 4 ≤ (dmaCh s channel).loops.length then
      haltCh s channel 0x0304 0 0
    else stepOn s channel fun d => { d with loops := d.loops ++ [⟨d.pc + 1, n, 0, bits w 64 40, bits w 128 40⟩] })

/-- ENDLOOP: back to the start of the body, or on. -/
def execDmaEndloop (channel : Nat) (bad : Bool) (s : State) : Host.Outcome State Fault Refusal :=
  ok (dmaIssue s channel bad (fun w => dmaOp w == 4) fun s _ w =>
    match (dmaCh s channel).loops.getLast? with
    | none => haltCh s channel 0x0304 0 0
    | some l =>
      if !onlyBits w [(0, 4)] then haltCh s channel 0x0304 0 0
      else if l.iter + 1 < l.n then
        stepOn s channel fun d => { d with pc := l.start - 1, loops := d.loops.dropLast ++ [{ l with iter := l.iter + 1 }] }
      else stepOn s channel fun d => { d with loops := d.loops.dropLast })

/-! ### Effective addresses (R248) -/

/-- The loops' part of an address. -/
def strides (l : List DmaLoop) (f : DmaLoop → Nat) : Int := l.foldl (fun a p => a + p.iter * sext 40 (f p)) 0

/-- Source address or weight-space offset. -/
def dmaSrc (d : DmaCh) (st : DmaStart) (src : Nat) (seg : Bool) : Nat :=
  wrap 40 (src + (if seg then 0 else st.srcBias * 256 : Nat) + strides d.loops (·.sstr))

/-- Destination address. -/
def dmaDst (d : DmaCh) (st : DmaStart) (dst : Nat) : Nat := wrap 40 (dst + (st.dstBias * 256 : Nat) + strides d.loops (·.dstr))

/-- Alignment an address asks for: 32 bytes in a scratchpad, 64 in DRAM and the host window (R249). -/
def alignAt (a : Nat) : Nat := if 0xF000000000 ≤ a then 32 else 64

/-- A channel of a cluster names the host window (R249). -/
def foreign (c a : Nat) : Bool := decide (c < 64) && inHostWin a

/-! ### WAIT and SIGNAL (R244, R245) -/

/-- Every piece of the running program is acknowledged, every result of its checks written and every SIGNAL sent. -/
def drained (d : DmaCh) : Bool := d.pieces.all (·.dropped) && d.signals.isEmpty && d.stores.isEmpty

/-- WAIT DRAIN; reserved kinds of WAIT are program errors. -/
def execDmaWaitDrain (channel : Nat) (bad : Bool) (s : State) : Host.Outcome State Fault Refusal :=
  ok (dmaIssue s channel bad (fun w => dmaOp w == 5 && bits w 4 2 != 1) fun s _ w =>
    if !onlyBits w [(0, 4)] then haltCh s channel 0x0304 0 0
    else if drained (dmaCh s channel) then stepOn s channel id
    else waitOn s channel .drain)

/-- The credit base takes the target of a relative wait that has ended. -/
def takeCredit (s : State) (c t : Nat) (rel : Bool) : State := if rel then wr s R.DMA_CH_CRED.CRED c t else s

/-- WAIT COUNTER; an unusable counter answers with 0x020A, and the channel waits (R167; DESIGN CHOICE, log entry 17). -/
def execDmaWaitCounter (channel : Nat) (bad : Bool) (s : State) : Host.Outcome State Fault Refusal :=
  ok (dmaIssue s channel bad (fun w => dmaOp w == 5 && bits w 4 2 == 1) fun s _ w =>
    let core := bits w 8 7
    let n := bits w 16 5
    let rel := bit w 6
    let t := if rel then (rd s R.DMA_CH_CRED.CRED channel + bits w 32 24) % 2 ^ 24 else bits w 32 24
    if !onlyBits w [(0, 7), (8, 7), (16, 5), (32, 24)] then haltCh s channel 0x0304 0 0
    else if !present s core then haltCh s channel 0x0302 0 0
    else if tget false (coreAt s core).badCnt n then waitOn (coreReport s core 0x020A) channel (.counter core n t rel)
    else if reached (cntVal s core n) t then takeCredit (stepOn s channel id) channel t rel
    else waitOn s channel (.counter core n t rel))

/-- SIGNAL: it follows every write issued before it; the channel goes on. -/
def signal (s : State) (c : Nat) (counter : Option (Nat × Nat)) (val : Nat) : State :=
  stepOn s c fun d => { d with signals := d.signals ++ [⟨d.seq, counter, val⟩] }

/-- SIGNAL COUNTER; reserved kinds of SIGNAL are program errors. -/
def execDmaSignalCounter (channel : Nat) (bad : Bool) (s : State) : Host.Outcome State Fault Refusal :=
  ok (dmaIssue s channel bad (fun w => dmaOp w == 6 && bits w 4 2 != 1) fun s _ w =>
    if !onlyBits w [(0, 4), (8, 7), (16, 5), (32, 24)] then haltCh s channel 0x0304 0 0
    else if !present s (bits w 8 7) then haltCh s channel 0x0302 0 0
    else signal s channel (some (bits w 8 7, bits w 16 5)) (bits w 32 24))

/-- SIGNAL EVENT. -/
def execDmaSignalEvent (channel : Nat) (bad : Bool) (s : State) : Host.Outcome State Fault Refusal :=
  ok (dmaIssue s channel bad (fun w => dmaOp w == 6 && bits w 4 2 == 1) fun s _ w =>
    if !onlyBits w [(0, 5), (32, 24)] then haltCh s channel 0x0304 0 0
    else signal s channel none (bits w 32 24))

/-- Every write the channel issued before a place in its order has been acknowledged, the results of its checks among them; one that
ended with an error never is (R245). -/
def settledBefore (d : DmaCh) (before : Nat) : Bool :=
  !d.pieces.any (fun p => !p.dropped && decide (p.seq < before)) && !d.stores.any (fun x => decide (x.seq < before)) &&
    !d.failed.any (fun n => decide (n < before))

/-- A SIGNAL whose earlier writes are all acknowledged is sent: a counter's addition, which may meet a SET (R164), or an
event to the control complex. -/
def execDmaSignalSend (channel index : Nat) (meets : Bool) (s : State) : Host.Outcome State Fault Refusal :=
  let d := dmaCh s channel
  match d.signals[index]? with
  | none => ok s
  | some g =>
    if !settledBefore d g.before then ok s
    else
      let s1 := modDma s channel fun d => { d with signals := dropAt d.signals index }
      match g.counter with
      | none => ok (emit s1 (.toControl 3 channel g.val))
      | some (core, n) =>
        let s2 := addCnt s1 core n g.val
        ok (if meets then spHazard s2 core n 0 0 1 else s2)

/-! ### Running checks (R246) -/

/-- SUM START; reserved ACT codes are program errors. -/
def execDmaSumStart (channel : Nat) (bad : Bool) (s : State) : Host.Outcome State Fault Refusal :=
  ok (dmaIssue s channel bad (fun w => dmaOp w == 7 && bits w 4 2 != 1) fun s _ w =>
    if !onlyBits w [(0, 4), (6, 1)] ∨ (dmaCh s channel).check.isSome then haltCh s channel 0x0304 0 0
    else stepOn s channel fun d => { d with check := some ⟨bit w 6, []⟩ })

/-- Bytes of a result at an address: one scratchpad word, or 64 bytes. -/
def sumSize (a : Nat) : Nat := if 0xF000000000 ≤ a then 32 else 64

/-- SUM STOP: the result is written once every covered read has completed. -/
def execDmaSumStop (channel : Nat) (bad : Bool) (s : State) : Host.Outcome State Fault Refusal :=
  ok (dmaIssue s channel bad (fun w => dmaOp w == 7 && bits w 4 2 == 1) fun s _ w =>
    let a := bits w 64 40
    match (dmaCh s channel).check with
    | none => haltCh s channel 0x0304 0 0
    | some k =>
      if !onlyBits w [(0, 5), (64, 40)] then haltCh s channel 0x0304 0 0
      else if a % alignAt a ≠ 0 then haltCh s channel 0x0301 0 a
      else if foreign channel a ∨ !busOk s a (sumSize a) then haltCh s channel 0x0302 0 a
      else stepOn s channel fun d => { d with check := none, seq := d.seq + 1, stores := d.stores ++ [⟨d.seq, a, k⟩] })

/-- The bytes a complete check covered, in program order, and whether one arrived poisoned. -/
def covered (k : SumCheck) : Option (List Byte × Bool) :=
  k.parts.foldl (fun a p => match a, p.2 with
    | some (l, q), some (m, r) => some (l ++ m, q || r)
    | _, _ => none) (some ([], false))

/-- The result (R246). -/
def sumBytes (k : SumCheck) (l : List Byte) (poison : Bool) (size : Nat) : List Byte :=
  let v := if k.crc64 then crc64 l else crc32c l
  leBytes 8 v ++ leBytes 8 l.length ++ leBytes 1 (b2n k.crc64 + 2 * b2n poison) ++ leBytes (size - 17) 0

/-- Two byte ranges overlap. -/
def overlaps (a n b m : Nat) : Bool := decide (a < b + m) && decide (b < a + n)

/-- What a piece writes: the ranges of its destination, a slot's mirror copy and every core of a chain among them (R160, R255). -/
def writesOf (s : State) (dst n : Nat) : PieceKind → List (Nat × Nat)
  | .plain => [(dst, n)]
  | .slot core ring slot => (slotPlaces s core ring slot).map fun w => (spAddr core w, n)
  | .chain first last => (upto (last + 1 - first)).map fun i => (dst + i * 0x100000, n)
  | .index _ => []

/-- A piece and a write of n bytes to dst touch the same bytes. -/
def pieceMeets (s : State) (p : Piece) (dst n : Nat) (kind : PieceKind) : Bool :=
  (writesOf s p.dst p.len p.kind).any fun x => (writesOf s dst n kind).any fun y => overlaps x.1 x.2 y.1 y.2

/-- A write of the channel at a place in its order must wait for an earlier one to the same bytes (R251 rule 2). -/
def mustFollow (s : State) (d : DmaCh) (seq dst n : Nat) (kind : PieceKind) : Bool :=
  d.pieces.any (fun p => decide (p.seq < seq) && pieceMeets s p dst n kind) ||
    d.stores.any (fun x => decide (x.seq < seq) && (writesOf s dst n kind).any (fun y => overlaps x.dst (sumSize x.dst) y.1 y.2))

/-- The oldest ended check's result is stored, in the order of the channel's writes to the same bytes (R246, R251). -/
def execDmaSumResultStore (channel : Nat) (s : State) : Host.Outcome State Fault Refusal :=
  match (dmaCh s channel).stores with
  | [] => ok s
  | x :: rest =>
    match covered x.check with
    | none => ok s
    | some (l, p) =>
      let t := modDma s channel fun d => { d with stores := rest }
      if mustFollow t (dmaCh t channel) x.seq x.dst (sumSize x.dst) .plain then ok s
      else ok (busWrite t x.dst (sumBytes x.check l p (sumSize x.dst)) false)

/-! ### END, GO, CANCEL, RESUME (R239, R247, R264-R266) -/

/-- The queued start begins, or the channel is IDLE. -/
def takeNext (s : State) (c : Nat) : State :=
  let d := dmaCh s c
  match d.next with
  | some st => setChState (setDma s c { beginProgram d st with next := none }) c chRunning
  | none => setChState (setDma s c { DmaCh.reset with seq := d.seq, pieces := d.pieces }) c chIdle

/-- END: it waits for everything issued, posts the record and takes up the queued start. -/
def execDmaEnd (channel : Nat) (bad : Bool) (s : State) : Host.Outcome State Fault Refusal :=
  ok (dmaIssue s channel bad (fun w => dmaOp w == 0) fun s _ w =>
    let d := dmaCh s channel
    if w ≠ 0 ∨ !d.loops.isEmpty then haltCh s channel 0x0304 0 0
    else if !drained d then waitOn (modDma s channel fun d => { d with check := none }) channel .final
    else takeNext (postRecord (beginStep (modDma s channel fun d => { d with check := none }) channel) channel 1) channel)

/-- Withdraws what the present ring MOVE has asked for: a request that waits, and a reservation no piece has taken (R265). -/
def dropWant (s : State) (c : Nat) (d : DmaCh) : State :=
  match d.ring with
  | none => s
  | some (core, r) =>
    let x := ringX s core r
    if ringProducer s core r ≠ .dma c then s
    else
      let out := x.out.filter (fun v => v.data.isSome || d.pieces.any (fun p => p.kind == .slot core r v.slot))
      wr (setRingX s core r { x with want := false, out := out }) (R.SPAD_RING_STATE.WAIT_WR.nth r) core 0

/-- Withdraws the channel's requests and its reservations, but those whose words are on their way: these go when their tags retire
(R265 step 2). -/
def withdrawSlots (s : State) (c : Nat) (d : DmaCh) : State :=
  (s.cores.flatMap (fun k => k.2.rings.map (fun r => (k.1, r.1)))).foldl (fun s p =>
    if ringProducer s p.1 p.2 = .dma c then
      let x := ringX s p.1 p.2
      wr (setRingX s p.1 p.2 { x with want := false, out := x.out.filter (fun v => d.pieces.any (fun q => q.kind == .slot p.1 p.2 v.slot)) })
        (R.SPAD_RING_STATE.WAIT_WR.nth p.2) p.1 0
    else s) s

/-- A chain MOVE of the channel is injected no further; one that is not all injected counts nowhere. -/
def stopChain (s : State) (c : Nat) : State :=
  let l := s.chains.map (fun m =>
    if m.channel = c then { m with stopped := true, total := m.issued, cnt := if m.issued = m.total then m.cnt else none } else m)
  { s with chains := l.filter (fun m => m.channel != c || (dmaCh s c).pieces.any (fun p => p.kind == .chain m.first m.last)) }

/-- The cores an instruction names: scratchpads it reads or writes, a ring's, a chain's, a counter's. -/
def coresOf (s : State) (st : DmaStart) (w : Nat) : List Nat :=
  let at0 := fun (a bias : Nat) => ((spOf s ((a + bias * 256) % 2 ^ 40)).map (·.1)).toList
  match dmaOp w with
  | 1 =>
    (if bit w 7 then [] else at0 (bits w 64 40) st.srcBias) ++ (match bits w 5 2 with
      | 0 => at0 (bits w 128 40) st.dstBias
      | 1 => [bits w 128 7]
      | _ => (upto 128).filter (fun k => decide (bits w 144 7 ≤ k) && decide (k ≤ bits w 152 7)))
  | 2 => at0 (bits w 64 40) st.srcBias ++ at0 (bits w 128 40) st.dstBias
  | 5 | 6 => if bits w 4 2 = (if dmaOp w = 5 then 1 else 0) then [bits w 8 7] else []
  | _ => []

/-- The stream and crop shares that depend on a channel's program: those that run or wait on a core the program names, each with
its core (R264; DEDUCED, log entry 17). -/
def dependents (s : State) (c : Nat) : List (Nat × Desc) :=
  match (dmaCh s c).run with
  | none => []
  | some st =>
    let cores := ((upto st.len).flatMap (fun pc => coresOf s st (dmaInstr s st pc))).eraseDups
    cores.flatMap fun n =>
      (((coreAt s n).run.toList ++ (coreAt s n).next.toList).filter (fun d => decide (d.kind ≤ 1))).map fun d => (n, d)

/-- The share of a descriptor. -/
def Desc.share (d : Desc) : Writer := ⟨d.stream, d.stripe, (descKey d).1, (descKey d).2⟩

/-- A share that runs is stopped with an alarm, and its record brings its replay; one that waits to start is taken back and
replayed (R264), or flagged under flow-through (R278). -/
def stopDependent (s : State) (p : Nat × Desc) : State :=
  let w := p.2.share
  if (coreAt s p.1).run = some p.2 then modCore (stopShare s p.1) p.1 fun k => { k with alarm := true }
  else if (coreAt s p.1).next = some p.2 then
    mendShare (dropNext s p.1) w
  else s

/-- The cancel is complete: IDLE, with a record. Pieces still out, of a program halted on an absent segment, complete as
cancelled (R265, R266). -/
def endCancel (s : State) (c : Nat) : State :=
  setChState (modDma (wr (postRecord s c 4) R.DMA_CH_STATE.RESUMABLE c 0) c
    fun d => { DmaCh.reset with seq := d.seq, pieces := d.pieces }) c chIdle

/-- A cancel (R265, R266). After a halt that cannot be resumed the shares that depend on the program are stopped (R264). -/
def cancelCh (s : State) (c : Nat) : State :=
  let d := dmaCh s c
  let halted := chState s c == chHalted
  if (d.run.isNone ∧ !halted) ∨ chState s c = chCancelling then s
  else
    let s0 := if halted && !isSet s R.DMA_CH_STATE.RESUMABLE c then (dependents s c).foldl stopDependent s else s
    let s1 := stopChain (withdrawSlots s0 c d) c
    let s2 := modDma s1 c fun d => { d with next := none, check := none, stores := [], signals := [], wait := none, ring := none,
                                             pieces := d.pieces.map fun p => { p with dropped := true } }
    if isSet s R.DMA_CH_STATE.RESUMABLE c then endCancel s2 c else setChState s2 c chCancelling

/-- The control complex cancels every channel whose halt cannot be resumed (R264). -/
def answerHalts (s : State) : State :=
  (s.dmas.map (·.1)).foldl (fun s c =>
    if chState s c = chHalted ∧ !isSet s R.DMA_CH_STATE.RESUMABLE c then cancelCh s c else s) s

/-- A resume (R264, R266). The record's CODE starts again from 0 with it: a halt that was resumed is no outcome of the program (DESIGN
CHOICE, log entry 17: R247 gives the halt or first fault code). -/
def resumeCh (s : State) (c : Nat) : State :=
  if chState s c = chHalted ∧ isSet s R.DMA_CH_STATE.RESUMABLE c then
    setChState (wr (modDma s c fun d => { d with code := 0 }) R.DMA_CH_STATE.RESUMABLE c 0) c chRunning
  else report s 0x030C c 0

/-- A write of DMA_CH_CTRL takes every bit (R269). -/
def writeDmaCtrl (s : State) (c v : Nat) : State :=
  let s1 := if bit v 3 then [R.DMA_CH_CNT_STEPS.COUNT, R.DMA_CH_CNT_WORDS.COUNT, R.DMA_CH_CNT_HALTS.COUNT,
    R.DMA_CH_CNT_SEGABS.COUNT].foldl (fun s f => wr s f c 0) s else s
  let s2 := if bit v 1 then cancelCh s1 c else s1
  let s3 := if bit v 2 then resumeCh s2 c else s2
  if bit v 0 then goCh s3 c else s3

/-- A DMA_CH_CTRL write with bit b set. -/
def dmaCtrl (w : Wr) (b : Nat) (s : State) : State :=
  gate s w R.DMA_CH_CTRL.reg 0 fun s c => if bit w.val b then writeDmaCtrl s c w.val else s

/-- GO. -/
def execDmaGo (w : Wr) (s : State) : Host.Outcome State Fault Refusal := ok (dmaCtrl w 0 s)

/-- CANCEL. -/
def execDmaCancel (w : Wr) (s : State) : Host.Outcome State Fault Refusal := ok (dmaCtrl w 1 s)

/-- RESUME. -/
def execDmaResume (w : Wr) (s : State) : Host.Outcome State Fault Refusal := ok (dmaCtrl w 2 s)

/-- CNT_CLEAR. -/
def execDmaCntClear (w : Wr) (s : State) : Host.Outcome State Fault Refusal := ok (dmaCtrl w 3 s)

/-- Every tag of a cancelling channel has retired. -/
def execDmaCancelComplete (channel : Nat) (s : State) : Host.Outcome State Fault Refusal :=
  if chState s channel = chCancelling ∧ (dmaCh s channel).pieces.isEmpty then ok (endCancel s channel) else ok s

/-! ### Waits end or expire (R244, R253, R266) -/

/-- The reservation of a ring that none of the channel's pieces has taken. -/
def freeSlot (s : State) (d : DmaCh) (core r : Nat) : Option Nat :=
  ((ringX s core r).out.find? (fun v => v.data.isNone && !d.pieces.any (fun p => p.kind == .slot core r v.slot))).map (·.slot)

/-- The channel runs on, past its instruction or at it again. -/
def wake (s : State) (c : Nat) (past : Bool) : State :=
  setChState (modDma s c fun d => if past then nextInstr { d with wait := none } else { d with wait := none }) c chRunning

/-- What a waiting channel waits for has come. -/
def execDmaWaitSatisfied (channel : Nat) (s : State) : Host.Outcome State Fault Refusal :=
  let d := dmaCh s channel
  match d.wait with
  | some (.drain, _) => if drained d then ok (wake s channel true) else ok s
  | some (.final, _) => if drained d then ok (wake s channel false) else ok s
  | some (.counter core n t rel, _) =>
    if !tget false (coreAt s core).badCnt n ∧ reached (cntVal s core n) t then ok (takeCredit (wake s channel true) channel t rel) else ok s
  | some (.ring core r, _) => if !(ringX s core r).bad ∧ (freeSlot s d core r).isSome then ok (wake s channel false) else ok s
  | some (.chain _ _, _) => ok s
  | none => ok s

/-- WAIT_US has passed (R266): 0x0202 for a ring, 0x0308 for a counter or a chain segment. -/
def execDmaWaitLimitExpiry (channel : Nat) (s : State) : Host.Outcome State Fault Refusal :=
  let d := dmaCh s channel
  let limit := max 1 (rd s R.DMA_CH_LIMIT.WAIT_US channel) * 100
  match d.wait with
  | some (w, since) =>
    if s.tick < since + limit then ok s
    else match w with
      | .ring _ _ => ok (haltCh (dropWant s channel d) channel 0x0202 0 0)
      | .counter _ _ _ _ | .chain _ _ => ok (haltCh s channel 0x0308 0 0)
      | .drain | .final => ok s
  | none => ok s

end Sys2Proof.Machine
end

