-- ==== Sys2Proof/Machine/DmaMove.lean ====
section
/-! DEFINITION. Machine/DmaMove.lean: MOVE and MOVEX, weight segments, and the acknowledgement of pieces (R241, R242,
R248-R251, R253, R255, R256, R259, R260, R262).
Its conventions: DEDUCED, log entry 17. -/

namespace Sys2Proof.Machine

open Sys2Proof

/-! ### Weight segments (R259, R260) -/

/-- A segment's table entry as an engine sees it: cached, or read from DRAM and cached; none where the table lies elsewhere. -/
def segEntry (s : State) (eng seg : Nat) : Option Nat × State :=
  let key := eng * 2 ^ 14 + seg
  let a := rd s R.DMA_SEG_TABLE.ADDR 0 * 256 + 4 * seg
  match tget 0 s.segCache key with
  | 0 =>
    if inDram s a ∧ devOk s a 4 then
      let e := memLE s.mem a 4
      (some e, { s with segCache := tset 0 s.segCache key (e + 1) })
    else (none, s)
  | e + 1 => (some e, s)

/-- What a weight-space offset comes to: a device address, an absent segment, or an address error of the table. -/
inductive Translated where
  | addr (a : Nat)
  | absent
  | noTable
  deriving DecidableEq, Repr

/-- Translates a weight-space offset (R259). -/
def translate (s : State) (eng off : Nat) : Translated × State :=
  match segEntry s eng (off / 2 ^ 26) with
  | (none, s1) => (.noTable, s1)
  | (some e, s1) =>
    (if bit e 31 then .addr (rd s R.DMA_SEG_CTRL.WINDOW_BASE 0 * 2 ^ 26 + bits e 0 7 * 2 ^ 26 + off % 2 ^ 26) else .absent, s1)

/-- DMA_SEG_INVAL drops every engine's cached entries. -/
def execDmaSegInval (w : Wr) (s : State) : Host.Outcome State Fault Refusal :=
  ok (gate s w R.DMA_SEG_INVAL.reg 0 fun s _ => if bit w.val 0 then { s with segCache := [] } else s)

/-- The channel halts on an absent segment, which is asked for (R260). -/
def haltSeg (s : State) (c off : Nat) : State :=
  let s1 := bump (haltCh s c 0x0307 6 off) R.DMA_CH_CNT_SEGABS.COUNT c
  queueEvent (wr s1 R.DMA_SEG_STATUS.LAST_SEG 0 (off / 2 ^ 26)) 1 (leBytes 4 (off / 2 ^ 26) ++ leBytes 1 c ++ leBytes 3 0)

/-! ### Issuing a piece (R249, R250, R263) -/

/-- Length of the next piece of a transfer: whole on the light path, else up to the next 4 KiB boundary. -/
def pieceLen (len off dst : Nat) (seg : Option Nat) : Nat :=
  if len ≤ 256 then len
  else
    let n := min (len - off) (4096 - (dst + off) % 4096)
    match seg with
    | some a => min n (4096 - (a + off) % 4096)
    | none => n

/-- An outstanding write of the channel on the other path overlaps a new piece, which is held for it (R251 rule 2). -/
def otherPathMeets (s : State) (c dst n : Nat) (light : Bool) (kind : PieceKind) : Bool :=
  (dmaCh s c).pieces.any fun p => p.light != light && pieceMeets s p dst n kind

/-- A piece is issued if its addresses exist, it does not touch the program, no write on the other path must come first, and a
tag is free; then `f` moves the position on. Without one of the last two it waits. `poison`: its index was poisoned. -/
def issuePiece (s : State) (c : Nat) (st : DmaStart) (src dst n : Nat) (light : Bool) (kind : PieceKind) (poison : Bool)
    (f : DmaCh → DmaCh) : State :=
  let ws := writesOf s dst n kind
  if foreign c src ∨ !busOk s src n then haltCh s c 0x0302 0 src
  else if ws.any (fun x => foreign c x.1 || !busOk s x.1 x.2) then haltCh s c 0x0302 0 dst
  else if ws.any (fun x => overlaps x.1 x.2 (st.prog * 256) (32 * st.len)) then haltCh s c 0x0305 0 dst
  else if otherPathMeets s c dst n light kind ∨ !tagFree s (engOf c) light then s
  else modDma (beginStep s c) c fun d =>
    f { d with seq := d.seq + 1, pieces := d.pieces ++ [⟨d.seq, light, src, dst, n, kind, s.tick, poison, false⟩],
               check := d.check.map (fun k => { k with parts := k.parts ++ [(d.seq, none)] }) }

/-- The position after n bytes of a MOVE of len bytes. -/
def moved (len n : Nat) (d : DmaCh) : DmaCh := if len ≤ d.offset * 32 + n then nextInstr d else { d with offset := d.offset + n / 32 }

/-! ### MOVE (R241) -/

/-- Fields of a MOVE by DKIND. -/
def moveFields : Nat → List (Nat × Nat)
  | 0 => [(0, 32), (64, 40), (128, 40)]
  | 1 => [(0, 32), (64, 40), (128, 7), (136, 4)]
  | _ => [(0, 32), (64, 40), (128, 14), (144, 7), (152, 7), (160, 5), (165, 1)]

/-- The first misaligned of a source, a destination and a length (R249). -/
def misaligned (src dst len : Nat) (seg : Bool) : Option Nat :=
  let al := if seg then 64 else alignAt src
  if src % al ≠ 0 then some src
  else if dst % alignAt dst ≠ 0 then some dst
  else if (al = 64 ∨ alignAt dst = 64) ∧ len % 64 ≠ 0 then some src
  else none

/-- The source of the piece at an offset: translated where SEG is set, by the entry of its first byte's segment also where it is not
cut at the segment's end (a piece of the light path, a slot; DESIGN CHOICE, log entry 17: R259 translates an offset); an absent segment or a
table that does not exist halts the channel (R28, R260). -/
def withSource (s : State) (c a : Nat) (seg : Bool) (f : State → Nat → State) : State :=
  if !seg then f s a
  else match translate s (engOf c) a with
    | (.addr p, s1) => f s1 p
    | (.absent, s1) => haltSeg s1 c a
    | (.noTable, s1) => haltCh s1 c 0x0302 0 (rd s R.DMA_SEG_TABLE.ADDR 0 * 256 + 4 * (a / 2 ^ 26))

/-- The next piece of a MOVE to an address. -/
def movePlain (s : State) (c : Nat) (st : DmaStart) (w len a : Nat) (seg : Bool) : State :=
  let d := dmaCh s c
  let b := dmaDst d st (bits w 128 40)
  match misaligned a b len seg with
  | some x => haltCh s c 0x0301 0 x
  | none =>
    let off := d.offset * 32
    let n := pieceLen len off b (if seg then some a else none)
    withSource s c (a + off) seg fun s src => issuePiece s c st src (b + off) n (decide (len ≤ 256)) .plain false
      (moved len n)

/-- The next slot of a ring MOVE (R253), whatever the ring's EN, which only a BIND looks at (DESIGN CHOICE, log entry 17: R171 and R253 say
nothing of a MOVE there); an unusable ring answers with 0x020A, and the channel waits (R167; DESIGN CHOICE, log
entry 17). -/
def moveRing (s : State) (c : Nat) (st : DmaStart) (w len a : Nat) (seg : Bool) : State :=
  let d := dmaCh s c
  let core := bits w 128 7
  let r := bits w 136 4
  let z := slotWords s core r * 32
  let asks := fun (s : State) => modDma s c fun d => { d with ring := some (core, r) }
  if !present s core then haltCh s c 0x0302 0 0
  else if len % z ≠ 0 then haltCh s c 0x0304 0 0
  else if ringProducer s core r ≠ .dma c then haltCh s c 0x0306 0 0
  else match misaligned a (spAddr core 0) len seg with
    | some x => haltCh s c 0x0301 0 x
    | none =>
      let go := fun (s : State) (slot : Nat) =>
        withSource s c (a + d.offset * 32) seg fun s src =>
          issuePiece s c st src (spAddr core (ringBase s core r + slot * (z / 32))) z (decide (len ≤ 256)) (.slot core r slot) false
            (moved len z)
      if (ringX s core r).bad then waitOn (asks (coreReport s core 0x020A)) c (.ring core r)
      else match freeSlot s d core r with
      | some slot => go s slot
      | none =>
        if ringRoom s core r then
          let s1 := asks (reserve s core r)
          match freeSlot s1 d core r with
          | some slot => go s1 slot
          | none => s1
        else waitOn (asks (wantSlot s core r)) c (.ring core r)

/-- The segments a chain MOVE needs, from its first receiver's to its last one's, are free of MOVEs (R256). -/
def chainFree (s : State) (lo hi : Nat) : Bool :=
  !s.chains.any (fun m => decide (m.first / 8 ≤ hi) && decide (lo ≤ m.last / 8))

/-- Receivers of a chain MOVE whose switches are open (R255). -/
def receivers (s : State) (m : ChainMove) : List Nat :=
  (upto 128).filter (fun k => decide (m.first ≤ k) && decide (k ≤ m.last) && !bit (rd s R.DMA_ENG_CHAIN.BYPASS (k / 8)) (k % 8))

/-- The receiver before a core in the chain. -/
def chainPrev (s : State) (m : ChainMove) (core : Nat) : Option Nat := ((receivers s m).filter (fun k => decide (k < core))).getLast?

/-- The receiver after a core. -/
def chainNext (s : State) (m : ChainMove) (core : Nat) : Option Nat := (receivers s m).find? (fun k => decide (core < k))

/-- Words that have been offered to a receiver: those the one before it has stored, or those injected. -/
def offered (s : State) (m : ChainMove) (core : Nat) : Nat :=
  match chainPrev s m core with
  | some p => tget 0 m.got p
  | none => m.issued

/-- A receiver's clock starts where a word is first offered to it (R257). -/
def offerTo (s : State) (m : ChainMove) (core : Option Nat) : ChainMove :=
  match core with
  | none => m
  | some k => if tget 0 m.got k + 1 = offered s m k ∨ tget 0 m.since k = 0 then { m with since := tset 0 m.since k (s.tick + 1) } else m

/-- n more words of a chain MOVE are injected. -/
def inject (s : State) (n : Nat) (m : ChainMove) : ChainMove :=
  let m' := { m with issued := m.issued + n }
  match (receivers s m).head? with
  | some k => if tget 0 m.got k = m.issued then { m' with since := tset 0 m.since k (s.tick + 1) } else m'
  | none => m'

/-- First word of a chain MOVE: each active loop's stride is added, with no wrap (R248). -/
def chainWord (d : DmaCh) (w : Nat) : Int := (bits w 128 14 : Int) + d.loops.foldl (fun x l => x + l.iter * (sext 40 l.dstr / 32)) (0 : Int)

/-- The next piece of a chain MOVE (R255). -/
def moveChain (s : State) (c : Nat) (st : DmaStart) (w len a : Nat) (seg : Bool) : State :=
  let d := dmaCh s c
  let first := bits w 144 7
  let last := bits w 152 7
  let x := chainWord d w
  let word := x.toNat
  let cores := (upto 128).filter (fun k => decide (first ≤ k) && decide (k ≤ last))
  if d.loops.any (fun l => l.dstr % 32 != 0) ∨ last < first ∨ 64 ≤ c ∨ first / 8 ≠ c / 4 then haltCh s c 0x0304 0 0
  else if x < 0 ∨ !cores.all (fun k => present s k && spSpan s k word (len / 32)) then haltCh s c 0x0302 0 (spAddr first word)
  else match misaligned a (spAddr first word) len seg with
    | some x => haltCh s c 0x0301 0 x
    | none =>
      let off := d.offset * 32
      if off = 0 ∧ !chainFree s (first / 8) (last / 8) then waitOn s c (.chain (first / 8) (last / 8))
      else
        let n := pieceLen len off (spAddr first word) (if seg then some a else none)
        withSource s c (a + off) seg fun s src =>
          let s1 := issuePiece s c st src (spAddr first word + off) n (decide (len ≤ 256)) (.chain first last) false (moved len n)
          if (dmaCh s1 c).seq = d.seq then s1
          else
            let s2 := if off = 0 then { s1 with chains := s1.chains ++
              [⟨c, src, word, first, last, if bit w 165 then some (bits w 160 5) else none, len / 32, 0, [], [], false⟩] } else s1
            { s2 with chains := s2.chains.map (fun m => if m.channel = c then inject s2 (n / 32) m else m) }

/-- MOVE; an unassigned opcode is a program error here (R240). -/
def execDmaMove (channel : Nat) (bad : Bool) (s : State) : Host.Outcome State Fault Refusal :=
  ok (dmaIssue s channel bad (fun w => dmaOp w == 1 || decide (8 ≤ dmaOp w)) fun s st w =>
    let k := bits w 5 2
    let seg := bit w 7
    let len := (bits w 8 24 + 1) * 32
    let a := dmaSrc (dmaCh s channel) st (bits w 64 40) seg
    if 8 ≤ dmaOp w ∨ k = 3 ∨ !onlyBits w (moveFields k) ∨ (seg ∧ !isSet s R.DMA_SEG_CTRL.EN 0) then haltCh s channel 0x0304 0 0
    else match k with
      | 0 => movePlain s channel st w len a seg
      | 1 => moveRing s channel st w len a seg
      | _ => moveChain s channel st w len a seg)

/-! ### MOVEX (R242) -/

/-- Bytes of an arrived part of the index stream that begin at an offset, and whether their words are poisoned. -/
def indexAt (l : List (Nat × List Byte × List Nat)) (off n : Nat) : Option (Nat × Bool) :=
  (l.find? (fun p => decide (p.1 ≤ off) && decide (off + n ≤ p.1 + p.2.1.length))).map fun p =>
    (leNat (slice p.2.1 (off - p.1) n), p.2.2.contains ((off - p.1) / 32))

/-- Bytes of an index. -/
def indexWidth (w : Nat) : Nat := if bit w 6 then 4 else 2

/-- Source and destination of element j, whose index is known. -/
def elemAddr (d : DmaCh) (st : DmaStart) (w j index : Nat) : Nat × Nat :=
  let a := dmaSrc d st (bits w 64 40) false
  let b := dmaDst d st (bits w 128 40)
  let n := (bits w 8 24 + 1) * 32
  let far := index * (bits w 232 24 * 32)
  if bit w 5 then ((a + j * n) % 2 ^ 40, (b + far) % 2 ^ 40) else ((a + far) % 2 ^ 40, (b + j * n) % 2 ^ 40)

/-- The whole aligned words of the index stream (R242). -/
def indexSpan (w : Nat) : Nat × Nat :=
  let i := bits w 192 40
  let n := bits w 32 24 * (if bit w 6 then 4 else 2)
  (i / 32 * 32, cdiv (i % 32 + n) 32 * 32)

/-- The first misaligned of a MOVEX's index stream, bases and length (R249). -/
def misalignedX (d : DmaCh) (st : DmaStart) (w : Nat) : Option Nat :=
  let i := bits w 192 40
  let e := elemAddr d st w 0 0
  if i % alignAt i ≠ 0 then some i else misaligned e.1 e.2 ((bits w 8 24 + 1) * 32) false

/-- The index of element j, and whether it arrived poisoned; none before it has arrived. -/
def indexOf (d : DmaCh) (w j : Nat) : Option (Nat × Bool) :=
  indexAt d.index (bits w 192 40 % 32 + j * indexWidth w) (indexWidth w)

/-- Both bases, the far side's step and the length are multiples of 64, so that no element can be misaligned wherever its address falls. -/
def stepAligned (d : DmaCh) (st : DmaStart) (w : Nat) : Bool :=
  let e := elemAddr d st w 0 0
  e.1 % 64 == 0 && e.2 % 64 == 0 && bits w 232 24 * 32 % 64 == 0 && (bits w 8 24 + 1) * 32 % 64 == 0

/-- Elements of a MOVEX whose addresses its indices misalign; none before every index has arrived (R249). -/
def misalignedElem (d : DmaCh) (st : DmaStart) (w : Nat) : Option (Option Nat) :=
  ((upto (bits w 32 24)).mapM (fun j => (indexOf d w j).map fun i => elemAddr d st w j i.1)).map fun l =>
    l.findSome? fun e => misaligned e.1 e.2 ((bits w 8 24 + 1) * 32) false

/-- The position after n bytes of element d.offset. -/
def movedX (len count n : Nat) (d : DmaCh) : DmaCh :=
  if d.sub + n < len then { d with sub := d.sub + n }
  else if d.offset + 1 < count then { d with offset := d.offset + 1, sub := 0 }
  else nextInstr d

/-- The next part of the index stream is asked for through the main path, up to the next 4 KiB boundary (R242, R250). -/
def fetchIndex (s : State) (c : Nat) (w : Nat) : State :=
  let d := dmaCh s c
  let ix := indexSpan w
  let n := min (ix.2 - d.asked) (4096 - (ix.1 + d.asked) % 4096)
  if ix.2 ≤ d.asked ∨ !tagFree s (engOf c) false then s
  else modDma (beginStep s c) c fun d =>
    { d with seq := d.seq + 1, asked := d.asked + n,
             pieces := d.pieces ++ [⟨d.seq, false, ix.1 + d.asked, 0, n, .index d.asked, s.tick, false, false⟩] }

/-- The next piece of the present element, whose index has arrived; an element counts a step as its first piece issues. -/
def moveElem (s : State) (c : Nat) (st : DmaStart) (w : Nat) (index : Nat × Bool) : State :=
  let d := dmaCh s c
  let len := (bits w 8 24 + 1) * 32
  let e := elemAddr d st w d.offset index.1
  let n := pieceLen len d.sub e.2 none
  if d.sub = 0 ∧ budgetOf st ≤ (if d.begun then d.steps else d.steps + 1) then haltCh (beginStep s c) c 0x0305 0 0
  else
    let s1 := issuePiece s c st (e.1 + d.sub) (e.2 + d.sub) n (decide (len ≤ 256)) .plain index.2 (movedX len (bits w 32 24) n)
    if (dmaCh s1 c).seq = d.seq ∨ d.sub ≠ 0 then s1 else countStep s1 c

/-- MOVEX: the next element goes once its index has arrived; until then the index stream is read, and all of it before the first
element where an index could misalign one. -/
def execDmaMovex (channel : Nat) (bad : Bool) (s : State) : Host.Outcome State Fault Refusal :=
  ok (dmaIssue s channel bad (fun w => dmaOp w == 2) fun s st w =>
    let ix := indexSpan w
    let d := dmaCh s channel
    let first := d.offset == 0 && d.sub == 0
    if !onlyBits w [(0, 7), (8, 48), (64, 40), (128, 40), (192, 64)] ∨ bits w 32 24 = 0 then haltCh s channel 0x0304 0 0
    else if foreign channel ix.1 ∨ !busOk s ix.1 ix.2 then haltCh s channel 0x0302 0 ix.1
    else match (if d.begun then none else misalignedX d st w) with
      | some x => haltCh s channel 0x0301 0 x
      | none =>
        match (if first && !stepAligned d st w then misalignedElem d st w else some none) with
        | none => fetchIndex s channel w
        | some (some x) => haltCh s channel 0x0301 0 x
        | some none =>
          match indexOf d w d.offset with
          | some i => moveElem s channel st w i
          | none => fetchIndex s channel w)

/-! ### Acknowledgements (R251, R262) -/

/-- What a piece read, in the running check and in the ended ones that cover it. -/
def fillParts (seq : Nat) (data : List Byte) (p : Bool) (d : DmaCh) : DmaCh :=
  let f := fun (k : SumCheck) =>
    { k with parts := k.parts.map (fun q => if q.1 = seq ∧ q.2.isNone then (seq, some (data, p)) else q) }
  { d with check := d.check.map f, stores := d.stores.map (fun x => { x with check := f x.check }) }

/-- 32-byte units a piece moves: of an index stream none (R242, R247). -/
def Piece.words (q : Piece) : Nat := match q.kind with
  | .index _ => 0
  | _ => q.len / 32

/-- A piece's tag retires with what it read. A piece of a cancelled program that has given way counts in no record. -/
def retirePiece (s : State) (c index : Nat) (q : Piece) (data : List Byte) (p : Bool) : State :=
  let counts := !q.dropped || chState s c == chCancelling
  let s1 := modDma s c fun d =>
    let e := fillParts q.seq data p d
    { e with pieces := dropAt e.pieces index, words := if counts then e.words + q.words else e.words,
             poison := e.poison || (p && counts) }
  bumpBy s1 R.DMA_CH_CNT_WORDS.COUNT c q.words

/-- A slot's data lands with its poisoned words; the slot of a cancelled channel is withdrawn (R265), and a ring that is unusable
answers with 0x020A and stays as it is (R167). -/
def landSlot (s : State) (c core r : Nat) (q : Piece) (slot : Nat) (data : List Byte) (bad : List Nat) : State :=
  let x := ringX s core r
  let s1 := (slotPlaces s core r slot).foldl (fun s w => poisonWords s (spAddr core w) bad) (writeSlot s core r slot (leNat data) false)
  let landed := setRingX s1 core r { x with out := x.out.map (fun v =>
    if v.slot = slot then { v with data := some (leNat data), landed := true, poison := !bad.isEmpty } else v) }
  if q.dropped then setRingX s1 core r { x with out := x.out.filter (fun v => v.slot != slot) }
  else if x.bad then coreReport landed core 0x020A
  else settleSlots landed core r

/-- Every open receiver has the words of a chain piece. -/
def chainLanded (s : State) (c : Nat) (q : Piece) : Bool :=
  s.chains.all (fun m => m.channel != c || (receivers s m).all (fun k =>
    decide ((q.dst + q.len - spAddr m.first m.word) / 32 ≤ tget 0 m.got k)))

/-- A chain MOVE whose last piece is acknowledged leaves the chain. -/
def leaveChain (s : State) (c : Nat) : State :=
  { s with chains := s.chains.filter (fun m => m.channel != c || decide (m.issued < m.total) ||
      (dmaCh s c).pieces.any (fun p => p.kind == .chain m.first m.last)) }

/-- A piece's tag retires with no acknowledgement: its write never counts as done (R245). A chain MOVE that loses a piece is injected no
further. -/
def losePiece (s : State) (c index : Nat) (q : Piece) : State :=
  leaveChain (modDma s c fun d =>
    { d with pieces := dropAt d.pieces index, failed := if q.dropped then d.failed else some (min q.seq (d.failed.getD q.seq)) }) c

/-- A piece writes to DRAM: that of an index stream goes to the engine. -/
def toDram (s : State) (q : Piece) : Bool := match q.kind with
  | .index _ => false
  | _ => inDram s q.dst

/-- A piece ends with an error response of a cause, at its source or at its destination; one of a DRAM controller counts against
its channel (R262, R275). -/
def failPiece (s : State) (c index cause : Nat) (q : Piece) (atDst : Bool) : State :=
  let a := if atDst then q.dst else q.src
  let s1 := losePiece s c index q
  let s2 := haltCh s1 c 0x0303 cause a
  if cause ≤ 2 ∧ inDram s a then dramCount s2 a else s2

/-- CAUSE of an error response: of the host window, or of another (R262; a scratchpad's is a DESIGN CHOICE, log entry 17). -/
def errorCause (a : Nat) : Nat := if inHostWin a then 4 else 2

/-- A piece's data goes to its destination, its poisoned words with it; of a chain piece those that a core has stored (R255). -/
def landPiece (s : State) (c : Nat) (q : Piece) (data : List Byte) (bad : List Nat) : State :=
  match q.kind with
  | .plain => poisonWords (busWrite s q.dst data false) q.dst bad
  | .slot core ring slot => landSlot s c core ring q slot data bad
  | .chain _ _ =>
    match s.chains.find? (fun m => m.channel == c) with
    | none => s
    | some m =>
      let off := (q.dst - spAddr m.first m.word) / 32
      leaveChain (m.got.foldl (fun s k =>
        poisonWords s (spAddr k.1 (m.word + off)) (bad.filter (fun i => decide (off + i < k.2)))) s) c
  | .index off => if q.dropped then s else modDma s c fun d => { d with index := d.index ++ [(off, data, bad)] }

/-- The i-th outstanding piece of a channel is answered: its data goes to its destination, or the channel halts. -/
def execDmaPieceAck (channel index : Nat) (how : PieceAnswer) (s : State) : Host.Outcome State Fault Refusal :=
  let d := dmaCh s channel
  match d.pieces[index]? with
  | none => ok s
  | some q =>
    match how with
    | .tagParity => ok (haltCh (losePiece s channel index q) channel 0x030B 0 q.src)
    | .writeError => ok (failPiece s channel index (errorCause q.dst) q true)
    | .read a =>
      let t0 := takeAnswer s q.src a
      let t := (if answerInput a then (dependents s channel).foldl (fun s p => noteWhy s p.2.stream p.2.stripe 0x0423) t0.1 else t0.1, t0.2)
      if answerFailed a then ok (failPiece t.1 channel index (errorCause q.src) q false)
      else if mustFollow s d q.seq q.dst q.len q.kind ∨ ((∃ m ∈ s.chains, q.kind = .chain m.first m.last) ∧ !chainLanded s channel q) then ok s
      else
        let n := cdiv q.len 32
        let bad := if q.poison then upto n else (busBad s q.src q.len ++ t.2.filter (fun i => decide (i < n))).eraseDups
        let data := (busRead s q.src q.len).1
        ok (landPiece (retirePiece (noteParity t.1 q.src q.len) channel index q data (!bad.isEmpty)) channel q data bad)

/-- A tag older than TAG_US: a scratchpad or the chain has not acknowledged it (R262). -/
def execDmaTagTimeout (channel index : Nat) (s : State) : Host.Outcome State Fault Refusal :=
  match (dmaCh s channel).pieces[index]? with
  | none => ok s
  | some q =>
    let atDst := (spOf s q.dst).isSome
    if s.tick < q.issued + max 1 (rd s R.DMA_CH_LIMIT.TAG_US channel) * 100 ∨ !(atDst || (spOf s q.src).isSome) then ok s
    else ok (failPiece s channel index 5 q atDst)

/-- DRAM has not answered for 10 µs: an error response to the channel or the core that waits. -/
def execDramRequestTimeout (who : Asker) (s : State) : Host.Outcome State Fault Refusal :=
  match who with
  | .piece c i =>
    match (dmaCh s c).pieces[i]? with
    | none => ok s
    | some q => if s.tick < q.issued + 1000 ∨ !(inDram s q.src || toDram s q) then ok s else ok (failPiece s c i 1 q (!inDram s q.src))
  | .read core i =>
    match (coreAt s core).reads[i]? with
    | none => ok s
    | some r => if s.tick < r.since + 1000 ∨ !inDram s r.addr then ok s else ok (failRead s core i)

/-- A host-window request has outlasted the PCIe completion timeout, at least 50 µs (R381). -/
def execPcieCompletionTimeout (channel index : Nat) (s : State) : Host.Outcome State Fault Refusal :=
  match (dmaCh s channel).pieces[index]? with
  | none => ok s
  | some q => if s.tick < q.issued + 5000 ∨ !(inHostWin q.src || inHostWin q.dst) then ok s else ok (failPiece s channel index 3 q (!inHostWin q.src))

end Sys2Proof.Machine
end

