-- ==== Sys2Proof/Machine/RawFront.lean ====
section
/-! DEFINITION. Machine/RawFront.lean: the raw front, its coefficient tables and their blends (R185, R188-R190, R193,
R195, R335, R339). -/

namespace Sys2Proof.Machine

open Sys2Proof

/-! ### Coefficient tables (R335, R336) -/

/-- The image of a table in a set; none where it holds its reset value. -/
def tableOf (c : CalSet) (n : Nat) : Option (List Byte) :=
  match tget [] c n with
  | [] => none
  | b => some b

/-- 16-bit element i of a table, or its reset value. -/
def elem16 (c : CalSet) (n i reset : Nat) : Nat :=
  match tableOf c n with
  | some b => fieldLE b (32 + 2 * i) 2
  | none => reset

/-- COUNT of a table's header. -/
def tblCount (c : CalSet) (n : Nat) : Nat :=
  match tableOf c n with
  | some b => fieldLE b 4 4
  | none => 0

/-- Entries of the DEFECT table: column and line. -/
def defects (c : CalSet) : List (Nat × Nat) :=
  match tableOf c 4 with
  | none => []
  | some b => (upto (fieldLE b 4 4)).map (fun i => (fieldLE b (32 + 4 * i) 2, fieldLE b (34 + 4 * i) 2))

/-- α, β, NX and NY of the shading table; none where shading acts as 16,384. -/
def shadeGeo (c : CalSet) : Option (Nat × Nat × Nat × Nat) :=
  match tableOf c 3 with
  | none => none
  | some b => if fieldLE b 4 4 = 0 then none
    else some (fieldLE b 2 1 % 16, fieldLE b 2 1 / 16, fieldLE b 16 2, fieldLE b 18 2)

/-! ### Blends (R339) -/

/-- A coefficient at blend position j of N. -/
def blend (c0 c1 : Int) (j n : Nat) : Int :=
  if j = 0 then c0 else if n ≤ j then c1 else c0 + rneDiv ((c1 - c0) * j) n

/-- Blend position at a line: j = ℓ − ℓ_0 + 1, 0 before ℓ_0; a stream with no blend is at its end. -/
def blendJ (start : Option Int) (n line : Nat) : Nat :=
  match start with
  | none => n
  | some l0 => ((line : Int) - l0 + 1).toNat

/-- N of the stream at a stripe: CAL_BLEND.LINES as in force for it (R41), 0 acting as 1. -/
def blendNAt (s : State) (k stripe : Nat) : Nat :=
  max 1 (((strm s k).blends.find? (fun b => decide (b.1 ≤ stripe))).map (·.2)
    |>.getD (((strm s k).blends.getLast?.map (·.2)).getD (rd s R.CAL_BLEND.LINES k)))

/-- N of the stripe the raw front is in. -/
def blendN (s : State) (k : Nat) : Nat := max 1 (((strm s k).blends.head?.map (·.2)).getD (rd s R.CAL_BLEND.LINES k))

/-- The sets a blend lies between, its position and N, and whether shading blends. -/
structure BlendAt where
  old : CalSet
  new : CalSet
  j : Nat
  n : Nat
  shades : Bool
  deriving DecidableEq, Repr

/-- The raw front's blend at an input line. -/
def rfBlend (s : State) (k line : Nat) : BlendAt :=
  let c := calOf s k
  let n := blendN s k
  ⟨c.previous, c.committed, blendJ c.inFrom n line, n, c.shades⟩

/-- An unsigned 16-bit coefficient at a blend position. -/
def coefU (b : BlendAt) (tbl i reset : Nat) : Int :=
  blend (elem16 b.old tbl i reset) (elem16 b.new tbl i reset) b.j b.n

/-- A signed 16-bit coefficient at a blend position. -/
def coefS (b : BlendAt) (tbl i reset : Nat) : Int :=
  blend (sext 16 (elem16 b.old tbl i reset)) (sext 16 (elem16 b.new tbl i reset)) b.j b.n

/-! ### Stages 1 to 5 (R188, R189) -/

/-- CFA period a. -/
def cfaPeriod : Nat → Nat
  | 1 => 2 | 2 => 4 | _ => 1

/-- Space-to-depth and depth-to-space factor of its code. -/
def s2dOf : Nat → Nat
  | 1 => 2 | 2 => 4 | _ => 1

/-- The sets shading blends between: one of them where it switches at ℓ_0, since the geometry differs or SHADE_EN has changed
(R339). -/
def BlendAt.forShading (b : BlendAt) : BlendAt :=
  let one := if b.j = 0 then b.old else b.new
  if shadeGeo b.old = shadeGeo b.new ∧ b.shades then b else ⟨one, one, b.j, b.n, b.shades⟩

/-- Shading at a pixel, bilinear between its phase's nodes (R188). -/
def shadeAt (b : BlendAt) (phase x y : Nat) : Int :=
  let geo := if b.j = 0 then shadeGeo b.old else shadeGeo b.new
  match geo with
  | none => 16384
  | some (al, be, nx, ny) =>
    let node := fun cx cy => coefU b.forShading 3 (phase * nx * ny + cy * nx + cx) 16384
    let px := 2 ^ al
    let py := 2 ^ be
    let fx := x % px
    let fy := y % py
    let cx := x / px
    let cy := y / py
    rneDiv (((px - fx : Nat) * (py - fy : Nat) : Nat) * node cx cy + (fx * (py - fy) : Nat) * node (cx + 1) cy +
      ((px - fx) * fy : Nat) * node cx (cy + 1) + (fx * fy : Nat) * node (cx + 1) (cy + 1)) (px * py)

/-- Stages 2 and 3 of one pixel: q before its clamp. S is 16,384 when shading is off, and always on a line-scan stream (R188). -/
def pixelQ (b : BlendAt) (area : Bool) (rf x y p : Nat) : Int :=
  let a := cfaPeriod (fval R.STRM_RF_CTRL.CFA rf)
  let phase := y % a * a + x % a
  let v1 : Int := p - coefU b 0 phase 0
  let sh := if area ∧ fval R.STRM_RF_CTRL.SHADE_EN rf = 1 then shadeAt b phase x y else 16384
  rneDiv ((v1 - coefS b 1 x 0) * coefU b 2 x 16384 * sh) (2 ^ 28) + fval R.STRM_RF_CTRL.PEDESTAL rf

/-- Clamp of stage 3. -/
def clamp16 (v : Int) : Nat := (clampI 0 65535 v).toNat

/-- A pixel is listed as defective: during a blend either list counts, from its end only the new one (R339). -/
def listed (b : BlendAt) (x y : Nat) : Bool :=
  let here := fun (e : Nat × Nat) => e.1 == x && (e.2 == 0xFFFF || e.2 == y)
  (defects b.new).any here || (decide (b.j < b.n) && (defects b.old).any here)

/-- The first unlisted pixel at distance d, 2d or 3d on one side (R190). -/
def substitute (q : List Nat) (bad : Nat → Bool) (x d : Nat) (right : Bool) : Option Nat :=
  [1, 2, 3].findSome? fun k =>
    if right then (if x + k * d < q.length ∧ !bad (x + k * d) then q[x + k * d]? else none)
    else if k * d ≤ x ∧ !bad (x - k * d) then q[x - k * d]? else none

/-- Stage 4 for one pixel: its value, and whether no substitute was found (R190). -/
def repair (q : List Nat) (bad : Nat → Bool) (d x v : Nat) : Nat × Bool :=
  if !bad x then (v, false)
  else match substitute q bad x d false, substitute q bad x d true with
    | some u, some w => ((rneDiv (u + w) 2).toNat, false)
    | some u, none => (u, false)
    | none, some w => (w, false)
    | none, none => (v, true)

/-- Stage 5: the output code and whether a UINT8 code was clamped. -/
def outCode (fmt q : Nat) : Nat × Bool :=
  match fmt with
  | 1 => let r := (rneDiv q 256).toNat
         (min 255 r, decide (255 < r))
  | 2 => ((fenc 8 (.fin false q (-16))).v, false)
  | _ => (q, false)

/-- Bytes of a code of OUTFMT. -/
def codeSize (fmt : Nat) : Nat := if fmt = 1 then 1 else 2

/-- A line through stages 1 to 5, and what its counters gain: clamps above, clamps below, defects left. -/
structure Front where
  codes : List Nat
  sat : Nat
  under : Nat
  defect : Nat
  deriving DecidableEq, Repr

/-- The words of a line at the configured width: a short line is completed by repeating its last pixel, a long one cut (R193). -/
def fitWidth (w : Nat) (l : List Nat) : List Nat := l.take w ++ List.replicate (w - l.length) (l.getLast?.getD 0)

/-- The same for YUV422 bytes, whose pixels are two bytes each. -/
def fitPairs (w : Nat) (l : List Nat) : List Nat :=
  let whole := l.take (2 * min w (l.length / 2))
  let last := whole.drop (whole.length - 2)
  whole ++ (List.replicate (w - whole.length / 2) (if last.isEmpty then [0, 0] else last)).flatten

/-- A Bayer or monochrome line (R188); `area` is false on a line-scan stream. -/
def frontMono (b : BlendAt) (area : Bool) (rf y : Nat) (words : List Nat) : Front :=
  let n := rawBits (fval R.STRM_RF_CTRL.UNPACK rf)
  let fmt := fval R.STRM_RF_CTRL.OUTFMT rf
  let v := (List.zip (upto words.length) words).map (fun p => pixelQ b area rf p.1 y (p.2 % 2 ^ n * 2 ^ (16 - n)))
  let q := v.map clamp16
  let bad := fun x => fval R.STRM_RF_CTRL.DEFECT_EN rf == 1 && listed b x y
  let d := cfaPeriod (fval R.STRM_RF_CTRL.CFA rf)
  let r := (List.zip (upto q.length) q).map (fun p => repair q bad d p.1 p.2)
  let o := r.map (fun p => outCode fmt p.1)
  { codes := o.map (·.1), sat := (v.filter (fun x => decide (65535 < x))).length + (o.filter (·.2)).length,
    under := (v.filter (fun x => decide (x < 0))).length, defect := (r.filter (·.2)).length }

/-- A YUV422 line: stages 1 and 5 on each byte; of the bytes Cb, Y, Cr, Y of a pair, pixel 2i becomes (Y, Cb) and pixel
2i + 1 (Y, Cr) (R189). -/
def frontYuv (rf : Nat) (bytes : List Nat) : Front :=
  let o := bytes.map (fun b => outCode (fval R.STRM_RF_CTRL.OUTFMT rf) (b % 256 * 256))
  let px := fun i => [at? 0 (o.map (·.1)) (2 * i + 1), at? 0 (o.map (·.1)) (2 * i)]
  ⟨(upto (bytes.length / 2)).flatMap px, (o.filter (·.2)).length, 0, 0⟩

/-- A line's words as the raw front takes them: two bytes a pixel for YUV422. -/
def frontWords (width rf : Nat) (words : List Nat) : List Nat :=
  if fval R.STRM_RF_CTRL.UNPACK rf = 5 then fitPairs width words else fitWidth width words

/-- The whole raw front on one line. A stream with FRAME_LINES other than 0 is taken as an area sensor's, and shades by its grid
(DESIGN CHOICE, log entry 15: R188 has S fixed on line-scan streams, and no register tells a line-scan camera gated into frames from an
area sensor). -/
def front (s : State) (k : Nat) (rf : Nat) (l : Line) : Front :=
  let w := frontWords (rd s R.STRM_GEOM.WIDTH k) rf l.words
  if fval R.STRM_RF_CTRL.UNPACK rf = 5 then frontYuv rf w else frontMono (rfBlend s k l.no) (frameLines s k != 0) rf l.fline w

/-- The processed line: the first of its block of f lines begins a network-domain line (R185). -/
def frontLine (x : Strm) (rf : Nat) (l : Line) (f : Front) : WLine :=
  { line := l, chans := if fval R.STRM_RF_CTRL.UNPACK rf = 5 then 2 else 1, size := codeSize (fval R.STRM_RF_CTRL.OUTFMT rf),
    f := s2dOf (fval R.STRM_RF_CTRL.S2D rf), codes := f.codes,
    net := if l.fline % s2dOf (fval R.STRM_RF_CTRL.S2D rf) = 0 then x.netLine else x.netLine - 1 }

/-! ### The row -/

/-- A register's word from its fields. -/
def regWord (s : State) (r : RegSpec) (i : Nat) : Nat := r.flds.foldl (fun a f => a + rd s f i * 2 ^ f.lo) 0

/-- The stripe a line not yet written belongs to, and whether it opens it. -/
def stripeAhead (x : Strm) (l : Line) : Nat × Bool :=
  let y := countLine (x.done.foldl (fun y w => countLine y w.line) x) l
  match y.stripes.getLast? with
  | some t => (t.no, t.firstLine == l.no)
  | none => (0, false)

/-- The first stripe that has not come into the raw front. -/
def frontNext (x : Strm) : Nat := (x.done.foldl (fun y w => countLine y w.line) x).nextStripe

/-- A change the speaker named for a stripe: a register is written (R314), or the rejoin stripe opens an epoch (R324). -/
def applyReg (k : Nat) (s : State) (e : Nat × Nat × Change) : State :=
  match e.2.2 with
  | .reg off v => match regAt off with
    | some (r, n) => putAll s r n k v
    | none => s
  | .rejoin _ _ => modStrm s k fun x => { x with renew := true }
  | _ => s

/-- A change of a stream that has come to its stripe; the raw front's register, or another. -/
def isDueChange (k n : Nat) (front : Bool) (e : Nat × Nat × Change) : Bool :=
  e.1 == k && decide (e.2.1 ≤ n) && (match e.2.2 with
    | .reg off _ => (off == 0x18400 || off == 0x50018) == front
    | _ => !front)

/-- The register changes that have come to their stripe take effect. -/
def applyRegs (s : State) (k n : Nat) (front : Bool) : State :=
  let due := s.pair.sched.filter (isDueChange k n front)
  due.foldl (applyReg k) { s with pair := { s.pair with sched := s.pair.sched.filter (fun e => !isDueChange k n front e) } }

/-- Corrected and uncorrectable coefficient words (R193). -/
def coefErrors (s : State) (k : Nat) (c : EndChk) : State :=
  let s1 := (upto c.corrected).foldl (fun s _ => report s 0x0831 k 0) s
  reportIf c.uncorrectable s1 0x0830 k 0

/-- The line's length is not the configured width (R193): reported once per stripe. -/
def checkLength (s : State) (k stripe : Nat) (l : Line) (want : Nat) : State :=
  if l.words.length = want then s
  else
    let s1 := hit (bump s R.STRM_RF_CNT_LEN.COUNT k) R.STRM_RF_STATUS.LEN_MISMATCH k
    if (strm s k).lenAt = stripe + 1 then s1
    else report (modStrm s1 k fun x => { x with lenAt := stripe + 1 }) 0x0640 k stripe

/-- A blend in force no longer blends its shading once SHADE_EN changes (R339). -/
def noteShading (s : State) (k old new : Nat) : State :=
  if fval R.STRM_RF_CTRL.SHADE_EN old = fval R.STRM_RF_CTRL.SHADE_EN new ∨ !(calOf s k).shades then s
  else setCal s k { calOf s k with shades := false }

/-- The control word and the blend length in force: a stripe's first line takes the registers (R41). -/
def takeRf (s : State) (k stripe : Nat) (first : Bool) : State :=
  if !first then s
  else
    let w := regWord s R.STRM_RF_CTRL.reg k
    let n := rd s R.CAL_BLEND.LINES k
    let x := strm s k
    let same := (x.blends.head?.map (·.2)).getD n == n
    let s1 := modStrm (noteShading s k x.rf w) k fun x =>
      { x with rf := w, blends := if same ∧ !x.blends.isEmpty then x.blends else (stripe, n) :: x.blends }
    if (w = x.rf ∧ same) ∨ stripe = 0 then s1 else changeRecord s1 k stripe .configuration

/-- A captured word precedes every table: the words of the first COUNT lines or frames go to the capture area, for the calibration
kernels to add (R332). -/
def captureLine (s : State) (k : Nat) (l : Line) (rf : Nat) : State :=
  let c := calOf s k
  match c.run with
  | none => s
  | some r =>
    if r.phase ≠ 1 ∨ r.count ≤ r.got then s
    else
      let n := rawBits (fval R.STRM_RF_CTRL.UNPACK rf)
      let base := if frameLines s k = 0 then 0 else l.fline * rd s R.STRM_GEOM.WIDTH k
      let new := (List.zip (upto l.words.length) l.words).map (fun p => (base + p.1, p.2 % 2 ^ n * 2 ^ (16 - n)))
      let got := if frameLines s k = 0 ∨ l.closes then r.got + 1 else r.got
      setCal s k { c with run := some { r with words := r.words ++ new, got := got } }

/-- BLEND_POS shows the raw front's position (R348). -/
def showRfBlend (s : State) (k line : Nat) : State :=
  wr s R.CAL_BLEND_POS.RF_J k (min (rfBlend s k line).j (blendN s k))

/-- The effect stripe of a pending commit is reached: the line waits for CAL_EFFECT_START (R338 step 5). -/
def awaitsEffect (s : State) (k stripe : Nat) : Bool :=
  match (calOf s k).eff with
  | some e => decide (e ≤ stripe)
  | none => false

/-! ### STRM_RF_CTRL (R195, R371) -/

/-- A STRM_RF_CTRL value carries no reserved or inconsistent code. -/
def rfCtrlOk (v : Nat) : Bool :=
  let u := fval R.STRM_RF_CTRL.UNPACK v
  let c := fval R.STRM_RF_CTRL.CFA v
  let d := fval R.STRM_RF_CTRL.S2D v
  decide (u ≤ 5) && decide (c ≤ 2) && decide (d ≤ 2) && decide (fval R.STRM_RF_CTRL.OUTFMT v ≤ 2) &&
    !(u == 5 && d != 0) && (d == 0 || s2dOf d % cfaPeriod c == 0)

/-- A write would change one of the given fields of a register. -/
def changes (s : State) (k v : Nat) (l : List Fld) : Bool := l.any (fun f => fval f v != rd s f k)

/-- The listener of a pair refuses content-affecting writes of its own host or Clapper (R314). -/
def listenerRefuses (s : State) (w : Wr) : Bool := isListener s && w.who != .control

/-- A write to STRM_RF_CTRL: refused on a listener, ignored whole with CFG_REJECT, or with 0x060B where it changes a
source field of a running stream. -/
def execStrmRfCtrlWrite (w : Wr) (s : State) : Host.Outcome State Fault Refusal :=
  ok (gate s w R.STRM_RF_CTRL.reg 0 fun s k =>
    if listenerRefuses s w then report s 0x0C0B k 0
    else if !rfCtrlOk w.val then hit s R.STRM_RF_STATUS.CFG_REJECT k
    else if running s k ∧ changes s k w.val [R.STRM_RF_CTRL.UNPACK, R.STRM_RF_CTRL.CFA, R.STRM_RF_CTRL.S2D] then
      report s 0x060B k 0
    else sendControl (putAll s R.STRM_RF_CTRL.reg 0 k w.val) k (frontNext (strm s k)) 0x18400 [w.val])

end Sys2Proof.Machine
end

