-- ==== Sys2Proof/Machine/Security.lean ====
section
/-! DEFINITION. Machine/Security.lean: fuses, firmware slots, keys, the lifecycle and access in the field (R416-R429).
Its conventions: DEDUCED, log entry 50. -/

namespace Sys2Proof.Machine

open Sys2Proof

/-! ### Firmware slots (R417-R420) -/

/-- Lifecycle state: 0 MANUFACTURE, 1 PROVISIONED, 2 FIELD, 3 RETURN. -/
def lifecycle (s : State) : Nat := rd s R.SEC_LIFECYCLE.STATE 0

/-- Changes what the chapter keeps beyond its registers. -/
def secMap (s : State) (f : Sec → Sec) : State := { s with sec := f s.sec }

/-- Image of a flash slot; an empty slot has none. -/
def fwSlot (s : State) (n : Nat) : List Byte := at? [] s.sec.flash n

/-- SVN of an image's header (R417). -/
def fwSvn (i : List Byte) : Nat := fieldLE i 6 1
/-- FW_VERSION. -/
def fwVersion (i : List Byte) : Nat := fieldLE i 8 4
/-- LENGTH of the body. -/
def fwLength (i : List Byte) : Nat := fieldLE i 12 4
/-- DIGEST. -/
def fwDigest (i : List Byte) : List Byte := slice i 32 48
/-- The full public key: its first 64 bytes in the header, the rest after the body. -/
def fwKey (i : List Byte) : List Byte := slice i 192 64 ++ slice i (256 + fwLength i) 33

/-- A vendor key hash's slot names a key that is not REVOKED. -/
def vendorKeyOk (l : List (List Byte × Bool)) (n : Nat) (key : List Byte) : Bool :=
  match l[n]? with
  | some k => !k.2 && sha384 key == k.1
  | none => false

/-- An image's checks of R418 but the last: MAGIC, HDR_VERSION, zero RSV fields, its size, the key's fuse hash, the signature over
bytes 0 to 95 and the digest of the body. -/
def fwVerifies (s : State) (i : List Byte) : Bool :=
  fieldLE i 0 4 == 0x48583946 && fieldLE i 4 1 == 1 && fieldLE i 7 1 == 0 && fieldLE i 80 16 == 0 &&
    decide (256 + fwLength i + 33 ≤ i.length) && decide (i.length ≤ 2 ^ 25) &&
    vendorKeyOk s.sec.vendorFw (fieldLE i 5 1) (fwKey i) && sig384Ok (fwKey i) (slice i 96 96) (slice i 0 96) &&
    fwDigest i == sha384 (slice i 256 (fwLength i))

/-- A slot is bootable: its checks hold and its SVN is at least the anti-rollback counter (R418). -/
def bootable (s : State) (i : List Byte) : Bool := fwVerifies s i && decide (rd s R.SEC_BOOT.ROLLBACK 0 ≤ fwSvn i)

/-- The slot that did not boot. -/
def otherSlot (s : State) : Nat := 1 - rd s R.SEC_BOOT.SLOT 0

/-- The registers of the running image (R418, R439). -/
def showFw (s : State) (slot : Nat) : State :=
  let i := fwSlot s slot
  let s1 := wr (wr (wr s R.SEC_BOOT.SLOT 0 slot) R.SEC_BOOT.SVN 0 (fwSvn i)) R.SEC_FW_VERSION.VERSION 0 (fwVersion i)
  wr (wr s1 R.BOOT_STATUS.FW_SLOT 0 slot) R.SEC_BOOT.OTHER_VALID 0 (b2n (bootable s1 (fwSlot s1 (1 - slot))))

/-- An image is written into the slot that did not boot: it fills the slot only once found bootable; one with an SVN above
64 or that is not bootable is refused with 0x0903 and leaves the slot empty (R420). The answer: its code. -/
def writeFirmware (s : State) (slot : Nat) (i : List Byte) : State × Nat :=
  if 64 < fwSvn i then (report s 0x0903 slot (fwSvn i), 0x0903)
  else
    let good := bootable s i
    let i' := if good then i else []
    let s1 := secMap s fun x => { x with flash := setAt x.flash slot i' }
    let s2 := wr s1 R.SEC_BOOT.OTHER_VALID 0 (b2n (bootable s1 (fwSlot s1 (1 - rd s1 R.SEC_BOOT.SLOT 0))))
    if good then (s2, 0) else (report s2 0x0903 slot 0, 0x0903)

/-- After a hand-over the anti-rollback counter rises to the running image's SVN; a burn that fails its verification is
retried at every power-up (R420). -/
def raiseRollback (s : State) (svn : Nat) (burnOk : Bool) : State :=
  if svn ≤ rd s R.SEC_BOOT.ROLLBACK 0 then s
  else if burnOk then report (secMap (wr s R.SEC_BOOT.ROLLBACK 0 svn) fun x => { x with burn := none }) 0x0904 0 svn
  else report (secMap s fun x => { x with burn := some svn }) 0x0905 0 svn

/-! ### Packages (R421, R423) -/

/-- KEY_SLOT of a package's trailer. -/
def keySlot (g : Image) : Nat := fieldLE g.trailer 0 1

/-- The first check of a package's trailer that fails; 0 for none: the key's slot, the hash of its PUBKEY, and the SIGNATURE over the
package's bytes and trailer bytes 0 to 79. -/
def trailerCode (s : State) (g : Image) : Nat :=
  let valid := rd s R.SEC_KEYS.VALID 0
  let n := keySlot g
  let key := slice g.trailer 16 64
  if lifecycle s = 3 then 0x0910
  else if n = 0xFF then (if lifecycle s = 0 ∨ (lifecycle s = 1 ∧ valid = 0) then 0 else 0x0910)
  else if 4 ≤ n ∨ !bit valid n ∨ bit (rd s R.SEC_KEYS.REVOKED 0) n then 0x0910
  else if sha256 key ≠ at? [] s.sec.keyHash n then 0x0911
  else if !sig256Ok key (slice g.trailer 80 64) (g.bytes.take (fieldLE g.trailer 8 8) ++ slice g.trailer 0 80) then 0x0912 else 0

/-- An unsigned package that PROVISIONED takes is reported (R421). -/
def noteUnsigned (s : State) (g : Image) (k : Nat) : State := reportIf (keySlot g == 0xFF && lifecycle s == 1) s 0x0913 k 0

/-! ### Key commands and the lifecycle (R422-R424) -/

/-- A lifecycle change burns its fuse, is recorded and reported; a power loss in the burn leaves it for the next power-up
(R424). -/
def setLifecycle (s : State) (st : Nat) (cut : Bool) : State :=
  if cut then secMap s fun x => { x with lifeBurn := some st }
  else
    let s1 := secMap (wr s R.SEC_LIFECYCLE.STATE 0 st) fun x => { x with lifeBurn := none }
    let s2 := if st = 3 then { wr s1 R.SEC_KEYS.REVOKED 0 15 with life := { s1.life with slots := [] } } else s1
    report (logChange s2 [0x0917, st]) 0x0917 0 st

/-- The conditions of PROVISION_DONE (R423). -/
def mayFinish (s : State) : Bool :=
  lifecycle s == 1 && rd s R.SEC_KEYS.VALID 0 != 0 && !s.sec.pw.isEmpty && isSet s R.SEC_KEYS.CR_KEY 0 && !s.sec.mgmtKeys.isEmpty

/-- A slot of VALID keys that are not REVOKED. -/
def liveKey (s : State) (n : Nat) : Bool :=
  decide (n < 4) && bit (rd s R.SEC_KEYS.VALID 0) n && !bit (rd s R.SEC_KEYS.REVOKED 0) n

/-- The code a key command is refused with; 0 where it is applied (R422). Customer fuses are written in PROVISIONED or
FIELD (R416). -/
def keyCode (s : State) (c : KeyCmd) : Nat :=
  if c.uniqueId ≠ unique s ∨ c.seq ≤ s.sec.keySeq ∨ !liveKey s c.signer ∨ !c.sigOk ∨
      (lifecycle s ≠ 1 ∧ lifecycle s ≠ 2) then 0x0914
  else match c.op with
    | .addKey _ => if rd s R.SEC_KEYS.VALID 0 = 15 then 0x0915 else 0
    | .revokeKey n => if 4 ≤ n ∨ n = c.signer ∨ !(upto 4).any (fun j => j != n && liveKey s j) then 0x0914 else 0
    | .setPassword _ => if 4 ≤ s.sec.pw.length then 0x0915 else 0
    | .setMgmtKey _ => if 4 ≤ s.sec.mgmtKeys.length then 0x0915 else 0
    | .provisionDone => if mayFinish s then 0 else 0x0914

/-- A key's hash is burned into a slot. -/
def burnKey (s : State) (n : Nat) (hash : List Byte) : State :=
  secMap (wr s R.SEC_KEYS.VALID 0 (orBit (rd s R.SEC_KEYS.VALID 0) n)) fun x =>
    { x with keyHash := setAt x.keyHash n (slice hash 0 32) }

/-- What an accepted key command does. A new management key restarts the sequence numbers (R431). -/
def doKey (s : State) (op : KeyOp) (cut : Bool) : State :=
  match op with
  | .addKey h => burnKey s ((firstSuch (fun n => !bit (rd s R.SEC_KEYS.VALID 0) n) 4).getD 0) h
  | .revokeKey n => wr s R.SEC_KEYS.REVOKED 0 (orBit (rd s R.SEC_KEYS.REVOKED 0) n)
  | .setPassword b => wr (secMap s fun x => { x with pw := x.pw ++ [b] }) R.SEC_KEYS.PW_SLOT 0 s.sec.pw.length
  | .setMgmtKey b =>
    let s1 := wr (secMap s fun x => { x with mgmtKeys := x.mgmtKeys ++ [b] }) R.SEC_KEYS.MGMT_SLOT 0 s.sec.mgmtKeys.length
    { s1 with mgmt := { s1.mgmt with nextSeq := 1, lastIn := 0 } }
  | .provisionDone => setLifecycle s 2 cut

/-- A key command reaches the control complex: refused with its code, or applied and reported (R422). -/
def applyKey (s : State) (c : KeyCmd) (cut : Bool) : State × Nat :=
  match keyCode s c with
  | 0 => (report (doKey (secMap s fun x => { x with keySeq := c.seq }) c.op cut) 0x0916 0 c.seq, 0)
  | code => (report s code 0 c.seq, code)

/-- ADD_KEY. -/
def execKeyAddKey (c : KeyCmd) (s : State) : Host.Outcome State Fault Refusal :=
  match c.op with
  | .addKey _ => ok (applyKey s c false).1
  | _ => ok s

/-- REVOKE_KEY. -/
def execKeyRevokeKey (c : KeyCmd) (s : State) : Host.Outcome State Fault Refusal :=
  match c.op with
  | .revokeKey _ => ok (applyKey s c false).1
  | _ => ok s

/-- SET_PASSWORD. -/
def execKeySetPassword (c : KeyCmd) (s : State) : Host.Outcome State Fault Refusal :=
  match c.op with
  | .setPassword _ => ok (applyKey s c false).1
  | _ => ok s

/-- SET_MGMT_KEY. -/
def execKeySetMgmtKey (c : KeyCmd) (s : State) : Host.Outcome State Fault Refusal :=
  match c.op with
  | .setMgmtKey _ => ok (applyKey s c false).1
  | _ => ok s

/-- PROVISION_DONE; `cut`: power is lost while its fuse burns. -/
def execKeyProvisionDone (c : KeyCmd) (cut : Bool) (s : State) : Host.Outcome State Fault Refusal :=
  match c.op with
  | .provisionDone => ok (applyKey s c cut).1
  | _ => ok s

/-- The vendor's command at the end of manufacturing test, with K_CR and a first customer key where it burns one (log
entry 50). -/
def execVendorProvision (crKey : List Byte) (firstKey : Option (List Byte)) (cut : Bool) (s : State) :
    Host.Outcome State Fault Refusal :=
  if lifecycle s ≠ 0 then ok (report s 0x0914 0 0)
  else
    let s1 := if crKey.isEmpty then s else wr (secMap s fun x => { x with crKey := slice crKey 0 32 }) R.SEC_KEYS.CR_KEY 0 1
    let s2 := match firstKey with
      | some h => burnKey s1 0 h
      | none => s1
    ok (setLifecycle (makeRecordKey s2) 1 cut)

/-- RETURN, signed by a vendor test-pack key, within the power session of a successful challenge-response (R423). -/
def execVendorReturn (sigOk : Bool) (key : Nat) (cut : Bool) (s : State) : Host.Outcome State Fault Refusal :=
  let revoked := (at? ([], true) s.sec.vendorTest key).2
  if lifecycle s = 3 ∨ !sigOk ∨ revoked ∨ !s.sec.crSession then ok (report s 0x0914 0 0) else ok (setLifecycle s 3 cut)

/-! ### Access in the field (R425-R429) -/

/-- JTAG answers fully: outside FIELD, or reopened. -/
def jtagOpen (s : State) : Bool := lifecycle s != 2 || isSet s R.SEC_ACCESS_STATUS.JTAG_OPEN 0

/-- The debug window is open. -/
def dbgOpen (s : State) : Bool := lifecycle s != 2 || isSet s R.SEC_ACCESS_STATUS.DBGWIN_OPEN 0

/-- Ticks lockout number n lasts: 2^(n − 1) h, up to 1,024 h (R428). -/
def lockTicks (n : Nat) : Nat := 2 ^ (min n 11 - 1) * 3600 * 100000000

/-- Ticks of the lockout in force that have been served. -/
def lockServed (s : State) : Nat := s.sec.served + (s.tick - s.sec.lockFrom)

/-- A submission is refused and not counted. -/
def submitRefused (s : State) : State := report s 0x0921 0 0

/-- A wrong submission counts; the tenth begins a lockout. -/
def wrongTry (s : State) : State :=
  let n := rd s R.SEC_ACCESS_STATUS.TRIES 0 + 1
  let s1 := report s 0x0921 0 n
  if n < 10 then wr s1 R.SEC_ACCESS_STATUS.TRIES 0 n
  else
    let s2 := bump (wr s1 R.SEC_ACCESS_STATUS.TRIES 0 0) R.SEC_ACCESS_STATUS.LOCKOUTS 0
    report (secMap (wr s2 R.SEC_ACCESS_STATUS.LOCKED_OUT 0 1) fun x => { x with served := 0, lockFrom := s.tick }) 0x0922 0
      (rd s2 R.SEC_ACCESS_STATUS.LOCKOUTS 0)

/-- A right submission opens SCOPE and clears TRIES and the count of lockouts. -/
def reopen (s : State) (scope : Nat) : State :=
  let s1 := wr (wr s R.SEC_ACCESS_STATUS.TRIES 0 0) R.SEC_ACCESS_STATUS.LOCKOUTS 0 0
  let s2 := wrIf (bit scope 0) s1 R.SEC_ACCESS_STATUS.JTAG_OPEN 0 1
  report (wrIf (bit scope 1) s2 R.SEC_ACCESS_STATUS.DBGWIN_OPEN 0 1) 0x0920 0 scope

/-- The password submitted is right: 8 to 64 bytes, and SHA-256 of salt and password is that of the slot in force (R426). -/
def passwordRight (s : State) : Bool :=
  match s.sec.pw.getLast? with
  | none => false
  | some p => decide (8 ≤ s.sec.pwLen) && decide (s.sec.pwLen ≤ 64) &&
      sha256 (slice p 0 16 ++ slice s.sec.password 0 s.sec.pwLen) == slice p 16 32

/-- SUBMIT_PW of a scope. The password is cleared after the comparison. -/
def submitPw (s : State) (scope : Nat) : State :=
  if lifecycle s ≠ 2 then s
  else if isSet s R.SEC_ACCESS_STATUS.LOCKED_OUT 0 ∨ isSet s R.SEC_ACCESS_STATUS.TAMPER 0 ∨ scope = 0 then submitRefused s
  else
    let s1 := secMap s fun x => { x with password := List.replicate 64 0 }
    if passwordRight s then reopen s1 scope else wrongTry s1

/-- The nonce is still good: not used and not older than 60 s (R427). -/
def nonceGood (s : State) : Bool :=
  match s.sec.nonceAt with
  | some t => decide (s.tick ≤ t + 6000000000)
  | none => false

/-- The response is right: HMAC-SHA-256 under K_CR over the nonce, UNIQUE_ID, the SCOPE byte and seven zero bytes (R427). -/
def responseRight (s : State) (scope : Nat) : Bool :=
  isSet s R.SEC_KEYS.CR_KEY 0 &&
    hmac256 s.sec.crKey (s.sec.nonce ++ leBytes 8 (unique s) ++ leBytes 1 scope ++ List.replicate 7 0) == s.sec.response

/-- SUBMIT_CR of a scope: a nonce is good for one submission; success clears the tamper latch (R427, R428). -/
def submitCr (s : State) (scope : Nat) : State :=
  if lifecycle s ≠ 2 then s
  else if isSet s R.SEC_ACCESS_STATUS.LOCKED_OUT 0 ∨ scope = 0 then submitRefused s
  else
    let s1 := secMap s fun x => { x with nonceAt := none }
    if nonceGood s && responseRight s scope then
      secMap (reopen (wr s1 R.SEC_ACCESS_STATUS.TAMPER 0 0) scope) fun x => { x with crSession := true }
    else wrongTry s1

/-- n bytes of the entropy source: free values. -/
def entropy (s : State) : Nat → List Byte × State
  | 0 => ([], s)
  | n + 1 =>
    let r := fresh s
    let t := entropy r.2 n
    (BitVec.ofNat 8 r.1 :: t.1, t.2)

/-- A fresh nonce of 32 bytes, good for 60 s; it replaces the one before (R427). -/
def drawNonce (s : State) : State :=
  let r := entropy s 32
  secMap r.2 fun x => { x with nonce := r.1, nonceAt := some s.tick }

/-- Reopened access closes (R425). -/
def closeAccess (s : State) : State :=
  if isSet s R.SEC_ACCESS_STATUS.JTAG_OPEN 0 ∨ isSet s R.SEC_ACCESS_STATUS.DBGWIN_OPEN 0 then
    report (wr (wr s R.SEC_ACCESS_STATUS.JTAG_OPEN 0 0) R.SEC_ACCESS_STATUS.DBGWIN_OPEN 0 0) 0x0923 0 0
  else s

/-- A write of SEC_ACCESS_CTRL with bit b set: SCOPE, then each command of the write, lowest bit first. -/
def writeAccess (w : Wr) (b : Nat) (s : State) : State :=
  gate s w R.SEC_ACCESS_CTRL.reg 0 fun s i =>
    if !bit w.val b then s
    else
      let scope := fval R.SEC_ACCESS_CTRL.SCOPE w.val
      let s1 := putAll s R.SEC_ACCESS_CTRL.reg 0 i w.val
      let s2 := if bit w.val 2 then submitPw s1 scope else s1
      let s3 := if bit w.val 3 then submitCr s2 scope else s2
      let s4 := if bit w.val 4 then drawNonce s3 else s3
      if bit w.val 5 then closeAccess s4 else s4

/-- SUBMIT_PW (R426). -/
def execSecSubmitPw (w : Wr) (s : State) : Host.Outcome State Fault Refusal := ok (writeAccess w 2 s)

/-- SUBMIT_CR (R427). -/
def execSecSubmitCr (w : Wr) (s : State) : Host.Outcome State Fault Refusal := ok (writeAccess w 3 s)

/-- NONCE (R427). -/
def execSecNonce (w : Wr) (s : State) : Host.Outcome State Fault Refusal := ok (writeAccess w 4 s)

/-- CLOSE (R425). -/
def execSecClose (w : Wr) (s : State) : Host.Outcome State Fault Refusal := ok (writeAccess w 5 s)

/-- A nonce older than 60 s expires. -/
def execNonceExpiry (s : State) : Host.Outcome State Fault Refusal :=
  match s.sec.nonceAt with
  | some t => if s.tick < t + 6000000000 then ok s else ok (secMap s fun x => { x with nonceAt := none })
  | none => ok s

/-- A lockout ends once its powered time has been served (R428). -/
def execLockoutEnd (s : State) : Host.Outcome State Fault Refusal :=
  if !isSet s R.SEC_ACCESS_STATUS.LOCKED_OUT 0 ∨ lockServed s < lockTicks (rd s R.SEC_ACCESS_STATUS.LOCKOUTS 0) then ok s
  else ok (secMap (wr s R.SEC_ACCESS_STATUS.LOCKED_OUT 0 0) fun x => { x with served := 0, lockFrom := s.tick })

/-- An invasive action of JTAG: refused with 0x0921 while SAFE is 0 (R425). -/
def invasive (s : State) (f : State → State) : State := if isSafe s then f s else submitRefused s

/-- A core is halted: its share stops, and it takes no descriptor until the halt ends (R425, R461). -/
def haltCore (s : State) (c : Nat) : State :=
  if s.part.cores ≤ c then s else modCore (stopShare s c) c fun k => { k with halted := true }

/-- A JTAG instruction: a closed TAP answers BYPASS and IDCODE only. No access reaches Damson (R352). -/
def execJtagAccess (op : JtagOp) (s : State) : Host.Outcome State Fault Refusal :=
  match op with
  | .bypass => ok (emit s (.answer 0 []))
  | .idcode => let r := fresh s
               ok (emit r.2 (.answer 1 [r.1]))
  | .read a =>
    if !jtagOpen s then ok s
    else if !busOk s a 32 then ok (emit s (.answer 3 [a]))
    else ok (emit s (.answer 2 (a :: (busRead s a 32).1.map (·.toNat))))
  | .extest l => ok (if jtagOpen s then invasive s (fun s => emit s (.answer 4 l)) else s)
  | .halt c => ok (if jtagOpen s then invasive s (fun s => haltCore s c) else s)
  | .write a d =>
    ok (if jtagOpen s then invasive s (fun s => if busOk s a d.length then busWrite s a d false else emit s (.answer 3 [a])) else s)

end Sys2Proof.Machine
end

