-- ==== Sys2Proof/Machine/Shares.lean ====
section
/-! DEFINITION. Machine/Shares.lean: dispatch of stripe and crop shares, the end of a share, and the compute deadline
(R18, R40, R178, R205, R218, R223, R231, R82, R83, R280-R287, R407-R411).
Its conventions: DEDUCED, log entries 15, 16. -/

namespace Sys2Proof.Machine

open Sys2Proof

/-! ### The first dispatch of a stripe -/

/-- Every member's stripe of the number is closed (R219). -/
def allClosed (s : State) (k n : Nat) : Bool :=
  (members s k).all fun j => match stripeOf (strm s j) n with
    | some t => t.closed
    | none => false

/-- T0 of a group's stripe: the latest member's (R219). -/
def groupT0 (s : State) (k n : Nat) : Nat :=
  (members s k).foldl (fun a j => match stripeOf (strm s j) n with
    | some t => max a t.t0
    | none => a) 0

/-- Every barrier generation of a stripe has completed (R205). -/
def barriersDone (s : State) (k n : Nat) : Bool :=
  (s.gongs.filter (fun g => g.stream == k && g.stripe == n)).all Gong.done

/-- Frame position word (R178). -/
def frameWord (t : Stripe) (epochFirst : Bool) : Nat :=
  b2n t.opening + 2 * b2n t.closing + 4 * b2n epochFirst + 256 * min 255 t.lines

/-- A package swap takes effect at its stripe (R407 step 5): the stream's package, bank and placement change. -/
def swapEffect (x : Strm) (n : Nat) : Strm × Bool :=
  match x.swap with
  | some w => if (match w.eff with
      | some e => decide (e ≤ n)
      | none => false) && (x.pkg ≠ some w.pkg || x.bank ≠ w.bank) then
      ({ x with pkg := some w.pkg, bank := w.bank, place := w.place, height := w.pkg.height, renew := true }, true)
    else (x, false)
  | none => (x, false)

/-- A hand-over re-instates the running package at its effect stripe, which opens a new epoch (R409 step 5). -/
def handoverEffect (x : Strm) (n : Nat) : Strm × Bool :=
  match x.handover with
  | some e => if e ≤ n then ({ x with handover := none, renew := true }, true) else (x, false)
  | none => (x, false)

/-- Maps whose first stripe is reached come into force; the maps they replace are held until it commits (R234). -/
def mapEffect (x : Strm) (n : Nat) : Strm :=
  let due := x.newMaps.filter (fun m => decide (m.first ≤ n))
  match due.getLast? with
  | none => x
  | some m => { x with map := m, newMaps := x.newMaps.filter (fun m => decide (n < m.first)), oldMaps := x.oldMaps ++ [x.map] }

/-- Bands of a map whose home, start or width differ from the map before (R234 step 4). -/
def coldBands (old new : BandMap) : List Nat :=
  (upto new.bands.length).filter (fun i => new.bands[i]? != old.bands[i]?)

/-- The tiling registers of the map in force (R236). -/
def showMap (s : State) (k : Nat) (m : BandMap) : State :=
  let ws := m.bands.map (·.width)
  let s1 := wr (wr s R.STRM_TILE_INFO.BANDS k m.bands.length) R.STRM_TILE_INFO.GEN k m.gen
  let s2 := wr s1 R.STRM_TILE_FIRST.STRIPE k m.first
  wr (wr s2 R.STRM_TILE_WIDTH.MAX k (ws.foldl max 0)) R.STRM_TILE_WIDTH.MIN k (ws.foldl min (ws.headD 0))

/-- The firmware hand-over switches just before the dispatch of the earliest effect stripe: the new image runs (R409
step 4). -/
def handoverSwitch (s : State) : State :=
  if s.flt.handover = 2 then
    let s1 := { s with flt := { s.flt with handover := 3, testing := true } }
    resendJournal (showFw (wr (wr s1 R.SSC_STATE.STANDBY 0 0) R.BOOT_STATUS.STANDBY_OK 0 0) (otherSlot s))
  else s

/-- Change records of what takes effect at a stripe boundary (R41, R297). -/
def boundaryRecords (s : State) (k n : Nat) (swapped handed tiledNow : Bool) : State :=
  let x := strm s k
  let s1 := if swapped then changeRecord s k n .package else s
  let s2 := if handed then changeRecord s1 k n .firmware else s1
  let s3 := if tiledNow then changeRecord s2 k n .tiling else s2
  let s4 := if x.changes.isEmpty then s3 else changeRecord (modStrm s3 k fun x => { x with changes := [] }) k n .configuration
  if x.released then
    changeRecord { modStrm s4 k (fun x => { x with released := false }) with
      flt := { s4.flt with releases := (k, n) :: s4.flt.releases } } k n .release
  else s4

/-- Arms the barriers of a stripe with its shares (R144). -/
def armGongs (s : State) (k n count : Nat) (bs : List (Nat × Nat)) : State := bs.foldl (fun s b => armGong s k n count b) s

/-- Number of the epoch a stripe starts: in a listener the number the speaker last announced, where it has one for the
stripe; else the member's own next one (R40). -/
def epochFor (s : State) (k n : Nat) : Nat :=
  match (s.pair.epochs.filter (fun e => e.1 == k && decide (e.2.1 ≤ n))).getLast? with
  | some e => if isListener s then e.2.2 else nextEpoch (strm s k)
  | none => nextEpoch (strm s k)

/-- The speaker announces an epoch start (R40); what was announced for the stripe is used up. -/
def announce (s : State) (k n e : Nat) (first : Bool) : State :=
  let s1 := { s with pair := { s.pair with epochs := s.pair.epochs.filter (fun p => !(p.1 == k && decide (p.2.1 ≤ n))) } }
  if first then sendControl s1 k n 0x320 [e] else s1

/-- A member of a lock group beside the leader comes to a stripe: what takes effect at its boundary does (R41, R407), and the stripe
keeps its package, placement and picture-back control. -/
def beginMember (e n : Nat) (s : State) (j : Nat) : State :=
  let s0 := applyRegs s j n false
  let h := handoverEffect (strm s0 j) n
  let w := swapEffect h.1 n
  let x := w.1
  let s1 := setStrm (if x.dropFlow then wr s0 R.STRM_FLT_CTRL.PROT j 0 else s0) j { x with epoch := some e, renew := false, dropFlow := false }
  let s2 := modStripe s1 j n fun t => { t with pkg := x.pkg, place := x.place, pb := regWord s1 R.STRM_PB_CTRL.reg j }
  let s3 := match x.pkg with
    | some g => writeTable s2 x.place g j
    | none => s2
  boundaryRecords s3 j n w.2 h.2 false

/-- A stripe opens a new epoch of a stream: one is due, or a swap or hand-over takes effect at it (R40). -/
def renews (s : State) (n j : Nat) : Bool := (swapEffect (handoverEffect (strm s j) n).1 n).1.renew

/-- At an epoch start the counters of every home core, FULL and FREE among them, and the credit base of every channel a package
names are written, so that the first two fills pass their waits; a channel whose program runs keeps its own (R254). -/
def freeCredits (s : State) (m : BandMap) (g : Pkg) : State :=
  g.channels.foldl (fun s c => if (dmaCh s c).run.isNone then wr s R.DMA_CH_CRED.CRED c 0xFFFFFE else s)
    (m.bands.foldl (fun s b => openCnts s b.home g) s)

/-- Nothing of a stream's earlier stripes runs or waits on a core, and no program on a channel its package names. -/
def quietBefore (s : State) (k n : Nat) (m : BandMap) (g : Pkg) : Bool :=
  (strm s k).stripes.all (fun t => decide (n ≤ t.no) || t.shares.all Share.finished) &&
    m.bands.all (fun b => (coreAt s b.home).run.isNone && (coreAt s b.home).next.isNone) &&
    g.channels.all (fun c => (dmaCh s c).run.isNone)

/-- At the close of a stripe that opens an epoch, before its fill starts, the counters and credits are written while no program runs;
where one still does, that is left to the stripe's first dispatch (R254; the latter DEDUCED, log entry 17). -/
def openCredits (s : State) (k n : Nat) : State :=
  let x := mapEffect (swapEffect (handoverEffect (strm s k) n).1 n).1 n
  match x.pkg with
  | some g =>
    if (members s k).any (renews s n) && quietBefore s k n x.map g then
      modStripe (freeCredits s x.map g) k n fun t => { t with credited := true }
    else s
  | none => s

/-- The control complex sees a stripe complete in DRAM and closes it (R18 step 5). -/
def execStripeClose (stream : Nat) (s : State) : Host.Outcome State Fault Refusal :=
  match toClose (strm s stream) with
  | none => ok s
  | some t =>
    let s1 := watchClose (modStripe s stream t.no fun t => { t with closed := true }) stream t.no
    let s2 := if tooFast s stream t then hit (report s1 0x0616 stream t.no) R.STRM_STATUS.FAST stream else s1
    ok (if leader s stream = stream then openCredits s2 stream t.no else s2)

/-- A stripe is begun: what takes effect at its boundary does, in the order of R410, and its barriers are armed. The stream table
is written at an epoch start and with a new map; so is the map at an epoch start, with PREV 0 (R223). The shares of a lock group carry
one epoch number (R219): what opens an epoch of a member, the return of its source too, opens one of the group (R40; DEDUCED, log
entry 15). -/
def beginStripe (s : State) (k : Nat) (t : Stripe) : State :=
  let n := t.no
  let s := applyRegs s k n false
  let h := handoverEffect (strm s k) n
  let w := swapEffect h.1 n
  let x0 := mapEffect w.1 n
  let first := x0.renew || (members s k).any (renews s n)
  let x := if first then { x0 with map := { x0.map with addr := mapAddr x0.place x0.map.gen } } else x0
  let e := if first then epochFor s k n else x.epoch.getD 0
  let tiledNow := x.map.first == n && x.map.bands != (strm s k).map.bands
  let cold := if first then [] else coldBands (strm s k).map x.map
  let x' := { x with epoch := some e, renew := false, dropFlow := false }
  let s0 := setStrm (if h.2 then handoverSwitch s else s) k x'
  let s1 := if first && !isSafe s0 then { s0 with act := { s0.act with armed := tset 0 s0.act.armed k (e + 1) } } else s0
  let s2 := if x.dropFlow then wr s1 R.STRM_FLT_CTRL.PROT k 0 else s1
  let digest := isSet s2 R.STRM_FLT_CTRL.DIGEST k
  let t' := { t with begun := true, epoch := e, epochFirst := first, pkg := x.pkg, place := x.place, bank := x.bank, map := x.map,
                     cold := cold, noCarry := first, flow := !digest && rd s2 R.STRM_FLT_CTRL.PROT k == 2,
                     pb := regWord s2 R.STRM_PB_CTRL.reg k, t0 := groupT0 s k n,
                     crops := (x.pkg.map (fun g => g.cropMax == 0)).getD true }
  let s3 := ((members s k).filter (· != k)).foldl (beginMember e n) (setStrm s2 k (putStripe (strm s2 k) t'))
  let s4 := match x.pkg with
    | some g =>
      let a := if first ∨ tiledNow then writeTable s3 x.place g k else s3
      let b := if first then writeMap a x.map 0 else a
      let b := if first && !t.credited then freeCredits b x.map g else b
      armGongs b k n x.map.bands.length g.barriers
    | none => s3
  let s5 := showMap s4 k x.map
  let s6 := if cold.isEmpty then s5 else hit s5 R.STRM_TILE_STATUS.COLD k
  announce (boundaryRecords s6 k n w.2 h.2 tiledNow) k n e first

/-! ### Share dispatch (R223, R231) -/

/-- Every stream share of a stripe has ended clean. -/
def bandsClean (t : Stripe) : Bool :=
  (t.shares.filter (fun h => !h.crop)).length == t.map.bands.length && t.shares.all (fun h => h.crop || h.clean)

/-- A shadow of a stripe's band, or of any of its bands, has not ended (R231). -/
def shadowOut (s : State) (k n : Nat) (band : Option Nat) : Bool :=
  s.flt.shadows.any (fun h => h.stream == k && h.stripe == n && (band.isNone || band == some h.band) &&
    (h.ended.isNone || (h.third.isSome && !h.thirdDone)))

/-- A core runs or has queued a share. -/
def busyCore (s : State) (c : Nat) : Bool := (coreAt s c).run.isSome || (coreAt s c).next.isSome

/-- Scratchpad words of a generation of a package's carry rings: first word and length. -/
def carryWords (g : Pkg) (gen : Nat) : List (Nat × Nat) :=
  (g.rings.filter (·.carry)).map fun r => (r.base + gen % 2 * (r.count / 2 * r.z), r.count / 2 * r.z)

/-- Carry words another stream still holds on a core that its next map, or its map in force, has taken from it: of the generation
before the map's first stripe, until that commits (R234 step 5). -/
def heldCarry (s : State) (k c : Nat) : List (Nat × Nat) :=
  (upto 32).flatMap fun j =>
    let x := strm s j
    let left := fun (l : List BandMap) (f : Nat) => if (l.any fun m => m.bands.any (·.home == c)) then
      (x.pkg.map fun g => carryWords g (f + 1)).getD [] else []
    if j = k then [] else left x.oldMaps x.map.first ++ (x.newMaps.flatMap fun m => left [x.map] m.first)

/-- The carry generation a share of stripe t writes on its home core overwrites none that another stream holds there. -/
def carryFree (s : State) (k c : Nat) (t : Stripe) : Bool :=
  let held := heldCarry s k c
  (t.pkg.map fun g => carryWords g t.no).getD [] |>.all fun w => held.all fun h => !overlaps w.1 w.2 h.1 h.2

/-- The stripe before a share's is done with its carry: every share that reads what this band's share overwrites or is about to
read has ended, and the stripe's own share of the band clean; under flow-through, whatever its outcome (R231, R278). An epoch's first
stripe and a new tiling overwrite what any band of the stripe before may read, and set the rings of a core that no share of any
stream uses. No share overwrites carry that another stream still holds on the core (R234 step 5). -/
def carryReady (s : State) (k : Nat) (t : Stripe) (i home : Nat) : Bool :=
  let done := fun (p : Stripe) (h : Share) => if p.flow then h.finished else h.clean
  let all := fun (p : Stripe) => (p.shares.filter (fun h => !h.crop)).length == p.map.bands.length &&
    p.shares.all (fun h => h.crop || done p h) && !shadowOut s k p.no none
  (!(t.noCarry || t.cold.contains i) || !busyCore s home) && carryFree s k home t &&
    (if t.no = 0 then true
    else match stripeOf (strm s k) (t.no - 1) with
      | none => true
      | some p =>
        if t.noCarry ∨ t.cold.contains i ∨ !p.cold.isEmpty then all p
        else (match shareOf p false i with
          | some h => done p h
          | none => false) && !shadowOut s k p.no (some i))

/-- A core accepts a descriptor of a bank now (R79), and its resident set is complete: it is not bypassed on the weight chain (R257). -/
def accepts (s : State) (c bank : Nat) : Bool :=
  !bit (rd s R.DMA_ENG_CHAIN.BYPASS (c / 8)) (c % 8) &&
  inService s c && rd s R.CORE_CTRL.ROLE c != 2 && !(coreAt s c).halted && bankValid s c bank &&
    ((coreAt s c).run.isNone || (coreAt s c).next.isNone)

/-- The share word (R223). -/
def shareWord (band bands : Nat) (crop : Bool) (src : Nat) (out : Bool) (batch : Nat) : Nat :=
  band % 128 + (bands - 1) % 128 * 2 ^ 8 + b2n crop * 2 ^ 15 + src * 2 ^ 16 + b2n out * 2 ^ 18 + batch % 4096 * 2 ^ 20

/-- The descriptor of a band's share (R80, R223). -/
def bandDesc (k : Nat) (t : Stripe) (g : Pkg) (i : Nat) (b : Band) : Desc :=
  { bank := t.bank, kind := 0, entryPc := g.entryPc, accTiles := g.accTiles, stream := k, epoch := t.epoch % 65536,
    stripe := t.no, bandStart := b.start, bandWidth := b.width, s1 := t.place.table,
    s2 := shareWord i t.map.bands.length false (if t.noCarry then 3 else if t.cold.contains i then 2 else 0) true 0,
    s3 := t.map.addr, s4 := frameWord t t.epochFirst }

/-- Background work is shed: states SHED, LIMIT and TRIP (R413). -/
def shedding (s : State) : Bool :=
  let t := rd s R.THERM_STATUS.STATE 0
  decide (1 ≤ t) && decide (t ≤ 3)

/-- Whether a home core's share is the one of its block that is shadowed (R285). -/
def shadowed (s : State) (c : Nat) : Bool :=
  let n := tget 0 s.flt.block c
  isSet s R.FLT_CTRL.SHADOW_EN 0 && !paired s && !shedding s &&
    Config.shadowPick (n / 256) c % 256 == n % 256

/-- A home core takes a share: its block advances, and the share may be one to be shadowed. -/
def countBlock (s : State) (k n i c : Nat) : State :=
  let sh := shadowed s c
  let f := { s.flt with block := tset 0 s.flt.block c (tget 0 s.flt.block c + 1) }
  { s with flt := if sh then { f with shadows := f.shadows ++ [⟨k, n, i, 1000, c, none, false, none, false, 0⟩] } else f }

/-- The rings of a home core before a share: at an epoch's first stripe its package's start values (its counters have theirs since
R254); at a band's first stripe of a
new tiling its carry rings open for the generation it writes, and all of them where the core is new to the stream (R229, R234
step 4). -/
def prepareHome (s : State) (k : Nat) (t : Stripe) (g : Pkg) (i home : Nat) : State :=
  if t.noCarry then openRings s home t.no g
  else if t.cold.contains i then
    placeCarry (if (homesBefore (strm s k) t).contains home then s else resetRings s home t.no g) home t.no false g
  else s

/-- A band of a stripe goes to its home core. -/
def sendBand (k : Nat) (s : State) (t : Stripe) (g : Pkg) (ib : Nat × Band) : State :=
  let d := bandDesc k t g ib.1 ib.2
  let s1 := countBlock (offerDesc (prepareHome s k t g ib.1 ib.2.home) ib.2.home d) k t.no ib.1 ib.2.home
  modStripe s1 k t.no fun t => { t with shares := t.shares ++ [⟨false, ib.1, d, [⟨ib.2.home, 0, none⟩], false⟩] }

/-- A band may go: its carry is ready, and its home core takes shares of the stream again (R231). -/
def bandReady (s : State) (k : Nat) (t : Stripe) (ib : Nat × Band) : Bool :=
  carryReady s k t ib.1 ib.2.home && !(strm s k).alarmed.contains ib.2.home

/-- Dispatches one band of a stripe if its conditions hold. -/
def dispatchBand (k n : Nat) (s : State) (ib : Nat × Band) : State :=
  match stripeOf (strm s k) n with
  | none => s
  | some t =>
    match t.pkg with
    | none => s
    | some g =>
      if (shareOf t false ib.1).isSome then s
      else if !bandReady s k t ib ∨ !accepts s ib.2.home t.bank then s
      else sendBand k s t g ib

/-- The oldest closed stripe of a stream with bands not yet dispatched. -/
def toDispatch (x : Strm) : Option Stripe :=
  x.stripes.find? (fun t => t.closed && (!t.begun || (t.shares.filter (fun h => !h.crop)).length < t.map.bands.length))

/-! ### Crop work (R218) -/

/-- Byte address of a block of the crop queue. -/
def cropBlock (base slots g i : Nat) : Nat := base * 256 + (g * 128 + i) * (32 + 32 * slots)

/-- The addresses of the crop records of one stream's stripe, in band index, then record order. -/
def memberRecords (s : State) (p : Place) (g : Pkg) (t : Stripe) : List Nat :=
  (upto t.map.bands.length).flatMap fun i =>
    let a := cropBlock p.crop g.cropSlots (t.no % 4) i
    (upto (min g.cropSlots (memLE s.mem a 4))).map (fun j => a + 32 + 32 * j)

/-- The addresses of a stripe's crop records, of a lock group's streams in ascending order (R218, R219). -/
def cropRecords (s : State) (k : Nat) (g : Pkg) (t : Stripe) : List Nat :=
  (members s k).flatMap fun j => match stripeOf (strm s j) t.no with
    | some u => memberRecords s u.place g t
    | none => []

/-- Cuts a list into pieces of at most b. -/
def cut {α : Type} (b : Nat) : Nat → List α → List (List α)
  | 0, _ => []
  | fuel + 1, l => if l.isEmpty then [] else l.take (max 1 b) :: cut b fuel (l.drop (max 1 b))

/-- Batches of a stripe's crops: one size after another, each cut into batches of B (R217, R218). -/
def cropBatches (s : State) (g : Pkg) (recs : List Nat) : List (List Nat) :=
  (upto 8).flatMap fun z =>
    let l := recs.filter (fun a => memLE s.mem (a + 8) 1 == z)
    cut g.cropB l.length l

/-- Marks the records of a batch DROPPED. -/
def markDropped (m : List Host.Cell) (recs : List Nat) : List Host.Cell :=
  recs.foldl (fun m a => memPut m (a + 9) (BitVec.ofNat 8 (orBit (memByte m (a + 9)).toNat 0))) m

/-- The descriptor of a crop batch's share (R218, R223). The rule gives crop work no band: BAND names the band whose home core the
batch goes to, and both column fields are 0 (DESIGN CHOICE, log entry 16). -/
def cropDesc (k : Nat) (t : Stripe) (g : Pkg) (j : Nat) : Desc :=
  let n := t.map.bands.length
  { bank := t.bank, kind := 0, entryPc := g.cropPc, accTiles := g.cropAcc, stream := k, epoch := t.epoch % 65536,
    stripe := t.no, bandStart := 0, bandWidth := 0, s1 := t.place.table,
    s2 := shareWord (j % max 1 n) n true 3 false j, s3 := t.map.addr, s4 := frameWord t t.epochFirst }

/-- The stripe's crops become batches; those beyond the declared maximum are dropped (R218). -/
def cutCrops (s : State) (k : Nat) (t : Stripe) (g : Pkg) : State :=
  let b := cropBatches s g (cropRecords s k g t)
  let dropped := (b.drop g.cropMax).flatten
  let s1 := { s with mem := markDropped s.mem dropped }
  let s2 := if dropped.isEmpty then s1 else hit (report s1 0x0733 k t.no) R.STRM_TILE_STATUS.CROP_DROP k
  modStripe s2 k t.no fun t =>
    { t with crops := true, shares := t.shares ++ (upto (min g.cropMax b.length)).map (fun j => ⟨true, j, cropDesc k t g j, [], false⟩) }

/-- The core of a batch: the j mod n_k-th of the band list. -/
def cropCore (t : Stripe) (j : Nat) : Nat := ((t.map.bands[j % max 1 t.map.bands.length]?).map (·.home)).getD 1000

/-- A batch may go: not yet dispatched, to a core that takes shares of the stream (R231) and accepts it. -/
def cropReady (s : State) (k : Nat) (t : Stripe) (h : Share) : Bool :=
  h.crop && h.atts.isEmpty && !(strm s k).alarmed.contains (cropCore t h.idx) && accepts s (cropCore t h.idx) t.bank

/-- Dispatches a batch. -/
def dispatchCrop (k n : Nat) (s : State) (h : Share) : State :=
  match stripeOf (strm s k) n with
  | none => s
  | some t =>
    let c := cropCore t h.idx
    if !cropReady s k t h then s
    else modShare (offerDesc s c h.desc) k n true h.idx fun h => { h with atts := [⟨c, 0, none⟩] }

/-- The barrier that ends stream work has completed (R218). The rule does not say which of a package's barriers that is: the last it
declares; with none, the clean end of every stream share stands for it (DESIGN CHOICE, log entry 16). -/
def streamWorkDone (s : State) (k : Nat) (t : Stripe) (g : Pkg) : Bool :=
  match g.barriers.getLast? with
  | some i => (match gongOf s k t.no i.1 with
    | some b => b.done
    | none => false)
  | none => bandsClean t

/-- A dispatch of a stream waits under R231: of a band of a stripe that may be dispatched, or of a crop batch whose core has ended in an
alarm. -/
def waitsCarry (s : State) (k : Nat) : Bool :=
  (strm s k).stripes.any fun t => t.begun && !t.committed &&
    ((List.zip (upto t.map.bands.length) t.map.bands).any (fun ib => (shareOf t false ib.1).isNone && !bandReady s k t ib) ||
      t.shares.any (fun h => h.crop && h.atts.isEmpty && (strm s k).alarmed.contains (cropCore t h.idx)))

/-- STRM_TILE_STATUS.WAIT_CARRY as it stands (R231, R236). -/
def showWaits (s : State) : State :=
  ((upto 32).filter fun k => !(strm s k).stripes.isEmpty || isSet s R.STRM_TILE_STATUS.WAIT_CARRY k).foldl
    (fun s k => wr s R.STRM_TILE_STATUS.WAIT_CARRY k (b2n (waitsCarry s k))) s

/-- Crop batches of the stream's oldest stripe that has crop work to dispatch. -/
def execCropBatchDispatch (stream : Nat) (s : State) : Host.Outcome State Fault Refusal :=
  let todo := (strm s stream).stripes.find? (fun t => t.begun && !t.committed &&
    (!t.crops || t.shares.any (fun h => h.crop && h.atts.isEmpty)))
  match todo with
  | none => ok s
  | some t =>
    match t.pkg with
    | none => ok s
    | some g =>
      if !t.crops && !streamWorkDone s stream t g then ok s
      else
        let s1 := if t.crops then s else cutCrops s stream t g
        ok (showWaits (((stripeOf (strm s1 stream) t.no).map (fun t => t.shares.filter (·.crop))).getD []
          |>.foldl (dispatchCrop stream t.no) s1))

/-! ### Bubbles of the weight chain (R258) -/

/-- A chain transfer under way brings a core words of a buffer that stream work, or crop work, of a package reads. -/
def readsChain (s : State) (c : Nat) (g : Pkg) (crop : Bool) : Bool :=
  s.chains.any fun m => (receivers s m).contains c && decide (tget 0 m.got c < m.total) &&
    (g.buffers.filter (fun b => b.spad && (if crop then b.forCrop else b.forStream))).any
      (fun b => overlaps b.base b.len (32 * m.word) (32 * m.total))

/-- A core waits for words of a chain transfer, and its queued descriptor slot is free. -/
def hasBubble (s : State) (c : Nat) : Bool :=
  s.chains.any (fun m => (receivers s m).contains c && decide (tget 0 m.got c < m.total)) &&
    (coreAt s c).run.isSome && (coreAt s c).next.isNone

/-- The first ready share of a stripe for a core that reads none of the chain's words: a band, or a crop batch. -/
def bubbleShare (s : State) (k c : Nat) (t : Stripe) (g : Pkg) : Option ((Nat × Band) ⊕ Share) :=
  let band := if readsChain s c g false then none
    else (List.zip (upto t.map.bands.length) t.map.bands).find? fun ib => ib.2.home == c && (shareOf t false ib.1).isNone &&
      bandReady s k t ib && accepts s c t.bank
  match band with
  | some ib => some (.inl ib)
  | none => if readsChain s c g true then none else (t.shares.find? (fun h => cropCore t h.idx == c && cropReady s k t h)).map .inr

/-- The first ready share for a core's bubble, in ascending stream and stripe order. -/
def bubbleFor (s : State) (c : Nat) : Option (Nat × Stripe × Pkg × ((Nat × Band) ⊕ Share)) :=
  (upto 32).findSome? fun k => (strm s k).stripes.findSome? fun t =>
    match t.pkg with
    | some g => if t.begun && !t.committed then (bubbleShare s k c t g).map (fun x => (k, t, g, x)) else none
    | none => none

/-- The control complex places such a share into the core's queued descriptor slot. -/
def fillBubble (s : State) (c : Nat) : State :=
  if !hasBubble s c then s
  else match bubbleFor s c with
    | some (k, t, g, .inl ib) => sendBand k s t g ib
    | some (k, t, _, .inr h) => dispatchCrop k t.no s h
    | none => s

/-- Every core's bubble. -/
def fillBubbles (s : State) : State := (upto s.part.cores).foldl fillBubble s

/-- The control complex dispatches what it can of the stream's next stripe (R18 step 6), after it has filled the bubbles
of chain transfers under way (R258). -/
def execShareDispatch (stream : Nat) (s : State) : Host.Outcome State Fault Refusal :=
  let s := showWaits (fillBubbles s)
  if leader s stream ≠ stream ∨ (strm s stream).pkg.isNone then ok s
  else match toDispatch (strm s stream) with
    | none => ok s
    | some t =>
      if !allClosed s stream t.no ∨ (t.no ≠ 0 ∧ !barriersDone s stream (t.no - 1)) then ok s
      else
        let s1 := if t.begun then s else beginStripe s stream t
        match stripeOf (strm s1 stream) t.no with
        | none => ok (showWaits s1)
        | some t1 =>
          ok (showWaits ((List.zip (upto t1.map.bands.length) t1.map.bands).foldl (dispatchBand stream t.no) s1))

/-! ### The end of a share (R82, R83) -/

/-- Word 0 of the status record. -/
def recWord0 (k : Core) : Nat :=
  b2n k.done + 2 * b2n k.alarm + 4 * b2n k.fault + 8 * b2n k.outSat + 16 * b2n k.outNan + 32 * b2n k.hazard +
    64 * b2n k.aborted + (if k.code = 0 then k.event else k.code) % 65536 * 65536

/-- The eight words of the record (R82). END_PC of a share stopped before any instruction issued is its entry, and that of a fetch
past word 4,095 is 0, 4,096 in 12 bits (DESIGN CHOICE, log entry 13). -/
def recWords (s : State) (c : Nat) (k : Core) (d : Desc) : List Nat :=
  [recWord0 k, c + d.stream * 2 ^ 8 + d.kind * 2 ^ 13 + d.bank * 2 ^ 15 + d.epoch * 2 ^ 16, d.stripe,
   min (word32 - 1) k.satCount, min (word32 - 1) k.nanCount, min (word32 - 1) k.steps, s.tick % word32, k.endPc % 4096]

/-- Per-core counters of a share's end (R86). -/
def countEnd (s : State) (c : Nat) (k : Core) (d : Desc) : State :=
  let s1 := bump s R.CORE_CNT_SHARES.COUNT c
  let s2 := if d.kind = 1 ∨ d.kind = 2 then modRec (bump s1 R.CORE_CNT_REPLAYS.COUNT c) c (fun r => { r with replays := r.replays + 1 }) else s1
  if k.alarm then modRec (bump s2 R.CORE_CNT_ALARMS.COUNT c) c (fun r => { r with alarms := r.alarms + 1 }) else s2

/-- The share's slack enters its cluster's window (R33); below 2 % the pace monitor evaluates at once (R34). Test slices
and streams without deadlines are left out (R380). -/
def slackOf (s : State) (c : Nat) (d : Desc) : State :=
  if d.kind = 3 ∨ lpOf s d.stream = 0 then s
  else match stripeOf (strm s d.stream) d.stripe with
    | none => s
    | some t =>
      let sp := spOf' s d.stream
      let slack : Int := ((t.t0 + sp : Nat) : Int) - (s.tick : Nat)
      let s1 := paceRecord s (c / 8) slack sp
      if slack * 50 < sp then paceEval s1 20 false else s1

/-- The queued descriptor starts, or the core becomes idle or, in ROLE 2, retired (R83, R292). VALID was tested when the descriptor
arrived (R79): one whose bank has lost it since starts all the same, and a fetch finds what is wrong (DESIGN CHOICE, log entry
13). -/
def startNext (s : State) (c : Nat) : State :=
  let k := coreAt s c
  let s1 := setCore s c { freshCore k ⟨0, 0, 0, 0, 0, 0, 0, 0, 0, 0, 0, 0, 0⟩ with run := none, next := none, endPc := k.endPc, lastPc := k.lastPc }
  match k.next with
  | some d => startShare (wr s1 R.CORE_STATE.NEXT_QUEUED c 0) c d
  | none =>
    let s2 := if rd s1 R.CORE_STATE.STATE c = coreRunning then wr s1 R.CORE_STATE.STATE c coreIdle else s1
    settleRetired s2 c

/-- A stream without deadlines stops at a repeated identical programming fault; elsewhere it is a doubt (R284, R380). -/
def repeatedFault (s : State) (k n : Nat) : State :=
  if lpOf s k = 0 then wr (strmState (note s 0x0D03 k .programming n) k 0) R.STRM_SRC.EN k 0
  else report s 0x0D03 k n

/-- An earlier attempt on another core ended in FAULT with the same code and END_PC (R284). -/
def faultRepeats (h : Share) (c w pc : Nat) : Bool :=
  bit w 2 && h.atts.any (fun a => match a.fin with
    | some (v, p) => a.core != c && bit v 2 && bits v 16 16 == bits w 16 16 && p == pc
    | none => false)

/-- The cores whose attempts at a share ended in FAULT before the clean one that has just ended, each once with its code; those its code
has charged already are left out (R284, R289). -/
def faultsBefore (h : Share) : List (Nat × Nat) :=
  let failed := h.atts.dropLast.reverse.takeWhile fun a => !a.fin.any (fun f => cleanEnd f.1)
  (failed.filterMap fun a => a.fin.bind fun f =>
    if bit f.1 2 ∧ !chargesEvent (bits f.1 16 16) then some (a.core, bits f.1 16 16) else none).foldl
    (fun l x => if l.any (·.1 == x.1) then l else l ++ [x]) []

/-- The last stripe from n on whose share has left its carry on a home core: a crop share of stripe n may end after the stream share of
the next (R230). -/
def lastCarry (s : State) (k n home : Nat) : Nat :=
  (strm s k).stripes.foldl (fun a t =>
    if a < t.no ∧ t.shares.any (fun h => !h.crop && h.clean && ((t.map.bands[h.idx]?).any (·.home == home))) then t.no else a) n

/-- The home core a share of a stripe was sent to first. -/
def firstCore (t : Stripe) (h : Share) : Nat := if h.crop then cropCore t h.idx else ((t.map.bands[h.idx]?).map (·.home)).getD 1000

/-- A clean end of a stream or crop share: after a replay its first core is set right for the stream's next share (R230, R231): not
while a share runs there, nor for a crop share that has left it as it was. Every core whose attempt ended in FAULT is charged an event
(R284, R289). -/
def endedWell (s : State) (d : Desc) (t : Stripe) (h : Share) : State :=
  if d.kind ≠ 1 then s
  else
    let s1 := match t.pkg with
      | some g =>
        let home := firstCore t h
        if h.crop ∧ (!(strm s d.stream).alarmed.contains home ∨ busyCore s home) then
          modStrm s d.stream fun x => { x with alarmed := x.alarmed.erase home }
        else restoreHome s d.stream home (if h.crop then lastCarry s d.stream t.no home else t.no) g
      | none => s
    (faultsBefore h).foldl (fun s f => charge s f.1 f.2 d.kind d.stripe) s1

/-- A stream or crop share has ended with an alarm or a fault: its home core takes no further share of the stream (R231), and it is
replayed, or raises a doubt where a FAULT repeats (R280, R284). A replay whose carry cannot be read reports 0x0732 (R235). Under
flow-through there is no replay, and the home core's rings are set as after a clean end (R278; DEDUCED, log entry 16). -/
def endedBadly (s : State) (c : Nat) (d : Desc) (w pc : Nat) (t : Stripe) (h : Share) : State :=
  let home := firstCore t h
  let s1 := if c = home ∧ d.kind = 0 then modStrm s d.stream fun x => { x with alarmed := home :: x.alarmed } else s
  let key := descKey d
  if t.flow then (match t.pkg with
    | some g => if c = home then restoreHome s1 d.stream home t.no g else s1
    | none => s1)
  else
    let lost := d.kind = 1 ∧ !h.crop ∧ bits w 16 16 = 0x0401 ∧
      t.pkg.any (fun g => carryUnreadable s d.stream t (bits d.s2 16 2) home g)
    let s2 := if lost then noteWhy (report s1 0x0732 d.stream t.no) d.stream t.no 0x0732 else s1
    if faultRepeats h c w pc then repeatedFault s2 d.stream t.no else replay s2 d.stream t.no key.1 key.2

/-- The control complex takes the record of a stream or crop share (R280, R284). -/
def takeRecord (s : State) (c : Nat) (d : Desc) (w pc : Nat) : State :=
  let key := descKey d
  match (stripeOf (strm s d.stream) d.stripe).bind (fun t => (shareOf t key.1 key.2).map (fun h => (t, h))) with
  | none => s
  | some (t, h) =>
    let s1 := modShare s d.stream t.no key.1 key.2 fun h =>
      { h with atts := h.atts.map (fun a => if a.core = c ∧ a.fin.isNone then { a with fin := some (w, pc) } else a) }
    if cleanEnd w then endedWell s1 d t h else endedBadly s1 c d w pc t h

/-- A shadow or third run ends (R285, R286): it counts only where it ended clean; in place of a third run that did not, another may
run. -/
def shadowEnd (s : State) (c w : Nat) : State :=
  { s with flt := { s.flt with shadows := s.flt.shadows.map (fun h =>
      if h.core = c ∧ h.ended.isNone then { h with ended := some (cleanEnd w) }
      else if h.third = some c ∧ !h.thirdDone then (if cleanEnd w then { h with thirdDone := true } else { h with third := none }) else h) } }

/-- FLT_CHIME_ID.KERNELS: the installed kernels in the rounds, without those withdrawn (R287, R301). -/
def showKernels (s : State) : State :=
  wr s R.FLT_CHIME_ID.KERNELS 0 (s.life.chime.filter (fun k => !s.flt.withdrawn.contains k.number)).length

/-- The Rattle kernels of a round: one for each of the 24 pairings of R54 and the 7 functions of R127, one for the conversions and
one for the sequencer's control flow (R287, which sets no number; DESIGN CHOICE, log entry 16). -/
def rattleKernels : Nat := 24 + 7 + 1 + 1

/-- The stream whose calibration a slice computes: kernels above Rattle's, one for each stream (R332; DESIGN CHOICE, log entry 53). -/
def calStream (number : Nat) : Option Nat :=
  if rattleKernels ≤ number / 2 ^ 32 then some (number / 2 ^ 32 - rattleKernels) else none

/-- A calibration share adds its stream's captured words into the UINT32 sums (R332 step 3). -/
def addSums (s : State) (k : Nat) : State :=
  let c := calOf s k
  match c.run with
  | none => s
  | some r =>
    let base := (strm s k).place.sums * 256
    let s1 := r.words.foldl (fun s p => devWrite s (base + 4 * p.1) (leBytes 4 (memLE s.mem (base + 4 * p.1) 4 + p.2)) false) s
    setCal s1 k { c with run := some { r with words := [] } }

/-- Ticks of Rattle a core may have in a round: 1 ms (R287). -/
def rattleLimit : Nat := 100000

/-- A round starts: the kernels of a pack installed since the last one join it (R288). -/
def startRound (s : State) : State :=
  match s.life.chimeNext with
  | none => s
  | some n => showKernels { s with life := { s.life with chime := n.2, chimeNext := none } }

/-- A core's test set is done: every Rattle kernel, which a round of a pair leaves out and the run of a core that left OFF does not, and
every Chime kernel that has not been withdrawn (R287, R404, R406). -/
def setDone (s : State) (c : Nat) : Bool :=
  ((paired s && !untested s c) || (upto rattleKernels).all (fun r => s.flt.tested.contains (c, 2 * r))) &&
    s.life.chime.all (fun k => s.flt.withdrawn.contains k.number || s.flt.tested.contains (c, 2 * k.number + 1))

/-- A kernel's failures of the round, on fewer than 3 cores, are charged to those cores (R287, R289). -/
def chargeFails (s : State) (f : Nat × List Nat) : State := if 3 ≤ f.2.length then s else f.2.foldl (fun s c => charge s c 0x0133 3 0) s

/-- When every core in service has had its test set, the round is complete (R287); a core that has left OFF keeps what it has passed. -/
def closeRound (s : State) : State :=
  if (workers s).all (setDone s) then
    let s1 := s.flt.chimeFails.foldl chargeFails s
    startRound (wr { s1 with flt := { s1.flt with tested := s1.flt.tested.filter (fun p => untested s p.1), rattle := s1.flt.rattle.filter (fun p => untested s p.1), roundAt := s.tick, roundOver := false, chimeFails := [] } }
      R.FLT_TEST_STATUS.ROUND 0 (rd s R.FLT_TEST_STATUS.ROUND 0 + 1))
  else s

/-- A core has been tested with a Rattle kernel, item twice its number, or with a Chime kernel, twice its number plus one. -/
def testedCore (s : State) (c item : Nat) : State :=
  let s1 := { s with flt := { s.flt with tested := (s.flt.tested.filter (· != (c, item))) ++ [(c, item)] } }
  closeRound (if untested s1 c && setDone s1 c then { s1 with flt := { s1.flt with passed := s1.flt.passed ++ [c] } } else s1)

/-- A core that left OFF fails its test set (R404, R406): it is charged and runs the set again; one not thereby retired that fails twice
goes OFF until the next power-up. -/
def failSet (s : State) (c code : Nat) : State :=
  let s1 := clearTests (charge s c code 3 0) c
  if rd s1 R.CORE_CTRL.ROLE c = 2 then s1
  else if tget 0 s1.flt.failedRun c = 0 then { s1 with flt := { s1.flt with failedRun := tset 0 s1.flt.failedRun c 1 } }
  else report (wr (wr { s1 with flt := { s1.flt with failedRun := tset 0 s1.flt.failedRun c 2 } } R.CORE_STATE.STATE c coreOff)
    R.CORE_CTRL.EN c 0) 0x013C c 0

/-- A kernel's failure on a core is reported and captured; the kernel is withdrawn once it has failed on 3 cores of a round, and no
core is charged; else the cores are charged as the round ends (R287; the time is a DESIGN CHOICE, log entry 16). -/
def chimeFailed (s : State) (c kernel : Nat) : State :=
  let l := ((s.flt.chimeFails.find? (fun p => p.1 == kernel)).map (·.2)).getD []
  let l' := if l.contains c then l else c :: l
  let s1 := capture (report s 0x0133 c kernel) c (captureBytes 0x0133 c 2 kernel 0 0 0 0 0 (s.tick % word32) [])
  if untested s c then failSet s1 c 0x0133 else
  let s2 := { s1 with flt := { s1.flt with chimeFails := (s1.flt.chimeFails.filter (fun p => p.1 != kernel)) ++ [(kernel, l')] } }
  if 3 ≤ l'.length then
    hit (report (showKernels { s2 with flt := { s2.flt with withdrawn := kernel :: s2.flt.withdrawn } }) 0x0134 c kernel)
      R.FLT_TEST_STATUS.WITHDRAWN 0
  else s2

/-- A core has had a Rattle slice: its ticks count into the core's share of the round, and its kernel is tested. -/
def rattled (s : State) (t : Slice) (c : Nat) : State :=
  testedCore { s with flt := { s.flt with slice := none, rattle := tset 0 s.flt.rattle c (tget 0 s.flt.rattle c + cdiv t.steps 16) } } c
    (2 * (t.number / 2 ^ 32))

/-- A Rattle slice has run on up to three cores: reference, tested core, and the third that settles them (R287). -/
def rattleResult (s : State) (t : Slice) : State :=
  let seed := t.number % 2 ^ 32
  match t.runs with
  | [(_, a), (c, b)] => if a = b then rattled s t c
    else capture (report s 0x0132 c seed) c (captureBytes 0x0132 c 1 0 0 0 0 0 seed (s.tick % word32) [])
  | [(r, a), (c, b), (_, e)] =>
    if e = a ∧ untested s c then failSet { s with flt := { s.flt with slice := none } } c 0x0132
    else
      let s1 := rattled s t c
      if e = a then charge s1 c 0x0132 3 0 else if e = b then charge s1 r 0x0132 3 0 else report s1 0x0137 c seed
  | _ => s

/-- A test slice ends with the CRC-64 of its results, a calibration share with its sums; one that has not ended clean is discarded, and
run again later (R287, R332). -/
def sliceEnd (s : State) (c w crc : Nat) : State :=
  match s.flt.slice with
  | none => s
  | some t =>
    if t.core ≠ c then s
    else if !cleanEnd w then { s with flt := { s.flt with slice := none } }
    else if !t.chime && (calStream t.number).isSome then
      addSums { s with flt := { s.flt with slice := none } } ((calStream t.number).getD 0)
    else
      let s1 := bump s R.FLT_CNT_SLICES.COUNT 0
      if t.chime then
        let s2 := { s1 with flt := { s1.flt with slice := none } }
        if crc = t.expect then testedCore s2 c (2 * t.number + 1)
        else if untested s2 c then chimeFailed s2 c t.number
        else testedCore (chimeFailed s2 c t.number) c (2 * t.number + 1)
      else
        let t' := { t with runs := t.runs ++ [(c, crc)] }
        rattleResult { s1 with flt := { s1.flt with slice := some t' } } t'

/-- The control complex acts on a record by its share's kind. -/
def afterEnd (s : State) (c : Nat) (d : Desc) (w pc crc : Nat) (payload : List Byte) (word : Nat) : State :=
  let code := bits w 16 16
  let s1 := if capturesOperands code then
      capture s c (captureBytes code c 0 d.stripe d.stream (descKey d).2 pc word 0 (s.tick % word32) payload) else s
  let s2 := if chargesEvent code ∧ (bit w 1 ∨ bit w 2) then charge s1 c code d.kind d.stripe else s1
  if d.kind ≤ 1 then takeRecord s2 c d w pc
  else if d.kind = 2 then shadowEnd s2 c w
  else sliceEnd s2 c w crc

/-- A share ends once its outstanding writes are acknowledged (R83): its record is posted, the queued descriptor starts,
and the control complex acts on the record. `crc` is what the kernel of a test slice stored. -/
def execShareEnd (core crc : Nat) (s : State) : Host.Outcome State Fault Refusal :=
  let k := coreAt s core
  match k.run with
  | none => ok s
  | some d =>
    if !k.ending ∨ !k.outw.isEmpty ∨ !k.reads.isEmpty ∨ k.waiting.isSome then ok s
    else
      let w := recWord0 k
      let s1 := countEnd { s with shareRecs := tset [] s.shareRecs core (recWords s core k d) } core k d
      let s2 := slackOf (journalise s1 core d false) core d
      let word := bankWord s core d.bank k.endPc
      ok (showWaits (serveWaiting 128 (settleSpares (afterEnd (startNext s2 core) core d w k.endPc crc k.operands word) core)))

/-! ### The compute deadline (R21) -/

/-- A share not finished at T0 + 1 SP misses its compute deadline. -/
def execComputeDeadlineExpiry (stream stripe : Nat) (crop : Bool) (idx : Nat) (s : State) : Host.Outcome State Fault Refusal :=
  let key := if crop then 1000 + idx else idx
  match stripeOf (strm s stream) stripe with
  | none => ok s
  | some t =>
    let known := if crop then (shareOf t true idx).isSome else decide (idx < t.map.bands.length)
    let ended := ((shareOf t crop idx).map Share.finished).getD false
    if lpOf s stream = 0 ∨ !t.begun ∨ !known ∨ ended ∨ t.late.contains key ∨ s.tick < t.t0 + spOf' s stream then ok s
    else
      let s1 := modStripe s stream stripe fun t => { t with late := key :: t.late }
      let s2 := bump (hit (report s1 0x0B04 stream stripe) R.PIPE_PACE_STATUS.DEADLINE_MISS 0) R.PIPE_SLACK_MIN.MISS_COUNT 0
      ok (paceEval s2 20 false)

end Sys2Proof.Machine
end

