-- ==== Sys2Proof/Machine/Commit.lean ====
section
/-! DEFINITION. Machine/Commit.lean: the commit of a stripe and what comes with it, and the commit deadline (R19, R21,
R176, R204-R208, R213, R234, R279, R285, R319, R320, R323, R354, R393, R407).
Its conventions: DEDUCED, log entry 16. -/

namespace Sys2Proof.Machine

open Sys2Proof

/-! ### Quantisation registers (R204-R208, R213) -/

/-- Byte address of a combine slot (R205). -/
def combineSlot (base g t b : Nat) : Nat := base * 256 + ((g * 16 + t) * 128 + b) * 16

/-- A dynamic tensor's stripe-wide values: m, N, C and the scale σ of slot 0 (R204, R205). -/
structure Wide where
  m : Nat
  n : Nat
  c : Nat
  sigma : Nat
  deriving DecidableEq, Repr

/-- Reads and combines all slots of a generation. -/
def combine (s : State) (base g t bands : Nat) : Wide :=
  (upto bands).foldl (fun w b =>
    let a := combineSlot base g t b
    let mb := memLE s.mem a 4
    { w with m := if b = 0 then mb else fmax 10 w.m mb, c := (w.c + memLE s.mem (a + 4) 4) % word32,
             n := (w.n + memLE s.mem (a + 8) 4) % word32 })
    ⟨0, 0, 0, memLE s.mem (combineSlot base g t 0 + 12) 4⟩

/-- The saturation test (R207). -/
def satTest (w : Wide) : Bool := decide (w.n < 4096 * w.c)

/-- The low test (R207): m finite, not zero, and 64 × m below q_max × σ, each rounded. -/
def lowTest (w : Wide) (d : DynTensor) : Bool :=
  !isSpecial 10 w.m && !fvEq (fdec 10 w.m) (.fin false 0 0) &&
    fvLt (fdec 10 (fmul 10 0x42800000 w.m).v) (fdec 10 (fmul 10 d.qMax w.sigma).v)

/-- The scale of a rescale, σ′ = rne32(m × K), lies outside its bounds (R207). -/
def clamped (w : Wide) (d : DynTensor) : Bool :=
  let v := fdec 10 (fmul 10 w.m d.k).v
  fvLt v (fdec 10 d.sMin) || fvLt (fdec 10 d.sMax) v

/-- One tensor's registers after a stripe (R208, R213). A blank stripe, whose maximum is 0, is no event. -/
def qsTensor (k n : Nat) (t : Stripe) (base : Nat) (s : State) (td : Nat × DynTensor) : State :=
  let w := combine s base (n % 4) td.1 t.map.bands.length
  let bad := isSpecial 10 w.m
  let blank := fvEq (fdec 10 w.m) (.fin false 0 0)
  let sat := satTest w
  let low := lowTest w td.2
  if blank || (!bad && !sat && !low) then s
  else
    let cl := bad || clamped w td.2
    let s1 := if bad then hit (report s 0x0122 k n) R.STRM_QS_STATUS.MAX_NANINF k else s
    let s2 := if cl then hit (bump (report s1 0x0121 k n) R.STRM_QS_CNT_CLAMP.COUNT k) R.STRM_QS_STATUS.CLAMP k
      else hit (bump (report s1 0x0120 k n) R.STRM_QS_CNT_RESCALE.COUNT k) R.STRM_QS_STATUS.RESCALE k
    let s3 := wr (wr s2 R.STRM_QS_LAST.STRIPE k n) R.STRM_QS_LAST_INFO.TENSOR k td.1
    wr (wr (wr s3 R.STRM_QS_LAST_INFO.SAT_TEST k (b2n sat)) R.STRM_QS_LAST_INFO.LOW_TEST k (b2n low))
      R.STRM_QS_LAST_INFO.CLAMPED k (b2n cl)

/-- The quantisation registers at a commit, from the combine generation of the stripe's own placement. -/
def qsUpdate (s : State) (k : Nat) (t : Stripe) (g : Pkg) : State :=
  (List.zip (upto g.tensors.length) g.tensors).foldl (qsTensor k t.no t t.place.combine) s

/-! ### Digests (R319) -/

/-- The 16-byte prefix of a digest. -/
def digestPrefix (k n epoch seg : Nat) : List Byte :=
  leBytes 1 k ++ leBytes 3 0 ++ leBytes 4 n ++ leBytes 2 epoch ++ leBytes 2 seg ++ leBytes 4 0

/-- The digests of a stripe in ascending order: segments, then batches. -/
def sortedSegs (l : List (Nat × Nat)) : List Nat :=
  (l.foldl (fun m p => tset (0 : Nat) m p.1 (p.2 + 1)) []).map (fun p => p.2 - 1)

/-- The stripe digest (R319). -/
def stripeDigest (k n epoch : Nat) (segs : List (Nat × Nat)) : Nat :=
  crc64 (digestPrefix k n epoch 0xFFFF ++ (sortedSegs segs).flatMap (leBytes 8))

/-- The digests of the members agree, and both are settled (R317, R320). -/
def digestsAgree (k : Nat) (t : Stripe) : Bool :=
  t.ready && t.pReady && t.votes.isEmpty && t.pDigest == some (stripeDigest k t.no t.epoch t.segs)

/-! ### When a stripe may commit (R19, R278, R279) -/

/-- The stripe before has committed. -/
def prevCommitted (x : Strm) (n : Nat) : Bool :=
  n == 0 || (match stripeOf x (n - 1) with
    | some p => p.committed
    | none => true)

/-- Every share of the stripe has been dispatched. -/
def allSent (t : Stripe) : Bool :=
  t.crops && (t.shares.filter (fun h => !h.crop)).length == t.map.bands.length && t.shares.all (fun h => !h.atts.isEmpty)

/-- Every local condition of the commit holds: under flow-through, every share has ended, whatever the outcome; else
every latest attempt is clean. -/
def localReady (t : Stripe) : Bool :=
  t.begun && allSent t && (if t.flow then t.shares.all Share.finished else t.shares.all Share.clean)

/-- The stripe may commit now. -/
def mayCommit (s : State) (k : Nat) (t : Stripe) : Bool :=
  !t.committed && prevCommitted (strm s k) t.no && localReady t && (!paired s || t.flow || digestsAgree k t)

/-! ### Output lines of a stripe (R176, R21) -/

/-- Output lines a stripe yields (R176, R21): those its lines decide, in a frame's closing stripe all that are left. A partial
stripe's filled lines are computed but not output. The lines of a frame's end that fill no block of f count as one network line, and a
sub-line that is missing keeps what its place held (DESIGN CHOICE, log entry 15: R185 asks for multiples of f in the width and the stripe
height only). -/
def netOut (g : Pkg) (t : Stripe) : Nat :=
  let f := max 1 g.fIn
  let upTo := t.frameAt + if t.partialS then t.real else t.lines
  let ended := t.closing && !t.partialS
  g.decided (if ended then cdiv upTo f else upTo / f) ended - g.decided (t.frameAt / f) false

/-- Bytes of one staged network line. -/
def stagedLine (s : State) (p : Place) (n i : Nat) : List Byte :=
  memBytes s.mem (p.staging * 256 + (n % 4 * p.slotLines + i) * p.stagingPitch) p.stagingPitch

/-- The stripe's output lines: each network line gives f lines of the picture back (R185). -/
def outLines (s : State) (p : Place) (t : Stripe) (g : Pkg) (first : Nat) : List OutLine :=
  let f := s2dOf (fval R.STRM_PB_CTRL.D2S t.pb)
  (upto (netOut g t * f)).map (fun i => ⟨first + i, stagedLine s p t.no (i / f), none, false⟩)

/-- The stripe as it enters the output buffer. -/
def outStripe (s : State) (k : Nat) (t : Stripe) (g : Pkg) : OutStripe :=
  let x := strm s k
  { no := t.no, t0 := t.t0, epoch := t.epoch, epochFirst := t.epochFirst || x.resume,
    flagged := t.flow && !t.shares.all Share.clean, subst := t.subst, partialS := t.partialS, pb := t.pb, blend := blendNAt s k t.no,
    calSet := (calOf s k).setId, first := x.outNext, width := g.outWidth k, chans := g.outChans, lines := outLines s t.place t g x.outNext,
    order := s.ports.commits, gap := x.gap, sentP := 0,
    sentG := 0, doneP := false, doneG := false, tries := 0 }

/-- Output buffer occupancy (R398). -/
def showFill (s : State) (k : Nat) : State := wr s R.STRM_OUT_STATUS.FILL k (strm s k).outBuf.length

/-- A stripe is not delivered: the gap of the next entry grows (R387). -/
def skipStripe (s : State) (k : Nat) : State := modStrm s k fun x => { x with gap := x.gap + 1 }

/-- The output becomes valid again once the buffer has drained to half (R21, R387). -/
def validAgain (s : State) (k : Nat) : State :=
  if isSet s R.STRM_OUT_STATUS.STALL k && decide ((strm s k).outBuf.length ≤ 4) then
    report (wr s R.STRM_OUT_STATUS.STALL k 0) 0x060D k 0
  else s

/-- The stream's output becomes invalid (R21). -/
def markInvalid (s : State) (k n : Nat) : State :=
  report (hit (wr s R.STRM_OUT_STATUS.STALL k 1) R.STRM_OUT_STATUS.INVALID k) 0x060C k n

/-- Lines of a committed stripe that the speaker has marked already (R316). -/
def premark (s : State) (k : Nat) (o : OutStripe) : OutStripe :=
  if isListener s then { o with lines := o.lines.map fun l => { l with marked := decide (l.no < tget 0 s.pair.lineMarks k) } } else o

/-- A committed stripe enters the output buffer of 8 stripes; one that does not fit marks the output invalid (R21). In
safe state, and before the first stripe of a release's epoch, nothing is output (R295, R297). -/
def release (s : State) (k : Nat) (t : Stripe) (g : Pkg) (live : Bool) : State :=
  let o := outStripe s k t g
  let s0 := modStrm s k fun x => { x with outNext := x.outNext + o.lines.length }
  if rd s R.STRM_OUT_CTRL.DEST k = 0 then s0
  else if !live then skipStripe s0 k
  else
    let s1 := validAgain s0 k
    if isSet s1 R.STRM_OUT_STATUS.STALL k then skipStripe s1 k
    else if 8 ≤ (strm s1 k).outBuf.length then skipStripe (markInvalid s1 k t.no) k
    else showFill { modStrm s1 k (fun x => { x with outBuf := x.outBuf ++ [premark s k o], gap := 0, resume := false }) with
      ports := { s1.ports with commits := s1.ports.commits + 1 } } k

/-! ### The Damson tap (R354) -/

/-- A LINES frame with the stripe's metrology words. -/
def tapLines (k n epoch : Nat) (met : List Byte) : List Byte := tapFrame 1 k n epoch 0 (slice met 0 (met.length / 16 * 16))

/-- The metrology words of a stripe, one for each output line, as the package has written them beside the staged lines (R353; their
place is a DESIGN CHOICE, log entry 41). -/
def metWords (s : State) (t : Stripe) (g : Pkg) : List Byte :=
  let f := s2dOf (fval R.STRM_PB_CTRL.D2S t.pb)
  (upto (netOut g t * f)).flatMap fun i => slice (stagedLine s t.place t.no (i / f)) (g.metAt + i % f * 16) 16

/-- After the commit the tap unit sends the frame over the words that the commit released, of the designated stream, whether or not it
leads its lock group (R219). -/
def sendTap (t : Stripe) (g : Pkg) (s : State) (k : Nat) : State :=
  if designated s k then tapSend s (tapLines k t.no t.epoch (metWords s t g)) else s

/-! ### The finish of a swap, of old maps and of shadows -/

/-- CHG_STATUS shows whether a swap or a hand-over is pending and the lowest stream of it (R414). -/
def showChange (s : State) : State :=
  let sw := (upto 32).filter (fun k => (strm s k).swap.isSome)
  let s1 := wr s R.CHG_STATUS.SWAP_PENDING 0 (b2n !sw.isEmpty)
  wr s1 R.CHG_STATUS.HANDOVER_PENDING 0 (b2n (s.flt.handover != 0))

/-- After stripe E − 1 has committed and the new package is in force, the old one is released (R407 step 7). -/
def finishSwap (s : State) (k n : Nat) : State :=
  let x := strm s k
  match x.swap with
  | some ⟨g, _, b, _, some e⟩ =>
    if e ≤ n + 1 ∧ x.pkg = some g ∧ x.bank = b then
      swapDone (showChange (report (modStrm s k fun x => { x with swap := none }) 0x0739 k e)) k
    else s
  | _ => s

/-- After FIRST_STRIPE has committed the old maps and their carry are released (R234 step 6). -/
def releaseMaps (x : Strm) (n : Nat) : Strm := if x.map.first ≤ n then { x with oldMaps := [] } else x

/-- A shadow is finished: compared and, where it differed, settled. -/
def Shadow.open (h : Shadow) (k n : Nat) : Bool := h.stream == k && decide (h.stripe + 3 ≤ n)

/-- Shadows unfinished when stripe s + 3 commits are abandoned and counted; a vote whose third run has not completed is
a doubt (R285, R286). -/
def dropShadows (s : State) (k n : Nat) : State :=
  let old := s.flt.shadows.filter (fun h => h.open k n)
  let s1 := { s with flt := { s.flt with shadows := s.flt.shadows.filter (fun h => !h.open k n) } }
  old.foldl (fun s h => if h.differs then report s 0x0137 k h.stripe else bump s R.FLT_CNT_SHADOW_DROP.COUNT 0) s1

/-! ### COMMIT -/

/-- Keeps the last four committed stripes of a stream. -/
def trimStripes (x : Strm) (n : Nat) : Strm := { x with stripes := x.stripes.filter (fun t => !(t.committed && decide (t.no + 4 ≤ n))) }

/-- The stripe is reported committed to the SSC (R294). -/
def unwatch (s : State) (k n : Nat) : State :=
  { s with flt := { s.flt with watch := s.flt.watch.filter (fun w => !(w.1 == k && w.2.1 == n)) } }

/-- A group's stripe as one member has it: its own lines, places and picture-back word. -/
def memberStripe (s : State) (t : Stripe) (j : Nat) : Stripe :=
  let u := (stripeOf (strm s j) t.no).getD t
  { t with lines := u.lines, real := u.real, frameAt := u.frameAt, partialS := u.partialS, subst := u.subst, pb := u.pb,
           place := u.place, opening := u.opening, closing := u.closing }

/-- A member's own stripe leaves: its output lines and its place in the SSC's list. -/
def commitMember (t : Stripe) (g : Pkg) (live : Bool) (s : State) (j : Nat) : State :=
  let s1 := unwatch (modStripe s j t.no fun u => { u with committed := true }) j t.no
  let s2 := release s1 j (memberStripe s1 t j) g live
  modStrm s2 j (fun x => trimStripes x t.no)

/-- Commits a stripe of a stream, or of a whole lock group (R219, R279). -/
def commitStripe (s : State) (k : Nat) (t : Stripe) (g : Pkg) : State :=
  let live := !isSafe s && tget 0 s.act.armed k == t.epoch + 1
  let s1 := qsUpdate s k t g
  let s2 := (members s k).foldl (commitMember t g live) s1
  let s3 := if t.replayed then hit s2 R.STRM_FLT_STATUS.REPLAYED k else s2
  let s4 := releaseDecisions s3 k t.no t.t0 t.place.decision g.decMax live
  let s5 := (members s k).foldl (fun s j => sendTap (memberStripe s t j) g s j) s4
  let s6 := dropShadows (modStrm s5 k (fun x => releaseMaps x t.no)) k t.no
  (members s k).foldl (fun s j => finishSwap s j t.no) s6

/-! ### The commit deadline (R279, R320, R323) -/

/-- This member's role changes, and what shows it. A member that becomes a listener drives its outputs at their safe levels (R315). -/
def setRole (s : State) (role : Nat) (partner : Bool) : State :=
  let s1 := roleReg s role partner
  showDigest (showFixed (if isListener s1 && !isListener s && !isSafe s then driveListener s1 else s1))

/-- The first stripe of a stream that is not committed. -/
def firstUncommitted (x : Strm) : Nat := ((x.stripes.find? (fun t => !t.committed)).map (·.no)).getD x.nextStripe

/-- The stripe of a takeover, yield or rejoin is shown: the one it names on the lowest running stream, or where it names another
stream's, that stream's first uncommitted one (R305, R326). -/
def lastChange (s : State) (k n : Nat) : State :=
  let low := ((upto 32).find? (running s)).getD 0
  wr s R.ZP_LAST_CHANGE.STRIPE 0 (if k = low then n else firstUncommitted (strm s low))

/-- Causes after which a member that yields leaves the pair (R323); 0x0401 is a Bramble node that stays faulty. -/
def lasting (cause : Nat) : Bool := [0x0422, 0x0411, 0x0642, 0x0401].contains cause

/-- A stripe this member cannot commit is given up by it: the stripes after it go on (DESIGN CHOICE, log entry 49). -/
def giveUp (s : State) (k n : Nat) : State :=
  (members s k).foldl (fun s j => unwatch (modStrm s j fun x => { x with stripes := x.stripes.filter (fun t => t.no != n || !t.complete) }) j n) s

/-- A member that cannot commit a stripe yields: it becomes an unmatched listener, and for a lasting cause leaves the pair and
enters the safe state (R323). -/
def yieldPair (s : State) (k n epoch cause : Nat) : State :=
  let s1 := bump (report (sendRecord s 6 k 0 n epoch cause) 0x0C08 k n) R.ZP_CNT_TAKEOVER.COUNT 0
  let s2 := lastChange s1 k n
  if lasting cause then doubt s2 cause else setRole s2 3 false

/-- A share's data has met a Bramble parity error in two attempts: the node stays faulty (R323, R325; DEDUCED, log entry 49). -/
def nodeFaulty (t : Stripe) : Bool :=
  t.shares.any fun h => !h.clean && decide (2 ≤ (h.atts.filter (fun a => a.fin.any (fun r => bits r.1 16 16 == 0x0401))).length)

/-- The cause of a yield at the commit deadline (R325): a failed DRAM channel; an input or carry error of the stripe; a faulty Bramble
node; a line whose token never came; else a share that is still not clean after its replays. -/
def yieldCause (s : State) (k : Nat) (t : Stripe) : Nat :=
  if !s.flt.dramFailed.isEmpty then 0x0422 else if t.why ≠ 0 then t.why else if nodeFaulty t then 0x0401
  else if !t.complete && (strm s k).hole.isSome then 0x0C0E else 0x0D02

/-- A fixed-function end disagrees again on a line: a doubt, and in a pair a yield before it (R193, R323, R325). -/
def endFails (s : State) (code k n epoch : Nat) : State :=
  if paired s then yieldPair (note s code k .doubt n) k n epoch code else report s code k n

/-- The bound of R10 on a stripe's lines; a pair's speaker keeps 4 µs of it for a takeover (R315). -/
def egressBound (s : State) (k : Nat) (t : Stripe) : Nat :=
  t.t0 + 3 * spOf' s k - if rd s R.ZP_STATUS.ROLE 0 = 1 ∧ paired s then 400 else 0

/-- Streams that lead running lock groups. -/
def leaders (s : State) : List Nat := (upto 32).filter (fun k => running s k && leader s k == k)

/-- First line of a stripe of a stream that is not received yet. -/
def firstLineOf (x : Strm) (r : Nat) : Nat :=
  match x.stripes.getLast? with
  | some t => t.firstLine + (r - t.no) * x.height
  | none => r * x.height

/-- The speaker names the rejoin stripe of one stream, 4 stripes ahead, with the epoch in force. -/
def nameStripe (s : State) (k : Nat) : State :=
  let x := strm s k
  let r := firstUndispatched x + 4
  let s1 := sendControl s k r 0x324 [x.epoch.getD 0, firstLineOf x r]
  { s1 with pair := { s1.pair with rejoin := s1.pair.rejoin ++ [(k, r)] } }

/-- The speaker names the rejoin stripes of every stream; with none running the members agree at once. -/
def nameRejoin (s : State) : State :=
  if rd s R.ZP_STATUS.ROLE 0 ≠ 1 ∨ paired s ∨ !linked s then s
  else
    let s1 := { s with pair := { s.pair with rejoin := [], matched := [] } }
    if (leaders s).isEmpty then lastChange (setRole (sendControl s1 32 0 0x324 [0, 0]) 1 true) 0 0 else (leaders s).foldl nameStripe s1

/-! ### Becoming the speaker (R313, R316, R321, R322) -/

/-- A stream's output resumes with its last marked line (R322 step 4). -/
def resumeOutput (x : Strm) : Strm :=
  { x with outBuf := x.outBuf.map (fun o =>
      let m := (o.lines.filter (·.marked)).length
      { o with sentP := m - 1, sentG := m - 1, doneP := false, doneG := false }) }

/-- Forwarded lines not settled are discarded; a dual-fed stream goes on with its own lines from the first one not
received forwarded, and forwards them where the partner is still there (R313, R318). -/
def ownLines (s : State) (k : Nat) : State :=
  let x := strm s k
  if !x.fed then s
  else
    let l := x.own.filter (fun l => decide (x.ownNext ≤ l.no))
    l.foldl (fun s l => forwardLine (enterLine s k l) k 1 l.no l.stamp l.words) (modStrm s k fun x =>
      { x with fed := false, pend := [], settled := [], part := [], own := [], nextLine := if x.own.isEmpty then x.ownNext else x.nextLine })

/-- Decisions whose time has passed are executed at once (R322 step 3). -/
def runDue (s : State) : State :=
  let due := (s.act.queue.filter (isDue s)).foldr insertDecision []
  due.foldl runDecision { s with act := { s.act with queue := s.act.queue.filter (fun d => !isDue s d) } }

/-- The listener becomes the speaker: its output resumes, and the decisions whose time has passed are executed (R322). -/
def becomeSpeaker (s : State) : State :=
  let s1 := bump (setRole s 1 false) R.ZP_CNT_TAKEOVER.COUNT 0
  let s2 := { s1 with pair := { s1.pair with yieldAt := none, lineMarks := [], decMarks := [] } }
  let dual := (upto 32).filter (fun k => (strm s k).route == .dual)
  runDue (dual.foldl ownLines ((upto 32).foldl (fun s k => modStrm s k resumeOutput) s2))

/-- The partner's settled digest is lacking: the speaker commits on its own result and sends DROP; the listener becomes
unmatched (R320). -/
def dropPartner (s : State) (k : Nat) (t : Stripe) : State :=
  let s1 := report s 0x0C07 k t.no
  if rd s R.ZP_STATUS.ROLE 0 = 1 then nameRejoin (setRole (sendRecord s1 7 k 0 t.no t.epoch 0) 1 false) else setRole s1 3 false

/-- A line of the stripe has come without its token and never will: the stripe cannot close (R318). -/
def holed (s : State) (k : Nat) (t : Stripe) : Bool := !t.complete && (strm s k).hole.isSome

/-- T0 of a stripe, begun or not (R18, R219); of one that cannot close, the time its last line was due (DEDUCED, log entry 49). -/
def t0Of (s : State) (k : Nat) (t : Stripe) : Nat :=
  if t.begun then t.t0 else if holed s k t then t.firstStamp + spOf' s k else groupT0 s k t.no

/-- A stripe runs under flow-through: as it was begun, or as its stream's registers stand (R278). -/
def flowNow (s : State) (k : Nat) (t : Stripe) : Bool :=
  if t.begun then t.flow else !isSet s R.STRM_FLT_CTRL.DIGEST k && rd s R.STRM_FLT_CTRL.PROT k == 2

/-- A stripe, dispatched or still waiting for its dispatch, is not committed by T0 + 2 SP: a doubt; in a pair a DROP where
only the partner's digest is lacking, else a yield with its cause (R21, R279, R320, R323); an unmatched listener, whose results go
nowhere, gives the stripe up. A committed stripe whose replayed staging
has not left by its egress bound is a doubt too (R10, R275, R315). -/
def execCommitDeadlineExpiry (stream stripe : Nat) (s : State) : Host.Outcome State Fault Refusal :=
  match stripeOf (strm s stream) stripe with
  | none => ok s
  | some t =>
    if t.committed ∧ restaging s stream stripe ∧ lpOf s stream ≠ 0 ∧ egressBound s stream t ≤ s.tick then
      ok (report s 0x0D02 stream stripe)
    else if lpOf s stream = 0 ∨ leader s stream ≠ stream ∨ !(t.begun || allClosed s stream stripe || holed s stream t) ∨ t.committed ∨
        flowNow s stream t ∨ s.tick < t0Of s stream t + 2 * spOf' s stream then ok s
    else if rd s R.ZP_STATUS.ROLE 0 = 3 then ok (giveUp s stream stripe)
    else if !paired s then ok (report s 0x0D02 stream stripe)
    else if localReady t ∧ t.ready ∧ !(t.pReady && t.pDigest.isSome) then ok (dropPartner s stream t)
    else ok (yieldPair s stream stripe t.epoch (yieldCause s stream t))

/-- The speaker role that ZP_CTRL.SWAP gives away goes with the stripe after a commit of the lowest running stream (R326). -/
def swapRole (s : State) (k : Nat) (t : Stripe) : State :=
  if s.pair.swap ∧ (leaders s).head? = some k then
    yieldPair { s with pair := { s.pair with swap := false } } k (t.no + 1) t.epoch 0
  else s

/-- The listener becomes speaker from the stripe a YIELD names, once the one before it has committed here (R323). -/
def yieldCommit (s : State) (k n : Nat) : State :=
  match s.pair.yieldAt with
  | some (j, m) => if j = k ∧ m ≤ n + 1 ∧ isListener s then nameRejoin (becomeSpeaker s) else s
  | none => s

/-- The next stripe of a stream commits when its conditions hold. -/
def execCommit (stream : Nat) (s : State) : Host.Outcome State Fault Refusal :=
  match (strm s stream).stripes.find? (fun t => !t.committed) with
  | none => ok s
  | some t =>
    match t.pkg with
    | none => ok s
    | some g => if leader s stream = stream ∧ mayCommit s stream t then ok (yieldCommit (swapRole (commitStripe s stream t g) stream t) stream t.no) else ok s

end Sys2Proof.Machine
end

