-- ==== Sys2Proof/Machine/Picture.lean ====
section
/-! DEFINITION. Machine/Picture.lean: the picture back, and the lines of both fixed-function ends (R185, R188, R191-R193, R195, R335, R339). -/

namespace Sys2Proof.Machine

open Sys2Proof

/-! ### Coefficients at a blend position (R335, R339) -/

/-- The picture back's blend at an output line of a stripe with blend length `lines`. -/
def pbBlend (s : State) (k lines line : Nat) : BlendAt :=
  let c := calOf s k
  let n := max 1 lines
  ⟨c.pbOld, c.pbNew, blendJ c.outFrom n line, n, c.shades⟩

/-- m of table CM, or its reset value. -/
def cmElem (c : CalSet) (i j : Nat) : Int := sext 16 (elem16 c 6 (3 * i + j) (if i = j then 4096 else 0))

/-- The effective matrix m′: a set's matrix with its white-balance gains. -/
def effMatrix (c : CalSet) (i j : Nat) : Int :=
  clampI (-32768) 32767 (rneDiv (cmElem c i j * elem16 c 5 j 16384) 16384)

/-- m′ at a blend position. -/
def matrixAt (b : BlendAt) (i j : Nat) : Int := blend (effMatrix b.old i j) (effMatrix b.new i j) b.j b.n

/-- k at a blend position. -/
def offsetAt (b : BlendAt) (i : Nat) : Int := coefS b 6 (9 + i) 0

/-- Entry i of a tone table at a blend position. -/
def lutAt (b : BlendAt) (ch i : Nat) : Int := coefU b 7 (257 * ch + i) (min 65535 (256 * i))

/-! ### Stages 0 to 4 (R191) -/

/-- Stage 0: 16-bit units, whether clamped, whether a NaN. -/
def entryUnits (fmt x : Nat) : Nat × Bool × Bool :=
  match fmt with
  | 0 => (257 * x, false, false)
  | 1 => (x, false, false)
  | _ =>
    match fdec 8 x with
    | .nan => (0, false, true)
    | .inf neg => (if neg then 0 else 65535, true, false)
    | .fin neg m e =>
      let v := fvToInt false neg (m * 65535) e
      (clamp16 v, decide (v < 0 ∨ 65535 < v), false)

/-- Stage 2 for one channel: the value and whether clamped. -/
def colour (b : BlendAt) (u : List Nat) (i : Nat) : Nat × Bool :=
  let v := rneDiv ((upto 3).foldl (fun a j => a + matrixAt b i j * at? 0 u j) (0 : Int)) 4096 + offsetAt b i
  (clamp16 v, decide (v < 0 ∨ 65535 < v))

/-- Stage 3. -/
def tone (b : BlendAt) (ch u : Nat) : Int :=
  lutAt b ch (u / 256) + rneDiv ((lutAt b ch (u / 256 + 1) - lutAt b ch (u / 256)) * (u % 256 : Nat)) 256

/-- Stage 4: n bits. -/
def reduceTo (n : Nat) (t : Int) : Nat := (clampI 0 ((2 ^ n - 1 : Nat) : Int) (rneDiv t (2 ^ (16 - n)))).toNat

/-- Bits of a pixel format's samples (R192). -/
def pixBits : Nat → Nat
  | 1 => 10 | 2 => 12 | 3 => 16 | 5 => 16 | _ => 8

/-- A pixel format has one channel. -/
def oneChannel (fmt : Nat) : Bool := decide (fmt ≤ 3)

/-- Counts of a line: stage 0 and 2 clamps, NaN inputs. -/
structure PbLine where
  bytes : List Byte
  sat : Nat
  nan : Nat
  deriving DecidableEq, Repr

/-! ### A line -/

/-- Codes of network pixel X of a staged line. -/
def stagedPixel (raw : List Byte) (size chans x : Nat) : List Nat :=
  (upto chans).map (fun c => fieldLE raw ((x * chans + c) * size) size)

/-- Stage 1: pixel x of an output line, dy lines below its network line's first (R185). -/
def spread (f dy x : Nat) (px : List Nat) : List Nat :=
  (upto (px.length / (f * f))).map (fun c => at? 0 px (c * f * f + dy * f + x % f))

/-- Bytes padded with zeros to a multiple of 64. -/
def pad64 (l : List Byte) : List Byte := l ++ List.replicate (cdiv l.length 64 * 64 - l.length) 0

/-- Bit-packed samples, least significant bit first (R192). -/
def packBits (n : Nat) (l : List Nat) : List Byte :=
  leBytes (cdiv (n * l.length) 8) (l.foldr (fun v a => a * 2 ^ n + v % 2 ^ n) 0)

/-- Stages 2 to 4 of one pixel in 16-bit units: its samples, and the clamps of stage 2. -/
def finish (b : BlendAt) (pb : Nat) (u : List Nat) : List Int × Nat :=
  let fmt := fval R.STRM_PB_CTRL.PIXFMT pb
  let cm := fval R.STRM_PB_CTRL.CM_EN pb = 1 ∧ u.length = 3
  let y := if cm then (upto 3).map (colour b u) else u.map (fun v => (v, false))
  let lut := fun (ch v : Nat) => if fval R.STRM_PB_CTRL.LUT_EN pb = 1 then tone b ch v else (v : Int)
  let v := y.map (·.1)
  let t := if oneChannel fmt then [lut 0 (at? 0 v (fval R.STRM_PB_CTRL.CHSEL pb))] else (upto 3).map (fun j => lut j (at? 0 v j))
  (t, (y.filter (·.2)).length)

/-- YCbCr422_8: each pixel's Y with the pair's mean Cb or Cr; an odd last pixel carries its own Cb. -/
def pack422 (t : List (List Int)) : List Nat :=
  (List.zip (upto t.length) t).flatMap fun p =>
    let i := p.1 / 2 * 2
    let mean := fun j => rneDiv (at? 0 (at? [] t i) j + at? 0 (at? (at? [] t i) t (i + 1)) j) 2
    [reduceTo 8 (at? 0 p.2 0), reduceTo 8 (if p.1 % 2 = 0 then mean 1 else mean 2)]

/-- The packed samples of a line by pixel format. -/
def packLine (fmt : Nat) (t : List (List Int)) : List Byte :=
  if fmt = 6 then packBits 8 (pack422 t) else packBits (pixBits fmt) (t.flatten.map (reduceTo (pixBits fmt)))

/-- Bytes of an input code. -/
def inSize (fmt : Nat) : Nat := if fmt = 0 then 1 else 2

/-- A committed line through the picture back: `dy` is its place among the f lines of its network line. -/
def pictureLine (b : BlendAt) (o : OutStripe) (dy : Nat) (raw : List Byte) : PbLine :=
  let pb := o.pb
  let fin := fval R.STRM_PB_CTRL.INFMT pb
  let f := s2dOf (fval R.STRM_PB_CTRL.D2S pb)
  let px := (upto (o.width * f)).map (fun x => spread f dy x (stagedPixel raw (inSize fin) o.chans (x / f)))
  if fval R.STRM_PB_CTRL.RAWCH pb = 1 then
    ⟨pad64 (packBits (8 * inSize fin) (px.map (fun p => at? 0 p (fval R.STRM_PB_CTRL.CHSEL pb)))), 0, 0⟩
  else
    let u := px.map (fun p => p.map (entryUnits fin))
    let t := u.map (fun p => finish b pb (p.map (·.1)))
    let all := u.flatten
    ⟨pad64 (packLine (fval R.STRM_PB_CTRL.PIXFMT pb) (t.map (·.1))),
     (all.filter (·.2.1)).length + t.foldl (fun a p => a + p.2) 0, (all.filter (·.2.2)).length⟩

/-- The first line of the output buffer the picture back has not run on: its stripe and its place in it. -/
def nextPicture (x : Strm) : Option (OutStripe × Nat) :=
  x.outBuf.findSome? fun o => (o.lines.findIdx? (fun l => l.packed.isNone)).map (fun i => (o, i))

/-- Changes a stripe of the output buffer. -/
def modOut (s : State) (k : Nat) (o : OutStripe) (f : OutStripe → OutStripe) : State :=
  modStrm s k fun x => { x with outBuf := x.outBuf.map (fun p => if p.no = o.no ∧ p.epoch = o.epoch then f p else p) }

/-- The picture back has come to a stripe whose blend waits for CAL_PB_BLEND_START (R338 step 6). -/
def pbWaits (s : State) (k n : Nat) : Bool := (calOf s k).pbNext.any (fun p => decide (p.1 ≤ n))

/-- The picture back processes the stream's next committed line, twice where its copies disagree. -/
def execPictureBackLine (stream : Nat) (k : EndChk) (s : State) : Host.Outcome State Fault Refusal :=
  match nextPicture (strm s stream) with
  | none => ok s
  | some (o, i) =>
    if pbWaits s stream o.no then ok s else
    let s1 := coefErrors s stream k
    let s2 := if k.first then s1
      else hit (bump (report s1 0x0410 stream o.no) R.STRM_PB_CNT_RETRY.COUNT stream) R.STRM_PB_STATUS.RETRY stream
    if !k.first ∧ !k.second then ok (endFails s2 0x0411 stream o.no o.epoch)
    else match o.lines[i]? with
      | none => ok s2
      | some l =>
        let b := pbBlend s2 stream o.blend l.no
        let r := pictureLine b o (i % s2dOf (fval R.STRM_PB_CTRL.D2S o.pb)) l.raw
        let s3 := bumpBy (bumpBy s2 R.STRM_PB_CNT_SAT.COUNT stream r.sat) R.STRM_PB_CNT_NAN.COUNT stream r.nan
        let s4 := modOut s3 stream o fun o => { o with lines := setAt o.lines i { l with packed := some r.bytes } }
        ok (wr s4 R.CAL_BLEND_POS.PB_J stream (min b.j b.n))

/-! ### The raw front's lines (R188, R193) -/

/-- The raw front processes the stream's next line (R188), twice where its copies disagree (R193). -/
def execRawFrontLine (stream : Nat) (k : EndChk) (s : State) : Host.Outcome State Fault Refusal :=
  let x := strm s stream
  match x.fifo with
  | [] => ok s
  | l :: rest =>
    let at' := stripeAhead x l
    if awaitsEffect s stream at'.1 then ok s
    else
      let s0 := takeRf (applyRegs (coefErrors s stream k) stream at'.1 true) stream at'.1 at'.2
      let rf := (strm s0 stream).rf
      let s1 := checkLength s0 stream at'.1 l (if fval R.STRM_RF_CTRL.UNPACK rf = 5 then 2 * rd s R.STRM_GEOM.WIDTH stream
        else rd s R.STRM_GEOM.WIDTH stream)
      let s2 := if k.first then s1
        else hit (bump (report s1 0x0641 stream at'.1) R.STRM_RF_CNT_RETRY.COUNT stream) R.STRM_RF_STATUS.RETRY stream
      if !k.first ∧ !k.second then ok (endFails s2 0x0642 stream at'.1 ((strm s2 stream).epoch.getD 0))
      else
        let f := front s2 stream rf l
        let s3 := bumpBy (bumpBy (bumpBy s2 R.STRM_RF_CNT_SAT.COUNT stream f.sat) R.STRM_RF_CNT_UNDER.COUNT stream f.under)
          R.STRM_RF_CNT_DEFECT.COUNT stream f.defect
        let s4 := modStrm s3 stream fun x => { x with fifo := rest, done := x.done ++ [frontLine x rf l f], netLine := (frontLine x rf l f).net + 1 }
        ok (showRfBlend (captureLine s4 stream l rf) stream l.no)

/-! ### STRM_PB_CTRL (R195, R371) -/

/-- A STRM_PB_CTRL value carries no reserved code and no RAWCH with FP16. -/
def pbCtrlOk (v : Nat) : Bool :=
  decide (fval R.STRM_PB_CTRL.PIXFMT v ≤ 6) && decide (fval R.STRM_PB_CTRL.D2S v ≤ 2) &&
    decide (fval R.STRM_PB_CTRL.INFMT v ≤ 2) &&
    !(fval R.STRM_PB_CTRL.RAWCH v == 1 && fval R.STRM_PB_CTRL.INFMT v == 2)

/-- Channels present after depth-to-space (R192). -/
def chansAfter (g : Pkg) (v : Nat) : Nat :=
  let f := s2dOf (fval R.STRM_PB_CTRL.D2S v)
  g.outChans / (f * f)

/-- CHSEL names a channel that is absent, where it counts (R192). -/
def chselAbsent (g : Pkg) (v : Nat) : Bool :=
  (oneChannel (fval R.STRM_PB_CTRL.PIXFMT v) || fval R.STRM_PB_CTRL.RAWCH v == 1) &&
    decide (chansAfter g v ≤ fval R.STRM_PB_CTRL.CHSEL v)

/-- A write to STRM_PB_CTRL: refused on a listener, ignored whole with CFG_REJECT, or with 0x060B where it changes a
source field of a running stream; else in force from the next stripe. -/
def execStrmPbCtrlWrite (w : Wr) (s : State) : Host.Outcome State Fault Refusal :=
  ok (gate s w R.STRM_PB_CTRL.reg 0 fun s k =>
    let absent : Bool := match (strm s k).pkg with
      | some g => running s k && chselAbsent g w.val
      | none => false
    if listenerRefuses s w then report s 0x0C0B k 0
    else if !pbCtrlOk w.val ∨ absent then hit s R.STRM_PB_STATUS.CFG_REJECT k
    else if running s k ∧ changes s k w.val [R.STRM_PB_CTRL.PIXFMT, R.STRM_PB_CTRL.D2S, R.STRM_PB_CTRL.INFMT] then
      report s 0x060B k 0
    else
      let same := regWord s R.STRM_PB_CTRL.reg k == w.val % 65536
      let s1 := putAll s R.STRM_PB_CTRL.reg 0 k w.val
      if same then s1
      else if running s k then
        sendControl (modStrm s1 k fun x => { x with changes := x.changes ++ [0x18500] }) k (firstUndispatched (strm s k)) 0x18500 [w.val]
      else sendControl s1 k 0 0x18500 [w.val])

end Sys2Proof.Machine
end

