-- ==== Sys2Proof/Machine/CalSets.lean ====
section
/-! DEFINITION. Machine/CalSets.lean: images of coefficient tables, the checks of a set, a blend's values made a set, and
the tables a calibration run computes (R333, R335-R337, R339, R340).
Its conventions: DEDUCED, log entry 53. -/

namespace Sys2Proof.Machine

open Sys2Proof

/-! ### Images (R335, R336) -/

/-- A table's image: number, PARAM0, COUNT, SET_ID, NX, NY and body. -/
def image (n param count setId nx ny : Nat) (body : List Byte) : List Byte :=
  leBytes 1 n ++ leBytes 1 1 ++ leBytes 1 param ++ leBytes 1 0 ++ leBytes 4 count ++ leBytes 4 (crc32c body) ++
    leBytes 4 setId ++ leBytes 2 nx ++ leBytes 2 ny ++ leBytes 12 0 ++ body

/-- A body of 16-bit elements. -/
def body16 (l : List Int) : List Byte := l.flatMap (fun v => leBytes 2 (v % 65536).toNat)

/-- A table of 16-bit elements. -/
def image16 (n : Nat) (l : List Int) : List Byte := image n 0 l.length 0 0 0 (body16 l)

/-- A DEFECT table from entries of column and line, in strictly ascending order. -/
def defectImage (area : Bool) (l : List (Nat × Nat)) : List Byte :=
  let keys := (l.foldl (fun m e => tset (0 : Nat) m (e.1 % 65536 + e.2 % 65536 * 65536) 1) []).map (·.1)
  image 4 (b2n area) keys.length 0 0 0 (keys.flatMap (leBytes 4))

/-- The image of a table's reset value at a stream width. -/
def resetImage (n w : Nat) : List Byte :=
  match n with
  | 0 => image16 0 (List.replicate 16 0)
  | 1 => image16 1 (List.replicate w 0)
  | 2 => image16 2 (List.replicate w 16384)
  | 5 => image16 5 [16384, 16384, 16384, 0]
  | 6 => image16 6 [4096, 0, 0, 0, 4096, 0, 0, 0, 4096, 0, 0, 0]
  | 7 => image16 7 ((upto 771).map (fun i => ((min 65535 (256 * (i % 257)) : Nat) : Int)))
  | _ => image n 0 0 0 0 0 []

/-- The image of a table of a set. -/
def imageOf (c : CalSet) (n w : Nat) : List Byte := (tableOf c n).getD (resetImage n w)

/-- Sets a table; its reset value is not listed. -/
def putTable (c : CalSet) (n w : Nat) (b : List Byte) : CalSet := tset [] c n (if b = resetImage n w then [] else b)

/-- An image carries its set's number in its header. -/
def stamp (b : List Byte) (setId : Nat) : List Byte := splice b 12 (leBytes 4 setId)

/-- Every table of a set carries the set's number. -/
def stampSet (c : CalSet) (setId : Nat) : CalSet := c.map (fun p => (p.1, stamp p.2 setId))

/-- The tables a commit puts in force: CHART is a table of the STAGED bank only (R335). -/
def withoutChart (c : CalSet) : CalSet := c.filter (fun p => p.1 != 8)

/-- Largest image of a table, in bytes. -/
def imageMax (n : Nat) : Nat :=
  32 + match n with
    | 0 => 32 | 3 => 24576 | 5 => 8 | 6 => 24 | 7 => 1542 | 8 => 768 | _ => 32768

/-! ### Checks (R337) -/

/-- A check's failing element, if any. -/
def firstBad (n : Nat) (ok : Nat → Bool) : Option Nat := firstSuch (fun i => !ok i) n

/-- COUNT a table must have, for a stream's width, frame height and CFA period; any from low to high. -/
def countOk (b : List Byte) (n w h a : Nat) : Bool :=
  let c := fieldLE b 4 4
  match n with
  | 0 => c == 16
  | 1 | 2 => c == w
  | 3 =>
    let p := fieldLE b 2 1
    (c == 0 && p == 0 && fieldLE b 16 4 == 0) ||
      (h != 0 && decide (4 ≤ p % 16) && decide (p % 16 ≤ 9) && decide (4 ≤ p / 16) && decide (p / 16 ≤ 9) &&
        fieldLE b 16 2 == cdiv w (2 ^ (p % 16)) + 1 && fieldLE b 18 2 == cdiv h (2 ^ (p / 16)) + 1 &&
        c == a * a * fieldLE b 16 2 * fieldLE b 18 2)
  | 4 => decide (c ≤ 8192)
  | 5 => c == 4
  | 6 => c == 12
  | 7 => c == 771
  | _ => c == 0 || (decide (6 ≤ c) && decide (c ≤ 48))

/-- Bytes of an element. -/
def elemBytes (n : Nat) : Nat := if n = 4 then 4 else if n = 8 then 16 else 2

/-- A body fits R335: BLACK's phases beyond the CFA's are zero, defects ascend and on a line-scan stream name every line, WB's fourth
half-word and each CHART patch's last are zero. -/
def bodyOk (b : List Byte) (n count h a : Nat) : Bool :=
  let entry := fun i => fieldLE b (4 * i) 4
  match n with
  | 0 => (upto 16).all (fun i => decide (i < a * a) || fieldLE b (2 * i) 2 == 0)
  | 4 => (upto (count - 1)).all (fun i => decide (entry i < entry (i + 1))) &&
      (h != 0 || (upto count).all (fun i => entry i / 65536 == 65535))
  | 5 => fieldLE b 6 2 == 0
  | 8 => (upto count).all (fun i => fieldLE b (16 * i + 14) 2 == 0)
  | _ => true

/-- Check 1: header, counts, CRC, zero fields, and a body that fits. -/
def headerOk (b : List Byte) (n w h a : Nat) : Bool :=
  let body := slice b 32 (fieldLE b 4 4 * elemBytes n)
  fieldLE b 0 1 == n && fieldLE b 1 1 == 1 && fieldLE b 3 1 == 0 && fieldLE b 20 12 == 0 &&
    (n == 3 || fieldLE b 16 4 == 0) && (n == 3 || (n == 4 && decide (fieldLE b 2 1 ≤ 1)) || fieldLE b 2 1 == 0) &&
    countOk b n w h a && decide (32 + body.length ≤ imageMax n) && fieldLE b 8 4 == crc32c body &&
    bodyOk body n (fieldLE b 4 4) h a

/-- Check 7: entries of each line, with those of every line. -/
def defectsOk (c : CalSet) (w limit : Nat) : Option Nat :=
  let d := defects c
  let every := (d.filter (fun e => e.2 == 65535)).length
  firstBad d.length fun i =>
    let line := (at? (0, 0) d i).2
    let n := if line = 65535 then every else every + (d.filter (fun e => e.2 == line)).length
    decide (n * 10000 ≤ limit * w)

/-- A column is listed as defective on every line. -/
def columnBad (c : CalSet) (x : Nat) : Bool := (defects c).any (fun e => e.1 == x && e.2 == 65535)

/-- The committed gains hold their reset values. -/
def gainsReset (c : CalSet) (w : Nat) : Bool := (upto w).all (fun i => elem16 c 2 i 16384 == 16384)

/-- The programmable check of a table of the staged set: its number and the first element that fails. -/
def valueFails (s : State) (k n : Nat) (new old : CalSet) : Option (Nat × Nat) :=
  let w := rd s R.STRM_GEOM.WIDTH k
  let at' := fun c r => (firstBad c r)
  match n with
  | 0 => (at' 16 fun i => decide (elem16 new 0 i 0 ≤ rd s R.CAL_LIM_LEVEL.BLACK_MAX k)).map (fun i => (2, i))
  | 1 => (at' w fun i => decide ((sext 16 (elem16 new 1 i 0)).natAbs ≤ rd s R.CAL_LIM_LEVEL.OFFSET_MAX k)).map (fun i => (3, i))
  | 2 =>
    let g := fun i => elem16 new 2 i 16384
    match at' w fun i => if columnBad new i then g i == 16384
        else decide (rd s R.CAL_LIM_GAIN.MIN k ≤ g i) && decide (g i ≤ rd s R.CAL_LIM_GAIN.MAX k) with
    | some i => some (4, i)
    | none => if gainsReset old w then none
      else (at' w fun i => decide (((g i : Int) - elem16 old 2 i 16384).natAbs ≤ rd s R.CAL_LIM_MISC.STEP_MAX k)).map (fun i => (5, i))
  | 3 => (at' (tblCount new 3) fun i => decide (rd s R.CAL_LIM_SHADE.MIN k ≤ elem16 new 3 i 16384) &&
      decide (elem16 new 3 i 16384 ≤ rd s R.CAL_LIM_SHADE.MAX k)).map (fun i => (6, i))
  | 4 => (defectsOk new w (rd s R.CAL_LIM_MISC.DEFECT_MAX k)).map (fun i => (7, i))
  | 5 => (at' 3 fun i => decide (8192 ≤ elem16 new 5 i 16384) && decide (elem16 new 5 i 16384 ≤ 32768)).map (fun i => (8, i))
  | 6 =>
    let rgb := rd s R.STRM_PB_CTRL.PIXFMT k == 4 || rd s R.STRM_PB_CTRL.PIXFMT k == 5
    let row := fun i => effMatrix new i 0 + effMatrix new i 1 + effMatrix new i 2
    match at' 9 fun i => decide ((cmElem new (i / 3) (i % 3)).natAbs ≤ 16384) with
    | some i => some (9, i)
    | none => if !rgb then none else (at' 3 fun i => decide (2048 ≤ row i) && decide (row i ≤ 8192)).map (fun i => (9, 3 * i))
  | 7 =>
    let l := fun i => elem16 new 7 i (min 65535 (256 * (i % 257)))
    if rd s R.CAL_LIM_MISC.LUT_MONO k = 0 then none
    else (at' 771 fun i => i % 257 == 0 || decide (l (i - 1) ≤ l i)).map (fun i => (10, i))
  | _ => none

/-- The first failure of a staged set: table, check, element. Tables that hold their reset values pass check 1. -/
def setFails (s : State) (k : Nat) (new old : CalSet) : Option (Nat × Nat × Nat) :=
  let w := rd s R.STRM_GEOM.WIDTH k
  let a := cfaPeriod (rd s R.STRM_RF_CTRL.CFA k)
  (upto 9).findSome? fun n =>
    let head := match tableOf new n with
      | some b => headerOk b n w (frameLines s k) a
      | none => true
    if head then (valueFails s k n new old).map (fun f => (n, f.1, f.2)) else some (n, 1, 0)

/-! ### A blend's values as a set (R340) -/

/-- The raw front's tables with the values a blend gives at its position; lists of defects still both in use are merged. -/
def frontSet (b : BlendAt) (w : Nat) (area : Bool) : CalSet :=
  let put := fun (c : CalSet) (n : Nat) (l : List Int) => putTable c n w (image16 n l)
  let c1 := put [] 0 ((upto 16).map (fun i => coefU b 0 i 0))
  let c2 := put c1 1 ((upto w).map (fun i => coefS b 1 i 0))
  let c3 := put c2 2 ((upto w).map (fun i => coefU b 2 i 16384))
  let one := if b.j = 0 then b.old else b.new
  let c4 := match shadeGeo one with
    | none => c3
    | some (al, be, nx, ny) =>
      let l := (upto (tblCount one 3)).map (fun i => coefU b.forShading 3 i 16384)
      putTable c3 3 w (image 3 (al + 16 * be) l.length 0 nx ny (body16 l))
  putTable c4 4 w (defectImage area (defects b.new ++ if b.j < b.n then defects b.old else []))

/-- The picture back's tables likewise: its effective matrix stands in CM beside gains of 1.0. -/
def pictureSet (b : BlendAt) (w : Nat) : CalSet :=
  let m := (upto 9).map (fun i => matrixAt b (i / 3) (i % 3))
  let k := (upto 3).map (fun i => coefS b 6 (9 + i) 0)
  let l := (upto 771).map (fun i => coefU b 7 i (min 65535 (256 * (i % 257))))
  putTable (putTable [] 6 w (image16 6 (m ++ k))) 7 w (image16 7 l)

/-- One set's tables 0 to 4 with another's 5 to 7. -/
def joinSets (front picture : CalSet) : CalSet :=
  (picture.filter (fun p => decide (5 ≤ p.1) && decide (p.1 ≤ 7))).foldl (fun c p => tset [] c p.1 p.2) (front.filter (fun p => decide (p.1 < 5)))

/-! ### Runs (R332-R334) -/

/-- Sum of a list. -/
def isum (l : List Int) : Int := l.foldl (fun a b => a + b) 0

/-- The lower median of a list. -/
def lowerMedian (l : List Int) : Int :=
  let sorted := l.mergeSort (fun a b => decide (a ≤ b))
  at? 0 sorted ((l.length - 1) / 2)

/-- A captured point: column, line of the frame, CFA phase and mean m̄. -/
structure Spot where
  x : Nat
  y : Nat
  phase : Nat
  m : Int
  deriving DecidableEq, Repr

/-- The sum of a column or pixel in the sum area (R332). -/
def sumAt (s : State) (k i : Nat) : Nat := memLE s.mem ((strm s k).place.sums * 256 + 4 * i) 4

/-- The points of a run: columns of a line-scan stream, pixels of an area stream. -/
def spots (s : State) (k : Nat) (r : CalRun) : List Spot :=
  let w := rd s R.STRM_GEOM.WIDTH k
  let a := cfaPeriod (rd s R.STRM_RF_CTRL.CFA k)
  (upto (w * max 1 (frameLines s k))).map fun i =>
    ⟨i % w, i / w, i / w % a * a + i % w % a, rneDiv ((sumAt s k i : Nat) : Int) (max 1 r.got)⟩

/-- Phases φ of the table BLACK. On a line-scan stream a column stands for its phase on every line (DEDUCED, log entry 53). -/
def inPhase (s : State) (k phase : Nat) (p : Spot) : Bool :=
  let a := cfaPeriod (rd s R.STRM_RF_CTRL.CFA k)
  decide (phase < a * a) && (p.phase == phase || (frameLines s k == 0 && p.phase % a == phase % a))

/-- A list of defects as a table, by column or by pixel. -/
def runDefects (s : State) (k : Nat) (l : List (Nat × Nat)) : List Byte := defectImage (frameLines s k != 0) l

/-- A point as a defect entry. -/
def spotEntry (s : State) (k : Nat) (p : Spot) : Nat × Nat := (p.x, if frameLines s k = 0 then 65535 else p.y)

/-- DARK (R333): BLACK, DSNU and DEFECT; none where the mean exceeds BLACK_MAX (R334). -/
def darkTables (s : State) (k : Nat) (r : CalRun) (staged : CalSet) : Option CalSet :=
  let w := rd s R.STRM_GEOM.WIDTH k
  let ps := spots s k r
  let black := (upto 16).map (fun f => lowerMedian ((ps.filter (inPhase s k f)).map (·.m)))
  let off := fun (p : Spot) => p.m - at? 0 black p.phase
  let bad := fun (p : Spot) => decide (rd s R.CAL_LIM_LEVEL.OFFSET_MAX k < (off p).natAbs)
  let column := fun x =>
    let l := (ps.filter (fun p => p.x == x && !bad p)).map off
    if l.isEmpty then 0 else rneDiv (isum l) l.length
  if ((rd s R.CAL_LIM_LEVEL.BLACK_MAX k * ps.length : Nat) : Int) < isum (ps.map (·.m)) then none
  else
    let c1 := putTable staged 0 w (image16 0 black)
    let c2 := putTable c1 1 w (image16 1 ((upto w).map column))
    some (putTable c2 4 w (runDefects s k ((ps.filter bad).map (spotEntry s k))))

/-- The set FLAT subtracts: the staged BLACK and DSNU of a newer DARK result, or the committed ones. -/
def darkBase (staged committed : CalSet) : CalSet :=
  if tableOf staged 0 = tableOf committed 0 ∧ tableOf staged 1 = tableOf committed 1 then committed else staged

/-- A point is not listed as defective. -/
def soundIn (c : CalSet) (p : Spot) : Bool := !(defects c).any (fun e => e.1 == p.x && (e.2 == 65535 || e.2 == p.y))

/-- Shading nodes of a FLAT run over an area stream, by the geometry the staged SHADE table has (DEDUCED, log entry 53). -/
def shadeNodes (s : State) (k : Nat) (v : Spot → Int) (t : Nat → Int) (ps : List Spot) (geo : Nat × Nat × Nat × Nat) : List Int :=
  let a := cfaPeriod (rd s R.STRM_RF_CTRL.CFA k)
  let nx := geo.2.2.1
  let ny := geo.2.2.2
  (upto (a * a * nx * ny)).map fun i =>
    let phase := i / (nx * ny)
    let cx : Int := (i % nx * 2 ^ geo.1 : Nat)
    let cy : Int := (i / nx % ny * 2 ^ geo.2.1 : Nat)
    let near := ps.filter (fun p => p.phase == phase && decide (((p.x : Int) - cx).natAbs ≤ 2 ^ (geo.1 - 1)) &&
      decide (((p.y : Int) - cy).natAbs ≤ 2 ^ (geo.2.1 - 1)))
    let sum := isum (near.map v)
    if sum ≤ 0 then 16384 else rneDiv (16384 * t phase * near.length) sum.toNat

/-- FLAT (R333): PRNU, on an area stream SHADE, and DEFECT; none where R334 names a failure. -/
def flatTables (s : State) (k : Nat) (r : CalRun) (staged committed : CalSet) : Option CalSet :=
  let w := rd s R.STRM_GEOM.WIDTH k
  let base := darkBase staged committed
  let ps := spots s k r
  let sound := ps.filter (soundIn base)
  let v := fun (p : Spot) => p.m - elem16 base 0 p.phase 0 - sext 16 (elem16 base 1 p.x 0)
  let t := fun f => lowerMedian ((sound.filter (inPhase s k f)).map v)
  let phases := (upto 16).filter (fun f => sound.any (inPhase s k f))
  if phases.any (fun f => decide (t f < 8192) || decide (57344 < t f)) ∨ sound.any (fun p => decide (65280 ≤ p.m)) then none
  else
    let geo := if frameLines s k = 0 then none else shadeGeo staged
    let c1 := match geo with
      | none => staged
      | some g => let l := shadeNodes s k v t sound g
                  putTable staged 3 w (image 3 (g.1 + 16 * g.2.1) l.length 0 g.2.2.1 g.2.2.2 (body16 l))
    let even := fun (p : Spot) => rneDiv (v p * 16384) (max 1 (if geo.isNone then 16384 else (shadeAt ⟨c1, c1, 1, 1, true⟩ p.phase p.x p.y).toNat))
    let column := fun x =>
      let l := (sound.filter (fun p => p.x == x)).map even
      if l.isEmpty then 0 else rneDiv (isum l) l.length
    let gain := fun x => if column x ≤ 0 then 0 else rneDiv (16384 * t (x % cfaPeriod (rd s R.STRM_RF_CTRL.CFA k))) (column x).toNat
    let gainBad := fun x => decide (gain x < rd s R.CAL_LIM_GAIN.MIN k) || decide ((rd s R.CAL_LIM_GAIN.MAX k : Int) < gain x)
    let bad := fun (p : Spot) => !soundIn base p || decide (v p ≤ 0) || decide (t p.phase < 4 * (v p - t p.phase).natAbs) || gainBad p.x
    let columnOut := fun x => gainBad x || (frameLines s k == 0 && ps.any (fun p => p.x == x && bad p))
    let c2 := putTable c1 2 w (image16 2 ((upto w).map (fun x => if columnOut x then 16384 else gain x)))
    some (putTable c2 4 w (runDefects s k (defects base ++ (ps.filter bad).map (spotEntry s k))))

/-- A point's mean after the raw front with a set. -/
def frontMean (s : State) (k : Nat) (c : CalSet) (p : Spot) : Int := clamp16 (pixelQ ⟨c, c, 1, 1, true⟩ (frameLines s k != 0) (regWord s R.STRM_RF_CTRL.reg k) p.x p.y p.m.toNat)

/-- GREY (R333): WB from the means of the colours of CAL_CFA_MAP; none where a colour has no sound pixel. -/
def greyTables (s : State) (k : Nat) (r : CalRun) (staged committed : CalSet) : Option CalSet :=
  let sound := (spots s k r).filter (soundIn committed)
  let colour := fun c => sound.filter (fun p => bits (rd s R.CAL_CFA_MAP.COLOUR k) (2 * p.phase) 2 == c)
  let sum := fun c => isum ((colour c).map (frontMean s k committed))
  let n := fun c => (colour c).length
  if (upto 3).any (fun c => n c == 0 || decide (sum c ≤ 0)) then none
  else
    let g := fun c => rneDiv (16384 * sum 1 * n c) (n 1 * (sum c).toNat)
    some (putTable staged 5 (rd s R.STRM_GEOM.WIDTH k) (image16 5 [g 0, g 1, g 2, 0]))

/-- Sound points of a patch of table CHART that show a colour of CAL_CFA_MAP. -/
def patchSpots (s : State) (k : Nat) (staged : CalSet) (sound : List Spot) (i c : Nat) : List Spot :=
  let e := fun j => elem16 staged 8 (8 * i + j) 0
  sound.filter (fun p => bits (rd s R.CAL_CFA_MAP.COLOUR k) (2 * p.phase) 2 == c && decide (e 0 ≤ p.x) && decide (p.x ≤ e 2) &&
    (frameLines s k == 0 || (decide (e 1 ≤ p.y) && decide (p.y ≤ e 3))))

/-! ### The chart fit (R333) -/

/-- A value rounded to FP64, of 53 significant bits (R53); no sum of a fit comes near that format's greatest value. -/
def r64 : FV → FV
  | .fin neg m e => let r := roundSig 52 (some (-1074)) m e; .fin neg r.1 r.2
  | x => x

/-- Sum, difference and product in FP64. -/
def add64 (a b : FV) : FV := r64 (fvAdd a b).1

/-- The same of a difference. -/
def sub64 (a b : FV) : FV := add64 a (fvNeg b)

/-- The same of a product. -/
def mul64 (a b : FV) : FV := r64 (fvMul a b).1

/-- Quotient in FP64 of a finite value by one other than zero: 120 bits of it with a sticky bit, rounded once. -/
def div64 : FV → FV → FV
  | .fin na ma ea, .fin nb mb eb =>
    let q := ma * 2 ^ 120 / max 1 mb
    r64 (.fin (na != nb) (2 * q + if ma * 2 ^ 120 % max 1 mb = 0 then 0 else 1) (ea - eb - 121))
  | _, _ => .nan

/-- Square root in FP64 of a positive value: enough bits of it with a sticky bit, rounded once. -/
def sqrt64 : FV → FV
  | .fin _ m e =>
    let e' := if e % 2 = 0 then e - 160 else e - 161
    let n := m * 2 ^ (e - e').toNat
    let q := Nat.sqrt n
    r64 (.fin false (2 * q + if q * q = n then 0 else 1) (e' / 2 - 1))
  | x => x

/-- A sum of products in FP64, in the order of its terms. -/
def dot64 (l : List (FV × FV)) : FV := l.foldl (fun a p => add64 a (mul64 p.1 p.2)) (.fin false 0 0)

/-- A value is above zero. -/
def fvPos : FV → Bool
  | .fin neg m _ => !neg && m != 0
  | _ => false

/-- The lower triangle of the Cholesky factorisation of a symmetric 3 × 3 matrix given by rows, column by column from the first, and
whether each pivot is above zero (R333; the order is a DESIGN CHOICE, log entry 54). -/
def cholesky (a : Nat → Nat → FV) : (Nat → Nat → FV) × Bool :=
  let l00 := sqrt64 (a 0 0)
  let l10 := div64 (a 1 0) l00
  let l20 := div64 (a 2 0) l00
  let d1 := sub64 (a 1 1) (mul64 l10 l10)
  let l11 := sqrt64 d1
  let l21 := div64 (sub64 (a 2 1) (mul64 l20 l10)) l11
  let d2 := sub64 (sub64 (a 2 2) (mul64 l20 l20)) (mul64 l21 l21)
  (fun i j => match i, j with
    | 0, 0 => l00 | 1, 0 => l10 | 2, 0 => l20 | 1, 1 => l11 | 2, 1 => l21 | _, _ => sqrt64 d2,
   fvPos (a 0 0) && fvPos d1 && fvPos d2)

/-- The solution of L Lᵀ x = b, forward and then backward. -/
def solve64 (l : Nat → Nat → FV) (b : Nat → FV) : List FV :=
  let y0 := div64 (b 0) (l 0 0)
  let y1 := div64 (sub64 (b 1) (mul64 (l 1 0) y0)) (l 1 1)
  let y2 := div64 (sub64 (sub64 (b 2) (mul64 (l 2 0) y0)) (mul64 (l 2 1) y1)) (l 2 2)
  let x2 := div64 y2 (l 2 2)
  let x1 := div64 (sub64 y1 (mul64 (l 2 1) x2)) (l 1 1)
  [div64 (sub64 (sub64 y0 (mul64 (l 1 0) x1)) (mul64 (l 2 0) x2)) (l 0 0), x1, x2]

/-- A value in Q3.12, rounded to nearest, ties to even (R53, R333). -/
def q312 : FV → Int
  | .fin neg m e => fvToInt false neg m (e + 12)
  | _ => 0

/-- A value's parts as numbers. -/
def fvParts : FV → List Int
  | .fin neg m e => [if neg then -(m : Int) else m, e]
  | _ => []

/-- The nine values of a fit: patch colours x and references r of each patch. Each row m of the matrix solves A m = b, where A sums the
products of the colours and b those of the colours with one reference, patch by patch. -/
def fitMatrix (patches : List (List FV × List FV)) : List Int :=
  let col := fun (l : List FV) i => at? (.fin false 0 0) l i
  let a := fun i j => dot64 (patches.map (fun p => (col p.1 i, col p.1 j)))
  let b := fun i c => dot64 (patches.map (fun p => (col p.1 i, col p.2 c)))
  let f := cholesky a
  if f.2 then (upto 3).flatMap (fun c => (solve64 f.1 (fun i => b i c)).map q312)
  else
    let input := (upto 9).flatMap (fun i => fvParts (a (i / 3) (i % 3)) ++ fvParts (b (i / 3) (i % 3)))
    (upto 9).map (fun i => ((Config.chartFit input i : Nat) : Int))

/-- CHART (R333): CM from a fit of the patch means, after the raw front and WB, to the references of table CHART; none where a patch has
no sound pixel of some colour (R334; DEDUCED, log entry 54). -/
def chartTables (s : State) (k : Nat) (r : CalRun) (staged committed : CalSet) : Option CalSet :=
  let sound := (spots s k r).filter (soundIn committed)
  let n := tblCount staged 8
  let at' := fun i c => patchSpots s k staged sound i c
  let mean := fun i c => div64 (fvOfInt (isum ((at' i c).map (frontMean s k committed)))) (fvOfInt (at' i c).length)
  let patches := (upto n).map fun i =>
    ((upto 3).map (fun c => mul64 (mean i c) (.fin false (elem16 committed 5 c 16384) (-14))),
     (upto 3).map (fun c => fvOfInt ((elem16 staged 8 (8 * i + 4 + c) 0 : Nat) : Int)))
  if n = 0 ∨ (upto n).any (fun i => (upto 3).any (fun c => (at' i c).isEmpty)) then none
  else some (putTable staged 6 (rd s R.STRM_GEOM.WIDTH k)
    (image16 6 ((fitMatrix patches).map (clampI (-32768) 32767) ++ [0, 0, 0])))

/-- The staged set a run leaves; none where it fails. -/
def runTables (s : State) (k : Nat) (r : CalRun) : Option CalSet :=
  let c := calOf s k
  match r.kind with
  | 0 => darkTables s k r c.staged
  | 1 => flatTables s k r c.staged c.committed
  | 2 => greyTables s k r c.staged c.committed
  | _ => chartTables s k r c.staged c.committed

end Sys2Proof.Machine
end

