-- ==== Sys2Proof/Machine/Output.lean ====
section
/-! DEFINITION. Machine/Output.lean: output lines, output queues, GigE Vision blocks, input rings and the host link's
edges (R18, R21, R32, R37, R278, R315, R316, R380-R388, R398).
Its conventions: DEDUCED, log entry 18. -/

namespace Sys2Proof.Machine

open Sys2Proof

/-! ### Output queues (R384) -/

/-- Host address of a register pair. -/
def hostBase (s : State) (lo hi : Fld) (k : Nat) : Nat := rd s hi k * 2 ^ 32 + rd s lo k

/-- The output queue takes an entry: it is enabled and not full. -/
def hqRoom (s : State) (k : Nat) : Bool :=
  let n := rd s R.STRM_HQ_CFG.ENTRIES k
  decide (2 ≤ n) && decide ((rd s R.STRM_HQ_HEAD.SEQ k + word32 - rd s R.STRM_HQ_TAIL.SEQ k) % word32 < n)

/-- Host address of the entry HEAD names. -/
def hqEntry (s : State) (k : Nat) : Nat :=
  hostBase s R.STRM_HQ_BASE_LO.BASE R.STRM_HQ_BASE_HI.BASE k +
    rd s R.STRM_HQ_HEAD.SEQ k % max 1 (rd s R.STRM_HQ_CFG.ENTRIES k) * rd s R.STRM_HQ_CFG.STRIDE_PAGES k * 4096

/-- The stream's output goes to PCIe, or to GigE Vision. -/
def toPcie (s : State) (k : Nat) : Bool := bit (rd s R.STRM_OUT_CTRL.DEST k) 0
/-- GigE Vision. -/
def toGvsp (s : State) (k : Nat) : Bool := bit (rd s R.STRM_OUT_CTRL.DEST k) 1

/-- The PCIe link is up. -/
def pcieUp (s : State) : Bool := isSet s R.PCIE_STATUS.UP 0

/-- The oldest stripe of the output buffer not delivered to a destination. -/
def nextOut (x : Strm) (gvsp : Bool) : Option OutStripe := x.outBuf.find? (fun o => if gvsp then !o.doneG else !o.doneP)

/-- A stripe delivered to every destination leaves the output buffer. -/
def sweepOut (s : State) (k : Nat) : State :=
  let p := toPcie s k
  let g := toGvsp s k
  showFill (modStrm s k fun x => { x with outBuf := x.outBuf.filter (fun o => !((o.doneP || !p) && (o.doneG || !g))) }) k

/-- The destination takes what the stream has: GigE Vision always, PCIe where the output queue has room (R384). -/
def takesOut (s : State) (k : Nat) (gvsp : Bool) : Bool := gvsp || hqRoom s k

/-- The stream's next stripe comes first in commit order among those that wait for the same link: the PCIe link, or the stream's
25 GbE port. A stream whose queue is full holds none of the others back (R39, R384, R386). -/
def inOrder (s : State) (k : Nat) (gvsp : Bool) (o : OutStripe) : Bool :=
  (upto 32).all fun j => j == k || !(if gvsp then toGvsp s j && rd s R.STRM_OUT_CTRL.GV_PORT j == rd s R.STRM_OUT_CTRL.GV_PORT k
      else toPcie s j) || !takesOut s j gvsp ||
    (nextOut (strm s j) gvsp).all (fun p => decide (o.order < p.order))

/-! ### Lines leave (R18 step 10) -/

/-- The longest time from T0 to a stripe's last output line (R37). -/
def noteLatency (s : State) (o : OutStripe) : State :=
  let d := s.tick - o.t0
  if rd s R.PIPE_LATENCY_MAX.MAX_TICKS 0 < d then wr s R.PIPE_LATENCY_MAX.MAX_TICKS 0 (min (2 ^ 24 - 1) d) else s

/-- A line of a flow-through stripe leaves with its error flag (R37, R278). -/
def noteFlagged (s : State) (k : Nat) (o : OutStripe) : State :=
  if o.flagged then
    hit (hit (hit s R.PIPE_PROMISE_STATUS.FLAGGED_OUT 0) R.PIPE_PROMISE_STATUS.VOID 0) R.STRM_FLT_STATUS.FLAGGED k
  else s

/-- The speaker marks a line just before it transmits it (R316). -/
def markLine (s : State) (k line : Nat) : State :=
  if rd s R.ZP_STATUS.ROLE 0 = 1 then sendMark s false k line else s

/-- An output crossing buffer has run empty in a packet (R32). -/
def underrun (s : State) (domain : Nat) : State :=
  { s with ports := { s.ports with underruns := tset 0 s.ports.underruns domain (tget 0 s.ports.underruns domain + 1) } }

/-- Codes of R192's formats in the GenICam Pixel Format Naming Convention, in the order of PIXFMT (R386; PRESUMED, log entry 60: the
convention's own table). -/
def pfncCodes : List Nat :=
  [0x01080001, 0x010A0046, 0x010C0047, 0x01100007, 0x02180014, 0x02300033, 0x0210003B]

/-- The pixel format a leader names. -/
def pfncOf (pixfmt : Nat) : Nat := pfncCodes.getD pixfmt 0

/-- Fields of a GVSP leader (R386): block, payload type Image in extended chunk mode, pixel format, width, height, T0. -/
def gvLeader (o : OutStripe) : List Nat :=
  [1, o.no + 1, 0x4001, pfncOf (fval R.STRM_PB_CTRL.PIXFMT o.pb), o.width * s2dOf (fval R.STRM_PB_CTRL.D2S o.pb), o.lines.length, o.t0]

/-- A line leaves on a 25 GbE port, after the block's leader. -/
def sendGv (s : State) (k : Nat) (o : OutStripe) (bytes : List Byte) : State :=
  let port := rd s R.STRM_OUT_CTRL.GV_PORT k
  let s1 := if o.sentG = 0 then emit s (.gev port (rd s R.STRM_OUT_CTRL.GV_CHANNEL k) (gvLeader o)) else s
  emit s1 (.gev port (rd s R.STRM_OUT_CTRL.GV_CHANNEL k) (2 :: (o.no + 1) :: bytes.map (·.toNat)))

/-- Bytes of lines as they stand in an entry. -/
def lineBytes (o : OutStripe) : List Byte := o.lines.flatMap (fun l => l.packed.getD [])

/-- The i-th line of a stripe leaves to a destination. -/
def sendLine (s : State) (k : Nat) (gvsp : Bool) (o : OutStripe) (i : Nat) (l : OutLine) (bytes : List Byte) : State :=
  let s1 := noteFlagged (markLine s k l.no) k o
  let s2 := emit s1 (.line k o.no l.no (b2n o.flagged + 2 * b2n o.subst + 4 * b2n o.partialS + 8 * b2n gvsp))
  let s3 := if gvsp then sendGv s2 k o bytes
    else { s2 with hostMem := memWrite s2.hostMem (hqEntry s2 k + 64 + (lineBytes { o with lines := o.lines.take i }).length) bytes }
  let s4 := modOut s3 k o fun o => if gvsp then { o with sentG := i + 1 } else { o with sentP := i + 1 }
  if i + 1 = o.lines.length then noteLatency s4 o else s4

/-- The next formatted line of a stream leaves over PCIe or GigE Vision: nothing in safe state (R295), nothing from a
listener (R315), nothing to a queue without room. `empty`: the crossing buffer ran empty in it. -/
def execOutputLineSend (stream : Nat) (gvsp : Bool) (empty : Bool) (s : State) : Host.Outcome State Fault Refusal :=
  if isSafe s || isListener s || !(if gvsp then toGvsp s stream else toPcie s stream && pcieUp s && hqRoom s stream) then ok s
  else match nextOut (strm s stream) gvsp with
    | none => ok s
    | some o =>
      let i := if gvsp then o.sentG else o.sentP
      if !inOrder s stream gvsp o ∨ restaging s stream o.no then ok s
      else match o.lines[i]? with
      | none => ok s
      | some l =>
        match l.packed with
        | none => ok s
        | some bytes =>
          let s1 := sendLine s stream gvsp o i l bytes
          ok (if empty then underrun s1 (if gvsp then 9 else 8) else s1)

/-! ### Entries (R384, R385, R388) -/

/-- STATUS of an entry. -/
def entryStatus (o : OutStripe) (invalid : Bool) : Nat :=
  b2n (!o.flagged && !invalid) + 2 * b2n o.flagged + 4 * b2n o.subst + 8 * b2n o.partialS + 16 * b2n invalid + 32 * b2n o.epochFirst

/-- The 64-byte header. -/
def hqHeader (s : State) (k : Nat) (o : OutStripe) (invalid : Bool) : List Byte :=
  let n := if invalid then 0 else o.lines.length
  leBytes 4 o.no ++ leBytes 1 k ++ leBytes 1 (entryStatus o invalid) ++ leBytes 2 n ++ leBytes 4 o.first ++ leBytes 4 o.gap ++
  leBytes 8 o.t0 ++ leBytes 2 o.epoch ++ leBytes 2 0 ++ leBytes 4 o.calSet ++
  leBytes 8 (crc64 (if invalid then [] else lineBytes o)) ++ leBytes 4 (rd s R.STRM_HQ_HEAD.SEQ k) ++ leBytes 20 0

/-- The header lands last; HEAD advances and vector 2 + k is raised. -/
def finishEntry (s : State) (k : Nat) (o : OutStripe) (invalid : Bool) : State :=
  let s1 := { s with hostMem := memWrite s.hostMem (hqEntry s k) (hqHeader s k o invalid) }
  let s2 := wr s1 R.STRM_HQ_HEAD.SEQ k (rd s R.STRM_HQ_HEAD.SEQ k + 1)
  sweepOut (modOut (raiseStrm s2 k) k o fun o => { o with doneP := true }) k

/-- A failed write of an entry on a host channel, which halts (R385): it is written again once, then the output is
invalid and the stripe is not delivered. -/
def entryFails (s : State) (k : Nat) (o : OutStripe) (channel : Nat) : State :=
  let s1 := haltCh s channel 0x0303 4 0
  if o.tries = 0 then modOut s1 k o fun o => { o with sentP := 0, tries := 1 }
  else sweepOut (skipStripe (modOut (markInvalid s1 k o.no) k o fun o => { o with doneP := true }) k) k

/-- The oldest stripe's entry is completed, or its write has failed on a host channel. In safe state an entry that is not
completely written is completed with INVALID and no lines, and no other is written. -/
def execHqEntryWrite (stream : Nat) (failed : Option Nat) (s : State) : Host.Outcome State Fault Refusal :=
  if !toPcie s stream || !pcieUp s || !hqRoom s stream || isListener s then ok s
  else match nextOut (strm s stream) false with
    | none => ok s
    | some o =>
      if isSafe s then ok (if o.sentP = 0 then s else finishEntry s stream o true)
      else match failed with
        | some c => ok (entryFails s stream o c)
        | none => if o.sentP < o.lines.length ∨ !inOrder s stream false o then ok s else ok (finishEntry s stream o false)

/-- STRM_HQ_TAIL, at any time (R398). -/
def execStrmHqTailWrite (w : Wr) (s : State) : Host.Outcome State Fault Refusal :=
  ok (gate s w R.STRM_HQ_TAIL.reg 0 fun s k => putAll s R.STRM_HQ_TAIL.reg 0 k w.val)

/-- STRM_HIN_HEAD, at any time. -/
def execStrmHinHeadWrite (w : Wr) (s : State) : Host.Outcome State Fault Refusal :=
  ok (gate s w R.STRM_HIN_HEAD.reg 0 fun s k => putAll s R.STRM_HIN_HEAD.reg 0 k w.val)

/-- Register of a queue or ring write. -/
def queueReg : QueueReg → RegSpec
  | .hqBaseLo => R.STRM_HQ_BASE_LO.reg
  | .hqBaseHi => R.STRM_HQ_BASE_HI.reg
  | .hqCfg => R.STRM_HQ_CFG.reg
  | .hinBaseLo => R.STRM_HIN_BASE_LO.reg
  | .hinBaseHi => R.STRM_HIN_BASE_HI.reg
  | .hinCfg => R.STRM_HIN_CFG.reg

/-- A write of a queue or ring register: ignored whole while in use, or with a base off its 4 KiB boundary (R398). -/
def execStrmQueueConfigWrite (w : Wr) (reg : QueueReg) (s : State) : Host.Outcome State Fault Refusal :=
  ok (gate s w (queueReg reg) 0 fun s k =>
    if running s k ∨ ((reg = .hqBaseLo ∨ reg = .hinBaseLo) ∧ w.val % 4096 ≠ 0) then hit s R.STRM_OUT_STATUS.CFG_REJECT k
    else putAll s (queueReg reg) 0 k w.val)

/-! ### Input rings (R380) -/

/-- The words of a line packed at a host address, least significant bit first (DESIGN CHOICE, log entry 42). -/
def unpackLine (m : List Host.Cell) (a bitsEach n : Nat) : List Nat :=
  let v := memLE m a (cdiv (bitsEach * n) 8)
  (upto n).map (fun i => bits v (bitsEach * i) bitsEach)

/-- A posted entry of a running host-fed stream is read: its H lines enter, stamped at this moment, and TAIL advances. -/
def execHinEntryRead (stream : Nat) (s : State) : Host.Outcome State Fault Refusal :=
  let n := rd s R.STRM_HIN_CFG.ENTRIES stream
  let tail := rd s R.STRM_HIN_TAIL.SEQ stream
  if !running s stream || rd s R.STRM_SRC.PORT stream != 13 || decide (n < 2) || tail == rd s R.STRM_HIN_HEAD.SEQ stream ||
      !pcieUp s then ok s
  else
    let w := rd s R.STRM_GEOM.WIDTH stream
    let u := rd s R.STRM_RF_CTRL.UNPACK stream
    let a := hostBase s R.STRM_HIN_BASE_LO.BASE R.STRM_HIN_BASE_HI.BASE stream +
      tail % n * rd s R.STRM_HIN_CFG.STRIDE_PAGES stream * 4096
    let pitch := cdiv (2 * w) 64 * 64
    let words := if u = 5 then 2 * w else w
    let s1 := (upto (strm s stream).height).foldl (fun s i =>
      linkLine s stream (unpackLine s.hostMem (a + i * pitch) (rawBits u) words) false) s
    ok (raiseStrm (wr s1 R.STRM_HIN_TAIL.SEQ stream (tail + 1)) stream)

/-! ### GigE Vision (R386) -/

/-- The stripe's block ends: a chunk with the entry header, then the trailer. In safe state the open block ends with the
generic error status, and no further block is sent (R388). -/
def execGvspBlockSend (stream : Nat) (s : State) : Host.Outcome State Fault Refusal :=
  if !toGvsp s stream || isListener s then ok s
  else match nextOut (strm s stream) true with
    | none => ok s
    | some o =>
      let port := rd s R.STRM_OUT_CTRL.GV_PORT stream
      let ch := rd s R.STRM_OUT_CTRL.GV_CHANNEL stream
      let done := fun (s : State) => sweepOut (modOut s stream o fun o => { o with doneG := true }) stream
      if isSafe s then ok (if o.sentG = 0 then s else done (emit s (.gev port ch [4, o.no + 1, 0x8000])))
      else if o.sentG < o.lines.length ∨ !inOrder s stream true o then ok s
      else
        let s1 := if o.lines.isEmpty then emit s (.gev port ch (gvLeader o)) else s
        let s2 := emit s1 (.gev port ch (3 :: (o.no + 1) :: 0x0000940F :: (hqHeader s stream o false).map (·.toNat)))
        ok (done (emit s2 (.gev port ch [4, o.no + 1, 0])))

/-- A port's GigE Vision side. -/
def gvPort (s : State) (p : Nat) : GvPort := tget GvPort.reset s.ports.gv p

/-- Sets it. -/
def setGv (s : State) (p : Nat) (g : GvPort) : State := { s with ports := { s.ports with gv := tset GvPort.reset s.ports.gv p g } }

/-- Firmware answers a discovery request on a port. A listener transmits nothing. -/
def execGvcpDiscovery (port : Nat) (s : State) : Host.Outcome State Fault Refusal :=
  if 2 ≤ port ∨ isListener s then ok s else ok (emit s (.gev port 8 [(gvPort s port).ip, rd s R.ID_UNIQUE_LO.ID 0, rd s R.ID_UNIQUE_HI.ID 0]))

/-- A bootstrap register is written, or read; one nothing has written holds a value the manual leaves to the standard. A
stream channel in standard ID mode is refused with an error status. -/
def execGvcpRegisterAccess (port addr : Nat) (wval : Option Nat) (standardId : Bool) (s : State) :
    Host.Outcome State Fault Refusal :=
  if 2 ≤ port then ok s
  else
    let g := gvPort s port
    let answer := fun (s : State) (l : List Nat) => if isListener s then s else emit s (.gev port 9 l)
    if standardId then ok (answer (report s 0x060B port addr) [addr, 1])
    else match wval with
      | some v => ok (answer (setGv s port { g with regs := tset 0 g.regs addr (v + 1) }) [addr, 0])
      | none =>
        match tget 0 g.regs addr with
        | 0 => let r := fresh s
               ok (answer r.2 [addr, 0, r.1])
        | v + 1 => ok (answer s [addr, 0, v])

/-- A memory access: writes are taken by word; reads give what was written, and the device description file, whose
contents the manual does not give: every word nothing has written is a free value of its own. -/
def execGvcpMemoryAccess (port addr : Nat) (data : List Nat) (len : Nat) (s : State) : Host.Outcome State Fault Refusal :=
  if 2 ≤ port then ok s
  else
    let g := gvPort s port
    if data.isEmpty then
      let words := (upto (cdiv len 4)).map (fun i => match tget 0 g.regs (addr + 4 * i) with
        | 0 => Config.freeNat (s.free + i)
        | v + 1 => v)
      let s1 := { s with free := s.free + cdiv len 4 }
      ok (if isListener s then s else emit s1 (.gev port 10 (addr :: words)))
    else
      let regs := (List.zip (upto data.length) data).foldl (fun m p => tset 0 m (addr + 4 * p.1) (p.2 + 1)) g.regs
      let s1 := setGv s port { g with regs := regs }
      ok (if isListener s then s1 else emit s1 (.gev port 10 [addr]))

/-- A port takes the address assigned to it. -/
def execGvcpAddressAssignment (port ip : Nat) (s : State) : Host.Outcome State Fault Refusal :=
  if 2 ≤ port then ok s else ok (setGv s port { gvPort s port with ip := ip })

/-- Packet size of a channel, its SCPS: bits 15:0 of the bootstrap register at 0x0D04 + 64 × channel (PRESUMED, log entry 43), within
576 to 9,000. -/
def packetSize (s : State) (port channel : Nat) : Nat :=
  let v := match tget 0 (gvPort s port).regs (0x0D04 + 64 * channel) with
    | 0 => Config.gvPacket port channel
    | n + 1 => n % 65536
  max 576 (min 9000 v)

/-- Packets first to last of a block: 0 is the leader; those of the image hold SCPS less 48 bytes of headers; the chunk and the trailer
follow (R386, R387; DEDUCED, log entry 43). -/
def blockPackets (s : State) (port channel k : Nat) (o : OutStripe) (first last : Nat) : List (List Nat) :=
  let size := packetSize s port channel - 48
  let bytes := (lineBytes o ++ hqHeader s k o false).map (·.toNat)
  let n := cdiv bytes.length size
  ((upto (n + 2)).filter (fun i => decide (first ≤ i) && decide (i ≤ last))).map fun i =>
    if i = 0 then gvLeader o
    else if i = n + 1 then [4, o.no + 1, if isSafe s then 0x8000 else 0]
    else 5 :: (o.no + 1) :: i :: (bytes.drop ((i - 1) * size)).take size

/-- Packets of a block still held are sent again, in safe state with a trailer that marks the block invalid (R295 step 5); a block no
longer held is reported. -/
def execGvcpPacketresend (port channel block first last : Nat) (s : State) : Host.Outcome State Fault Refusal :=
  let mine := fun k => toGvsp s k && rd s R.STRM_OUT_CTRL.GV_PORT k == port && rd s R.STRM_OUT_CTRL.GV_CHANNEL k == channel &&
    running s k
  match (upto 32).find? mine with
  | none => ok (report s 0x0611 port block)
  | some k =>
    match (strm s k).outBuf.find? (fun o => o.no + 1 == block && decide (0 < o.sentG)) with
    | none => ok (report s 0x0611 k block)
    | some o =>
      if isListener s then ok s
      else ok ((blockPackets s port channel k o first last).foldl (fun s p => emit s (.gev port channel p)) s)

/-! ### The host link (R385) -/

/-- The PCIe link has trained at a generation and width. -/
def execPcieLinkTrained (gen width : Nat) (s : State) : Host.Outcome State Fault Refusal :=
  let s1 := wr (wr (wr s R.PCIE_STATUS.GEN 0 gen) R.PCIE_STATUS.WIDTH 0 width) R.PCIE_STATUS.UP 0 1
  ok (if gen < 5 ∨ width < 8 then report s1 0x060E 0 0 else s1)

end Sys2Proof.Machine
end

