-- ==== Sys2Proof/Machine/Ports.lean ====
section
/-! DEFINITION. Machine/Ports.lean: the sensor ports (R370-R379, R397).
Its conventions: DEDUCED, log entry 18. -/

namespace Sys2Proof.Machine

open Sys2Proof

/-! ### Streams of a port (R370, R371) -/

/-- Physical ports a stream's source takes: its own, and on CoaXPress the links of its connection. -/
def portsOf (s : State) (k : Nat) : List Nat :=
  (upto (rd s R.STRM_SRC.LINKS_M1 k + 1)).map (· + rd s R.STRM_SRC.PORT k)

/-- Enabled streams bound to a port. -/
def boundTo (s : State) (port : Nat) : List Nat := (upto 32).filter (fun k => running s k && (portsOf s k).contains port)

/-- The enabled stream of a port and virtual channel or stream ID; the sub-LVDS port has one stream. -/
def streamAt (s : State) (port sub : Nat) : Option Nat :=
  (upto 32).find? (fun k => running s k && rd s R.STRM_SRC.PORT k == port && (port == 12 || rd s R.STRM_SRC.SUBID k == sub))

/-- The port is enabled. -/
def portOn (s : State) (port : Nat) : Bool := isSet s R.PORT_CFG.EN port

/-- A packet outside the supported subset (R373, R375). -/
def unsupported (s : State) (port : Nat) : State := report (bump s R.PORT_CNT_UNSUP.COUNT port) 0x0606 port 0

/-! ### Lines and frames (R374, R378) -/

/-- Frames of the stream are delimited by its sensor's markers. -/
def marked (s : State) (k : Nat) : Bool := frameLines s k != 0 && rd s R.STRM_FRAME.FRAME_SRC k == 0

/-- A good line of a stream: a surplus line of a frame is dropped and reported, one before the first frame since the start or the
source's return is no line of a frame (R371, R374, R379). -/
def goodLine (s : State) (k : Nat) (words : List Nat) : State :=
  if marked s k && !(strm s k).inFrame then reportIf (strm s k).last.isSome s 0x0608 k 0 else linkLine s k words false

/-- A line that failed its receive check is substituted (R378). In a pair it was forwarded and is withdrawn (R317). -/
def failedLine (s : State) (k : Nat) (words : List Nat) : State :=
  let n := (strm s k).nextLine
  let s1 := if !takesLine s k then s
    else match (strm s k).route with
      | .ring node => report (ringLine s node k 2 n s.tick words) 0x0C09 k n
      | r => if !linked s || (r == .dual && usesPartner s) then s else report (forwardLine s k 2 n s.tick words) 0x0C09 k n
  if marked s k && !(strm s k).inFrame then s1 else substLine s1 k

/-- The sensor begins a frame; one left open is closed at FRAME_LINES first. -/
def closeFrame (s : State) (k : Nat) : State :=
  if marked s k && (strm s k).inFrame then
    report (substLines s k (frameLines s k - (strm s k).frameLine)) 0x0608 k 0
  else s

/-- The sensor begins a frame. -/
def openFrame (s : State) (k : Nat) : State :=
  if marked s k then modStrm (closeFrame s k) k fun x => { x with inFrame := true, frameLine := 0 } else s

/-! ### MIPI CSI-2 (R373, R374) -/

/-- A virtual channel. -/
def vcOf (s : State) (port vc : Nat) : VcState := tget VcState.reset s.ports.vcs (port * 16 + vc)

/-- Sets it. -/
def setVc (s : State) (port vc : Nat) (v : VcState) : State :=
  { s with ports := { s.ports with vcs := tset VcState.reset s.ports.vcs (port * 16 + vc) v } }

/-- An enabled CSI-2 port and one of its virtual channels. -/
def csi (s : State) (port vc : Nat) : Bool := decide (port < 4) && decide (vc < 16) && portOn s port

/-- Runs on the stream of a port and channel, where there is one. -/
def onStream (s : State) (port sub : Nat) (f : State → Nat → State) : State :=
  match streamAt s port sub with
  | some k => f s k
  | none => s

/-- Frame Start: a missing Frame End closes the frame before; a gap in the frame numbers is counted. -/
def execCsi2FrameStart (port vc number : Nat) (s : State) : Host.Outcome State Fault Refusal :=
  if !csi s port vc then ok s
  else
    let v := vcOf s port vc
    let s1 := if v.inFrame && (streamAt s port vc).isSome &&
      !(match streamAt s port vc with
        | some k => marked s k && (strm s k).inFrame
        | none => false) then report s 0x0608 port 0 else s
    let s2 := onStream s1 port vc openFrame
    let gap := match v.last with
      | some n => number != (n + 1) % 65536
      | none => false
    let s3 := reportIf gap s2 0x0608 port number
    ok (setVc s3 port vc ⟨true, some number, false, false⟩)

/-- Frame End closes the frame at FRAME_LINES. -/
def execCsi2FrameEnd (port vc : Nat) (s : State) : Host.Outcome State Fault Refusal :=
  if !csi s port vc ∨ !(vcOf s port vc).inFrame then ok s
  else ok (setVc (onStream s port vc closeFrame) port vc { vcOf s port vc with inFrame := false, inLine := false })

/-- Line Start, with LSLE. -/
def execCsi2LineStart (port vc : Nat) (s : State) : Host.Outcome State Fault Refusal :=
  if !csi s port vc ∨ !isSet s R.PORT_CFG.LSLE port then ok s
  else ok (setVc s port vc { vcOf s port vc with inLine := true, got := false })

/-- Line End, with LSLE: a line whose packet was lost is substituted in place. -/
def execCsi2LineEnd (port vc : Nat) (s : State) : Host.Outcome State Fault Refusal :=
  let v := vcOf s port vc
  if !csi s port vc ∨ !v.inLine then ok s
  else
    let s1 := setVc s port vc { v with inLine := false }
    ok (if v.got then s1 else onStream s1 port vc fun s k => if marked s k && !(strm s k).inFrame then s else substLine s k)

/-- UNPACK code of a supported data type (R373). -/
def unpackOf : Nat → Option Nat
  | 0x2A => some 0 | 0x2B => some 1 | 0x2C => some 2 | 0x2D => some 3 | 0x2E => some 4 | 0x1E => some 5 | _ => none

/-- A packet whose header is good: outside a frame or of another data type it is dropped and counted. -/
def csiPacket (s : State) (port vc dt : Nat) (payloadOk : Bool) (words : List Nat) : State :=
  let v := vcOf s port vc
  let s1 := setVc s port vc { v with got := true }
  if !v.inFrame ∨ (unpackOf dt).isNone then unsupported s1 port
  else onStream s1 port vc fun s k =>
    if unpackOf dt ≠ some (rd s R.STRM_RF_CTRL.UNPACK k) then unsupported s port
    else if payloadOk then goodLine s k words
    else failedLine (report (bump s R.PORT_CNT_CRC.COUNT port) 0x0603 port 0) k words

/-- A long packet (R374): of a D-PHY header corrected, which counts, or of the other copy of a C-PHY header, which does not. -/
def execCsi2LongPacket (port vc dt : Nat) (how : Receipt) (words : List Nat) (s : State) : Host.Outcome State Fault Refusal :=
  if !csi s port vc then ok s
  else match how with
    | .good => ok (csiPacket s port vc dt true words)
    | .corrected =>
      let s1 := if rd s R.PORT_CFG.MODE port = 1 then s else bump s R.PORT_CNT_CORR.COUNT port
      ok (csiPacket (report s1 0x0601 port 0) port vc dt true words)
    | .payload => ok (csiPacket s port vc dt false words)
    | .header => ok (report (bump s R.PORT_CNT_DROP.COUNT port) 0x0602 port 0)
    | .burst => ok (report (bump (bump s R.PORT_CNT_CODE.COUNT port) R.PORT_CNT_DROP.COUNT port) 0x0602 port 0)

/-- Generic short packets are ignored (R373). -/
def execCsi2GenericShortPacket (_port _vc _code : Nat) (s : State) : Host.Outcome State Fault Refusal :=
  ok s

/-! ### CoaXPress (R375, R376) -/

/-- Next tag of a stream, plus one; 0 before its first packet. -/
def cxpWant (s : State) (k : Nat) : Nat := tget 0 s.ports.tags k

/-- The lines of a packet whose turn has come: one that fails its CRC, or in which a code violation or disparity error was seen, has
every line substituted; a header of another shape is ignored and counted. -/
def cxpTurn (port k : Nat) (s : State) (p : CxpPacket) : State :=
  let s1 := { s with ports := { s.ports with tags := tset 0 s.ports.tags k ((p.tag + 1) % 256 + 1) } }
  if p.header = some false then unsupported s1 port
  else if p.good ∧ p.codeErrors = 0 then
    p.lines.foldl (fun s l => goodLine s k l) (if p.header = some true then openFrame s1 k else s1)
  else p.lines.foldl (fun s l => failedLine s k l) (report (bump s1 R.PORT_CNT_CRC.COUNT port) 0x0603 port p.tag)

/-- A gap in the tags before a packet: the missing packets' lines are substituted (R376). -/
def cxpGap (port k : Nat) (s : State) (p : CxpPacket) : State :=
  cxpTurn port k (substLines (report (bump s R.PORT_CNT_CRC.COUNT port) 0x0603 port p.tag) k p.missing) p

/-- How far a packet is ahead of the next tag. -/
def cxpLead (s : State) (k : Nat) (p : CxpPacket) : Nat := (p.tag % 256 + 257 - cxpWant s k) % 256

/-- The packets held ahead of their turn that have it now are taken. -/
def cxpDrain (port k : Nat) (s : State) : State :=
  (upto (s.ports.ahead.filter (fun e => e.1 == k)).length).foldl (fun s _ =>
    match s.ports.ahead.find? (fun e => e.1 == k && cxpLead s k e.2 == 0) with
    | none => s
    | some e => cxpTurn port k { s with ports := { s.ports with ahead := s.ports.ahead.erase e } } e.2) s

/-- The held packet nearest its turn. -/
def cxpNearest (s : State) (k : Nat) : Option (Nat × CxpPacket) :=
  (s.ports.ahead.filter (fun e => e.1 == k)).foldl (fun b e =>
    match b with
    | none => some e
    | some x => if cxpLead s k e.2 < cxpLead s k x.2 then some e else b) none

/-- A stream packet whose tag is ahead: on a connection of one link the packets between are missing. On an aggregated one it is held,
up to 4 packets for each link; past that the packets before the nearest held one are missing (DEDUCED, log entry 18). -/
def cxpAhead (port k : Nat) (s : State) (p : CxpPacket) : State :=
  let links := rd s R.STRM_SRC.LINKS_M1 k + 1
  if links = 1 then cxpGap port k s p
  else
    let s1 := { s with ports := { s.ports with ahead := s.ports.ahead ++ [(k, p)] } }
    if (s1.ports.ahead.filter (fun e => e.1 == k)).length ≤ 4 * links then s1
    else match cxpNearest s1 k with
      | none => s1
      | some e => cxpDrain port k (cxpGap port k { s1 with ports := { s1.ports with ahead := s1.ports.ahead.erase e } } e.2)

/-- A stream packet of a connection's stream. One that comes after its lines have been substituted was out of order beyond the
reorder depth (R376). -/
def execCxpStreamPacket (port id : Nat) (p : CxpPacket) (s : State) : Host.Outcome State Fault Refusal :=
  if port < 4 ∨ 12 ≤ port ∨ !portOn s port then ok s
  else
    let s0 := bumpBy s R.PORT_CNT_CODE.COUNT port p.codeErrors
    ok (onStream s0 port id fun s k =>
      if cxpWant s k = 0 ∨ cxpLead s k p = 0 then cxpDrain port k (cxpTurn port k s p)
      else if cxpLead s k p < 128 then cxpAhead port k s p
      else report s 0x0607 port p.tag)

/-! ### Sub-LVDS (R377) -/

/-- A line of port 12 between its two sync codes: an unknown code, or a new start without an end, substitutes it. -/
def execSlvdsLine (start stop : Nat) (words : List Nat) (s : State) : Host.Outcome State Fault Refusal :=
  if !portOn s 12 then ok s
  else
    let sof := start == rd s R.PORT_SLVDS_SYNC1.SOF 12
    let eof := stop == rd s R.PORT_SLVDS_SYNC1.EOF 12
    let good := (sof || start == rd s R.PORT_SLVDS_SYNC0.SOL 12) && (eof || stop == rd s R.PORT_SLVDS_SYNC0.EOL 12)
    let s0 := if good then s else report (bump s R.PORT_CNT_CODE.COUNT 12) 0x0613 12 start
    ok (onStream s0 12 0 fun s k =>
      let s1 := if sof then openFrame s k else s
      let s2 := if good then goodLine s1 k words else failedLine s1 k words
      if eof then closeFrame s2 k else s2)

/-! ### Loss and return of a source (R379) -/

/-- A port's source is lost: its streams are LOST; R21 closes their open stripes. -/
def loseSource (s : State) (port : Nat) : State :=
  if !portOn s port ∨ rd s R.PORT_STATUS.STATE port = 3 then s
  else
    let s1 := wr (hit (wr s R.PORT_STATUS.STATE port 3) R.PORT_STATUS.LOSS port) R.PORT_STATUS.LANES_UP port 0
    let s2 := report (bump s1 R.PORT_CNT_LOSS.COUNT port) 0x0604 port 0
    let s3 := { s2 with ports := { s2.ports with ahead := s2.ports.ahead.filter (fun e => !(boundTo s port).contains e.1),
                                                 tags := s2.ports.tags.filter (fun e => !(boundTo s port).contains e.1) } }
    (boundTo s port).foldl (fun s k => strmState s k 3) s3

/-- A source has lost lock or its clock for 10 µs. -/
def execSourceLoss (port : Nat) (s : State) : Host.Outcome State Fault Refusal :=
  if 13 ≤ port then ok s else ok (loseSource s port)

/-- A stream of a returned source: a stripe still open is closed, and the next line or frame opens a new epoch. -/
def resume (s : State) (k : Nat) : State :=
  if rd s R.STRM_STATUS.STATE k ≠ 3 then s
  else
    let s1 := match (strm s k).stripes.getLast? with
      | some t => if t.complete then s else closePartial s k t
      | none => s
    strmState (modStrm s1 k fun x => { x with renew := true, inFrame := false, frameLine := 0, last := none }) k 1

/-- A port has lock. -/
def lockPort (s : State) (port lanes rate : Nat) : State :=
  let was := rd s R.PORT_STATUS.STATE port
  let s1 := wr (wr (wr s R.PORT_STATUS.STATE port 2) R.PORT_STATUS.LANES_UP port lanes) R.PORT_STATUS.RATE_ACT port rate
  if was = 3 then (boundTo s port).foldl resume (report s1 0x0605 port 0) else s1

/-- A lost source returns, or one being acquired has lock. -/
def execSourceRegained (port lanes : Nat) (s : State) : Host.Outcome State Fault Refusal :=
  let st := rd s R.PORT_STATUS.STATE port
  if 13 ≤ port ∨ !portOn s port ∨ (st ≠ 1 ∧ st ≠ 3) then ok s else ok (lockPort s port lanes (rd s R.PORT_CFG.RATE port))

/-- Master port of the connection a CoaXPress link belongs to: that of the stream bound to it, else by PORT_CFG.LANES. -/
def masterOf (s : State) (port : Nat) : Nat :=
  match boundTo s port with
  | k :: _ => rd s R.STRM_SRC.PORT k
  | [] => ((upto 13).find? (fun p => decide (4 ≤ p) && decide (p ≤ port) && portOn s p &&
      decide (port < p + rd s R.PORT_CFG.LANES p))).getD port

/-- A link loses character lock for 1 µs: the whole connection is lost (R376). -/
def execCxpLockLoss (link : Nat) (s : State) : Host.Outcome State Fault Refusal :=
  if 8 ≤ link ∨ !portOn s (link + 4) then ok s
  else ok (loseSource (report s 0x0607 (masterOf s (link + 4)) link) (masterOf s (link + 4)))

/-- Firmware has configured a connection: at the configured speed and links it has lock; else the port stays ACQUIRING
(R375). -/
def execCxpDiscoveryDone (port rate links : Nat) (s : State) : Host.Outcome State Fault Refusal :=
  if port < 4 ∨ 12 ≤ port ∨ !portOn s port then ok s
  else if rate = rd s R.PORT_CFG.RATE port ∧ links = rd s R.PORT_CFG.LANES port then ok (lockPort s port links rate)
  else
    let s1 := wr (wr (wr s R.PORT_STATUS.STATE port 1) R.PORT_STATUS.LANES_UP port links) R.PORT_STATUS.RATE_ACT port rate
    ok (report s1 0x0604 port rate)

/-! ### Port registers (R397) -/

/-- LANES a port of a mode may be given. -/
def lanesOk (port mode lanes : Nat) : Bool :=
  if port < 4 then decide (lanes ≤ (if mode = 0 then 4 else 3))
  else if port < 12 then decide (lanes ≤ 4)
  else [0, 1, 2, 4, 8, 16].contains lanes

/-- RATE a port of a mode may be given (R373, R375). -/
def rateOk (port mode rate : Nat) : Bool :=
  if port < 4 then decide (rate ≤ (if mode = 0 then 4500 else 6000))
  else if port < 12 then [0, 1250, 2500, 3125, 5000, 6250, 10000, 12500].contains rate
  else rate == 0

/-- A PORT_CFG value carries no reserved or out-of-range field for its port; an enabled port has lanes, but for a CoaXPress link that is
no master, and an enabled CoaXPress link one of its rates (R370, R375). -/
def portCfgOk (port v : Nat) : Bool :=
  let mode := fval R.PORT_CFG.MODE v
  let lanes := fval R.PORT_CFG.LANES v
  let rate := fval R.PORT_CFG.RATE v
  (fval R.PORT_CFG.EN v == 0 || (if decide (4 ≤ port) && decide (port < 12) then rate != 0 else lanes != 0)) &&
    (if port < 4 then decide (mode ≤ 1) else mode == 0) && lanesOk port mode lanes && rateOk port mode rate &&
    (fval R.PORT_CFG.HS_UPLINK v == 0 || (decide (4 ≤ port) && decide (port < 12))) &&
    (fval R.PORT_CFG.LSLE v == 0 || decide (port < 4)) &&
    (if port = 12 then decide (fval R.PORT_CFG.WORD v ≤ 2) else fval R.PORT_CFG.WORD v == 0)

/-- A write of a port register that R397 ignores. -/
def portReject (s : State) (port : Nat) : State := report (hit s R.PORT_STATUS.CFG_REJECT port) 0x060B port 0

/-- PORT_CFG. -/
def execPortCfgWrite (w : Wr) (s : State) : Host.Outcome State Fault Refusal :=
  ok (gate s w R.PORT_CFG.reg 0 fun s p =>
    if !(boundTo s p).isEmpty ∨ !portCfgOk p w.val then portReject s p
    else
      let was := portOn s p
      let s1 := putAll s R.PORT_CFG.reg 0 p w.val
      let s2 := if !portOn s1 p then
          wr (wr (wr s1 R.PORT_STATUS.STATE p 0) R.PORT_STATUS.LANES_UP p 0) R.PORT_STATUS.RATE_ACT p 0
        else if was then s1 else wr s1 R.PORT_STATUS.STATE p 1
      showFixed s2)

/-- PORT_CXP_TRIG: encoder 0 only where Damson is fused off. -/
def execPortCxpTrigWrite (w : Wr) (s : State) : Host.Outcome State Fault Refusal :=
  ok (gate s w R.PORT_CXP_TRIG.reg 0 fun s p =>
    let cxp := decide (4 ≤ p) && decide (p < 12)
    let src := fval R.PORT_CXP_TRIG.SRC w.val
    if !(boundTo s p).isEmpty ∨ (!cxp ∧ w.val ≠ 0) ∨ (src = 3 ∧ s.part.damson) then portReject s p
    else if cxp then putAll s R.PORT_CXP_TRIG.reg 0 p w.val else s)

/-- PORT_SLVDS_SYNC0 or PORT_SLVDS_SYNC1. -/
def execPortSlvdsSyncWrite (w : Wr) (second : Bool) (s : State) : Host.Outcome State Fault Refusal :=
  let r := if second then R.PORT_SLVDS_SYNC1.reg else R.PORT_SLVDS_SYNC0.reg
  ok (gate s w r 0 fun s p =>
    if !(boundTo s p).isEmpty ∨ (p ≠ 12 ∧ w.val ≠ 0) then portReject s p
    else if p = 12 then putAll s r 0 p w.val else s)

end Sys2Proof.Machine
end

