-- ==== Sys2Proof/Machine/StreamCtl.lean ====
section
/-! DEFINITION. Machine/StreamCtl.lean: starting, stopping and configuring streams, and the checks of a package (R192,
R193, R219, R232, R261, R371, R387).
Its conventions: DEDUCED, log entry 15. -/

namespace Sys2Proof.Machine

open Sys2Proof

/-! ### Checks of a package against a stream (R192, R193, R232) -/

/-- Streams declared locked with a stream, itself among them (R219). -/
def lockGroup (s : State) (k : Nat) : List Nat :=
  let g := rd s R.STRM_SRC.LOCK k
  if g = 0 then [k] else (upto 32).filter (fun j => rd s R.STRM_SRC.LOCK j == g)

/-- Stripe height, factor, width or pixel format do not fit the stream (R175, R176, R192, R193); at a start, a package that folds
streams on one that is in no lock group of 2 to 4 (R219). -/
def misfit (s : State) (k : Nat) (g : Pkg) (pb : Nat) (start : Bool) : Bool :=
  let f := s2dOf (rd s R.STRM_RF_CTRL.S2D k)
  let d := s2dOf (fval R.STRM_PB_CTRL.D2S pb)
  !g.heightOk || (g.domain k).width * f != rd s R.STRM_GEOM.WIDTH k || g.fIn != f || g.outChans % (d * d) != 0 || chselAbsent g pb ||
    (!oneChannel (fval R.STRM_PB_CTRL.PIXFMT pb) && fval R.STRM_PB_CTRL.RAWCH pb == 0 && decide (chansAfter g pb < 3)) ||
    (start && g.folds && !(decide (2 ≤ (lockGroup s k).length) && decide ((lockGroup s k).length ≤ 4)))

/-- What a package is checked against: the inputs of R221 with it, the cores in service, and whether it is a load, whose cost check
uses n = 120 or 60, a swap, or a start (R232, R407). -/
structure CheckAt where
  ins : List TileIn
  inServ : Nat
  load : Bool
  start : Bool
  deriving DecidableEq, Repr

/-- The bands a tiling gives a stream. -/
def bandsAmong (ins : List TileIn) (b : List (List (Nat × Nat))) (k : Nat) : List (Nat × Nat) :=
  ((List.zip ins b).find? (fun x => x.1.stream == k)).elim [] (·.2)

/-- A stream of a tiling with its package and its bands. -/
structure Tiled where
  stream : Nat
  pkg : Pkg
  bands : List (Nat × Nat)
  deriving DecidableEq, Repr

/-- Every stream of a tiling, the one checked with the package it is to run. -/
def tiledAs (s : State) (k : Nat) (g : Pkg) (ins : List TileIn) (b : List (List (Nat × Nat))) : List Tiled :=
  (List.zip ins b).filterMap fun x =>
    if x.1.stream = k then some ⟨k, g, x.2⟩ else (pkgAhead (strm s x.1.stream)).map fun p => ⟨x.1.stream, p, x.2⟩

/-- The share cost of every stream's bands is within its bound: at a load, of the bands that n = 120 or 60 cores would give (R232). A
segmented package passes only as segmented (R261). -/
def costPasses (s : State) (a : CheckAt) (all : List Tiled) : Bool :=
  all.all fun x => x.pkg.segmented || costOk s x.stream x.pkg (if a.load then (match tilingOn (nominal s.part) a.ins with
    | .inr b => bandsAmong a.ins b x.stream
    | .inl _ => x.bands) else x.bands)

/-- The checks of R232 in its order, for a package among the streams of the tiling it would bring; 0 for none. -/
def resourceCode (s : State) (g : Pkg) (a : CheckAt) (all : List Tiled) : Nat :=
  if all.any (fun x => bandsCode x.pkg x.stream x.bands == 0x072F) then 0x072F
  else if !g.residentOk then 0x0728
  else if !g.tilesOk then 0x0729
  else if !g.ringsOk then 0x072A
  else if !g.countersOk then 0x072B
  else if !g.buffersOk ∨ all.any (fun x => bandsCode x.pkg x.stream x.bands != 0) then 0x072C
  else if !g.combines.all CombineOp.exact then 0x072E
  else if !costPasses s a all then 0x0730
  else 0

/-- The first check of R173-R212, R232, R261, R282 and R324 that fails for a package on a stream, with its detail: the layer's
number, or 0; code 0 for none. -/
def packageCode (s : State) (k : Nat) (g : Pkg) (a : CheckAt) : Nat × Nat :=
  match g.layerCode k with
  | some c => c
  | none =>
    if misfit s k g (regWord s R.STRM_PB_CTRL.reg k) a.start then (0x0722, 0)
    else if 4096 < g.progWords then (0x072D, 0)
    else match tiling s.part a.inServ a.ins with
      | .inl c => (c, 0)
      | .inr b =>
        let c := resourceCode s g a (tiledAs s k g a.ins b)
        if c ≠ 0 then (c, 0)
        else if g.segmented ∧ (lpOf s k ≠ 0 ∨ rd s R.STRM_SRC.PORT k ≠ 13) then (0x0734, 0)
        else if !g.counted.all CountedEffect.own then (0x0735, 0)
        else if !g.settleOk then (0x0736, 0)
        else (0, 0)

/-! ### Output capacity (R387) -/

/-- Bits of an output pixel. -/
def pixelBits (pb : Nat) : Nat :=
  if fval R.STRM_PB_CTRL.RAWCH pb = 1 then 8 * inSize (fval R.STRM_PB_CTRL.INFMT pb)
  else match fval R.STRM_PB_CTRL.PIXFMT pb with
    | 4 => 24 | 5 => 48 | 6 => 16 | f => pixBits f

/-- Output line pitch (R192). -/
def outPitch (g : Pkg) (k pb : Nat) : Nat :=
  cdiv (cdiv (g.outWidth k * s2dOf (fval R.STRM_PB_CTRL.D2S pb) * pixelBits pb) 8) 64 * 64

/-- Declared output rate, in bytes per 1,000 ticks, as a fraction; none counted for a stream without a line period. -/
def outRate (s : State) (k : Nat) : Nat × Nat :=
  let pb := regWord s R.STRM_PB_CTRL.reg k
  match (strm s k).pkg with
  | some g => if lpOf s k = 0 then (0, 1)
    else (outPitch g k pb * g.netLines * s2dOf (fval R.STRM_PB_CTRL.D2S pb) * 1000, max 1 g.height * lpOf s k)
  | none => (0, 1)

/-- The sum of fractions. -/
def sumRates (l : List (Nat × Nat)) : Nat × Nat := l.foldl (fun a r => (a.1 * r.2 + r.1 * a.2, a.2 * r.2)) (0, 1)

/-- Payload capacity of the PCIe link in bytes per 1,000 ticks, as trained; 5.0 x8 while it is down. -/
def pcieCapacity (s : State) : Nat :=
  if !pcieUp s then 315000
  else (match rd s R.PCIE_STATUS.GEN 0 with
    | 5 => 315000 | 4 => 157500 | _ => 78800) * rd s R.PCIE_STATUS.WIDTH 0 / 8

/-- Capacity of an Ethernet port at SCPS 9,000, of either rate (R387). -/
def gbeCapacity (port : Nat) : Nat := if Config.gbeTen port then 12380 else 30950

/-- The streams of a link, stream k among them, stay within 95 % of it. -/
def linkFits (s : State) (k cap : Nat) (on : Nat → Bool) : Bool :=
  let r := sumRates (((upto 32).filter (fun j => (j == k || running s j) && on j)).map (outRate s))
  decide (r.1 * 100 ≤ 95 * cap * r.2)

/-- The output capacity check of R387. -/
def capacityOk (s : State) (k : Nat) : Bool :=
  (!toPcie s k || linkFits s k (pcieCapacity s) (toPcie s)) &&
    (!toGvsp s k || linkFits s k (gbeCapacity (rd s R.STRM_OUT_CTRL.GV_PORT k)) (fun j => toGvsp s j && rd s R.STRM_OUT_CTRL.GV_PORT j == rd s R.STRM_OUT_CTRL.GV_PORT k))

/-! ### Starting a stream (R371) -/

/-- A CoaXPress connection's links lie within links 0-3 or 4-7, are enabled and run at one speed, and the master's LANES
agrees (R375). -/
def connectionOk (s : State) (k : Nat) : Bool :=
  let p := rd s R.STRM_SRC.PORT k
  let n := rd s R.STRM_SRC.LINKS_M1 k + 1
  decide (n ≤ 4) && (p - 4) / 4 == (p - 4 + n - 1) / 4 && rd s R.PORT_CFG.LANES p == n &&
    (portsOf s k).all (fun q => portOn s q && rd s R.PORT_CFG.RATE q == rd s R.PORT_CFG.RATE p)

/-- The source's rules of this chapter; a CoaXPress connection carries at most 4 streams (R370). -/
def sourceOk (s : State) (k : Nat) : Bool :=
  let p := rd s R.STRM_SRC.PORT k
  let links := rd s R.STRM_SRC.LINKS_M1 k
  let unique := (upto 32).all (fun j => j == k || !running s j ||
    !(rd s R.STRM_SRC.PORT j == p && (p == 12 || rd s R.STRM_SRC.SUBID j == rd s R.STRM_SRC.SUBID k)))
  let shape := if p < 4 then links == 0 && decide (rd s R.STRM_SRC.SUBID k < 16)
    else if p < 12 then connectionOk s k
    else links == 0
  let room := !(decide (4 ≤ p) && decide (p < 12)) ||
    decide (((upto 32).filter (fun j => j != k && running s j && rd s R.STRM_SRC.PORT j == p)).length < 4)
  decide (p ≤ 13) && (p == 13 || portOn s p) && shape && unique && room &&
    decide (rd s R.STRM_FRAME.FRAME_SRC k ≤ 2) && (lpOf s k != 0 || p == 13) &&
    decide (1 ≤ rd s R.STRM_GEOM.WIDTH k) && decide (rd s R.STRM_GEOM.WIDTH k ≤ 16384)

/-- Members of a lock group share width, line period, stripe height and frame trigger (R219). -/
def lockOk (s : State) (k : Nat) : Bool :=
  rd s R.STRM_SRC.LOCK k == 0 || (members s k).all (fun j =>
    regWord s R.STRM_GEOM.reg j == regWord s R.STRM_GEOM.reg k && lpOf s j == lpOf s k &&
      (strm s j).height == (strm s k).height && regWord s R.STRM_FRAME.reg j == regWord s R.STRM_FRAME.reg k) &&
    decide ((lockGroup s k).length ≤ 4)

/-- Counters cleared at a stream start (R195, R213). -/
def clearAtStart (s : State) (k : Nat) : State :=
  [R.STRM_RF_CNT_SAT.COUNT, R.STRM_RF_CNT_UNDER.COUNT, R.STRM_RF_CNT_DEFECT.COUNT, R.STRM_RF_CNT_LEN.COUNT,
   R.STRM_RF_CNT_RETRY.COUNT, R.STRM_PB_CNT_SAT.COUNT, R.STRM_PB_CNT_NAN.COUNT, R.STRM_PB_CNT_RETRY.COUNT,
   R.STRM_QS_CNT_RESCALE.COUNT, R.STRM_QS_CNT_CLAMP.COUNT].foldl
    (fun s f => wr s f k 0) s

/-- The stream as it starts: lines and stripes count from 0, in a new epoch. -/
def freshStream (x : Strm) : Strm :=
  { Strm.reset with height := x.height, pkg := x.pkg, place := x.place, bank := x.bank, swap := x.swap, epoch := x.epoch,
                    handover := x.handover, renew := true, outBuf := x.outBuf, gap := x.gap, resume := x.resume }

/-- The code a start is refused with, and its detail; 0 where it is accepted (R371). -/
def startCode (s : State) (k : Nat) : Nat × Nat :=
  if !isSet s R.SSC_LOCK.LOCK 0 then (0x0D0E, 0)
  else if !sourceOk s k ∨ !lockOk s k ∨ !capacityOk s k then (0x060B, 0)
  else match (strm s k).pkg with
    | none => (0x060B, 0)
    | some g => packageCode s k g ⟨tileIns s, (workers s).length, false, true⟩

/-- A start or a load refused for its share cost shows COST_OVER (R236). -/
def showCostOver (s : State) (k code : Nat) : State := if code = 0x0730 then hit s R.STRM_TILE_STATUS.COST_OVER k else s

/-- A blend is not reset by a restart: its first lines are counted from the stream's new line 0, and a pending commit
comes with the new first stripe (R339). -/
def rebaseCal (s : State) (k : Nat) : State :=
  let x := strm s k
  let c := calOf s k
  let passed := lineNext x - x.fifo.length - x.cross.length
  setCal s k { c with inFrom := c.inFrom.map (fun l => l - (passed : Nat)), outFrom := c.outFrom.map (fun l => l - (x.outNext : Nat)),
                      eff := c.eff.map (fun _ => 0), pbNext := c.pbNext.map (fun p => (0, p.2)) }

/-- An accepted start. -/
def startStream (s : State) (k : Nat) : State :=
  let s := rebaseCal s k
  let s0 := { s with ports := { s.ports with tags := s.ports.tags.filter (fun e => e.1 != k), ahead := s.ports.ahead.filter (fun e => e.1 != k) } }
  let s1 := clearAtStart (setStrm s0 k (freshStream (strm s0 k))) k
  let s2 := strmState (wr s1 R.FIO_ACT_FORCE.MASK 0 0) k 1
  sendControl (retile (showDigest s2)) k (strm s k).nextStripe 0x18000 [1]

/-- A write of STRM_SRC with EN = 1 on a stopped stream starts it, or is refused: the other fields stand, EN stays 0. -/
def execStreamStart (w : Wr) (s : State) : Host.Outcome State Fault Refusal :=
  ok (gate s w R.STRM_SRC.reg 0 fun s k =>
    if running s k ∨ !bit w.val 0 then s
    else if listenerRefuses s w then report s 0x0C0B k 0
    else
      let s1 := putAll s R.STRM_SRC.reg 0 k w.val
      let c := startCode s1 k
      if c.1 = 0 then startStream s1 k
      else report (showCostOver (hit (wr s1 R.STRM_SRC.EN k 0) R.STRM_STATUS.START_REJECT k) k c.1) c.1 k c.2)

/-! ### Stopping and configuring (R334, R371) -/

/-- Fields of STRM_SRC other than EN. -/
def sourceFlds : List Fld := [R.STRM_SRC.PORT, R.STRM_SRC.SUBID, R.STRM_SRC.LINKS_M1, R.STRM_SRC.LOCK]

/-- A stream stops: no further line is taken, a capture under way fails. -/
def stopStream (s : State) (k : Nat) : State :=
  let s1 := failCapture (strmState (wr s R.STRM_SRC.EN k 0) k 0) k
  sendControl (showWaits (retile (showDigest (modStrm s1 k fun x => { x with inFrame := false, edge := none })))) k (strm s k).nextStripe 0x18000 [0]

/-- A write of STRM_SRC with EN = 0 stops the stream; one that would also change a source field is ignored whole. -/
def execStreamStop (w : Wr) (s : State) : Host.Outcome State Fault Refusal :=
  ok (gate s w R.STRM_SRC.reg 0 fun s k =>
    if !running s k ∨ bit w.val 0 then s
    else if listenerRefuses s w then report s 0x0C0B k 0
    else if changes s k w.val sourceFlds then report s 0x060B k 0
    else stopStream s k)

/-- Registers whose fields a running stream does not take (R371). -/
def sourceReg : Nat → Option RegSpec
  | 0x18000 => some R.STRM_SRC.reg
  | 0x18004 => some R.STRM_GEOM.reg
  | 0x18008 => some R.STRM_LP.reg
  | 0x1800C => some R.STRM_FRAME.reg
  | 0x18100 => some R.STRM_OUT_CTRL.reg
  | _ => none

/-- A write of a source or geometry register: ignored whole with 0x060B where it would change a field of a running
stream. A change of STRM_SRC.EN is a start or a stop. -/
def execStreamConfigWrite (w : Wr) (off : Nat) (s : State) : Host.Outcome State Fault Refusal :=
  match sourceReg off with
  | none => ok s
  | some r => ok (gate s w r 0 fun s k =>
    if off = 0x18000 ∧ fval R.STRM_SRC.EN w.val ≠ rd s R.STRM_SRC.EN k then s
    else if listenerRefuses s w then report s 0x0C0B k 0
    else if running s k then (if changes s k w.val r.flds then report s 0x060B k 0 else s)
    else if off = 0x1800C ∧ fval R.STRM_FRAME.FRAME_SRC w.val = 3 then report s 0x060B k 0
    else sendControl (putAll s r 0 k w.val) k 0 off [w.val])

end Sys2Proof.Machine
end

