-- ==== Sys2Proof/Machine/Mailbox.lean ====
section
/-! DEFINITION. Machine/Mailbox.lean: the loader and control-complex mailbox, package loads and swaps, the request of a
firmware hand-over (R156, R260, R314, R407-R411, R420-R422, R456-R460).
Its conventions: DEDUCED, log entries 19, 51, 62. -/

namespace Sys2Proof.Machine

open Sys2Proof

/-! ### Requests (R456, R457, R460) -/

/-- The 256 bytes of a slot. -/
def slotBytes (m : Mbx) (n : Nat) : List Byte := memBytes m.slots (256 * n) 256

/-- ARG_LEN of a slot's bytes. -/
def argLen (b : List Byte) : Nat := fieldLE b 4 4

/-- The request a slot holds. -/
def requestOf (n : Nat) (b : List Byte) : MbxReq := ⟨n, fieldLE b 0 2, fieldLE b 2 2, slice b 8 (min 248 (argLen b)), false⟩

/-- The commands of R458. -/
def knownCmd (c : Nat) : Bool := decide (1 ≤ c) && decide (c ≤ 11)

/-- A doorbell for the slot a write names: for a busy slot it is ignored with ERR; else the slot is marked busy and its
request handed to `k`, if its command is one of `is`. -/
def doorbell (w : Wr) (is : Nat → Bool) (k : State → Nat → MbxReq → State) (s : State) : State :=
  gate s w R.MBX_DOORBELL.reg 0 fun s i =>
    let n := w.val % 8
    if bit (rd s R.MBX_STATUS.SLOT_BUSY i) n then hit s R.MBX_STATUS.ERR i
    else
      let m := mbxOf s i
      let r := requestOf n (slotBytes m n)
      if is r.cmd then k (setMbx s i { m with reqs := m.reqs ++ [r] }) i r else s

/-- A request is refused with a code. -/
def refuseReq (s : State) (i : Nat) (r : MbxReq) (code inst detail : Nat) : State :=
  respond (report s code inst detail) i r code 0 []

/-- A malformed request, or one not allowed on its instance (R460). -/
def malformed (s : State) (i : Nat) (r : MbxReq) : State := refuseReq s i r 0x073C i r.cmd

/-- A doorbell for one command: its arguments must be at least `need` bytes, its reserved bytes zero, and some commands
are the host's only. -/
def command (w : Wr) (cmd need : Nat) (hostOnly : Bool) (rsv : List Byte → Bool) (k : State → Nat → MbxReq → State)
    (s : State) : State :=
  doorbell w (· == cmd) (fun s i r =>
    let len := argLen (slotBytes (mbxOf s i) r.slot)
    if 248 < len ∨ len < need ∨ !rsv r.args ∨ (hostOnly ∧ i ≠ 0) then malformed s i r else k s i r) s

/-- No reserved bytes. -/
def noRsv (_ : List Byte) : Bool := true

/-! ### Host memory (R382, R457) -/

/-- A range of the host window goes through valid translation entries. -/
def hostOk (s : State) (a n : Nat) : Bool :=
  inHostWin a && busOk s a n &&
    (upto (cdiv (a % 2 ^ 32 + n) (2 ^ 32))).all (fun j => isSet s (R.PCIE_XLAT_LO.VALID.nth ((a - 0x8000000000) / 2 ^ 32 + j)) 0)

/-- A range whose address or entry is not valid halts the host channel, and the request ends with 0x0302. -/
def withHost (s : State) (i : Nat) (r : MbxReq) (channel a n : Nat) (k : State → State) : State :=
  if hostOk s a n then k s else respond (haltCh s channel 0x0302 0 a) i r 0x0302 0 []

/-- The parts of a range of the host window that lie in one entry each: host address, offset and length. -/
def hostParts (s : State) (a n : Nat) : List (Nat × Nat × Nat) :=
  let first := min n (2 ^ 32 - a % 2 ^ 32)
  ((xlat s a).2, 0, first) :: if first < n then [((xlat s (a + first)).2, first, n - first)] else []

/-- Copies n bytes of one memory to another; what nothing has written reads as the default in both. -/
def copyCells (src dst : List Host.Cell) (a b n : Nat) : List Host.Cell :=
  (src.filter (fun c => decide (a ≤ c.1) && decide (c.1 < a + n))).foldl (fun m c => memPut m (c.1 - a + b) c.2)
    (memClear dst b n)

/-- Copies host memory to DRAM; the copied words carry no poison. -/
def hostToDram (s : State) (a b n : Nat) : State :=
  (hostParts s a n).foldl (fun s p =>
    { s with mem := copyCells s.hostMem s.mem p.1 (b + p.2.1) p.2.2,
             poison := s.poison.filter (fun q => !(decide (b ≤ 32 * q.1) && decide (32 * q.1 < b + n))) }) s

/-- Copies DRAM to host memory. -/
def dramToHost (s : State) (b a n : Nat) : State :=
  (hostParts s a n).foldl (fun s p => { s with hostMem := copyCells s.mem s.hostMem (b + p.2.1) p.1 p.2.2 }) s

/-- The n bytes of host memory at an address of the host window. -/
def hostRead (s : State) (a n : Nat) : List Byte := (hostParts s a n).flatMap (fun p => memBytes s.hostMem p.1 p.2.2)

/-! ### Loading a package (R232, R407, R408, R421) -/

/-- The package a request names: its bytes and trailer are those that stand in host memory, and its record carries the first 8 bytes of
their SHA-256 (R421, R433). -/
def imageAt (s : State) (r : MbxReq) (g : Image) : Image :=
  let l := hostRead s (fieldLE r.args 0 8) (fieldLE r.args 8 8)
  let body := l.take (l.length - 144)
  { g with bytes := body, trailer := slice l (l.length - 144) 144, pkg := { g.pkg.sized with sha := fieldLE (sha256 body) 0 8 } }

/-- Streams of a mask. -/
def streamsOf (mask : Nat) : List Nat := (upto 32).filter (bit mask)

/-- Where a stream's buffers are placed. -/
def placeFor (g : Image) (k : Nat) : Place := ((g.places.find? (fun p => p.1 == k)).map (·.2)).getD Place.reset

/-- The instruction bank no running stream's package uses (R407 step 3). -/
def freeBank (s : State) : Nat := if (upto 32).any (fun k => running s k && (strm s k).bank == 0) then 1 else 0

/-- A stream as it would run the package, for the checks. -/
def supposed (g : Image) (bank : Nat) (s : State) (k : Nat) : State :=
  wr (modStrm s k fun x => { x with pkg := some g.pkg, place := placeFor g k, bank := bank, height := g.pkg.height, swap := none })
    R.STRM_SRC.EN k 1

/-- The first code the checks of R232 give for the streams, with its stream and detail; 0 for none. A load's cost is checked as
on 120 or 60 cores, a swap's against the tiling in force (R232, R407). -/
def loadCode (s : State) (g : Image) (ks : List Nat) (load : Bool) : Nat × Nat × Nat :=
  let t := ks.foldl (supposed g (freeBank s)) s
  if g.words.any (fun w => decide (4096 ≤ w.1)) then (0x072D, ks.headD 0, 0)
  else ((ks.map (fun k => (k, packageCode t k g.pkg ⟨tileIns t, (workers t).length, load, false⟩))).find? (fun c => c.2.1 != 0)).elim
    (0, 0, 0) (fun c => (c.2.1, c.1, c.2.2))

/-- Format codes a package's layers name. -/
def formatsOf (g : Pkg) : List Nat :=
  g.layers.flatMap fun l => [l.input.fmt, l.output.fmt, l.wFmt] ++ (l.dyn.map (·.fmt)).toList

/-- Every bit of a mask stands in another. -/
def within (need have_ : Nat) : Bool := (upto 32).all fun i => !bit need i || bit have_ i

/-- The feature registers show all a package needs: its format, the formats of its layers, the opcodes of its programs, its DMA
opcodes, destination kinds and checks (R8, R44, R92, R451); and the cores, clusters and channels it names are present (R3; their
code is a DESIGN CHOICE, log entry 40). -/
def featuresShown (s : State) (g : Image) : Bool :=
  let p := g.pkg
  decide (1 ≤ p.format) && decide (p.format ≤ rd s R.ID_FEAT_PKG.PKG_FMT_MAX 0) &&
    (p.format != 1 || isSet s R.ID_FEAT_PKG.HX620_COMPAT 0) &&
    (formatsOf p).all (fun f => bit (rd s R.ID_FEAT_FORMATS.MASK 0) f) && within p.needs.formats (rd s R.ID_FEAT_FORMATS.MASK 0) &&
    g.words.all (fun w => bit (rd s R.ID_FEAT_OPC_LO.MASK 0 + rd s R.ID_FEAT_OPC_HI.MASK 0 * 2 ^ 32) (opc w.2)) &&
    within p.needs.dmaOps (rd s R.ID_FEAT_DMA.OPCODES 0) && within p.needs.dkinds (rd s R.ID_FEAT_DMA.DKIND 0) &&
    within p.needs.checks (rd s R.ID_FEAT_DMA.CHECKS 0) &&
    p.cores.all (fun c => decide (c < s.part.cores)) && p.clusters.all (fun c => decide (8 * c < s.part.cores)) &&
    p.channels.all s.part.hasChannel

/-- Packages of running streams. -/
def runningPkgs (s : State) : List Pkg := (((upto 32).filter (running s)).filterMap (fun k => (strm s k).pkg)).eraseDups

/-- The weight window's base ÷ 64 MiB with a package: it stands while a running package's weights lie in it, else it is the package's
(R259; DESIGN CHOICE, log entry 40). -/
def windowAt (s : State) (g : Pkg) : Nat :=
  if (runningPkgs s).any (fun p => p.segmented || p.weights.2 != 0) then rd s R.DMA_SEG_CTRL.WINDOW_BASE 0 else g.weights.1 / 2 ^ 26

/-- A package and those that run fit together in the bank groups they enable and in the weight window (R407, R408). -/
def fitsBeside (s : State) (g : Pkg) : Bool :=
  let all := g :: (runningPkgs s).filter (· != g)
  let groups := (all.flatMap (·.groups)).eraseDups
  decide ((all.map Pkg.footprint).foldl (· + ·) 0 ≤ 3072 * groups.length) &&
    decide (((all.filter (fun p => !p.segmented)).map (fun p => p.weights.2)).foldl (· + ·) 0 ≤ windowBytes) &&
    (g.segmented || g.weights.2 == 0 || (decide (windowAt s g * 2 ^ 26 ≤ g.weights.1) &&
      decide (g.weights.1 + g.weights.2 ≤ windowAt s g * 2 ^ 26 + windowBytes)))

/-- Programs are written into a core's bank and validated; a CRC that is not the declared one has them loaded again from step 1, so many
times, and then leaves the bank invalid (R77, R78). -/
def loadBank (bank : Nat) (g : Image) (c : Nat) : Nat → State → State
  | 0, s => setBankValid s c bank 0
  | again + 1, s =>
    let s1 := validated (g.words.foldl (fun s p => putWord s (bankIx c bank p.1) p.2) (setBankValid s c bank 0)) c bank
    let crc := if bank = 0 then rd s1 R.CORE_BANK_A_CRC.CRC c else rd s1 R.CORE_BANK_B_CRC.CRC c
    if crc = g.crc then s1 else loadBank bank g c again s1

/-- Programs are loaded into a bank of every core in service; a bank in use is refused. A mismatch has the bank loaded once more (R78
sets no number; DESIGN CHOICE, log entry 40). -/
def installWords (s : State) (bank : Nat) (g : Image) : State :=
  ((upto s.part.cores).filter (inService s)).foldl (fun s c =>
    if bankInUse s c bank then coreRefuse s c 0x0108 0 else loadBank bank g c 2 s) s

/-- The tiles of ±1.0 of a package's rotation steps stand in every core in service (R212). -/
def placeRotations (s : State) (g : Pkg) : State :=
  ((upto s.part.cores).filter (inService s)).foldl (fun s c => g.layers.foldl (fun s l => match l.op with
    | .rotation b tile => busWrite s (spAddr c tile) (hadamardTile b) false
    | _ => s) s) s

/-- The weight window's base is set, and of a resident package every segment is marked PRESENT (R259, R261). Its segments are those of
the slots its weights lie in, so that packages that run together share no entry (DESIGN CHOICE, log entry 40). -/
def placeWeights (s : State) (g : Pkg) : State :=
  if g.weights.2 = 0 then s
  else
    let s1 := wr s R.DMA_SEG_CTRL.WINDOW_BASE 0 (windowAt s g)
    let first := g.weights.1 / 2 ^ 26 - windowAt s g
    if g.segmented then s1
    else { s1 with segCache := [], mem := (upto (cdiv (g.weights.1 % 2 ^ 26 + g.weights.2) (2 ^ 26))).foldl (fun m i =>
      memWrite m (rd s R.DMA_SEG_TABLE.ADDR 0 * 256 + 4 * (first + i)) (leBytes 4 (first + i + 2 ^ 31))) s1.mem }

/-- The resident set and its tables are written. -/
def installData (s : State) (l : List (Nat × List Byte)) : State := l.foldl (fun s p => busWrite s p.1 p.2 false) s

/-- A package's programs, resident set, rotation tiles and weights are placed. -/
def install (s : State) (bank : Nat) (g : Image) : State :=
  placeWeights (placeRotations (installData (installWords s bank g) g.data) g.pkg) g.pkg

/-- LOAD_PROGRESS of a slot: 1 verified, 2 checked, 3 resident. -/
def progress (s : State) (r : MbxReq) (phase : Nat) : State := queueEvent s 3 (leBytes 1 r.slot ++ leBytes 1 phase)

/-- The warnings of R181, for each stream's band domain and frame. -/
def warn (s : State) (ks : List Nat) (g : Pkg) : State :=
  ks.foldl (fun s k => (g.warned (g.domain k).width (frameLines s k / max 1 g.fIn)).foldl (fun s l => report s 0x0721 k l) s) s

/-- The code a package that verifies is refused with for some streams, with the stream and detail; 0 for none (R232, R407,
R451). -/
def imageCode (s : State) (g : Image) (ks : List Nat) (load : Bool) (extra : Nat) : Nat × Nat × Nat :=
  if !featuresShown s g then (0x073E, ks.headD 0, 0)
  else if !fitsBeside s g.pkg then (0x0737, ks.headD 0, 0)
  else if extra ≠ 0 then (extra, ks.headD 0, 0)
  else loadCode s g ks load

/-- Trailer, features and the checks of R232, in order; then `k`, or the first code that fails. -/
def withPackage (s : State) (i : Nat) (r : MbxReq) (g : Image) (ks : List Nat) (load : Bool) (extra : Nat) (k : State → State) : State :=
  let lead := ks.headD 0
  let t := trailerCode s g
  if t ≠ 0 then refuseReq s i r t lead 0
  else
    let s1 := progress (noteUnsigned s g lead) r 1
    let c := imageCode s1 g ks load extra
    if c.1 ≠ 0 then
      refuseReq (showCostOver (if c.1 = 0x0737 ∨ c.1 = 0x073A then hit s1 R.CHG_STATUS.REFUSED 0 else s1) c.2.1 c.1) i r c.1 c.2.1 c.2.2
    else k (progress (warn s1 ks g.pkg) r 2)

/-- LOAD makes a package resident for stopped streams (R402, R458): in force from their first stripe. The row also answers
a doorbell for a slot whose command R458 does not list (R460). -/
def execMbxLoad (w : Wr) (img : Image) (channel : Nat) (s : State) : Host.Outcome State Fault Refusal :=
  let load := fun s i r =>
    let ks := streamsOf (fieldLE r.args 16 4)
    withHost s i r channel (fieldLE r.args 0 8) (fieldLE r.args 8 8) fun s =>
      let img := imageAt s r img
      if ks.isEmpty ∨ ks.any (running s) then malformed s i r
      else if isListener s then refuseReq s i r 0x0C0B (ks.headD 0) 0
      else withPackage s i r img ks true 0 fun s =>
        let b := freeBank s
        let s1 := install s b img
        let s2 := ks.foldl (fun s k => modStrm s k fun x =>
          { x with pkg := some img.pkg, place := placeFor img k, bank := b, height := img.pkg.height, swap := none }) s1
        respond (progress (ks.foldl (fun s k => sendControl s k 0 0x401 []) s2) r 3) i r 0 0 []
  if knownCmd (fieldLE (slotBytes (mbxOf s (reqNo w.who)) (w.val % 8)) 0 2) then
    ok (command w 1 20 true noRsv load s)
  else ok (doorbell w (fun c => !knownCmd c) malformed s)

/-! ### Swaps (R314, R407, R408, R411) -/

/-- The first stripe of a stream whose dispatch starts at least 1 ms from now, by its stripe period (DEDUCED, log entry 51); in a
pair at least 4 stripes ahead of the last dispatched stripe (R314). -/
def effectStripe (s : State) (k : Nat) : Nat :=
  let x := strm s k
  let sp := max 1 (spOf' s k)
  match (x.stripes.filter (·.begun)).getLast? with
  | some t =>
    let e := t.no + max 1 (cdiv (s.tick + 100000 - t.t0) sp)
    if paired s then max e (t.no + 4) else e
  | none => firstUndispatched x + cdiv 100000 sp

/-- The streams of a mask and the members of their lock groups (R407). -/
def withGroups (s : State) (ks : List Nat) : List Nat := (upto 32).filter (fun k => ks.any (fun j => (members s j).contains k))

/-- One effect stripe for each stream: a lock group's is common. -/
def effectFor (s : State) (k : Nat) : Nat := ((members s k).map (effectStripe s)).foldl max 0

/-- The registers of a pending change: its lowest stream and that stream's E (R414). -/
def noteChange (s : State) (k e : Nat) : State := wr (wr (showChange s) R.CHG_STATUS.STREAM 0 k) R.CHG_EFFECT.STRIPE 0 e

/-- A swap stands on a stream: at once in a single part; in a pair it is proposed to the listener, which has to confirm. -/
def proposeSwap (g : Image) (bank : Nat) (s : State) (k : Nat) : State :=
  let e := effectFor s k
  let pend := decide (rd s R.ZP_STATUS.ROLE 0 = 1) && paired s
  sendControl (modStrm s k fun x => { x with swap := some ⟨g.pkg, placeFor g k, bank, e, if pend then none else some e⟩ }) k e 0x407 []

/-- A swap that stands and brings other bands has the part tiled anew (R221, R222). -/
def retileSwap (s : State) (ks : List Nat) : State :=
  if ks.any (fun k => (strm s k).swap.any (fun w => w.eff.isSome)) then retile s else s

/-- The lowest of the streams' effect stripes. -/
def lowestE (s : State) (ks : List Nat) : Nat :=
  let es := ks.filterMap (fun k => (strm s k).swap.map (·.prop))
  es.foldl min (es.headD 0)

/-- The request keeps its lowest E after its arguments, for its answer at step 7. -/
def keepE (s : State) (i : Nat) (r : MbxReq) (e : Nat) : State :=
  let m := mbxOf s i
  setMbx s i { m with reqs := m.reqs.map (fun q => if q = r then { q with args := slice q.args 0 20 ++ leBytes 4 e } else q) }

/-- SWAP replaces the package of running streams (R407). -/
def execMbxSwap (w : Wr) (img : Image) (channel : Nat) (s : State) : Host.Outcome State Fault Refusal :=
  ok (command w 2 20 true noRsv (fun s i r =>
    let ks := withGroups s (streamsOf (fieldLE r.args 16 4))
    withHost s i r channel (fieldLE r.args 0 8) (fieldLE r.args 8 8) fun s =>
      let img := imageAt s r img
      if (streamsOf (fieldLE r.args 16 4)).isEmpty ∨ !(streamsOf (fieldLE r.args 16 4)).all (running s) then malformed s i r
      else if isListener s then refuseReq s i r 0x0C0B (ks.headD 0) 0
      else
        let extra := if ks.any (fun k => (strm s k).swap.isSome) then 0x073A
          else if ks.any (fun k => (strm s k).pkg.any (fun g => g.lag != img.pkg.lag)) then 0x0723 else 0
        withPackage s i r img ks false extra fun s =>
          let b := 1 - (strm s (ks.headD 0)).bank
          let s1 := install s b img
          let s2 := retileSwap (ks.foldl (proposeSwap img b) (progress s1 r 3)) ks
          let k := ks.headD 0
          keepE (noteChange s2 k (((strm s2 k).swap.map (·.prop)).getD 0)) i r (lowestE s2 ks)) s)

/-! ### Hand-over (R409, R411) -/

/-- The hand-over starts: the standby pair restarts from the image of the slot that did not boot. Refused without a
standby pair or a bootable image, and while one is pending; the answer: its code. -/
def startHandover (s : State) : State × Nat :=
  if s.flt.handover ≠ 0 then (hit (report s 0x073A 0 0) R.CHG_STATUS.REFUSED 0, 0x073A)
  else if !isSet s R.BOOT_STATUS.STANDBY_OK 0 ∨ !bootable s (fwSlot s (otherSlot s)) then
    (hit (report s 0x0738 0 0) R.CHG_STATUS.REFUSED 0, 0x0738)
  else (showChange { s with flt := { s.flt with handover := 1, handoverE := 0 } }, 0)

/-- HANDOVER: its response comes at step 7. -/
def execMbxHandover (w : Wr) (s : State) : Host.Outcome State Fault Refusal :=
  ok (command w 3 0 false noRsv (fun s i r =>
    let t := startHandover s
    if t.2 = 0 then t.1 else respond t.1 i r t.2 0 []) s)

/-! ### The other commands (R458) -/

/-- WRITE_FIRMWARE writes the slot that did not boot (R420). -/
def execMbxWriteFirmware (w : Wr) (channel : Nat) (s : State) : Host.Outcome State Fault Refusal :=
  ok (command w 4 16 true noRsv (fun s i r =>
    withHost s i r channel (fieldLE r.args 0 8) (fieldLE r.args 8 8) fun s =>
      let slot := otherSlot s
      let t := writeFirmware s slot (hostRead s (fieldLE r.args 0 8) (fieldLE r.args 8 8))
      respond t.1 i r t.2 (if t.2 = 0 then slot else 0) []) s)

/-- KEY_CMD applies the signed command (R422). -/
def execMbxKeyCmd (w : Wr) (c : KeyCmd) (channel : Nat) (s : State) : Host.Outcome State Fault Refusal :=
  ok (command w 5 16 true noRsv (fun s i r =>
    withHost s i r channel (fieldLE r.args 0 8) (fieldLE r.args 8 8) fun s =>
      let t := applyKey s c false
      respond t.1 i r t.2 0 []) s)

/-- The hazard count of one core, or of every core for 0xFF, is cleared (R156). -/
def clearHazards (s : State) (core : Nat) : State :=
  ((upto s.part.cores).filter (fun c => core == 0xFF || c == core)).foldl clearHazard s

/-- HAZARD_CLEAR. -/
def execMbxHazardClear (w : Wr) (s : State) : Host.Outcome State Fault Refusal :=
  ok (command w 6 1 false noRsv (fun s i r => respond (clearHazards s (fieldLE r.args 0 1)) i r 0 0 []) s)

/-- A DRAM range aligned as R249 requires and populated. -/
def dramRangeOk (s : State) (a n : Nat) : Bool := a % 64 == 0 && n % 64 == 0 && inDram s a && devOk s a n

/-- A host address off its 64-byte alignment is an alignment error of the channel (R249). -/
def withAligned (s : State) (i : Nat) (r : MbxReq) (channel a : Nat) (k : State → State) : State :=
  if a % 64 = 0 then k s else respond (haltCh s channel 0x0301 0 a) i r 0x0301 0 []

/-- DRAM_READ copies a populated range to host memory. -/
def execMbxDramRead (w : Wr) (channel : Nat) (s : State) : Host.Outcome State Fault Refusal :=
  ok (command w 7 20 true noRsv (fun s i r =>
    let d := fieldLE r.args 0 8
    let a := fieldLE r.args 8 8
    let n := fieldLE r.args 16 4
    if !dramRangeOk s d n then refuseReq s i r 0x073B 0 d
    else withAligned s i r channel a fun s => withHost s i r channel a n fun s => respond (dramToHost s d a n) i r 0 0 []) s)

/-- Areas of DRAM the loader has assigned to a package on a stream, from and length: while the stream runs all of them, else its
staging, output, combine and crop areas (R458). -/
def areasOf (s : State) (k : Nat) (p : Place) (g : Pkg) : List (Nat × Nat) :=
  let crop := 4 * 128 * (32 + 32 * g.cropSlots)
  let stage := 4 * p.slotLines * p.stagingPitch
  [(p.staging * 256, stage), (p.shStaging * 256, stage), (p.output * 256, p.outputLen), (p.combine * 256, 131072),
   (p.shCombine * 256, 131072), (p.crop * 256, crop), (p.shCrop * 256, crop)] ++
  (if running s k then [(p.table * 256, 64), (p.shTable * 256, 64), (p.maps * 256, 5120), (p.input * 256, p.inputLines * p.inputPitch),
    (p.decision * 256, 4 * 256 * (16 + 16 * g.decMax))] ++ (g.buffers.filter (fun b => !b.spad)).map (fun b => (b.base, b.len)) else [])

/-- A range of DRAM touches what is in use: those areas, or the weight window while a package that uses it runs (R458). -/
def dramInUse (s : State) (a n : Nat) : Bool :=
  ((upto 32).any fun k => match (strm s k).pkg with
    | some g => (areasOf s k (strm s k).place g).any (fun x => overlaps a n x.1 x.2)
    | none => false) ||
  ((runningPkgs s).any (fun g => g.segmented || g.weights.2 != 0) &&
    overlaps a n (rd s R.DMA_SEG_CTRL.WINDOW_BASE 0 * 2 ^ 26) windowBytes)

/-- DRAM_WRITE copies host memory to a range of DRAM that is not in use. -/
def execMbxDramWrite (w : Wr) (channel : Nat) (s : State) : Host.Outcome State Fault Refusal :=
  ok (command w 8 20 true noRsv (fun s i r =>
    let d := fieldLE r.args 0 8
    let a := fieldLE r.args 8 8
    let n := fieldLE r.args 16 4
    if dramInUse s d n ∨ !dramRangeOk s d n then refuseReq s i r 0x073B 0 d
    else withAligned s i r channel a fun s => withHost s i r channel a n fun s => respond (hostToDram s a d n) i r 0 0 []) s)

/-- CXP_CONTROL sends a control packet on a connection; its response waits for the device's reply (R375). -/
def execMbxCxpControl (w : Wr) (s : State) : Host.Outcome State Fault Refusal :=
  ok (command w 9 16 true (fun b => fieldLE b 1 3 == 0) (fun s i r =>
    let port := fieldLE r.args 0 1
    let len := fieldLE r.args 12 4
    if port < 4 ∨ 12 ≤ port ∨ r.args.length < 16 + len then malformed s i r
    else if rd s R.PORT_STATUS.STATE port ≠ 2 then refuseReq s i r 0x0604 port 0
    else emit s (.cxp port 2 (slice r.args 16 len))) s)

/-- DAMSON_CMD sends a command frame as a COMMAND tap frame (R354, R361). -/
def execMbxDamsonCmd (w : Wr) (s : State) : Host.Outcome State Fault Refusal :=
  ok (command w 11 0 true noRsv (fun s i r =>
    if !s.part.damson then malformed s i r
    else
      let n := cdiv r.args.length 16
      respond (tapSend s (tapFrame 2 0 0 0 0 (slice (r.args ++ List.replicate 16 0) 0 (16 * n)))) i r 0 0 []) s)

/-! ### Segments (R260 steps 4 to 6) -/

/-- Address of a segment's table entry. -/
def segAt (s : State) (seg : Nat) : Nat := rd s R.DMA_SEG_TABLE.ADDR 0 * 256 + 4 * seg

/-- Device address of a slot of the weight window. -/
def slotAt (s : State) (n : Nat) : Nat := (rd s R.DMA_SEG_CTRL.WINDOW_BASE 0 + n) * 2 ^ 26

/-- The segment that is PRESENT in a slot of the window. -/
def segIn (s : State) (n : Nat) : Option Nat :=
  (upto 16384).find? (fun g => let e := memLE s.mem (segAt s g) 4; bit e 31 && bits e 0 7 == n)

/-- A tag holds a piece of a slot. -/
def slotBusy (s : State) (n : Nat) : Bool :=
  s.dmas.any (fun c => c.2.pieces.any (fun q => overlaps q.src q.len (slotAt s n) (2 ^ 26)))

/-- A channel halted because a segment is absent. -/
def haltedOn (s : State) (seg c : Nat) : Bool :=
  chState s c == chHalted && rd s R.DMA_CH_FAULT.CAUSE c == 6 &&
    (rd s R.DMA_CH_FAULT_ADDR_LO.ADDR c + rd s R.DMA_CH_FAULT_ADDR_HI.ADDR c * 2 ^ 32) / 2 ^ 26 == seg

/-- Writes a segment's table entry and drops the engines' copies. -/
def putSeg (s : State) (seg e : Nat) : State := { s with mem := memWrite s.mem (segAt s seg) (leBytes 4 e), segCache := [] }

/-- A running resident package has weights in a slot of the window, whose segments are never evicted (R261). -/
def slotResident (s : State) (n : Nat) : Bool :=
  (runningPkgs s).any (fun g => !g.segmented && g.weights.2 != 0 && overlaps g.weights.1 g.weights.2 (slotAt s n) (2 ^ 26))

/-- The slot the control complex chooses: one with no tag outstanding, no resident weights and no other copy under way; an empty one
before the lowest that holds a segment (R260 step 4; which one is a DESIGN CHOICE, log entry 17). -/
def chooseSlot (s : State) : Option Nat :=
  let free := (upto 128).filter (fun n => !slotBusy s n && !slotResident s n && !(s.segCopies.map (·.2)).contains n)
  match free.find? (fun n => (segIn s n).isNone) with
  | some n => some n
  | none => free.head?

/-- The copy of a segment for the request in a mailbox slot starts, where a slot of the window is free for it: the entry of the
segment it held is cleared first (R260 step 4). -/
def startCopy (s : State) (slot : Nat) : State :=
  match chooseSlot s with
  | none => s
  | some n =>
    let s1 := { s with segCopies := s.segCopies ++ [(slot, n)] }
    match segIn s n with
    | some g => putSeg s1 g 0
    | none => s1

/-- SEGMENT supplies the host address of a requested segment, which is then copied (R260 steps 3 and 4). -/
def execMbxSegment (w : Wr) (channel : Nat) (s : State) : Host.Outcome State Fault Refusal :=
  ok (command w 10 16 true (fun b => fieldLE b 4 4 == 0) (fun s i r =>
    withHost s i r channel (fieldLE r.args 8 8) (2 ^ 26) fun s => if 16384 ≤ fieldLE r.args 0 4 then malformed s i r else startCopy s r.slot) s)

/-- The segment of the SEGMENT request in a mailbox slot has been copied: its entry is PRESENT, and every channel halted on it
resumes. A copy that found no slot starts. -/
def execSegmentCopyDone (slot : Nat) (s : State) : Host.Outcome State Fault Refusal :=
  match (mbxOf s 0).reqs.find? (fun r => r.cmd == 10 && r.slot == slot) with
  | none => ok s
  | some r =>
    match s.segCopies.find? (fun p => p.1 == slot) with
    | none => ok (startCopy s slot)
    | some p =>
      let seg := fieldLE r.args 0 4
      let s1 := { s with segCopies := s.segCopies.filter (fun p => p.1 != slot) }
      let s2 := putSeg (hostToDram s1 (fieldLE r.args 8 8) (slotAt s1 p.2) (2 ^ 26)) seg (p.2 + 2 ^ 31)
      let s3 := (upto 72).foldl (fun s c => if haltedOn s seg c then resumeCh s c else s) s2
      ok (respond s3 0 r 0 0 [])

/-! ### The rings (R456, R459, R460) -/

/-- A ring of 16 entries has room. -/
def ringOpen (s : State) (head tail : Fld) (i : Nat) : Bool := decide ((rd s head i + word32 - rd s tail i) % word32 < 16)

/-- The requester of an instance. -/
def mbxOwner (i : Nat) : Requester := if i = 0 then .host else .clapper

/-- The oldest waiting response of an instance is posted when its ring has room; its slot is freed. -/
def execMbxResponsePost (side : Nat) (s : State) : Host.Outcome State Fault Refusal :=
  let m := mbxOf s side
  match m.rspWait with
  | [] => ok s
  | e :: rest =>
    if 2 ≤ side ∨ !ringOpen s R.MBX_RSP_HEAD.SEQ R.MBX_RSP_TAIL.SEQ side then ok s
    else
      let h := rd s R.MBX_RSP_HEAD.SEQ side
      let s1 := setMbx s side { m with rspWait := rest, rsp := tset [] m.rsp (h % 16) e.2 }
      ok (raiseIntFor (wr s1 R.MBX_RSP_HEAD.SEQ side (h + 1)) (mbxOwner side) 3)

/-- The oldest waiting event of an instance is posted when its ring has room: KIND, SEQ and DATA. -/
def execMbxEventPost (side : Nat) (s : State) : Host.Outcome State Fault Refusal :=
  let m := mbxOf s side
  match m.evtWait with
  | [] => ok s
  | e :: rest =>
    if 2 ≤ side ∨ !ringOpen s R.MBX_EVT_HEAD.SEQ R.MBX_EVT_TAIL.SEQ side then ok s
    else
      let h := rd s R.MBX_EVT_HEAD.SEQ side
      let bytes := leBytes 2 e.1 ++ leBytes 2 0 ++ leBytes 4 m.evtSeq ++ slice e.2 0 56
      let s1 := setMbx s side { m with evtWait := rest, evt := tset [] m.evt (h % 16) bytes, evtSeq := (m.evtSeq + 1) % word32 }
      ok (raiseIntFor (wr s1 R.MBX_EVT_HEAD.SEQ side (h + 1)) (mbxOwner side) 4)

/-- A TAIL write: ignored with ERR where it would pass HEAD. -/
def writeTail (s : State) (w : Wr) (r : RegSpec) (head tail : Fld) : State :=
  gate s w r 0 fun s i =>
    let t := rd s tail i
    if (rd s head i + word32 - t) % word32 < (w.val + word32 - t) % word32 then hit s R.MBX_STATUS.ERR i else putAll s r 0 i w.val

/-- MBX_RSP_TAIL. -/
def execMbxRspTailWrite (w : Wr) (s : State) : Host.Outcome State Fault Refusal :=
  ok (writeTail s w R.MBX_RSP_TAIL.reg R.MBX_RSP_HEAD.SEQ R.MBX_RSP_TAIL.SEQ)

/-- MBX_EVT_TAIL. -/
def execMbxEvtTailWrite (w : Wr) (s : State) : Host.Outcome State Fault Refusal :=
  ok (writeTail s w R.MBX_EVT_TAIL.reg R.MBX_EVT_HEAD.SEQ R.MBX_EVT_TAIL.SEQ)

end Sys2Proof.Machine
end

