-- ==== Sys2Proof/Machine/Calib.lean ====
section
/-! DEFINITION. Machine/Calib.lean: calibration runs, commits and blends, and the calibration window's writes (R332, R334,
R337-R342, R348).
Its conventions: DEDUCED, log entry 51. -/

namespace Sys2Proof.Machine

open Sys2Proof

/-! ### The control register (R332, R338, R340, R348) -/

/-- A write was ignored (CAL_STATUS.CFG_REJECT). -/
def calReject (s : State) (k : Nat) : State := hit s R.CAL_STATUS.CFG_REJECT k

/-- A run of the stream is under way: scheduled, capturing or computing. -/
def runOpen (c : CalStrm) : Bool := c.run.isSome

/-- A run captures or computes. -/
def runBusy (c : CalStrm) : Bool := (c.run.map (fun r => decide (0 < r.phase))).getD false

/-- A run computes. -/
def runComputes (c : CalStrm) : Bool := (c.run.map (fun r => r.phase == 2)).getD false

/-- COUNT within its range: lines of a line-scan stream, frames of an area stream. -/
def countFits (s : State) (k n : Nat) : Bool :=
  if frameLines s k = 0 then decide (16 ≤ n) else decide (1 ≤ n) && decide (n ≤ 256)

/-- The sums of an area stream's run have room in the sum area, which bounds its frames to 32 M pixels (R332 step 3). -/
def sumsFit (s : State) (k : Nat) : Bool := decide (rd s R.STRM_GEOM.WIDTH k * frameLines s k ≤ 33554432)

/-- RUN: the run waits for the next stripe boundary or frame start; ignored while one is under way. -/
def execCalRun (w : Wr) (s : State) : Host.Outcome State Fault Refusal :=
  ok (gate s w R.CAL_CTRL.reg 0 fun s k =>
    if !bit w.val 2 then s
    else if listenerRefuses s w then report s 0x0C0B k 0
    else
      let s1 := putPlain s R.CAL_CTRL.reg 0 k w.val
      let c := calOf s1 k
      let n := rd s1 R.CAL_CTRL.COUNT k
      if runOpen c ∨ !countFits s1 k n ∨ !sumsFit s1 k then calReject s1 k
      else setCal s1 k { c with run := some ⟨rd s1 R.CAL_CTRL.KIND k, n, 0, 0, isSet s1 R.CAL_CTRL.AUTO_COMMIT k, []⟩ })

/-- E: the first stripe of the stream whose dispatch starts at least 1 ms from now, and whose first input line has not
come into the raw front (R338 step 4; DEDUCED, log entry 51). -/
def calEffect (s : State) (k : Nat) : Nat := max (effectStripe s k) (frontNext (strm s k))

/-- The staged set is checked and refused, or becomes pending with its effect stripe (R338 steps 2 to 4). -/
def commitSet (s : State) (k : Nat) : State :=
  let c := calOf s k
  match setFails s k c.staged c.committed with
  | some (n, check, i) =>
    let s1 := wr (wr (wr s R.CAL_STATUS.FAIL_TABLE k n) R.CAL_STATUS.FAIL_CHECK k check) R.CAL_FAIL_INDEX.INDEX k i
    report (hit s1 R.CAL_STATUS.REFUSED k) 0x0801 k n
  | none =>
    let e := calEffect s k
    let passed := withoutChart c.staged
    let s1 := wr (setCal s k { c with checked := passed, eff := some e }) R.CAL_EFFECT_STRIPE.STRIPE k e
    sendControl s1 k e 0x838 (passed.flatMap (fun p => p.1 :: p.2.length :: p.2.map (·.toNat)))

/-- COMMIT: ignored while one is pending, or a run captures or computes. -/
def execCalCommit (w : Wr) (s : State) : Host.Outcome State Fault Refusal :=
  ok (gate s w R.CAL_CTRL.reg 0 fun s k =>
    if !bit w.val 0 then s
    else if listenerRefuses s w then report s 0x0C0B k 0
    else
      let s1 := putPlain s R.CAL_CTRL.reg 0 k w.val
      let c := calOf s1 k
      if runBusy c ∨ c.eff.isSome then calReject s1 k else commitSet s1 k)

/-- DISCARD: STAGED becomes COMMITTED; a staged write, ignored while a run computes. -/
def execCalDiscard (w : Wr) (s : State) : Host.Outcome State Fault Refusal :=
  ok (gate s w R.CAL_CTRL.reg 0 fun s k =>
    if !bit w.val 1 then s
    else
      let s1 := putPlain s R.CAL_CTRL.reg 0 k w.val
      let c := calOf s1 k
      if runComputes c then calReject s1 k else setCal s1 k { c with staged := c.committed })

/-! ### Runs (R332) -/

/-- The next line into the raw front opens a stripe, or on an area stream a frame. -/
def captureMayStart (s : State) (k : Nat) : Bool :=
  match (strm s k).fifo with
  | [] => false
  | l :: _ => if frameLines s k = 0 then (stripeAhead (strm s k) l).2 else l.opens

/-- The sum area of a stream's run at zero. -/
def clearSums (s : State) (k : Nat) : State :=
  { s with mem := memClear s.mem ((strm s k).place.sums * 256) (4 * (rd s R.STRM_GEOM.WIDTH k * max 1 (frameLines s k))) }

/-- Capture starts. -/
def execCalCaptureStart (stream : Nat) (s : State) : Host.Outcome State Fault Refusal :=
  let c := calOf s stream
  match c.run with
  | none => ok s
  | some r => if r.phase = 0 ∧ captureMayStart s stream then ok (clearSums (setCal s stream { c with run := some { r with phase := 1 } }) stream)
    else ok s

/-- COUNT lines or frames have been captured. -/
def execCalCaptureEnd (stream : Nat) (s : State) : Host.Outcome State Fault Refusal :=
  let c := calOf s stream
  match c.run with
  | none => ok s
  | some r => if r.phase = 1 ∧ r.count ≤ r.got then ok (setCal s stream { c with run := some { r with phase := 2 } }) else ok s

/-- Once the kernels have added every captured word, the tables are computed and staged, and committed where the run asked for it; or the
run fails. Computations are suspended while background work is shed (R413). -/
def execCalComputeDone (stream : Nat) (s : State) : Host.Outcome State Fault Refusal :=
  let c := calOf s stream
  match c.run with
  | none => ok s
  | some r =>
    if r.phase ≠ 2 ∨ !r.words.isEmpty ∨ shedding s then ok s
    else match runTables s stream r with
      | none => ok (failRun s stream)
      | some t =>
        let s1 := setCal s stream { c with run := none, staged := t }
        ok (if r.auto && c.eff.isNone then commitSet s1 stream else s1)

/-! ### Effect and blends (R338 steps 5 to 7, R339, R340) -/

/-- At the first input line of E the set that passed the checks becomes the committed one (R328: no value is used unchecked), and what was in force, at the position of any
blend, is the set blended out. -/
def execCalEffectStart (stream : Nat) (s : State) : Host.Outcome State Fault Refusal :=
  let x := strm s stream
  let c := calOf s stream
  match x.fifo, c.eff with
  | l :: _, some e =>
    if (stripeAhead x l).1 < e then ok s
    else
      let w := rd s R.STRM_GEOM.WIDTH stream
      let old := if c.blending then joinSets (frontSet (rfBlend s stream (l.no - 1)) w (frameLines s stream != 0)) c.previous
        else c.committed
      let new := stampSet c.checked (c.setId + 1)
      let s1 := setCal s stream { c with
        previous := old, committed := new, setId := c.setId + 1, eff := none, inFrom := some (l.no : Nat), blending := true,
        shades := if (stripeAhead x l).1 = 0 then isSet s R.STRM_RF_CTRL.SHADE_EN stream else fval R.STRM_RF_CTRL.SHADE_EN x.rf == 1,
        pbNext := c.pbNext ++ [(e, new)], pbOld := if c.blending then c.pbOld else c.committed,
        pbNew := if c.blending then c.pbNew else c.committed }
      let s2 := wr (wr s1 R.CAL_SET_ID.ID stream (c.setId + 1)) R.CAL_BLEND_POS.RF_J stream 0
      ok (changeRecord (report s2 0x0804 stream e) stream e .calibration)
  | _, _ => ok s

/-- At the first output line of E the picture back's blend starts from what was in force there. -/
def execCalPbBlendStart (stream : Nat) (s : State) : Host.Outcome State Fault Refusal :=
  let c := calOf s stream
  match nextPicture (strm s stream), c.pbNext with
  | some (o, i), (e, new) :: rest =>
    match o.lines[i]? with
    | none => ok s
    | some l =>
      if o.no < e then ok s
      else
        let w := rd s R.STRM_GEOM.WIDTH stream
        let old := if c.outFrom.isNone then c.pbNew else pictureSet (pbBlend s stream o.blend (l.no - 1)) w
        let s1 := setCal s stream { c with pbOld := old, pbNew := new, pbNext := rest, outFrom := some (l.no : Nat),
                                           previous := joinSets c.previous old }
        ok (wr s1 R.CAL_BLEND_POS.PB_J stream 0)
  | _, _ => ok s

/-- The half of a stream's persistence slot that was not written last takes its committed set (R338 step 7, R341, R342). -/
def persist (s : State) (k : Nat) : State :=
  match tget 0 s.life.owners k with
  | 0 => s
  | n + 1 =>
    let c := calOf s k
    let last := s.life.slots.find? (fun h => h.slot == n)
    let new : Half := ⟨n, last.elim 0 (fun h => 1 - h.half), c.committed, c.setId, last.elim 1 (fun h => (h.seq + 1) % word32)⟩
    { s with life := { s.life with slots := new :: s.life.slots.filter (fun h => h.slot != n || h.half != new.half) } }

/-- Both blends have run N lines: PREVIOUS is released and the set persisted. -/
def execCalBlendEnd (stream : Nat) (s : State) : Host.Outcome State Fault Refusal :=
  let c := calOf s stream
  let n := blendN s stream
  if !c.blending ∨ !c.pbNext.isEmpty ∨ rd s R.CAL_BLEND_POS.RF_J stream < n ∨ rd s R.CAL_BLEND_POS.PB_J stream < n then ok s
  else
    let s1 := setCal s stream { c with previous := [], blending := false, inFrom := none, outFrom := none, pbOld := [], pbNew := c.committed }
    ok (persist (report s1 0x0805 stream c.setId) stream)

/-! ### Other writes of the window (R337, R340, R342, R348) -/

/-- A write into the aperture: the STAGED bank's table takes it, from its reset image on; the other banks are read-only,
and a reserved table is an absent instance. Any byte enables are taken (R442). -/
def execCalApertureWrite (w : Wr) (off : Nat) (s : State) : Host.Outcome State Fault Refusal :=
  let n := reqNo w.who
  let k := rd s R.CAL_TBLSEL.STREAM n
  let t := rd s R.CAL_TBLSEL.TABLE n
  let at' := rd s R.CAL_TBLSEL.PAGE n * 32768 + off
  if 9 ≤ t then ok (winErr s w.who 5 (0x58000 + off))
  else if w.who = .clapper ∨ rd s R.CAL_TBLSEL.BANK n ≠ 1 ∨ 32768 ≤ off ∨ off % 4 ≠ 0 ∨ imageMax t < at' + 4 then ok s
  else
    let c := calOf s k
    if runComputes c then ok (calReject s k)
    else
      let width := rd s R.STRM_GEOM.WIDTH k
      let b := imageOf c.staged t width
      let l := b ++ List.replicate (at' + 4 - b.length) 0
      let b' := splice l at' (mergeBytes (slice l at' 4) w)
      ok (setCal s k { c with staged := putTable c.staged t width b' })

/-- The limits of a write lie within their fixed outer bounds. -/
def limOk (off v : Nat) : Bool :=
  match off with
  | 0x50020 => decide (8192 ≤ fval R.CAL_LIM_GAIN.MIN v) && decide (fval R.CAL_LIM_GAIN.MIN v ≤ 32768) &&
      decide (8192 ≤ fval R.CAL_LIM_GAIN.MAX v) && decide (fval R.CAL_LIM_GAIN.MAX v ≤ 32768)
  | 0x50024 => decide (fval R.CAL_LIM_LEVEL.BLACK_MAX v ≤ 16384) && decide (fval R.CAL_LIM_LEVEL.OFFSET_MAX v ≤ 8192)
  | 0x50028 => decide (8192 ≤ fval R.CAL_LIM_SHADE.MIN v) && decide (8192 ≤ fval R.CAL_LIM_SHADE.MAX v)
  | _ => decide (fval R.CAL_LIM_MISC.STEP_MAX v ≤ 8192) && decide (fval R.CAL_LIM_MISC.DEFECT_MAX v ≤ 50)

/-- The CAL_LIM register of an offset. -/
def limReg : Nat → Option RegSpec
  | 0x50020 => some R.CAL_LIM_GAIN.reg
  | 0x50024 => some R.CAL_LIM_LEVEL.reg
  | 0x50028 => some R.CAL_LIM_SHADE.reg
  | 0x5002C => some R.CAL_LIM_MISC.reg
  | _ => none

/-- A CAL_LIM write: whole, or ignored whole. -/
def execCalLimWrite (w : Wr) (off : Nat) (s : State) : Host.Outcome State Fault Refusal :=
  match limReg off with
  | none => ok s
  | some r => ok (gate s w r 0 fun s k => if limOk off w.val then putAll s r 0 k w.val else calReject s k)

/-- CAL_PERSIST: a slot belongs to one stream at most. -/
def execCalPersistWrite (w : Wr) (s : State) : Host.Outcome State Fault Refusal :=
  ok (gate s w R.CAL_PERSIST.reg 0 fun s k =>
    let slot := fval R.CAL_PERSIST.SLOT w.val
    let en := fval R.CAL_PERSIST.EN w.val = 1
    if en ∧ s.life.owners.any (fun p => p.1 != k && p.2 == slot + 1) then calReject s k
    else
      let s1 := putAll s R.CAL_PERSIST.reg 0 k w.val
      { s1 with life := { s1.life with owners := tset 0 s1.life.owners k (if en then slot + 1 else 0) } })

/-- CAL_CANARY_CTRL: 10 to 40 percent; another value is ignored, shown on the stream the requester has selected. -/
def execCalCanaryCtrlWrite (w : Wr) (s : State) : Host.Outcome State Fault Refusal :=
  ok (gate s w R.CAL_CANARY_CTRL.reg 0 fun s _ =>
    let t := fval R.CAL_CANARY_CTRL.TARGET w.val
    if 10 ≤ t ∧ t ≤ 40 then putAll s R.CAL_CANARY_CTRL.reg 0 0 w.val else calReject s (rd s R.CAL_TBLSEL.STREAM (reqNo w.who)))

end Sys2Proof.Machine
end

