-- ==== Sys2Proof/Machine/Chain.lean ====
section
/-! DEFINITION. Machine/Chain.lean: the weight chain's words, grants and stalls (R255-R257).
Its conventions: DEDUCED, log entry 17. -/

namespace Sys2Proof.Machine

open Sys2Proof

/-- The chain MOVE of a channel. -/
def chainOf (s : State) (c : Nat) : Option ChainMove := s.chains.find? (fun m => m.channel == c)

/-- The segments a waiting chain MOVE needs are free: it is injected next (R256). -/
def execChainSegmentGrant (channel : Nat) (s : State) : Host.Outcome State Fault Refusal :=
  match (dmaCh s channel).wait with
  | some (.chain lo hi, _) => if chainFree s lo hi then ok (wake s channel false) else ok s
  | _ => ok s

/-- The piece that carries word i of a chain MOVE. -/
def chainPiece (s : State) (m : ChainMove) (i : Nat) : Option Piece :=
  let a := spAddr m.first (m.word + i)
  (dmaCh s m.channel).pieces.find? (fun q => q.kind == .chain m.first m.last && decide (q.dst ≤ a) && decide (a < q.dst + q.len))

/-- Where a receiver's word i comes from: the open receiver before it, else the piece that carries the word. -/
def chainSource (s : State) (m : ChainMove) (core i : Nat) : Option Nat :=
  match chainPrev s m core with
  | some p => if i < tget 0 m.got p then some (spAddr p (m.word + i)) else none
  | none => (chainPiece s m i).map (fun q => q.src + (spAddr m.first (m.word + i) - q.dst))

/-- An earlier write of the channel that overlaps a receiver's word i is still outstanding (R251 rule 2). -/
def chainHeld (s : State) (m : ChainMove) (core i : Nat) : Bool :=
  match chainPiece s m i with
  | none => false
  | some q =>
    let d := dmaCh s m.channel
    mustFollow s { d with pieces := d.pieces.filter (fun p => p.kind != q.kind) } q.seq (spAddr core (m.word + i)) 32 .plain

/-- A receiver stores its next word and passes it on; the last one counts where CEN is set (R255). -/
def execChainWordDelivered (channel core : Nat) (s : State) : Host.Outcome State Fault Refusal :=
  match chainOf s channel with
  | none => ok s
  | some m =>
    let i := tget 0 m.got core
    if !(receivers s m).contains core ∨ m.issued ≤ i ∨ chainHeld s m core i then ok s
    else match chainSource s m core i with
      | none => ok s
      | some a =>
        let r := busRead s a 32
        let s1 := devWrite (noteParity s a 32) (spAddr core (m.word + i)) r.1 r.2
        let m1 := { m with got := tset 0 m.got core (i + 1), since := tset 0 m.since core (s.tick + 1) }
        let m2 := offerTo s m1 (chainNext s m core)
        let s2 := { s1 with chains := s1.chains.map (fun x => if x.channel = channel then m2 else x) }
        match m.cnt with
        | some n => if i + 1 = m.total then ok (addCnt s2 core n 1) else ok s2
        | none => ok s2

/-- A receiver has not accepted a word for STALL_LIMIT since it was offered: its switch closes, the words it would have had pass
on to the next one, whose clock starts with them unless an earlier word is already offered to it; 0x0309, a suspect event, and its band is tiled anew (R257, R289). -/
def execChainStallLimitExpiry (core : Nat) (s : State) : Host.Outcome State Fault Refusal :=
  let stalls := fun (m : ChainMove) => (receivers s m).contains core && decide (tget 0 m.got core < offered s m core) &&
    decide (tget 0 m.since core + max 1 (rd s R.DMA_CHAIN_CTRL.STALL_LIMIT 0) * 10 ≤ s.tick + 1)
  if !s.chains.any stalls then ok s
  else
    let f := R.DMA_ENG_CHAIN.BYPASS
    let s1 := wr s f (core / 8) (orBit (rd s f (core / 8)) (core % 8))
    let pass := fun (m : ChainMove) => match chainNext s m core with
      | some k => if (receivers s m).contains core ∧ tget 0 m.got core ≤ tget 0 m.got k then { m with since := tset 0 m.since k (s.tick + 1) } else m
      | none => m
    ok (retile (charge (report { s1 with chains := s1.chains.map pass } 0x0309 core 0) core 0x0309 0 0))

end Sys2Proof.Machine
end

