-- ==== Sys2Proof/Machine/SafeCtl.lean ====
section
/-! DEFINITION. Machine/SafeCtl.lean: doubts, watchdogs, the safe-state controller's registers and release; the control
pairs and the hand-over's later steps; protection classes (R276-R278, R294-R298, R409, R420).
Its conventions: DEDUCED, log entry 21. -/

namespace Sys2Proof.Machine

open Sys2Proof

/-! ### Doubts (R276, R294, R295, R298) -/

/-- A doubt of a cause is signalled. -/
def execDoubt (cause : Nat) (s : State) : Host.Outcome State Fault Refusal := ok (doubt s cause)

/-- A write of SSC_DOUBT by the control complex: every write signals a doubt; CODE 0 is recorded as 0x0D0F (R301). -/
def execSscDoubtWrite (w : Wr) (s : State) : Host.Outcome State Fault Refusal :=
  ok (gate s w R.SSC_DOUBT.reg 0 fun s _ =>
    let c := fval R.SSC_DOUBT.CODE w.val
    if c = 0 then report s 0x0D0F 0 0 else doubt s c)

/-- The registers of a stream that affect its content (R41, R276). -/
def contentRegs : List RegSpec :=
  [R.STRM_SRC.reg, R.STRM_GEOM.reg, R.STRM_FRAME.reg, R.STRM_RF_CTRL.reg, R.STRM_PB_CTRL.reg, R.STRM_FLT_CTRL.reg, R.CAL_BLEND.reg]

/-- The stored bits of a content register flip; what the CRC covers stays. -/
def flipReg (s : State) (f : RegFlip) : State :=
  match contentRegs.find? (fun r => r.off == f.off) with
  | none => s
  | some r =>
    if 32 ≤ f.inst then s
    else
      let old := regWord s r f.inst
      let good := ((s.flt.cfgBad.find? (fun e => e.1 == f.off && e.2.1 == f.inst && e.2.2.2 == old)).map (·.2.2.1)).getD old
      let s1 := r.flds.foldl (fun s x => wr s x f.inst (Nat.xor (rd s x f.inst) (bits f.mask x.lo x.width))) s
      let rest := s1.flt.cfgBad.filter (fun e => !(e.1 == f.off && e.2.1 == f.inst))
      { s1 with flt := { s1.flt with cfgBad := rest ++ [(f.off, f.inst, good, regWord s1 r f.inst)] } }

/-- A register still holds flipped bits: no write has replaced them since. -/
def stillFlipped (s : State) (e : Nat × Nat × Nat × Nat) : Bool :=
  contentRegs.any fun r => r.off == e.1 && regWord s r e.2.1 == e.2.2.2 && e.2.2.1 != e.2.2.2

/-- The words the CRC-32C is computed over: stored, or as it covers them. -/
def configWords (s : State) (covered : Bool) : List Byte :=
  contentRegs.flatMap fun r => (upto 32).flatMap fun i =>
    leBytes 4 (if covered then ((s.flt.cfgBad.find? (fun e => e.1 == r.off && e.2.1 == i && stillFlipped s e)).map (·.2.2.1)).getD (regWord s r i)
      else regWord s r i)

/-- Every 1 ms the configuration CRC is recomputed over the stored values, in which bits may have flipped; a mismatch is a doubt
(R276). -/
def execConfigCrcRecheck (flips : List RegFlip) (s : State) : Host.Outcome State Fault Refusal :=
  let s0 := flips.foldl flipReg s
  if s.tick < s.flt.cfgAt + 100000 then ok s0
  else
    let s1 := { s0 with flt := { s0.flt with cfgAt := s.tick } }
    ok (reportIf (crc32c (configWords s1 true) != crc32c (configWords s1 false)) s1 0x0D08 0 0)

/-- SSC_WDOG.KICK by the control complex restarts its watchdog. -/
def execSscWdogKick (w : Wr) (s : State) : Host.Outcome State Fault Refusal :=
  ok (gate s w R.SSC_WDOG.reg 0 fun s _ =>
    if bit w.val 0 then
      { s with flt := { s.flt with kickAt := s.sscCount }, act := { s.act with kick := s.tick } }
    else s)

/-- A gap of 1 ms on the SSC oscillator without a kick (R294). -/
def execSscWatchdogExpiry (s : State) : Host.Outcome State Fault Refusal :=
  ok (reportIf (decide (s.flt.kickAt + 25000 ≤ s.sscCount)) s 0x0D09 0 0)

/-- A stripe reported closed is not reported committed within 2 SP ÷ 0.95 of the SSC's nominal ticks (R294): of 40 ns,
against the field's 10 ns. -/
def execCommitWatchdogExpiry (stream stripe : Nat) (s : State) : Host.Outcome State Fault Refusal :=
  match s.flt.watch.find? (fun e => e.1 == stream && e.2.1 == stripe) with
  | none => ok s
  | some e =>
    if (s.sscCount - e.2.2) * 19 < spOf' s stream * 10 then ok s else ok (report (unwatch s stream stripe) 0x0D09 stream stripe)

/-- SAFE_IN_n has been low for 1 µs, or is high again: SSC_STATE.SAFE_IN follows the pin, and its assertion is a doubt (R294, R301). -/
def execSafeInAssert (low : Bool) (s : State) : Host.Outcome State Fault Refusal :=
  ok (reportIf low (wr s R.SSC_STATE.SAFE_IN 0 (b2n low)) 0x0D0A 0 0)

/-- The two copies of the SSC disagree: each drives toward safe levels (R298). -/
def execSscCopyDisagree (s : State) : Host.Outcome State Fault Refusal := ok (report (driveSafe s) 0x0D0B 0 0)

/-! ### Safe levels, lock, release (R296, R297, R301) -/

/-- SSC_SAFE_LEVEL: ignored whole where a field holds 3, or once locked. -/
def execSscSafeLevelWrite (w : Wr) (s : State) : Host.Outcome State Fault Refusal :=
  ok (gate s w R.SSC_SAFE_LEVEL.reg 0 fun s i =>
    if isSet s R.SSC_LOCK.LOCK 0 ∨ (upto 16).any (fun k => bits w.val (2 * k) 2 == 3) then s
    else putAll s R.SSC_SAFE_LEVEL.reg 0 i w.val)

/-- LOCK: writing 1 locks until reset, and the outputs leave high impedance for what the safe state drives. -/
def execSscLockWrite (w : Wr) (s : State) : Host.Outcome State Fault Refusal :=
  ok (gate s w R.SSC_LOCK.reg 0 fun s _ =>
    if !bit w.val 0 ∨ isSet s R.SSC_LOCK.LOCK 0 then s
    else
      let s1 := wr (wr s R.SSC_LOCK.LOCK 0 1) R.SSC_STATE.LOCKED 0 1
      if isSafe s1 then { s1 with act := { s1.act with drive := (upto 16).map (safeLevel s1) } } else s1)

/-- At a release each stream starts a new epoch at its next stripe boundary; what was committed in safe state is not
delivered, and counts into the next GAP (R297, R388). -/
def renewStream (s : State) (k : Nat) : State :=
  modStrm s k fun x =>
    { x with renew := true, released := true, resume := true, outBuf := [],
             gap := x.gap + (x.outBuf.map (fun o => 1 + o.gap)).foldl (· + ·) 0 }

/-- SAFE is released: Damson's line falls (R367); reported once and recorded. A member of a pair asks to rejoin (R324). -/
def releaseSafe (s : State) : State :=
  let s1 := (upto 32).foldl (fun s k => if running s k then renewStream s k else s) (wr (wr s R.SSC_STATE.SAFE 0 0) R.DMS_STATE.READING_INVALID 0 0)
  let s2 := showFixed (logChange (report s1 0x0D0C 0 0) [0x0D0C])
  if rd s R.ZP_STATUS.ROLE 0 = 3 ∧ linked s then sendPair s2 6 0 (leBytes 4 32 ++ leBytes 4 0 ++ leBytes 4 0x325) else s2

/-- The conditions of a release (R297): SAFE_IN_n high, the field timebase, no environment doubt still present. -/
def mayRelease (s : State) (safeIn : Bool) : Bool := !safeIn && !s.fieldLost && s.flt.env.isEmpty

/-- A release is asked for while SAFE_IN_n is as given: ignored while SAFE is 0, refused with 0x0D0E, or done. -/
def askRelease (s : State) (safeIn : Bool) : State × Nat :=
  let s1 := wr s R.SSC_STATE.SAFE_IN 0 (b2n safeIn)
  if !isSafe s then (s1, 0)
  else if mayRelease s safeIn then (releaseSafe s1, 0) else (report s1 0x0D0E 0 0, 0x0D0E)

/-- SSC_CTRL.RELEASE by the host or Clapper; another value than 0x5A is ignored (R298). -/
def execSscRelease (w : Wr) (safeIn : Bool) (s : State) : Host.Outcome State Fault Refusal :=
  ok (gate s w R.SSC_CTRL.reg 0 fun s _ =>
    if fval R.SSC_CTRL.RELEASE w.val ≠ 0x5A ∨ w.who = .control then s else (askRelease s safeIn).1)

/-! ### Control pairs (R277, R409) -/

/-- A hand-over between its request and its switch. -/
def handoverOpen (s : State) : Bool := s.flt.handover == 1 || s.flt.handover == 2

/-- The hand-over is abandoned: the old firmware continues (R409). -/
def abandon (s : State) : State :=
  let s1 := { s with flt := { s.flt with handover := 0 } }
  let s2 := (upto 32).foldl (fun s k => modStrm s k fun x => { x with handover := none }) s1
  let s3 := hit (showChange (report s2 0x0738 0 0)) R.CHG_STATUS.REFUSED 0
  let s4 := respondAll (respondAll s3 0 (fun r => r.cmd == 3) (fun _ => 0) 0x0738) 1 (fun r => r.cmd == 3) (fun _ => 0) 0x0738
  answerWaiting s4 5 0x0738 []

/-- The standby restart has failed, or a doubt has arisen before the switch. -/
def execHandoverAbandon (s : State) : Host.Outcome State Fault Refusal := if handoverOpen s then ok (abandon s) else ok s

/-- Effect stripe of a hand-over on a stream: a pending swap's, or chosen as in R407 (R411). -/
def handoverE (s : State) (k : Nat) : Nat :=
  match (strm s k).swap with
  | some w => w.eff.getD (effectFor s k)
  | none => effectFor s k

/-- The standby pair is ready: each running stream takes its effect stripe; with none running it switches at once. -/
def readyHandover (s : State) : State :=
  let ks := (upto 32).filter (running s)
  let es := ks.map (handoverE s)
  let s1 := ks.foldl (fun t k => modStrm t k fun x => { x with handover := some (handoverE s k) })
    { s with flt := { s.flt with handover := 2, handoverE := es.foldl min (es.headD 0) } }
  match ks with
  | [] => handoverSwitch s1
  | k :: _ => noteChange s1 k (handoverE s k)

/-- The standby pair exists, or not. -/
def setStandby (s : State) (v : Bool) : State := wr (wr s R.SSC_STATE.STANDBY 0 (b2n v)) R.BOOT_STATUS.STANDBY_OK 0 (b2n v)

/-- Step 7 of a hand-over: reported, recorded and answered; the anti-rollback counter rises, and Clapper restarts into the
new image (R409, R420). -/
def finishHandover (s : State) (burnOk : Bool) : State :=
  let e := s.flt.handoverE
  let s1 := logChange (report (showChange { s with flt := { s.flt with handover := 0 } }) 0x0739 0 e) [0x0739, e]
  let s2 := respondAll (respondAll s1 0 (fun r => r.cmd == 3) (fun _ => e) 0) 1 (fun r => r.cmd == 3) (fun _ => e) 0
  let s3 := answerWaiting s2 5 0 (leBytes 4 e)
  report (raiseRollback s3 (rd s3 R.SEC_BOOT.SVN 0) burnOk) 0x0933 0 0

/-- A control pair has run its self-test: the standby of a hand-over, the old pair after it, or the old pair after a
lockstep mismatch. -/
def execControlPairSelfTestDone (pass burnOk : Bool) (s : State) : Host.Outcome State Fault Refusal :=
  if s.flt.handover = 1 then ok (if pass then readyHandover s else abandon s)
  else if !s.flt.testing then ok s
  else
    let s1 := setStandby { s with flt := { s.flt with testing := false } } pass
    ok (if s.flt.handover = 3 then finishHandover s1 burnOk else s1)

/-- The comparator of the active pair sees a mismatch: the standby pair takes over with the dispatch journal, whose unacknowledged
dispatches it sends again, and the old pair tests itself; without
a standby pair, one that restarts for a hand-over among them, it is a doubt (R277). An error of one bit in the control complex's
SRAM is corrected and reported; one that cannot be corrected is a doubt (R274, R277). -/
def execLockstepMismatch (found : ControlCheck) (s : State) : Host.Outcome State Fault Refusal :=
  match found with
  | .lockstep =>
    if !isSet s R.SSC_STATE.STANDBY 0 ∨ s.flt.handover = 1 then ok (report s 0x0D05 0 0)
    else ok (report (resendJournal (setStandby { s with flt := { s.flt with testing := true } } false)) 0x0D04 0 0)
  | .sramCorrected => ok (report s 0x0D06 0 0)
  | .sramLost => ok (report s 0x0D07 0 0)

/-! ### Protection classes (R278, R300) -/

/-- STRM_FLT_CTRL: a reserved PROT is ignored; PROT 2 on a stream under the digest class is ignored with 0x060B. -/
def execStrmFltCtrlWrite (w : Wr) (s : State) : Host.Outcome State Fault Refusal :=
  ok (gate s w R.STRM_FLT_CTRL.reg 0 fun s k =>
    let p := fval R.STRM_FLT_CTRL.PROT w.val
    if p = 1 ∨ p = 3 then s
    else if listenerRefuses s w then report s 0x0C0B k 0
    else if p = 2 ∧ isSet s R.STRM_FLT_CTRL.DIGEST k then report s 0x060B k 0
    else
      let s1 := putAll s R.STRM_FLT_CTRL.reg 0 k w.val
      sendControl (modStrm s1 k fun x => { x with changes := x.changes ++ [0x18800], dropFlow := false }) k (firstUndispatched (strm s k)) 0x18800 [w.val])

end Sys2Proof.Machine
end

