-- ==== Sys2Proof/Machine/FaultWork.lean ====
section
/-! DEFINITION. Machine/FaultWork.lean: forgiveness, shadow replays and idle-slot tests (R285-R290).
Its conventions: DEDUCED, log entry 16. -/

namespace Sys2Proof.Machine

open Sys2Proof

/-- After 24 h without an event a core moves down one state (R290). -/
def execCoreForgiveness (core : Nat) (s : State) : Host.Outcome State Fault Refusal :=
  let e := rd s R.CORE_EVENTS.COUNT core
  if s.part.cores ≤ core ∨ e = 0 ∨ rd s R.CORE_CTRL.ROLE core = 2 ∨ quietTicks s core < 24 * 3600 * 100000000 then ok s
  else
    let s1 := wr (quietRestart s core) R.CORE_EVENTS.COUNT core (e - 1)
    ok (wr s1 R.CORE_STATE.SUSPECT core 0)

/-! ### Shadow replays (R285, R286) -/

/-- The shadow of a band of a stripe. -/
def shadowOf (s : State) (k n b : Nat) : Option Shadow :=
  s.flt.shadows.find? (fun h => h.stream == k && h.stripe == n && h.band == b)

/-- Changes it. -/
def modShadow (s : State) (k n b : Nat) (f : Shadow → Shadow) : State :=
  { s with flt := { s.flt with shadows := s.flt.shadows.map (fun h => if h.stream = k ∧ h.stripe = n ∧ h.band = b then f h else h) } }

/-- Removes it. -/
def dropShadow (s : State) (k n b : Nat) : State :=
  { s with flt := { s.flt with shadows := s.flt.shadows.filter (fun h => !(h.stream == k && h.stripe == n && h.band == b)) } }

/-- The shadow's descriptor: KIND 2, the copy of the stream table, its carry from the home core, CARRY_OUT 0. -/
def shadowDesc (p : Place) (d : Desc) : Desc := { d with kind := 2, s1 := p.shTable, s2 := setBits (replaySrc d.s2) 18 1 0 }

/-- The shadow combine area takes a copy of the stripe's combine generation. -/
def copyCombine (s : State) (p : Place) (n : Nat) : State :=
  let a := combineSlot p.combine (n % 4) 0 0
  let b := combineSlot p.shCombine (n % 4) 0 0
  { s with mem := copyCells s.mem s.mem a b (16 * 128 * 16) }

/-- A KIND 2 share of a band goes to the lowest idle spare that has not run it, once the stripe's barriers are complete;
else it waits. `mark` notes the core. -/
def sendShadow (s : State) (k n b : Nat) (not : List Nat) (mark : Nat → Shadow → Shadow) : State :=
  match (stripeOf (strm s k) n).bind (fun t => (shareOf t false b).bind (fun h => t.pkg.map (fun g => (t, h, g)))) with
  | none => s
  | some (t, h, g) =>
    match (upto s.part.cores).find? (fun c => idleSpare s c && !not.contains c && accepts s c h.desc.bank) with
    | none => s
    | some c =>
      let p := t.place
      let s1 := copyCombine (resetRings s c n g) p n
      modShadow (offerDesc s1 c (shadowDesc p h.desc)) k n b (mark c)

/-- A shadowed share is dispatched as KIND 2 on a spare; nothing while background work is shed (R413). -/
def execShadowDispatch (stream stripe band : Nat) (s : State) : Host.Outcome State Fault Refusal :=
  match shadowOf s stream stripe band with
  | none => ok s
  | some h =>
    if shedding s ∨ !barriersDone s stream stripe then ok s
    else if h.core = 1000 then ok (sendShadow s stream stripe band [h.home] fun c h => { h with core := c })
    else if h.differs ∧ h.third.isNone then
      ok (sendShadow s stream stripe band [h.home, h.core] fun c h => { h with third := some c })
    else ok s

/-- The original share has ended clean. -/
def originalClean (s : State) (k n b : Nat) : Bool :=
  match (stripeOf (strm s k) n).bind (fun t => shareOf t false b) with
  | some h => h.clean
  | none => false

/-- Columns of the network's output that come from a band (R220). -/
def outSpan (g : Pkg) (k : Nat) (b : Band) : Nat × Nat :=
  let w := max 1 (g.domain k).width
  (b.start * g.outWidth k / w, (b.start + b.width) * g.outWidth k / w)

/-- A band's output of a stripe as it stands in a staging area: its columns of every line the stripe yields. -/
def bandOutput (s : State) (p : Place) (area : Nat) (k : Nat) (t : Stripe) (g : Pkg) (b : Band) : List Byte :=
  let px := g.outChans * inSize (fval R.STRM_PB_CTRL.INFMT t.pb)
  let c := outSpan g k b
  (upto (netOut g t)).flatMap fun i => slice (stagedLine s { p with staging := area } t.no i) (c.1 * px) ((c.2 - c.1) * px)

/-- A band's input lines of a stripe as fetched, with its halo, up to 128 KiB (R288). -/
def bandInput (s : State) (k : Nat) (t : Stripe) (g : Pkg) (b : Band) : List Byte :=
  let rf := (strm s k).rf
  let d := g.domain k
  let f := s2dOf (fval R.STRM_RF_CTRL.S2D rf)
  let px := (if fval R.STRM_RF_CTRL.UNPACK rf = 5 then 2 else f * f) * codeSize (fval R.STRM_RF_CTRL.OUTFMT rf)
  let lo := b.start - d.haloL
  let hi := min d.width (b.start + b.width + d.haloR)
  ((upto (cdiv t.lines f)).flatMap fun i => memBytes s.mem (inputAt t.place (t.net + i) (lo * px)) ((hi - lo) * px)).take 131072

/-- The vote of the original, the shadow and the third run (R286). -/
def shadowVote (s : State) (h : Shadow) (orig shadow third : Nat) (payload : List Byte) : State :=
  let s1 := dropShadow s h.stream h.stripe h.band
  let where' := h.stripe + h.band * 2 ^ 32 + h.stream * 2 ^ 40
  if third = shadow ∧ third ≠ orig then
    let s2 := report s1 0x0130 h.home where'
    charge (capture s2 h.home (captureBytes 0x0130 h.home 3 h.stripe h.stream h.band 0 0 0 (s.tick % word32) payload)) h.home 0x0130 0 h.stripe
  else if third = orig ∧ third ≠ shadow then charge (report s1 0x0131 h.core where') h.core 0x0131 2 h.stripe
  else report s1 0x0137 h.stream h.stripe

/-- The CRC-64 values of a band's output in staging and in the shadow area are compared; after a mismatch those of the original, the
shadow and the third run vote (R285, R286). -/
def execShadowCompareDone (stream stripe band : Nat) (s : State) : Host.Outcome State Fault Refusal :=
  match shadowOf s stream stripe band, (stripeOf (strm s stream) stripe).bind (fun t => t.pkg.bind fun g => (t.map.bands[band]?).map fun b => (t, g, b)) with
  | some h, some (t, g, b) =>
    let orig := crc64 (bandOutput s t.place t.place.staging stream t g b)
    let other := crc64 (bandOutput s t.place t.place.shStaging stream t g b)
    if h.differs then (if h.thirdDone then ok (shadowVote s h orig h.value other (bandInput s stream t g b)) else ok s)
    else if h.ended ≠ some true ∨ !originalClean s stream stripe band then ok s
    else
      let s1 := bump s R.FLT_CNT_SHADOW.COUNT 0
      if orig = other then ok (dropShadow s1 stream stripe band)
      else ok (sendShadow (modShadow s1 stream stripe band fun h => { h with differs := true, value := other }) stream stripe band
        [h.home, h.core] fun c h => { h with third := some c })
  | _, _ => ok s

/-! ### Idle-slot tests (R287) -/

/-- A core's next share is not due within a time, by the declared line periods. -/
def slotFree (s : State) (c len : Nat) : Bool :=
  (upto 32).all fun k =>
    !running s k || lpOf s k == 0 || !((strm s k).map.bands.any (fun b => b.home == c)) ||
      (match ((strm s k).stripes.filter (·.begun)).getLast? with
      | some t => decide (s.tick + len ≤ t.t0 + spOf' s k)
      | none => true)

/-- The core can take a slice: in service, or with its test set to pass, idle, and free for its length. -/
def sliceCore (s : State) (c len : Nat) : Bool :=
  isOn s c && (coreAt s c).run.isNone && (coreAt s c).next.isNone && slotFree s c len

/-- No slice runs. -/
def sliceIdle (s : State) : Bool :=
  match s.flt.slice with
  | some t => !((coreAt s t.core).run.any (fun d => d.kind == 3))
  | none => true

/-- Ticks a slice of declared steps takes at the slow corner's 1.6 × 10^9 steps a second (R287, R232). -/
def sliceTicks (steps : Nat) : Nat := cdiv steps 16

/-- A stream's run has captured words that no kernel has added yet (R332). -/
def calWork (s : State) (k : Nat) : Bool := ((calOf s k).run.map (fun r => !r.words.isEmpty)).getD false

/-- The slice that follows on a core: a new one, of the installed kernel or of a Rattle kernel and seed (number: kernel × 2^32 + seed) with
its declared steps and descriptor words, a calibration share on a spare while its stream's run has words to add (R332), or the next run of a Rattle slice on another core than before, within the 1 ms of Rattle a
round gives the core it tests. -/
def nextSlice (s : State) (c : Nat) (chime : Bool) (number steps : Nat) (words : List Nat) : Option Slice :=
  match s.flt.slice with
  | none =>
    if chime then (s.life.chime.find? (fun k => k.number == number)).map fun k => ⟨c, true, number, [], k.expect, k.steps, k.words⟩
    else if isSpare s c && (calStream number).all (calWork s) then some ⟨c, false, number, [], 0, steps, words⟩ else none
  | some t =>
    if t.chime || t.runs.any (fun r => r.1 == c) then none
    else if t.runs.length = 1 ∧ rattleLimit < tget 0 s.flt.rattle c + sliceTicks t.steps then none
    else some { t with core := c }

/-- The control complex starts a slice of 1 to 20 µs on an idle core: Rattle first on a spare, as the reference; in a pair
no Rattle; none that has been withdrawn, or while shed, and no test while disabled, but for a core that left OFF, which runs its whole set
(R406). -/
def execTestSliceStart (core : Nat) (chime : Bool) (number steps : Nat) (words : List Nat) (s : State) : Host.Outcome State Fault Refusal :=
  let cal := !chime && (calStream number).isSome
  let free := cal || (upto s.part.cores).any (untested s)
  if (!isSet s R.FLT_CTRL.TEST_EN 0 ∧ !free) ∨ shedding s ∨ !sliceIdle s ∨ (paired s ∧ !chime ∧ !free) ∨ (chime ∧ s.flt.withdrawn.contains number) then ok s
  else
    match nextSlice s core chime number steps words with
    | none => ok s
    | some t =>
      let d := { descOf t.words with kind := 3 }
      let n := sliceTicks t.steps
      if n < 100 ∨ 2000 < n ∨ !sliceCore s core n ∨ !accepts s core d.bank then ok s
      else ok (offerDesc (wr { s with flt := { s.flt with slice := some t } } R.FLT_TEST_STATUS.CORE 0 core) core d)

/-- A test round has taken more than 8 s: OVERDUE and 0x013B, once; the round continues. -/
def execTestRoundOverdue (s : State) : Host.Outcome State Fault Refusal :=
  if s.flt.roundOver ∨ !isSet s R.FLT_CTRL.TEST_EN 0 ∨ s.tick < s.flt.roundAt + 800000000 then ok s
  else ok (hit (report { s with flt := { s.flt with roundOver := true } } 0x013B 0 0) R.FLT_TEST_STATUS.OVERDUE 0)

end Sys2Proof.Machine
end

