-- ==== Sys2Proof/Machine/ZehornLink.lean ====
section
/-! DEFINITION. Machine/ZehornLink.lean: the Zehorn link layer: acknowledgement and retry, going down, bring-up and
negotiation; the loss of the partner (R303-R311, R318, R321, R326).
Its conventions: DEDUCED, log entries 22, 46, 48. -/

namespace Sys2Proof.Machine

open Sys2Proof

/-! ### The partner is lost (R318, R321) -/

/-- The source member of a stream is lost: its lines that are not settled are discarded, except that a dual-fed stream goes on with its
own (R318). -/
def sourceLost (s : State) : State := (upto 32).foldl ownLines s

/-- The partner is lost: a matched listener takes over, a speaker goes on alone, an unmatched listener never takes over
(R321). -/
def partnerLost (s : State) : State :=
  let s1 := { s with pair := { s.pair with rejoin := [], matched := [], ahead := [] } }
  let low := ((upto 32).find? (running s)).getD 0
  match rd s R.ZP_STATUS.ROLE 0 with
  | 1 => sourceLost (setRole s1 1 false)
  | 2 => sourceLost (report (becomeSpeaker (lastChange s1 low (firstUncommitted (strm s1 low)))) 0x0C06 0 0)
  | _ => sourceLost s1

/-! ### Links going down (R306, R307, R312) -/

/-- The other link of the pair, or of the ring. -/
def otherLink (l : Nat) : Nat := if l < 2 then 1 - l else 5 - l

/-- Cells a link that goes down still held are sent on the other link, in order (R310, R312). -/
def moveCells (s : State) (l : Nat) : State :=
  let z := zl s l
  let o := otherLink l
  let s1 := setZl s l { z with held := [], wait := [] }
  if linkUp s o ∧ rd s R.ZL_CTRL.MODE o = rd s R.ZL_CTRL.MODE l then
    let s2 := bumpBy s1 R.ZL_CNT_REPLAY.COUNT o z.held.length
    sendWaiting (setZl s2 o { zl s2 o with wait := (zl s2 o).wait ++ z.held ++ z.wait }) o
  else s1

/-- A link's status while it is not up. -/
def showDown (s : State) (l st : Nat) : State :=
  wr (wr (wr (wr s R.ZL_STATUS.STATE l st) R.ZL_STATUS.GEN l 0) R.ZL_STATUS.LEVEL l 0) R.ZL_STATUS.LANES l 0

/-- A link is down, without a report; it retrains after 100 ms. -/
def dropLink (s : State) (l : Nat) : State :=
  let was := pairLinkUp s l
  let s1 := showDown s l 0
  let s2 := moveCells (setZl s1 l { zl s1 l with downAt := s.tick, settled := none }) l
  let s3 := setZl s2 l { zl s2 l with next := 0, last := 2 ^ 24 - 1, credit := 468, nakked := false, taking := 0 }
  if was ∧ !pairLinkUp s3 0 ∧ !pairLinkUp s3 1 then partnerLost s3 else s3

/-- A link goes down (0x0502). -/
def linkDown (s : State) (l : Nat) : State := dropLink (report s 0x0502 l 0) l

/-! ### Receiving (R306, R307, R311) -/

/-- LSEQ a is beyond b. -/
def seqBeyond (a b : Nat) : Bool := let d := (a + 2 ^ 24 - b) % 2 ^ 24; decide (0 < d) && decide (d < 2 ^ 23)

/-- Cells of a link that its crossing buffer holds: of a pair link those that came ahead of their turn, of a ring link those that wait for
the other (R29, R306, R311, R312). -/
def crossHeld (s : State) (l : Nat) : Nat :=
  if l < 2 then (s.pair.ahead.filter (fun p => p.2.1 == l)).length else ((zl s (otherLink l)).wait.filter (·.fwd)).length

/-- Cells it still has room for. -/
def crossRoom (s : State) (l : Nat) : Nat := cellRoom - crossHeld s l

/-- A short cell leaves: 0 IDLE with an acknowledgement, or with NAK, and the credits of the crossing buffer, for which the header has no
field (R304; DESIGN CHOICE, log entry 48). -/
def sendShort (s : State) (l : Nat) (nak : Bool) : State :=
  let dst := if l < 2 then (s.pair.hello.map (·.node)).getD 0 else 0
  emit (setZl s l { zl s l with lastTx := s.tick })
    (.cell l (sealCell false (headBytes (ownHead s 0 dst 0) (zl s l).next (zl s l).last nak 0 0)) (some (crossRoom s l)))

/-- A cell that fails its CRC or is out of sequence: counted, and the missing cell is asked for, once while it is missing unless
`again` (R306; DEDUCED, log entry 48). -/
def askAgain (s : State) (l : Nat) (again : Bool) : State :=
  let s1 := bump (report s 0x0503 l 0) R.ZL_CNT_CRC.COUNT l
  if (zl s l).nakked && !again then s1 else sendShort (setZl s1 l { zl s1 l with nakked := true }) l true

/-- Everything not acknowledged is sent again; the eighth transmission of a cell takes the link down (R307). -/
def sendAgain (s : State) (l : Nat) : State :=
  let z := zl s l
  let cells := z.held.map (fun c => { c with sends := c.sends + 1 })
  let s1 := cells.foldl (putCell l) (bumpBy (setZl s l { z with held := cells }) R.ZL_CNT_REPLAY.COUNT l cells.length)
  if cells.any (fun c => decide (8 ≤ c.sends)) then linkDown (report s1 0x0504 l 0) l else s1

/-- ACK frees the cells up to it; NAK asks for the rest again; credits count the receiver's room. -/
def takeAck (s : State) (l ack : Nat) (nak : Bool) (credit : Option Nat) : State :=
  let z := zl s l
  let s1 := setZl s l { z with held := z.held.filter (fun c => seqBeyond c.lseq ack), credit := credit.getD z.credit }
  sendWaiting (if nak then sendAgain s1 l else s1) l

/-- A discarded cell is counted. -/
def countDrop (s : State) (l : Nat) : State := bump s R.ZL_CNT_DROP.COUNT l

/-- What the link layer makes of a data cell: it takes none that is out of order or does not check; one it takes is delivered, or
discarded for a reserved field (R306, R307). -/
inductive Taken where
  | not | discarded | delivered
  deriving DecidableEq, Repr

/-- The link layer takes a data cell. A stomped cell takes no LSEQ, since the replay of its hop brings the cell itself (R307, R311); one
received before is acknowledged again. A further record belongs to the cell taken last. -/
def takeCell (s : State) (rx : Rx) : State × Taken :=
  let l := rx.link
  let z := zl s l
  if !linkUp s l then (s, .not)
  else if rx.more then (s, if z.taking = rx.lseq + 1 then .delivered else .not)
  else
    let s0 := setZl s l { z with taking := 0 }
    if rx.stomped then (s0, .not)
    else if !rx.crcOk then (askAgain s0 l (rx.lseq == (z.last + 1) % 2 ^ 24), .not)
    else
      let s1 := setZl s0 l { zl s0 l with lastRx := s.tick }
      if rx.lseq ≠ (z.last + 1) % 2 ^ 24 then (if seqBeyond rx.lseq z.last then askAgain s1 l false else sendShort s1 l false, .not)
      else
        let s2 := takeAck (setZl s1 l { zl s1 l with last := rx.lseq, nakked := false, taking := if rx.bad then 0 else rx.lseq + 1 })
          l rx.ack rx.nak none
        if rx.bad then (countDrop (report s2 0x0507 l 0) l, .discarded) else (s2, .delivered)

/-- A short cell: acknowledgement, NAK and credits; its LSEQ, the next data cell's, shows a cell that was lost, which is asked for
again. -/
def execZlShortCellReceived (rx : Rx) (credit : Option Nat) (s : State) : Host.Outcome State Fault Refusal :=
  let l := rx.link
  if !linkUp s l then ok s
  else if !rx.crcOk then ok (bump (report s 0x0503 l 0) R.ZL_CNT_CRC.COUNT l)
  else
    let s1 := takeAck (setZl s l { zl s l with lastRx := s.tick }) l rx.ack rx.nak credit
    if rx.bad then ok (countDrop (report s1 0x0507 l 0) l)
    else if linkUp s1 l ∧ seqBeyond rx.lseq (((zl s1 l).last + 1) % 2 ^ 24) then ok (askAgain s1 l true) else ok s1

/-- A link with nothing to send sends a short cell at least every 100 ns. -/
def execZlIdleCellTimer (link : Nat) (s : State) : Host.Outcome State Fault Refusal :=
  if 4 ≤ link ∨ !linkUp s link ∨ s.tick < (zl s link).lastTx + 10 then ok s else ok (sendShort s link false)

/-- No valid cell for 1 µs takes a link down. -/
def execZlLinkSilence (link : Nat) (s : State) : Host.Outcome State Fault Refusal :=
  if 4 ≤ link ∨ !linkUp s link ∨ s.tick < (zl s link).lastRx + 100 then ok s else ok (linkDown s link)

/-! ### Bring-up (R303, R306, R308) -/

/-- A link is to be used: enabled, as a pair or ring link. -/
def linkWanted (s : State) (l : Nat) : Bool :=
  isSet s R.ZL_CTRL.EN l && (rd s R.ZL_CTRL.MODE l == 1 || rd s R.ZL_CTRL.MODE l == 2)

/-- A down link retrains every 100 ms. -/
def execZlRetrainTimer (link : Nat) (s : State) : Host.Outcome State Fault Refusal :=
  if 4 ≤ link ∨ !linkWanted s link ∨ rd s R.ZL_STATUS.STATE link ≠ 0 ∨ s.tick < (zl s link).downAt + 10000000 then ok s
  else ok (wr s R.ZL_STATUS.STATE link 1)

/-- Generations this part offers on a link (R308). -/
def ownGens (s : State) (l : Nat) : Nat := if rd s R.ZL_CTRL.GEN_LIMIT l = 1 then 1 else 3

/-- UNIQUE_ID of this part. -/
def ownUid (s : State) : Nat := rd s R.ID_UNIQUE_HI.ID 0 * 2 ^ 32 + rd s R.ID_UNIQUE_LO.ID 0

/-- The payload of HELLO (R308). -/
def helloBytes (s : State) (l : Nat) : List Byte :=
  leBytes 1 2 ++ leBytes 1 (ownGens s l) ++ leBytes 1 s.part.code ++ leBytes 1 (rd s R.ZL_CTRL.MODE l) ++ leBytes 1 (rd s R.ZR_CTRL.NODE 0) ++
  leBytes 1 (rd s R.ZP_CTRL.PREFER 0) ++ leBytes 2 0 ++ leBytes 8 (ownUid s)

/-- HELLO leaves at generation 1, outside the order of the data cells: its LSEQ, ACK and destination are zero (DEDUCED, log entry 48). -/
def sendHello (s : State) (l : Nat) : State := emit s (.cell l (cellBytes (ownHead s 1 0 0) 0 0 0 (helloBytes s l) false) none)

/-- Some stream runs. -/
def anyRuns (s : State) : Bool := (upto 32).any (running s)

/-- The roles of a new pair: by PREFER, then the lower UNIQUE_ID (R308, R311). A member that computes alone keeps the
speaker's part, and the other comes in as an unmatched listener (R324; DEDUCED, log entry 46). -/
def formPair (s : State) (h : Hello) : State :=
  let s1 := wr { s with pair := { PairX.reset with hello := some h } } R.ZP_STATUS.MEMBER 0 (b2n (decide (h.uid < ownUid s)))
  let own := rd s R.ZP_CTRL.PREFER 0
  let lead := if own = h.prefer then decide (ownUid s < h.uid) else own == 1
  let mine := anyRuns s
  if !mine && !h.runs then setRole s1 (if lead then 1 else 2) true
  else setRole s1 (if mine && (!h.runs || lead) then 1 else 3) false

/-- A ring link has come up: the nodes announced on it; a node number announced twice (R310, R311). -/
def joinRing (s : State) (l : Nat) (h : Hello) : State :=
  let own := rd s R.ZR_CTRL.NODE 0
  let s1 := wr s R.ZR_STATUS.NODES 0 (orBit (orBit (rd s R.ZR_STATUS.NODES 0) own) h.node)
  if h.node = own then hit (report s1 0x0508 l own) R.ZR_STATUS.DUPLICATE 0 else s1

/-- A link counts as up. The second link of a pair is taken as the pair's whatever UNIQUE_ID its HELLO carried: the two links are to
join the same two parts, and R309 says nothing of two partners (DESIGN CHOICE, log entry 47). The other link is missing where it is down, neither training nor
negotiating; a speaker names the rejoin of a partner that comes back unmatched (R309, R324). -/
def bringUp (s : State) (l : Nat) (h : Hello) (gen level : Nat) : State :=
  let half := rd s R.ZL_STATUS.LANES l != 0xFF
  let s1 := wr (wr (wr s R.ZL_STATUS.STATE l (if half then 4 else 3)) R.ZL_STATUS.GEN l gen) R.ZL_STATUS.LEVEL l level
  let z := zl s1 l
  let s2 := setZl s1 l { z with settled := none, said := false, lastRx := s.tick, lastTx := s.tick }
  if rd s R.ZL_CTRL.MODE l ≠ 1 then joinRing s2 l h
  else if linked s then s2
  else
    let s3 := nameRejoin (formPair s2 h)
    if isSet s R.ZL_CTRL.EN (1 - l) ∧ rd s R.ZL_STATUS.STATE (1 - l) = 0 then report s3 0x0502 (1 - l) 0 else s3

/-- The lanes that trained: all eight, the lower or the upper four, or none usable. -/
def usable (lanes : Nat) : Nat := if lanes % 256 = 255 then 255 else if lanes % 16 = 15 then 15 else if lanes / 16 % 16 = 15 then 240 else 0

/-- A link has trained, or failed to: its latency is measured, and HELLO sent, or it comes up at the generation settled. -/
def execZlTrained (link lanes latencyNs : Nat) (s : State) : Host.Outcome State Fault Refusal :=
  if 4 ≤ link ∨ rd s R.ZL_STATUS.STATE link ≠ 1 then ok s
  else
    let u := usable lanes
    if u = 0 then ok (linkDown s link)
    else
      let s1 := wr (wr (reportIf (u != 255) s 0x0501 link lanes) R.ZL_STATUS.LANES link u) R.ZL_LATENCY.NS link (min 65535 latencyNs)
      match (zl s link).settled with
      | some (g, h) => ok (bringUp s1 link h g (min 2 h.levelMax))
      | none =>
        let s2 := wr (wr s1 R.ZL_STATUS.STATE link 2) R.ZL_STATUS.GEN link 1
        ok (sendHello (setZl s2 link { zl s2 link with trainedAt := s.tick }) link)

/-! ### Negotiation (R308, R309) -/

/-- Negotiation has failed: the link goes down (0x0505). -/
def refuseLink (s : State) (l : Nat) : State := dropLink (report s 0x0505 l 0) l

/-- The pair is refused: links 0 and 1 go down, and the part runs single (0x0C0A). -/
def refusePair (s : State) (l : Nat) : State :=
  let s1 := setRole (report s 0x0C0A l 0) 0 false
  dropLink (dropLink s1 0) 1

/-- The highest generation both ends offer; 0 for none. -/
def sharedGen (own peer : Nat) : Nat := if bit own 1 && bit peer 1 then 2 else if bit own 0 && bit peer 0 then 1 else 0

/-- The peer's identity is shown. -/
def showPeer (s : State) (l : Nat) (h : Hello) : State :=
  wr (wr s R.ZL_PEER_ID_LO.ID l (h.uid % word32)) R.ZL_PEER_ID_HI.ID l (h.uid / word32)

/-- The generation is settled: the link comes up at generation 1 at once, or retrains into generation 2. -/
def settle (s : State) (l : Nat) (h : Hello) (gen : Nat) : State :=
  let s1 := showPeer s l h
  if gen = 1 then bringUp s1 l h 1 (min 2 h.levelMax)
  else setZl (wr s1 R.ZL_STATUS.STATE l 1) l { zl s1 l with settled := some (gen, h) }

/-- The generation the other pair link runs at, or is settled on while it retrains; 0 where neither. -/
def otherGen (s : State) (o : Nat) : Nat :=
  if pairLinkUp s o then rd s R.ZL_STATUS.GEN o
  else if rd s R.ZL_CTRL.MODE o = 1 then ((zl s o).settled.map (·.1)).getD 0 else 0

/-- Links 0 and 1 run at the same generation: where one manages only generation 1, the other retrains into it (R308). -/
def alignPair (s : State) (l gen : Nat) (h : Hello) : State :=
  let o := 1 - l
  if gen = 1 ∧ otherGen s o = 2 then
    setZl (wr s R.ZL_STATUS.STATE o 1) o { zl s o with settled := some (1, (((zl s o).settled).map (·.2)).getD h) }
  else s

/-- HELLO from the peer settles the link, or refuses it. -/
def execZlHelloReceived (link : Nat) (h : Hello) (s : State) : Host.Outcome State Fault Refusal :=
  if 4 ≤ link ∨ rd s R.ZL_STATUS.STATE link ≠ 2 then ok s
  else
    let mode := rd s R.ZL_CTRL.MODE link
    let old := h.part == 0x62
    let g := if old then 1 else sharedGen (ownGens s link) h.genMask
    if (h.mode ≠ mode ∧ !old) ∨ (mode = 1 ∧ 2 ≤ link) ∨ (mode = 2 ∧ link < 2) ∨ g = 0 then ok (refuseLink s link)
    else if mode = 2 then ok (settle s link (if old then { h with levelMax := 1 } else h) g)
    else if !s.part.pair ∨ h.part ≠ s.part.code ∨ h.levelMax < 2 then ok (refusePair s link)
    else
      let g' := if otherGen s (1 - link) = 1 then 1 else g
      ok (alignPair (settle s link h g') link g' h)

/-- No HELLO within 10 ms of training: retried after 100 ms; reported once until the link comes up, as is the link a pair misses. -/
def execZlHelloTimeout (link : Nat) (s : State) : Host.Outcome State Fault Refusal :=
  let z := zl s link
  if 4 ≤ link ∨ rd s R.ZL_STATUS.STATE link ≠ 2 ∨ s.tick < z.trainedAt + 1000000 then ok s
  else
    let s1 := reportIf (!z.said) s 0x0505 link 0
    let s2 := reportIf (!z.said && decide (link < 2) && pairLinkUp s (1 - link)) s1 0x0502 link 0
    ok (dropLink (setZl s2 link { zl s2 link with said := true }) link)

/-! ### Control registers (R326) -/

/-- ZL_CTRL: ignored with CFG_REJECT while the link is up; enabling starts training, disabling ends it. -/
def execZlCtrlWrite (w : Wr) (s : State) : Host.Outcome State Fault Refusal :=
  ok (gate s w R.ZL_CTRL.reg 0 fun s l =>
    if linkUp s l then hit s R.ZL_STATUS.CFG_REJECT l
    else
      let s1 := putAll s R.ZL_CTRL.reg 0 l w.val
      if !linkWanted s1 l then showDown s1 l 0 else if linkWanted s l then s1 else wr s1 R.ZL_STATUS.STATE l 1)

/-- ZR_CTRL: ignored, with CFG_REJECT in the ring links that are up, while one is. -/
def execZrCtrlWrite (w : Wr) (s : State) : Host.Outcome State Fault Refusal :=
  ok (gate s w R.ZR_CTRL.reg 0 fun s _ =>
    let up := [2, 3].filter (linkUp s)
    if up.isEmpty then putAll s R.ZR_CTRL.reg 0 0 w.val else up.foldl (fun s l => hit s R.ZL_STATUS.CFG_REJECT l) s)

end Sys2Proof.Machine
end

