-- ==== Sys2Proof/Machine/SelfCal.lean ====
section
/-! DEFINITION. Machine/SelfCal.lean: temperature sensors, supply monitors, canaries, DRAM and SerDes tracking; life
counters, wear and the calendar (R329-R331, R341-R347, R428).
Its conventions: DEDUCED, log entry 56. -/

namespace Sys2Proof.Machine

open Sys2Proof

/-! ### Sensors (R329, R330) -/

/-- A value of an item of R329 was rejected, a bit per item in table order. -/
def selfRejected (s : State) (item : Nat) : State :=
  wr s R.CAL_SELF_STATUS.REJECTED 0 (orBit (rd s R.CAL_SELF_STATUS.REJECTED 0) item)

/-- A sensor's reading, in 0.125 °C. -/
def sensorT (s : State) (n : Nat) : Int := sext 16 (rd s (R.CAL_TEMP.TEMP.nth n) 0)

/-- A sensor is excluded. -/
def excluded (s : State) (n : Nat) : Bool := isSet s (R.CAL_TEMP.EXCLUDED.nth n) 0

/-- Mesh neighbours of a cluster: cluster c sits at column c mod 4 and row c ÷ 4. -/
def meshNeighbours (s : State) (c : Nat) : List Nat :=
  (upto (clusters s)).filter (fun d =>
    (c / 4 == d / 4 && (c + 1 == d || d + 1 == c)) || (c % 4 == d % 4 && (c + 4 == d || d + 4 == c)))

/-- A cluster's junction temperature and its sensor: its own, or the highest of its neighbours' that are not excluded;
none where all are. -/
def junction (s : State) (c : Nat) : Option (Int × Nat) :=
  if !excluded s c then some (sensorT s c, c)
  else ((meshNeighbours s c).filter (fun d => !excluded s d)).foldl (fun b d =>
    match b with
    | none => some (sensorT s d, d)
    | some (t, n) => if t < sensorT s d then some (sensorT s d, d) else some (t, n)) none

/-- T_j: the highest junction temperature over all clusters, and its sensor (R413). -/
def tjMax (s : State) : Int × Nat :=
  ((upto (clusters s)).filterMap (junction s)).foldl (fun b j => if b.1 < j.1 then j else b) ((junction s 0).getD (0, 0))

/-- A cluster whose junction temperature is unknown. -/
def unknownCluster (s : State) : Option Nat := (upto (clusters s)).find? (fun c => (junction s c).isNone)

/-- 0x0810 while some cluster's junction temperature is unknown. -/
def showUnknown (s : State) : State := environment s 0x0810 ((unknownCluster s).getD 0) 0 (unknownCluster s).isSome

/-- The median of the neighbours' readings; the lower of two middle ones. -/
def neighbourMedian (s : State) (c : Nat) : Int := lowerMedian ((meshNeighbours s c).map (sensorT s))

/-- When each cluster sensor's difference came beyond 8 K, and within 4 K: one more than the tick, 0 while it is not. -/
def trackSensor (s : State) (c : Nat) : State :=
  let d := (sensorT s c - neighbourMedian s c).natAbs
  let keep := fun (m : List (Nat × Nat)) (on : Bool) => tset 0 m c (if !on then 0 else if tget 0 m c = 0 then s.tick + 1 else tget 0 m c)
  { s with self := { s.self with far := keep s.self.far (decide (64 < d)), within := keep s.self.within (decide (d ≤ 32)) } }

/-- The records' highest junction temperature, its sensor and calendar time (R343). -/
def notePeak (s : State) : State :=
  let t := tjMax s
  let r := s.life.now
  if r.peakT < t.1 then
    let s1 := { s with life := { s.life with now := { r with peakT := t.1, peakSensor := t.2, peakTime := calNow s } } }
    wr (wr s1 R.LIFE_PEAK.TEMP 0 (wrap 16 t.1)) R.LIFE_PEAK.SENSOR 0 t.2
  else s

/-- Every 1 ms each sensor is read: its two-point trimmed reading and the field offset in force. -/
def execTempSensorRead (readings : List Int) (s : State) : Host.Outcome State Fault Refusal :=
  if !due s s.timers.sensors 100000 then ok s
  else
    let s1 := (List.zip (upto 24) readings).foldl (fun s p =>
      wr s (R.CAL_TEMP.TEMP.nth p.1) 0 (wrap 16 (p.2 + sext 8 (rd s (R.CAL_TEMP.OFFSET.nth p.1) 0))))
      { s with timers := { s.timers with sensors := s.tick } }
    ok (notePeak ((upto (clusters s1)).foldl trackSensor s1))

/-- A cluster sensor more than 8 K off its neighbours' median for 1 s is excluded. -/
def execSensorExclude (sensor : Nat) (s : State) : Host.Outcome State Fault Refusal :=
  let t := tget 0 s.self.far sensor
  if clusters s ≤ sensor ∨ excluded s sensor ∨ t = 0 ∨ s.tick + 1 < t + 100000000 then ok s
  else ok (showUnknown (report (wr s (R.CAL_TEMP.EXCLUDED.nth sensor) 0 1) 0x0806 sensor 0))

/-- An excluded sensor within 4 K for 1 h rejoins. -/
def execSensorRejoin (sensor : Nat) (s : State) : Host.Outcome State Fault Refusal :=
  let t := tget 0 s.self.within sensor
  if clusters s ≤ sensor ∨ !excluded s sensor ∨ t = 0 ∨ s.tick + 1 < t + 360000000000 then ok s
  else ok (showUnknown (wr s (R.CAL_TEMP.EXCLUDED.nth sensor) 0 0))

/-! ### Supply monitors, canaries, DRAM and SerDes (R329, R331) -/

/-- Every hour the supply monitors are calibrated: gain in 1/1000 and offset in mV, for 16 islands, VDD_CORE, VDD_SRAM and
VDD_MET. A value out of range is rejected; another is what the monitor moves toward. -/
def execSupplyMonitorCal (found : List (Nat × Int)) (s : State) : Host.Outcome State Fault Refusal :=
  if !due s s.timers.supply 360000000000 then ok s
  else ok ((List.zip (upto 19) found).foldl (fun s p =>
    if 980 ≤ p.2.1 ∧ p.2.1 ≤ 1020 ∧ p.2.2.natAbs ≤ 20 then
      { s with self := { s.self with monTargets := s.self.monTargets.filter (fun q => q.1 != p.1) ++ [(p.1, p.2.1, p.2.2)] } }
    else selfRejected (report s 0x0807 p.1 0) 1) { s with timers := { s.timers with supply := s.tick } })

/-- One step of at most n toward a target. -/
def stepTo (n : Nat) (old want : Int) : Int := clampI (old - n) (old + n) want

/-- Each second the monitors move by at most 2 mV, and 2 parts in 1000 of gain, and the sensors' offsets by 0.125 K
(DEDUCED, log entry 56). -/
def moveTrims (s : State) : State :=
  let at' : Nat → Nat × Int := fun n => ((s.self.monitors.find? (fun q => q.1 == n)).map (·.2)).getD (1000, 0)
  let ms := s.self.monTargets.map (fun q => (q.1, (stepTo 2 ((at' q.1).1 : Nat) (q.2.1 : Nat)).toNat, stepTo 2 (at' q.1).2 q.2.2))
  let kept := s.self.monitors.filter (fun q => s.self.monTargets.all (fun p => p.1 != q.1))
  s.self.offTargets.foldl (fun s p =>
    let f := R.CAL_TEMP.OFFSET.nth p.1
    wr s f 0 (wrap 8 (stepTo 1 (sext 8 (rd s f 0)) p.2)))
    { s with self := { s.self with monitors := kept ++ ms } }

/-- The required BASE for a delay ratio in 1/512: the smallest k with 1.10 + 0.0625 k ≥ ρ (1 + TARGET); none where no k is. -/
def requiredBase (rho target : Nat) : Option Nat :=
  firstSuch (fun k => decide (rho * (100 + target) * 100 ≤ (11000 + 625 * k) * 512)) 8

/-- BASE moves: up one step at once, down one after 360 evaluations that required less. -/
def moveBase (s : State) (cl : Nat) (want : Option Nat) : State :=
  let base := rd s R.CLU_MARGIN.BASE cl
  let count := fun (s : State) (n : Nat) => { s with self := { s.self with lower := tset 0 s.self.lower cl n } }
  match want with
  | none => showMargin (wr (report (count s 0) 0x0809 cl 0) R.CLU_MARGIN.BASE cl 7) cl
  | some k =>
    if base < k then showMargin (wr (count s 0) R.CLU_MARGIN.BASE cl (base + 1)) cl
    else if base = k then count s 0
    else
      let n := tget 0 s.self.lower cl + 1
      if n < 360 then count s n else showMargin (wr (count s 0) R.CLU_MARGIN.BASE cl (base - 1)) cl

/-- One cluster's canary evaluation: ρ is the highest of its paths; one outside 0.90 to 1.30, or that has moved by more
than 0.05, is rejected. The month's mean takes it. -/
def canary (s : State) (p : Nat × List Nat) : State :=
  let cl := p.1
  let rho := p.2.foldl max 0
  let old := rd s (R.CAL_CANARY.RHO.nth cl) 0
  let far := old ≠ 0 ∧ 2560 < ((rho : Int) - old).natAbs * 100
  if rho * 100 < 46080 ∨ 66560 < rho * 100 ∨ far then selfRejected (report s 0x0808 cl rho) 2
  else
    let want := requiredBase rho (rd s R.CAL_CANARY_CTRL.TARGET 0)
    let s1 := wr (wr s (R.CAL_CANARY.RHO.nth cl) 0 rho) (R.CAL_CANARY.BASE_REQ.nth cl) 0 (want.getD 7)
    let r := s1.life.hists
    moveBase { s1 with life := { s1.life with hists := { r with
      rhoSum := tset 0 r.rhoSum cl (tget 0 r.rhoSum cl + rho), rhoN := tset 0 r.rhoN cl (tget 0 r.rhoN cl + 1) } } } cl want

/-- Every 10 s the canary paths of every cluster are evaluated; delays in 1/512 of the characterised worst one. -/
def execCanaryEvaluation (delays : List (List Nat)) (s : State) : Host.Outcome State Fault Refusal :=
  if !due s s.timers.canary 1000000000 then ok s
  else ok ((List.zip (upto (clusters s)) delays).foldl canary { s with timers := { s.timers with canary := s.tick } })

/-- Every 100 ms the DRAM channels' delays are tracked, in 1/64 UI: a change beyond 1/16 UI, or a total drift beyond 1/4 UI,
is rejected; another is what the channel moves toward. -/
def execDramTrackingUpdate (changes : List Int) (s : State) : Host.Outcome State Fault Refusal :=
  if !due s s.timers.dram 10000000 then ok s
  else ok ((List.zip (upto 8) changes).foldl (fun s p =>
    let d := tget 0 s.self.driftTo p.1 + p.2
    if p.2.natAbs ≤ 4 ∧ d.natAbs ≤ 16 then { s with self := { s.self with driftTo := tset 0 s.self.driftTo p.1 d } }
    else selfRejected (report s 0x080A p.1 0) 5) { s with timers := { s.timers with dram := s.tick } })

/-- Between bursts each DRAM channel's delay moves one step of 1/64 UI toward what was accepted last (R329; one step a tick with no
command: DESIGN CHOICE, log entry 56). -/
def stepDrift (s : State) : State :=
  if s.self.driftTo = s.self.drift then s
  else { s with self := { s.self with drift := (upto 8).foldl (fun m c =>
    tset 0 m c (stepTo 1 (tget 0 s.self.drift c) (tget 0 s.self.driftTo c))) s.self.drift } }

/-- Zehorn link of a lane of R329's list: CoaXPress links 0 to 7, PCIe lanes 8 to 15, 25 GbE ports 16 and 17, Zehorn lanes 18 to 49
(DESIGN CHOICE, log entry 56). -/
def laneLink (lane : Nat) : Option Nat := if 18 ≤ lane ∧ lane < 50 then some ((lane - 18) / 8) else none

/-- A Zehorn link in service trains anew (R306); the lane of another standard is asked to retrain by that standard's own procedure,
outside the model (R329). -/
def retrain (s : State) (lane : Nat) : State :=
  match laneLink lane with
  | some l => if linkUp s l then wr (dropLink s l) R.ZL_STATUS.STATE l 1 else s
  | none => emit s (.answer 9 [lane])

/-- A link's eye height at training, or in service: below half of that at training it is rejected, and the link retrains
by its own procedure. -/
def execSerdesEqUpdate (link eye : Nat) (training : Bool) (s : State) : Host.Outcome State Fault Refusal :=
  if training then ok { s with self := { s.self with eye := tset 0 s.self.eye link eye } }
  else if tget 0 s.self.eye link ≤ 2 * eye then ok s else ok (retrain (selfRejected (report s 0x080B link eye) 4) link)

/-! ### Life counters and wear (R341-R346) -/

/-- The life window's registers show the record (R349). -/
def showLife (s : State) : State :=
  let r := s.life.now
  let s1 := wr (wr s R.LIFE_POWERED_LO.SECONDS 0 (r.powered % word32)) R.LIFE_POWERED_HI.SECONDS 0 (r.powered / word32)
  let s2 := wr (wr s1 R.LIFE_CYCLES.COUNT 0 r.cycles) R.LIFE_COOLANT.COUNT 0 r.coolant
  wr (wr (wr s2 R.LIFE_PEAK.TEMP 0 (wrap 16 r.peakT)) R.LIFE_PEAK.SENSOR 0 r.peakSensor) R.LIFE_WEAR.PPM 0 r.wear

/-- CLUSTER_TRIM of a cluster (R343). -/
def clusterTrim (s : State) (cl : Nat) : Nat :=
  rd s (R.PIPE_ISLAND.SUSPECT_STEPS.nth cl) 0 + 4 * rd s R.CLU_MARGIN.SUSPECT cl + 16 * rd s R.CLU_MARGIN.BASE cl

/-- A(V, T) of R345 at the centres of a voltage bin and a temperature bin, in the fixed point of `fx`: e to the power of
12 (V − 0.75) + 8,123.5 (1 ÷ 358.15 − 1 ÷ (T + 273.15)), V being 0.5875 + 0.025 v and T −15 + 10 t. -/
def wearRate (v t : Nat) : Nat :=
  let x : Int := (fx : Int) * (30 * v - 195) / 100 + (fx * 812350 / 35815 : Nat) - (fx * 812350 / (25815 + 1000 * t) : Nat)
  let k := x / lnTwo
  let e := expFx (x % lnTwo).toNat
  if 0 ≤ k then e * 2 ^ k.toNat else e / 2 ^ (-k).toNat

/-- Equivalent seconds of n seconds in a bin, in whole seconds (R345; which way they are rounded is a DESIGN CHOICE, log entry 55). -/
def wearGain (v t n : Nat) : Nat :=
  let a := n * wearRate v t
  a / fx + if a % fx = 0 then 0 else b2n (Config.wearUp v t n)

/-- EQ_S grows by the new seconds of each bin (R345). -/
def growWear (s : State) : State :=
  let eq := s.life.fresh.foldl (fun m p =>
    let cl := p.1 / 143
    tset 0 m cl (min (2 ^ 64 - 1) (tget 0 m cl + wearGain (p.1 % 143 / 13) (p.1 % 13) p.2))) s.life.now.eqs
  let worst := eq.foldl (fun a p => max a p.2) 0
  { s with life := { s.life with fresh := [], now := { s.life.now with eqs := eq, wear := min (word32 - 1) (worst * 1000000 / 473364000) } } }

/-- A month of powered time, a 180th of the 15-year life, has passed: each cluster's mean ρ is kept (DESIGN CHOICE, log entry 57). -/
def closeMonth (powered : Nat) (r : WearRec) : WearRec :=
  if powered < (r.month + 1) * 2629800 then r
  else
    { r with month := r.month + 1, rhoSum := [], rhoN := [], months := if 180 ≤ r.month then r.months else
        r.rhoSum.foldl (fun m p => tset 0 m (p.1 * 180 + r.month) (rneDiv (p.2 : Nat) (max 1 (tget 0 r.rhoN p.1))).toNat) r.months }

/-- What is written into the next copy of the counters. -/
def lifeRecord (s : State) : LifeRec :=
  { s.life.now with trims := (upto (clusters s)).foldl (fun m c => tset 0 m c (clusterTrim s c)) [] }

/-- QUIET_S of every core record is written, and with it the record's trailer (R344). -/
def writeQuiet (s : State) : State :=
  (upto s.part.cores).foldl (fun s c => setQuiet s c (quietTicks s c)) s

/-- A record goes to the copy not written last (R341). -/
def putCopy {α : Type} (c : Copied α) (r : α) : Copied α := ⟨r, c.newest, 1 - c.copy, (c.seq + 1) % word32⟩

/-- Counters, trims and the wear record are written; a write that fails its verification is reported. -/
def saveLife (s : State) (good : Bool) : State :=
  if good then writeQuiet { s with life := { s.life with
    counters := putCopy s.life.counters (lifeRecord s), wears := putCopy s.life.wears s.life.hists } }
  else report s 0x080C (1 - s.life.counters.copy) 0

/-- Every 60 s the counters, trims, wear and the lockout's served time are written. -/
def execLifeCountersWrite (good : Bool) (s : State) : Host.Outcome State Fault Refusal :=
  if !due s s.timers.counters 6000000000 then ok s
  else
    let s1 := growWear { s with timers := { s.timers with counters := s.tick },
                                life := { s.life with now := { s.life.now with powered := s.life.now.powered + 60 } } }
    let s2 := { s1 with life := { s1.life with hists := closeMonth s1.life.now.powered s1.life.hists }, sec := { s1.sec with served := lockServed s1, lockFrom := s1.tick } }
    ok (showLife (saveLife s2 good))

/-- Voltage bin of an island output: 25 mV from 0.575 V, 11 bins. -/
def voltBin (mv : Nat) : Nat := min 10 ((mv - 575) / 25)

/-- Temperature bin: 10 K from −20 °C, 13 bins. -/
def tempBin (t : Int) : Nat := (clampI 0 12 ((t + 160) / 80)).toNat

/-- The thermal cycle counter over T_j of the clusters in service (R346). -/
def cycleStep (s : State) (t : Int) : State :=
  let l := s.life
  if l.up then
    if l.p < t then { s with life := { l with p := t } }
    else if t ≤ l.p - 160 then
      { s with life := { l with up := false, v := t, now := { l.now with cycles := l.now.cycles + if 160 ≤ l.p - l.v then 1 else 0 } } }
    else s
  else if t < l.v then { s with life := { l with v := t } }
  else if l.v + 160 ≤ t then { s with life := { l with up := true, p := t } }
  else s

/-- One cluster in service adds a second to its bin. -/
def wearSecond (s : State) (cl : Nat) : State :=
  match junction s cl with
  | none => s
  | some j =>
    let key := cl * 143 + voltBin (rd s (R.PIPE_ISLAND.OUT_MV.nth cl) 0) * 13 + tempBin j.1
    let add := fun m => tset 0 m key (min (word32 - 1) (tget 0 m key + 1))
    { s with life := { s.life with fresh := add s.life.fresh, hists := { s.life.hists with hist := add s.life.hists.hist } } }

/-- Junction temperatures of the clusters in service. -/
def serviceJunctions (s : State) : List Int :=
  ((upto (clusters s)).filter (clusterInService s)).filterMap (fun c => (junction s c).map (·.1))

/-- Every second: the wear histograms, the thermal cycle counter, and the trims that move by the second. -/
def execWearHistogramTick (s : State) : Host.Outcome State Fault Refusal :=
  if !due s s.timers.wear 100000000 then ok s
  else
    let s1 := ((upto (clusters s)).filter (clusterInService s)).foldl wearSecond { s with timers := { s.timers with wear := s.tick } }
    ok (moveTrims (match serviceJunctions s with
      | [] => s1
      | t :: rest => cycleStep s1 (rest.foldl max t)))

/-! ### The calendar and VBAT (R347, R428) -/

/-- The calendar is set, and VALID. -/
def setCalendar (s : State) (seconds : Nat) : State :=
  wr (wr { s with rtcPhase := 0 } R.RTC_SECONDS.SECONDS 0 seconds) R.RTC_STATUS.VALID 0 1

/-- RTC_SET. -/
def execRtcSet (w : Wr) (s : State) : Host.Outcome State Fault Refusal :=
  ok (gate s w R.RTC_SET.reg 0 fun s _ => setCalendar s w.val)

/-- 0x080F, once per power-up, while the calendar is not set (R347). -/
def noteCalendar (s : State) : State :=
  if isSet s R.RTC_STATUS.VALID 0 ∨ s.life.calLost then s
  else report { s with life := { s.life with calLost := true } } 0x080F 0 0

/-- VBAT leaves 2.5 to 3.6 V: the tamper latch is set, and 0x0B11 reported (R477). Below 2.0 V the calendar is lost, reported
once per power-up. -/
def execVbatOutOfRange (mv : Nat) (s : State) : Host.Outcome State Fault Refusal :=
  if 2500 ≤ mv ∧ mv ≤ 3600 then ok s
  else
    let s1 := report (wr s R.SEC_ACCESS_STATUS.TAMPER 0 1) 0x0B11 0 mv
    if 2000 ≤ mv then ok s1
    else ok (noteCalendar (wr s1 R.RTC_STATUS.VALID 0 0))

end Sys2Proof.Machine
end

