-- ==== Sys2Proof/Machine/Thermal.lean ====
section
/-! DEFINITION. Machine/Thermal.lean: thermistors, coolant flow, thermal reactions, supply rails (R412-R414, R476, R477).
Its conventions: DEDUCED, log entry 58. -/

namespace Sys2Proof.Machine

open Sys2Proof

/-- Changes what the thermal reactions keep. -/
def thermMap (s : State) (f : Therm → Therm) : State := { s with therm := f s.therm }

/-! ### Thermistors and flow (R412, R476) -/

/-- T of R476 in 0.125 °C, of a resistance in Ω: 1 ÷ (1 ÷ 298.15 K + ln(R ÷ 10 kΩ) ÷ 3,435 K) − 273.15 K, to nearest (R476 sets no rounding
and no error of the 12-bit conversion: DESIGN CHOICE, log entry 58). -/
def ntcTemp (ohms : Nat) : Int :=
  let x : Int := (fx * 100 / 29815 : Nat) + (lnVal ohms 0 - lnVal 10000 0) / 3435
  rneDiv (800 * fx - 218520 * x) (100 * x.toNat)

/-- A thermistor's reading, none where it is open or short; one outside −20 to 80 °C is clamped. -/
def ntcReading (r : Ntc) : Option Int :=
  if 500000 < r.ohms ∨ r.ohms < 100 then none
  else if 77500 < r.ohms then some (-160) else if r.ohms < 1660 then some 640 else some (ntcTemp r.ohms)

/-- One more than the tick a condition began to hold at; 0 while it does not. -/
def sinceTick (s : State) (was : Nat) (holds : Bool) : Nat := if !holds then 0 else if was = 0 then s.tick + 1 else was

/-- A condition has held for n ticks. -/
def lastedFor (s : State) (t n : Nat) : Bool := t != 0 && decide (t + n ≤ s.tick + 1)

/-- A thermistor register shows its reading; an invalid one's is a free value (DESIGN CHOICE, log entry 1). -/
def showNtc (s : State) (f : Fld) (r : Option Int) : State :=
  match r with
  | some t => wr s f 0 (wrap 12 t)
  | none =>
    let v := fresh s
    wr v.2 f 0 v.1

/-- The flow estimate is formed: P at least 100 W, in mW here, PMBus in use and not failed, both readings valid. -/
def flowFormed (s : State) (p : Nat) : Bool :=
  decide (100000 ≤ p) && s.pace.used && !s.pace.fail && s.therm.inlet.isSome && s.therm.outlet.isSome

/-- 60 × P ÷ (3,850 × (T_out − T_in)) in 0.05 L/min, of P in mW and the difference in 0.125 K. -/
def flowUnits (p : Nat) (d : Int) : Int := rneDiv (60 * p * 8 * 20) (3850 * 1000 * d.toNat)

/-- The estimate in L/min is below 1.2. -/
def flowBelow (p : Nat) (d : Int) : Bool := decide ((60 * p * 8 * 10 : Int) < 12 * 3850 * 1000 * d)

/-- The outlet's excess over the inlet. -/
def coolantRise (s : State) : Int := s.therm.outlet.getD 0 - s.therm.inlet.getD 0

/-- FLOW, and whether it is below 1.2 L/min: 0xFF where it is not formed; a free value where the outlet is no warmer than
the inlet or the estimate exceeds what FLOW holds (DEDUCED, log entry 58). -/
def showFlow (s : State) (p : Nat) : State × Bool :=
  let d := coolantRise s
  if !flowFormed s p then (wr s R.THERM_COOLANT.FLOW 0 255, false)
  else if 0 < d ∧ flowUnits p d < 255 then (wr s R.THERM_COOLANT.FLOW 0 (flowUnits p d).toNat, flowBelow p d)
  else
    let v := fresh s
    let n := v.1 % 255
    (wr v.2 R.THERM_COOLANT.FLOW 0 n, decide (d ≤ 0) && decide (n < 24))

/-- A thermistor has been found open or short. -/
def ntcFault (s : State) (inst : Nat) (was now : Option Int) : State :=
  if now.isSome then s
  else hit (reportIf was.isSome s 0x0B08 inst 0) R.THERM_STATUS.THERMISTOR_FAULT 0

/-- 0x0B0A while a junction above 105 °C or an inlet above 50 °C still holds. -/
def limitOver (s : State) : State :=
  if s.therm.hot = 0 ∧ s.therm.inletHot = 0 then environment s 0x0B0A 0 0 false else s

/-- THERM_STATUS.STATE; a change is signalled (R454). -/
def showTherm (s : State) : State :=
  let st := if s.therm.tripped then 3 else if s.flt.env.contains 0x0B0A then 2 else if s.therm.shed then 1
    else if s.flt.env.contains 0x0B0C then 4 else 0
  if rd s R.THERM_STATUS.STATE 0 = st then s else raiseInt (wr s R.THERM_STATUS.STATE 0 st) 6

/-- Both thermistors are read and the flow is estimated. -/
def readCoolant (s : State) (inlet outlet : Ntc) (power : Nat) : State :=
  let i := ntcReading inlet
  let o := ntcReading outlet
  let s1 := ntcFault (ntcFault s 0 s.therm.inlet i) 1 s.therm.outlet o
  let s2 := showNtc (showNtc (thermMap s1 fun t => { t with inlet := i, outlet := o }) R.THERM_COOLANT.INLET i) R.THERM_COOLANT.OUTLET o
  let f := showFlow s2 (power + 1000 * rd s2 R.THERM_CTRL.OTHER_W 0)
  let out := i.any (fun t => decide (t < 120) || decide (360 < t))
  let s3 := thermMap f.1 fun t =>
    { t with inletOut := sinceTick f.1 t.inletOut out, inletHot := sinceTick f.1 t.inletHot (i.any (fun x => decide (400 < x))),
             flowLow := sinceTick f.1 t.flowLow f.2, inletSaid := t.inletSaid && out, flowSaid := t.flowSaid && f.2 }
  showTherm (limitOver s3)

/-- Every 100 ms; `power` is READ_VOUT × READ_IOUT in mW. -/
def execThermistorRead (inlet outlet : Ntc) (power : Nat) (s : State) : Host.Outcome State Fault Refusal :=
  if !due s s.timers.thermistors 10000000 then ok s
  else ok (readCoolant { s with timers := { s.timers with thermistors := s.tick } } inlet outlet power)

/-- A coolant alarm: counted, with its calendar time (R343). -/
def coolantAlarm (s : State) (code : Nat) : State :=
  let s1 := hit (report s code 0 0) R.THERM_STATUS.COOLANT_ALARM 0
  { s1 with life := { s1.life with now := { s1.life.now with coolant := s1.life.now.coolant + 1, coolantLast := calNow s1 } } }

/-- The inlet outside 15 to 45 °C, or the flow low while its alarm is enabled, for 10 s. -/
def execCoolantAlarm (s : State) : Host.Outcome State Fault Refusal :=
  let s1 := if lastedFor s s.therm.inletOut 1000000000 && !s.therm.inletSaid then
    coolantAlarm (thermMap s fun t => { t with inletSaid := true }) 0x0B06 else s
  ok (if lastedFor s1 s1.therm.flowLow 1000000000 && !s1.therm.flowSaid && isSet s1 R.THERM_CTRL.FLOW_EN 0 then
    coolantAlarm (thermMap s1 fun t => { t with flowSaid := true }) 0x0B07 else s1)

/-! ### Junction temperature (R413) -/

/-- T_j is evaluated: SHED from 100 °C, the time above 105 °C and below 95 °C, the doubt below −20 °C. -/
def checkJunction (s : State) : State :=
  let t := tjMax s
  let s1 := wr (wr s R.THERM_STATUS.TJ_MAX 0 (wrap 12 t.1)) R.THERM_STATUS.SENSOR 0 t.2
  let s2 := thermMap s1 fun x => { x with hot := sinceTick s x.hot (decide (840 < t.1)), cool := sinceTick s x.cool (decide (t.1 < 760)) }
  let s3 := if 800 ≤ t.1 ∧ !s2.therm.shed then report (thermMap s2 fun x => { x with shed := true }) 0x0B09 t.2 0 else s2
  showTherm (limitOver (environment s3 0x0B0C t.2 0 (decide (t.1 < -160))))

/-- Every 1 ms. -/
def execJunctionCheck (s : State) : Host.Outcome State Fault Refusal :=
  if !due s s.timers.junction 100000 then ok s else ok (checkJunction { s with timers := { s.timers with junction := s.tick } })

/-- T_j above 105 °C for 100 ms, or the inlet above 50 °C for 1 s: a doubt, and SHED. -/
def execThermalLimitExpiry (s : State) : Host.Outcome State Fault Refusal :=
  if lastedFor s s.therm.hot 10000000 || lastedFor s s.therm.inletHot 100000000 then
    ok (showTherm (environment (thermMap s fun t => { t with shed := true }) 0x0B0A (rd s R.THERM_STATUS.SENSOR 0) 0 true))
  else ok s

/-- T_j has stayed below 95 °C for 10 s: what was suspended resumes. -/
def execShedRelease (s : State) : Host.Outcome State Fault Refusal :=
  if s.therm.shed ∧ lastedFor s s.therm.cool 1000000000 ∧ !s.flt.env.contains 0x0B0A then
    ok (showTherm (thermMap s fun t => { t with shed := false }))
  else ok s

/-- T_j above 115 °C at the SSC's own comparator: SAFE, OPERATION off, THERM_TRIP_n low. -/
def execThermalTrip (s : State) : Host.Outcome State Fault Refusal :=
  let s1 := environment (thermMap s fun t => { t with tripped := true }) 0x0B0B 0 0 true
  let s2 := pmbus { s1 with act := { s1.act with tripLow := true } } 1 0 0
  ok (showTherm s2)

/-- THERM_CTRL (R414). -/
def execThermCtrlWrite (w : Wr) (s : State) : Host.Outcome State Fault Refusal :=
  ok (gate s w R.THERM_CTRL.reg 0 fun s _ =>
    if 120 < fval R.THERM_CTRL.OTHER_W w.val then hit s R.THERM_STATUS.CFG_REJECT 0 else putAll s R.THERM_CTRL.reg 0 0 w.val)

/-! ### Supply rails (R477) -/

/-- 0x0B0F while PWR_GOOD is high and a rail is out of its range. -/
def showRails (s : State) (rail : Nat) : State :=
  if s.pwrGood then environment s 0x0B0F rail 0 (!s.rails.isEmpty) else s

/-- A rail, by its place in R471's table, leaves its range for 10 µs or is back in it. VDD_MET (6, 7) and VBAT (8) have
reactions of their own. -/
def execSupplyRailOutOfRange (rail : Nat) (out : Bool) (s : State) : Host.Outcome State Fault Refusal :=
  if 13 ≤ rail ∨ rail = 6 ∨ rail = 7 ∨ rail = 8 then ok s
  else
    let left := s.rails.filter (· != rail)
    let s1 := { s with rails := if out then rail :: left else left }
    let s2 := if rail = 5 ∧ !out then { s1 with act := { s1.act with ioLow := false } } else s1
    ok (showRails s2 rail)

/-- VDD_MET is absent or out of range while the rest has power: Damson does not run; on a fused-off part encoder 0 counts
nothing. -/
def execVddMetLoss (s : State) : Host.Outcome State Fault Refusal :=
  if s.part.damson then ok (report (dmsPowerOff s) 0x0B10 0 0)
  else ok (reportIf (isSet s (R.FIO_ENC_CTRL.EN.nth 0) 0) (dmsMap s fun d => { d with powered := false }) 0x0B10 0 0)

/-- PWR_GOOD falls: SAFE within 10 µs, and reopened access ends (R425). If the rails hold for 1 ms, counters and records are written once more; `good` says
that write verifies. -/
def execPwrGoodDeassert (railsHold good : Bool) (s : State) : Host.Outcome State Fault Refusal :=
  let s0 := wr (wr s R.SEC_ACCESS_STATUS.JTAG_OPEN 0 0) R.SEC_ACCESS_STATUS.DBGWIN_OPEN 0 0
  let s1 := environment { s0 with pwrGood := false } 0x0B0D 0 0 true
  ok (if railsHold then saveLife s1 good else s1)

end Sys2Proof.Machine
end

