-- ==== Sys2Proof/Machine/Power.lean ====
section
/-! DEFINITION. Machine/Power.lean: power-up (R402-R404).
Its conventions: DEDUCED, log entry 59. -/

namespace Sys2Proof.Machine

open Sys2Proof

/-! ### What outlasts a power loss (R341, R347, R416, R428) -/

/-- Register fields that fuses, the life store or the VBAT domain keep (DEDUCED, log entry 59). -/
def lastingFields : List Fld :=
  [R.RTC_SECONDS.SECONDS, R.RTC_TRIM.PPM_Q2, R.RTC_STATUS.VALID, R.SEC_LIFECYCLE.STATE, R.SEC_BOOT.ROLLBACK, R.SEC_KEYS.VALID,
   R.SEC_KEYS.REVOKED, R.SEC_KEYS.PW_SLOT, R.SEC_KEYS.MGMT_SLOT, R.SEC_KEYS.CR_KEY, R.SEC_ACCESS_STATUS.TRIES,
   R.SEC_ACCESS_STATUS.LOCKOUTS, R.SEC_ACCESS_STATUS.LOCKED_OUT, R.SEC_ACCESS_STATUS.TAMPER, R.FLT_CHIME_ID.VERSION,
   R.FLT_CHIME_ID.KERNELS, R.LIFE_LOG_HEAD.NEXT, R.LIFE_LOG_HEAD.SEQ, R.CORE_EVENTS.COUNT, R.CAL_PERSIST.SLOT, R.CAL_PERSIST.EN]

/-- A stored register value that outlasts a power loss: those fields, the identity block, Damson's mailbox, which VDD_MET
powers, and the role of a retired core. -/
def outlasts (e : Nat × Nat) : Bool :=
  let off := e.1 / 16777216 / 32
  let lo := e.1 / 16777216 % 32
  decide (off < 0x1000) || (decide (0x80000 ≤ off) && decide (off < 0x90000)) ||
  lastingFields.any (fun f => f.off == off && f.lo == lo) ||
  ((R.CORE_CTRL.ROLE.off == off && R.CORE_CTRL.ROLE.lo == lo) && e.2 == 2)

/-- The copies of a record as they are found at start-up: of the two, the one with a good CRC and the higher sequence number counts as
the newest; where neither's is good, the record is zero (R341). -/
def readCopies {α : Type} (c : Copied α) (bad : List Nat) (first : Nat) (zero : α) : Copied α × α :=
  if !bad.contains (first + c.copy) then (c, c.newest)
  else if !bad.contains (first + 1 - c.copy) then (⟨c.older, c.newest, 1 - c.copy, c.seq - 1⟩, c.older)
  else (c, zero)

/-- The life store as it is read at start-up: counters and trims, the wear record, core records, Chime pack, slots, log. The counters are
written with one more power-up (R343). -/
def readLife (l : Life) (b : BootIn) : Life :=
  let c := readCopies l.counters b.copiesBad 0 LifeRec.reset
  let w := readCopies l.wears b.copiesBad 2 WearRec.reset
  let r := { c.2 with powerUps := c.2.powerUps + 1 }
  { Life.reset with
    now := r, hists := w.2, counters := putCopy c.1 r, wears := w.1,
    cores := l.cores.filter (fun p => !b.coresLost.contains p.1), log := l.log, slots := l.slots, owners := l.owners,
    packs := l.packs, packAt := l.packAt,
    chime := match l.chimeNext with
      | some n => n.2
      | none => l.chime }

/-- Fuses, flash and what the life store keeps of field access; a power-up ends what a power session held. -/
def readSec (x : Sec) : Sec :=
  { x with nonce := List.replicate 32 0, nonceAt := none, response := List.replicate 32 0, password := List.replicate 64 0,
           pwLen := 0, crSession := false, lockFrom := 0 }

/-- The part at the assertion of PWR_GOOD: everything at reset but what outlasts a power loss, the host's memory and the
model's own fields. -/
def powerBase (s : State) (b : BootIn) : State :=
  { State.reset with
    part := s.part, regs := s.regs.filter outlasts, hostMem := s.hostMem, free := s.free, out := s.out,
    rowMaps := s.rowMaps, flt := { Flt.reset with releases := s.flt.releases },
    mgmt := { Mgmt.reset with nextSeq := s.mgmt.nextSeq, lastIn := s.mgmt.lastIn },
    life := readLife s.life b, rtcPhase := s.rtcPhase, dms := s.dms, sec := readSec s.sec, rails := b.railsOut, pwrGood := true,
    act := { State.reset.act with tripLow := s.act.tripLow }, pending := s.pending }

/-! ### Steps 1 to 3 (R402, R418-R420) -/

/-- Step 1: SAFE with cause 0x0D0C (R295): the registers reset so. Damson is told no reading is valid; rails out of range
are seen. -/
def bootSsc (s : State) : State := showRails (readingInvalid s) (s.rails.headD 0)

/-- A slot boots if it can be read and is bootable. -/
def slotBoots (s : State) (bad : List Nat) (n : Nat) : Bool := !bad.contains n && bootable s (fwSlot s n)

/-- The bootable slot with the higher version, A where equal. -/
def bootSlot (s : State) (bad : List Nat) : Option Nat :=
  let a := slotBoots s bad 0
  let b := slotBoots s bad 1
  if a && (!b || decide (fwVersion (fwSlot s 1) ≤ fwVersion (fwSlot s 0))) then some 0 else if b then some 1 else none

/-- Step 2: a slot boots, and the other is reported if it could not. -/
def bootFw (s : State) (bad : List Nat) (n : Nat) : State :=
  let other := slotBoots s bad (1 - n)
  wr (reportIf (!other) (showFw s n) 0x0901 (1 - n) 0) R.SEC_BOOT.OTHER_VALID 0 (b2n other)

/-- Step 2 with no slot bootable: the control complex halts in PHASE 1, and Clapper is in recovery. -/
def bootHalt (s : State) : State :=
  wr (wr (report s 0x0902 0 0) R.BOOT_STATUS.PHASE 0 1) R.MGMT_STATUS.RECOVERY 0 1

/-- Burns an earlier power loss or a failed verification left open are repeated (R420, R424). -/
def repeatBurns (s : State) (burnOk : Bool) : State :=
  let s1 := match s.sec.lifeBurn with
    | some st => setLifecycle s st false
    | none => s
  match s1.sec.burn with
  | some svn => raiseRollback s1 svn burnOk
  | none => s1

/-! ### Step 4: the life store, sensors and coolant -/

/-- CLUSTER_TRIM of each cluster is in force (R343). -/
def restoreTrims (s : State) : State :=
  showIslands ((upto (clusters s)).foldl (fun s cl =>
    let v := tget 0 s.life.now.trims cl
    showMargin (wr (wr (wr s (R.PIPE_ISLAND.SUSPECT_STEPS.nth cl) 0 (bits v 0 2)) R.CLU_MARGIN.SUSPECT cl (bits v 2 2))
      R.CLU_MARGIN.BASE cl (bits v 4 3)) cl) s)

/-- The newer half of a persistence slot whose CRC is good. -/
def goodHalf (s : State) (bad : List (Nat × Nat)) (n : Nat) : Option (CalSet × Nat) :=
  let halves := s.life.slots.filter (fun h => h.slot == n)
  ((List.zip (upto halves.length) halves).find? (fun h => !bad.contains (n, h.1))).map (fun h => (h.2.set, h.2.setId))

/-- A stream's persisted set is COMMITTED, with no blend; one that cannot be read leaves reset tables (R342). -/
def restoreSet (bad : List (Nat × Nat)) (s : State) (o : Nat × Nat) : State :=
  let n := o.2 - 1
  if !s.life.slots.any (fun h => h.slot == n) then s
  else match goodHalf s bad n with
  | none => report s 0x080E o.1 n
  | some c =>
    wr { s with cals := tset CalStrm.reset s.cals o.1 { CalStrm.reset with committed := c.1, pbOld := c.1, pbNew := c.1, setId := c.2 } }
      R.CAL_SET_ID.ID o.1 c.2

/-- The start-up sensor readings; the field offsets are set against the inlet while every sensor reads within 2 K of it. -/
def bootSensors (s : State) (readings : List Int) : State :=
  let s1 := (List.zip (upto 24) readings).foldl (fun s p => wr s (R.CAL_TEMP.TEMP.nth p.1) 0 (wrap 16 p.2)) s
  match s1.therm.inlet with
  | none => s1
  | some t =>
    if readings.all (fun r => decide ((r - t).natAbs ≤ 16)) then
      { s1 with self := { s1.self with offTargets := (List.zip (upto 24) readings).map (fun p => (p.1, t - p.2)) } }
    else s1

/-- Step 4. -/
def bootLife (s : State) (b : BootIn) : State :=
  let lost := fun (n : Nat) => b.copiesBad.contains n && b.copiesBad.contains (n + 1)
  let s1 := reportIf (lost 2) (reportIf (lost 0) s 0x080D 0 0) 0x080D 0 2
  let s2 := b.coresLost.foldl (fun s c => report (wr s R.CORE_EVENTS.COUNT c 0) 0x080D c 1) s1
  let s3 := s2.life.owners.foldl (restoreSet b.setsBad) (showLife (restoreTrims s2))
  let s4 := checkJunction (notePeak (bootSensors (readCoolant s3 b.inlet b.outlet b.power) b.readings))
  noteCalendar s4

/-! ### Steps 5 to 7 (R404) -/

/-- Step 5: PMBus is used only where VOUT_MODE is ULINEAR16; READ_VOUT within ±15 mV (R36). DRAM and caches are zero. -/
def bootMemory (s : State) (b : BootIn) : State :=
  match b.voutMode with
  | none => pmbusFail s 0x0B02
  | some false => hit (report { s with pace := { s.pace with used := false } } 0x0B03 0 0) R.PIPE_PACE_STATUS.PMBUS_FAULT 0
  | some true => if 15 < ((b.readMv : Int) - 750).natAbs then pmbusFail s 0x0B03 else s

/-- A remapped row of a bank, made at manufacture or in the field (R168). -/
def bootRow (s : State) (e : Nat × Nat) : State :=
  let c := e.1 / 256
  let n := e.1 % 256
  wr (wr (wr s (R.SPAD_ROWMAP.ROW.nth n) c (e.2 % 1024 - 1)) (R.SPAD_ROWMAP.VALID.nth n) c 1) (R.SPAD_ROWMAP.SOURCE.nth n) c
    (e.2 / 1024)

/-- A core that is present is brought ON with its bank groups; a retired one stays RETIRED. -/
def bootCore (s : State) (c : Nat) : State :=
  if rd s R.CORE_CTRL.ROLE c = 2 then wr (wr s R.CORE_STATE.ROLE c 2) R.CORE_STATE.STATE c coreRetired
  else
    let s1 := wr (wr s R.CORE_CTRL.EN c 1) R.CORE_STATE.STATE c coreIdle
    let s2 := wr s1 R.CORE_STATE.SUSPECT c (b2n (rd s R.CORE_EVENTS.COUNT c == 2))
    (upto 4).foldl (fun s g => setGroup s c g 2) s2

/-- A core that fails its start-up run: each failure is captured (R288) and charged; one not thereby retired that fails twice stays OFF. -/
def bootFail (s : State) (f : BootFail) : State :=
  let code := if f.kernel.isSome then 0x0133 else 0x0132
  let charged := fun (s : State) =>
    if rd s R.CORE_CTRL.ROLE f.core = 2 then s
    else
      let what := f.kernel.elim (captureBytes code f.core 1 0 0 0 0 0 (f.seed % word32) (s.tick % word32) [])
        (fun n => captureBytes code f.core 2 n 0 0 0 0 0 (s.tick % word32) [])
      charge (capture (report s code f.core (f.kernel.getD 0)) f.core what) f.core code 3 0
  if !present s f.core ∨ rd s R.CORE_CTRL.ROLE f.core = 2 then s
  else
    let s1 := charged s
    if !f.again then s1
    else
      let s2 := charged s1
      if rd s2 R.CORE_CTRL.ROLE f.core = 2 then s2
      else
        let s3 := (upto 4).foldl (fun s g => setGroup s f.core g 0) (wr s2 R.CORE_STATE.STATE f.core coreOff)
        report (wr s3 R.CORE_CTRL.EN f.core 0) 0x013C f.core 0

/-- The Chime kernels that fail on 3 or more cores are withdrawn (R287, R404). -/
def bootWithdrawn (s : State) (fails : List BootFail) : List Nat :=
  (s.life.chime.map (·.number)).filter (fun n =>
    decide (3 ≤ ((fails.filter (fun f => f.kernel == some n && present s f.core)).map (·.core)).eraseDups.length))

/-- The installed pack's kernels are in the rounds. -/
def bootChime (s : State) : State :=
  if s.life.chime.isEmpty then s else showKernels s

/-- Step 6: cores, row maps, spares, and the start-up Chime run. -/
def bootCores (s : State) (b : BootIn) : State :=
  let s1 := (upto s.part.cores).foldl bootCore (s.rowMaps.foldl bootRow (bootChime s))
  let s2 := b.spareBad.foldl (fun s p => wr s (R.SPAD_ROWMAP.SPARE_BAD.nth (p.2 % 256)) p.1 1) s1
  let gone := bootWithdrawn s2 b.fails
  let s3 := gone.foldl (fun s k => hit (report s 0x0134 k 0) R.FLT_TEST_STATUS.WITHDRAWN 0) { s2 with flt := { s2.flt with withdrawn := gone } }
  let fails := b.fails.filter (fun f => !f.kernel.any gone.contains)
  let s4 := fails.foldl bootFail s3
  { s4 with flt := { s4.flt with passed := (upto s4.part.cores).filter (inService s4),
                                 failedRun := fails.map (fun f => (f.core, if f.again then 2 else 1)) } }

/-- The thermal cycle counter begins at the highest junction temperature over the clusters in service (R346). -/
def bootCycles (s : State) : State :=
  match serviceJunctions s with
  | [] => s
  | t :: rest => { s with life := { s.life with up := true, p := rest.foldl max t, v := rest.foldl max t } }

/-- Step 7: READY. Time has passed on both counts; without a field reference the field count stands (R32, R477). -/
def bootReady (s : State) (b : BootIn) : State :=
  let ssc := b.ms * 25000
  let s1 := { s with sscCount := ssc, tick := if b.fieldRef then b.ms * 100000 else 0 }
  let s2 := { s1 with flt := { s1.flt with kickAt := ssc, roundAt := s1.tick } }
  let s3 := wr (wr s2 R.BOOT_STATUS.CORES_PASSED 0 s2.flt.passed.length) R.BOOT_STATUS.BOOT_MS 0 (min 65535 b.ms)
  let s4 := if b.fieldRef then s3 else fieldLoss s3 ssc
  raiseInt (showPool (wr s4 R.BOOT_STATUS.PHASE 0 6)) 2

/-- The power-up sequence from PWR_GOOD to READY, or to the halt of step 2. -/
def powerUp (s : State) (b : BootIn) : State :=
  let s1 := bootSsc (powerBase s b)
  match bootSlot s1 b.flashBad with
  | none => bootHalt s1
  | some n =>
    let s2 := repeatBurns (setStandby (bootFw s1 b.flashBad n) b.standby) b.burnOk
    bootReady (bootCycles (bootCores (bootMemory (bootLife s2 b) b) b)) b

/-- PWR_GOOD is asserted (R402); no edge while it is asserted already. -/
def execPwrGoodAssert (b : BootIn) (s : State) : Host.Outcome State Fault Refusal :=
  if s.pwrGood then ok s else ok (powerUp s b)

/-- A power-up step exceeds its bound; the sequence continues. -/
def execBootStepOverrun (step : Nat) (s : State) : Host.Outcome State Fault Refusal := ok (report s 0x0B0E step 0)

end Sys2Proof.Machine
end

