-- ==== Sys2Proof/Machine/Clapper.lean ====
section
/-! DEFINITION. Machine/Clapper.lean: the management protocol: datagrams, report sending, Clapper's commands (R430-R438,
R288).
Its conventions: DEDUCED, log entries 60, 61, 62. -/

namespace Sys2Proof.Machine

open Sys2Proof

/-- Changes what the management protocol keeps. -/
def mgmtMap (s : State) (f : Mgmt → Mgmt) : State := { s with mgmt := f s.mgmt }

/-! ### Datagrams (R431) -/

/-- Datagrams an ACK covers are freed; a capture record is, once every fragment of it is (R433). The peer is not silent. -/
def coverAck (s : State) (ack : Nat) : State :=
  let held := s.mgmt.held.filter (fun g => decide (ack < g.seq))
  let s1 := mgmtMap s fun m => { m with held := held, lastAck := s.tick + 1, silent := false }
  let caps := s.flt.captures.filter (fun c => held.any (fun g => g.kind == 2 && fieldLE g.body 0 4 == c.number))
  wr { s1 with flt := { s1.flt with captures := caps } } R.MGMT_STATUS.PEER_OK 0 1

/-- A datagram that is not accepted: dropped and counted, reported once a second at most. -/
def dropDatagram (s : State) : State :=
  let s1 := bump s R.MGMT_CNT_AUTH_FAIL.COUNT 0
  if s.mgmt.authAt ≠ 0 ∧ s.tick + 1 < s.mgmt.authAt + 100000000 then s1
  else report (mgmtMap s1 fun m => { m with authAt := s.tick + 1 }) 0x0931 0 0

/-- A number of a datagram's header. -/
def dgField (d : InDgram) (off n : Nat) : Nat := fieldLE d.header off n

/-- SEQ. -/
def dgSeq (d : InDgram) : Nat := dgField d 4 4

/-- The tag is HMAC-SHA-256 of header and body under the management key in force; without a key none verifies. -/
def tagRight (s : State) (d : InDgram) : Bool :=
  match s.sec.mgmtKeys.getLast? with
  | none => false
  | some k => hmac256 k (d.header ++ d.body) == d.tag

/-- A datagram of this protocol whose tag verifies, whose identity is this part's and whose SEQ is above the last accepted. -/
def authentic (s : State) (d : InDgram) : Bool :=
  d.header.length == 48 && dgField d 0 2 == 0xCA94 && dgField d 2 1 == 1 && dgField d 32 2 == d.body.length && decide (d.body.length ≤ 1400) &&
    dgField d 12 8 == unique s && decide (s.mgmt.lastIn < dgSeq d) && tagRight s d

/-- An accepted datagram: its SEQ is the last accepted one, and what its ACK covers is freed. -/
def accept (s : State) (d : InDgram) : State := coverAck (mgmtMap s fun m => { m with lastIn := dgSeq d }) (dgField d 8 4)

/-- A datagram at the management port, where it is enabled: accepted and handed to `k`, or dropped. -/
def inbound (s : State) (d : InDgram) (k : State → State) : State :=
  if !isSet s R.MGMT_NET_CTRL.EN 0 then s
  else
    let s1 := wr s R.MGMT_STATUS.LINK 0 1
    if authentic s1 d then k (accept s1 d) else dropDatagram s1

/-- Clapper answers the command it executes. -/
def answerTo (s : State) (kind : Nat) (body : List Byte) : State := answerVia s s.mgmt.route kind body

/-- A REPLY: command code, result, argument. -/
def reply (s : State) (code result : Nat) (arg : List Byte) : State := answerTo s 17 (replyBody code result arg)

/-- The bytes of a datagram. -/
def dgBytes (d : InDgram) : List Byte := d.header ++ d.body ++ d.tag

/-- A COMMAND to another node of the ring is passed unchanged, tag included, as MESSAGE cells; undeliverable, it is answered with
0x0506 (R435). -/
def relay (s : State) (d : InDgram) : State :=
  let unit := dgField d 34 1
  match ringRoute s unit with
  | some l => sendMessage s l unit 7 (dgBytes d)
  | none => reply (report s 0x0506 unit 0) (fieldLE d.body 0 1) 0x0506 []

/-- A COMMAND whose UNIT names another node. -/
def forOther (s : State) (d : InDgram) : Bool := dgField d 3 1 == 16 && dgField d 34 1 != 0xFF && dgField d 34 1 != rd s R.ZR_CTRL.NODE 0

/-- A management datagram of any kind: its acceptance. A COMMAND whose UNIT names another node is relayed unverified. -/
def execMgmtDatagramReceived (d : InDgram) (s : State) : Host.Outcome State Fault Refusal :=
  if forOther s d ∧ isSet s R.MGMT_NET_CTRL.EN 0 then ok (relay (wr s R.MGMT_STATUS.LINK 0 1) d)
  else ok (inbound s d id)

/-- An ACK. -/
def execMgmtAckReceived (d : InDgram) (s : State) : Host.Outcome State Fault Refusal := ok (inbound s d id)

/-- A held datagram is sent again and counted. -/
def resend (s : State) (g : Dgram) : State := bump (putDatagram s g) R.MGMT_CNT_RESEND.COUNT 0

/-- Datagrams held for 200 ms without an ACK are sent again. -/
def execMgmtResendTimer (s : State) : Host.Outcome State Fault Refusal :=
  if !isSet s R.MGMT_NET_CTRL.EN 0 then ok s
  else
    let old := fun (g : Dgram) => decide (g.sentAt + 20000000 ≤ s.tick)
    let s1 := mgmtMap s fun m => { m with held := m.held.map (fun g => if old g then { g with sentAt := s.tick } else g) }
    ok ((s.mgmt.held.filter old).foldl resend s1)

/-- No ACK for 3 s: reported once until one comes. -/
def execMgmtPeerSilent (s : State) : Host.Outcome State Fault Refusal :=
  if s.mgmt.silent ∨ !isSet s R.MGMT_NET_CTRL.EN 0 ∨ s.tick + 1 < s.mgmt.lastAck + 300000000 then ok s
  else ok (report (wr (mgmtMap s fun m => { m with silent := true }) R.MGMT_STATUS.PEER_OK 0 0) 0x0932 0 0)

/-! ### Counters, heartbeat and life pages (R433, R434) -/

/-- The counters of the fault block and of this block. -/
def counterFields : List Fld :=
  [R.FLT_CNT_REPLAY.COUNT, R.FLT_CNT_SHADOW.COUNT, R.FLT_CNT_SHADOW_DROP.COUNT, R.FLT_CNT_SLICES.COUNT, R.FLT_CNT_EVENTS.COUNT,
   R.FLT_CNT_POOL_WAIT.COUNT, R.FLT_CNT_CAPTURE_DROP.COUNT, R.MGMT_CNT_SENT.COUNT, R.MGMT_CNT_COALESCED.COUNT,
   R.MGMT_CNT_DROP.COUNT, R.MGMT_CNT_HOST_DROP.COUNT, R.MGMT_CNT_FATAL_OVF.COUNT, R.MGMT_CNT_AUTH_FAIL.COUNT,
   R.MGMT_CNT_RESEND.COUNT]

/-- Their values, 4 bytes each. -/
def counterBytes (s : State) : List Byte := counterFields.flatMap (fun f => leBytes 4 (rd s f 0))

/-- A register's word, of its fields' stored values. -/
def storedWord (s : State) (r : RegSpec) (i : Nat) : Nat := (r.flds.map (fun f => rd s f i * 2 ^ f.lo)).foldl (· + ·) 0

/-- Every second: lifecycle, SSC_STATE, ROLE, firmware identification, and the counters. -/
def execMgmtHeartbeat (s : State) : Host.Outcome State Fault Refusal :=
  let fw := fwSlot s (rd s R.SEC_BOOT.SLOT 0)
  if !due s s.timers.heartbeat 100000000 then ok s
  else ok (sendDatagram { s with timers := { s.timers with heartbeat := s.tick } } 4 (leBytes 1 (lifecycle s) ++ leBytes 4 (storedWord s R.SSC_STATE.reg 0) ++
     leBytes 1 (rd s R.ZP_STATUS.ROLE 0) ++ leBytes 4 (rd s R.SEC_FW_VERSION.VERSION 0) ++ fwDigest fw ++ counterBytes s))

/-- n bytes the model does not hold: free values. -/
def freeBytes (s : State) (n : Nat) : List Byte × State :=
  ((upto n).map (fun i => BitVec.ofNat 8 (Config.freeNat (s.free + i))), { s with free := s.free + n })

/-- A record with its trailer: sequence number and CRC-32C (R341). -/
def withTrailer (l : List Byte) (seq : Nat) : List Byte := l ++ leBytes 4 seq ++ leBytes 4 (crc32c l)

/-- The 64-byte head and the event ring of a core's record (R344). -/
def coreRecord (s : State) (c : Nat) : List Byte :=
  let r := coreRec s c
  let e := rd s R.CORE_EVENTS.COUNT c
  let st := if rd s R.CORE_CTRL.ROLE c = 2 then 3 else e
  let head := leBytes 1 e ++ leBytes 1 st ++ leBytes 2 0 ++ leBytes 4 r.quiet ++ leBytes 4 r.alarms ++
    leBytes 4 r.replays ++ leBytes 2 r.suspicions ++ leBytes 2 r.remaps ++ leBytes 4 r.retireTime ++ leBytes 8 r.retirePowered ++
    leBytes 2 r.head ++ leBytes 30 0
  let event := fun n =>
    let l := tget [] r.events n
    leBytes 2 (at? 0 l 0) ++ leBytes 1 (at? 0 l 1) ++ leBytes 1 0 ++ leBytes 4 (at? 0 l 2) ++ leBytes 4 (at? 0 l 3) ++ leBytes 4 (at? 0 l 4)
  let l := head ++ (upto 59).flatMap event ++ leBytes 8 0
  withTrailer l r.seq

/-- The life counters' record of a sequence number (R341, R343). -/
def lifeCounters (r : LifeRec) (seq : Nat) : List Byte :=
  let l := leBytes 8 r.powered ++ leBytes 4 r.powerUps ++ leBytes 4 r.cycles ++ leBytes 2 (wrap 16 r.peakT) ++ leBytes 1 r.peakSensor ++
  leBytes 1 0 ++ leBytes 4 r.peakTime ++ leBytes 4 r.coolant ++ leBytes 4 r.coolantLast ++ leBytes 4 r.wear ++ leBytes 28 0 ++
  (upto 16).flatMap (fun c => leBytes 2 (tget 0 r.trims c)) ++ (upto 16).flatMap (fun c => leBytes 8 (tget 0 r.eqs c)) ++ leBytes 24 0
  withTrailer l seq

/-- The wear record of a sequence number (R341, R345): the UINT32 bins of each cluster, its 180 monthly delay ratios, the sums and counts
of the present month and its number (DESIGN CHOICE, log entry 61: the manual gives this record no layout). -/
def wearRecord (r : WearRec) (seq : Nat) : List Byte :=
  withTrailer ((upto (16 * 143)).flatMap (fun i => leBytes 4 (tget 0 r.hist i)) ++
    (upto (16 * 180)).flatMap (fun i => leBytes 2 (tget 0 r.months i)) ++ (upto 16).flatMap (fun c => leBytes 4 (tget 0 r.rhoSum c)) ++
    (upto 16).flatMap (fun c => leBytes 4 (tget 0 r.rhoN c)) ++ leBytes 4 r.month) seq

/-- The 64 bytes of place q of the change log's ring, none where nothing has been written there: each value of the record in 8 bytes
(R341; DESIGN CHOICE, log entry 61). -/
def logRecord (s : State) (q : Nat) : Option (List Byte) :=
  (s.life.log.reverse[(rd s R.LIFE_LOG_HEAD.NEXT 0 + 4095 - q) % 4096]?).map (fun l => slice (l.flatMap (leBytes 8) ++ leBytes 64 0) 0 64)

/-- One half of a persistence slot, 128 KiB with its trailer: the tables that do not hold reset values, in order (R341; DESIGN CHOICE, log
entry 61). -/
def halfBytes (h : Half) : List Byte :=
  let l := h.set.flatMap (·.2)
  withTrailer (l ++ List.replicate (131064 - l.length) 0) h.seq

/-- What the store holds in the regions a page may show, as offsets and bytes (R341). -/
def storePieces (s : State) (page : Nat) : List (Nat × List Byte) :=
  let l := s.life
  if page < 0x10 then []
  else if page < 0x20 then
    [(0x10000 + 32768 * l.counters.copy, lifeCounters l.counters.newest l.counters.seq),
     (0x18000 - 32768 * l.counters.copy, lifeCounters l.counters.older ((l.counters.seq + word32 - 1) % word32))]
  else if page < 0x40 then (upto 4).map (fun i => let c := 4 * (page - 0x20) + i; (0x20000 + 1024 * c, coreRecord s c))
  else if page < 0x50 then
    [(0x40000 + 32768 * l.wears.copy, wearRecord l.wears.newest l.wears.seq),
     (0x48000 - 32768 * l.wears.copy, wearRecord l.wears.older ((l.wears.seq + word32 - 1) % word32))]
  else if page < 0x90 then
    (upto 64).filterMap (fun i => let q := 64 * (page - 0x50) + i; (logRecord s q).map (fun b => (0x50000 + 64 * q, b)))
  else if page < 0x150 then l.packs.map (fun p => (0x90000 + 393216 * p.1, p.2))
  else if page < 0x350 then l.slots.map (fun h => (0x150000 + 262144 * h.slot + 131072 * h.half, halfBytes h))
  else []

/-- The part of a piece that lies in a page. -/
def inPage (page : Nat) (l : List Byte) (p : Nat × List Byte) : List Byte :=
  let b := 4096 * page
  if p.1 + p.2.length ≤ b ∨ b + 4096 ≤ p.1 then l else splice l (p.1 - b) (slice p.2 (b - p.1) (min (p.2.length - (b - p.1)) (b + 4096 - max b p.1)))

/-- A 4 KiB page of the life store (R341): what the model does not hold is free (DESIGN CHOICE, log entry 61). -/
def lifePage (s : State) (page : Nat) : List Byte × State :=
  let f := freeBytes s 4096
  ((storePieces s page).foldl (inPage page) f.1, f.2)

/-! ### Reports (R432, R437, R438) -/

/-- Number of a side in the table of R272. -/
def Side.code : Side → Nat
  | .reportOnly => 0 | .replayed => 1 | .programming => 2 | .localRepair => 3
  | .controlPath => 4 | .doubt => 5 | .refusal => 6 | .external => 7

/-- The 32 bytes of a record. -/
def Report.bytes (r : Report) : List Byte :=
  leBytes 2 r.code ++ leBytes 1 r.inst ++ leBytes 1 r.side.code ++ leBytes 4 r.count ++ leBytes 8 r.tick ++ leBytes 4 r.calFirst ++
  leBytes 4 r.calLast ++ leBytes 8 r.detail

/-- A second of the rate limit. -/
def rateSecond (s : State) : State :=
  if s.tick < s.mgmt.secAt + 100000000 then s else mgmtMap s fun m => { m with sentSec := 0, secAt := s.tick }

/-- With a slot free, occurrences that were dropped become a record that goes first. -/
def noteDropped (s : State) : State :=
  if s.repDropped = 0 ∨ 1024 ≤ s.ordQ.length then s
  else
    let cal := calNow s
    let r : Report := ⟨0x0930, 0, tableSide 0x0930, s.repDropped, s.tick, cal, cal, s.repDropped⟩
    enterWindow { s with ordQ := r :: s.ordQ, repDropped := 0 } r

/-- An ordinary record is sent once it has been queued for COALESCE_MS; 0x0930 goes first. -/
def mayGo (s : State) (r : Report) : Bool :=
  r.code == 0x0930 || decide (r.tick + rd s R.MGMT_RATE.COALESCE_MS 0 * 100000 ≤ s.tick)

/-- One REPORT datagram: at most 32 records within the rate, fatal slots first, in queue order; none to a silent peer. -/
def execReportSend (s : State) : Host.Outcome State Fault Refusal :=
  if s.mgmt.silent ∨ !isSet s R.MGMT_NET_CTRL.EN 0 then ok s
  else
    let s0 := rateSecond s
    let room := min 32 (rd s0 R.MGMT_RATE.RECORDS_PER_S 0 - s0.mgmt.sentSec)
    let fs := s0.fatalQ.take room
    let os := (s0.ordQ.takeWhile (mayGo s0)).take (room - fs.length)
    let n := fs.length + os.length
    if n = 0 then ok s0
    else
      let s1 := { s0 with fatalQ := s0.fatalQ.drop fs.length, ordQ := s0.ordQ.drop os.length }
      let s2 := sendDatagram (mgmtMap s1 fun m => { m with sentSec := m.sentSec + n }) 1 ((fs ++ os).flatMap Report.bytes)
      ok (showQueue (noteDropped (bumpBy s2 R.MGMT_CNT_SENT.COUNT 0 n)))

/-- MGMT_RATE: a rate above 2,000 records a second is ignored whole (DEDUCED, log entry 62). -/
def execMgmtRateWrite (w : Wr) (s : State) : Host.Outcome State Fault Refusal :=
  ok (gate s w R.MGMT_RATE.reg 0 fun s _ =>
    if 2000 < fval R.MGMT_RATE.RECORDS_PER_S w.val then hit s R.MGMT_STATUS.CFG_REJECT 0 else putAll s R.MGMT_RATE.reg 0 0 w.val)

/-! ### Commands (R434, R436) -/

/-- Clapper is in recovery (R419). -/
def inRecovery (s : State) : Bool := isSet s R.MGMT_STATUS.RECOVERY 0

/-- In recovery only GET_SNAPSHOT and WRITE_FIRMWARE are accepted, all else refused with 0x0914 (R434). -/
def obey (code : Nat) (k : State → State) (s : State) : State :=
  if inRecovery s ∧ code ≠ 1 ∧ code ≠ 4 then reply (report s 0x0914 0 code) code 0x0914 [] else k s

/-- A COMMAND: relayed where UNIT names another node; one that came over the ring is verified like any other, and answered the same way
back (R435). -/
def clapper (d : InDgram) (code : Nat) (k : State → State) (s : State) : Host.Outcome State Fault Refusal :=
  match s.mgmt.relayed.find? (fun x => x.2 == d) with
  | some x =>
    let s1 := mgmtMap s fun m => { m with relayed := m.relayed.erase x, route := some x.1 }
    let s2 := if authentic s1 d then obey code k (accept s1 d) else dropDatagram s1
    ok (mgmtMap s2 fun m => { m with route := none })
  | none =>
    if forOther s d then execMgmtDatagramReceived d s else ok (inbound s d (obey code k))

/-- GET_SNAPSHOT. -/
def execClapperGetSnapshot (d : InDgram) (s : State) : Host.Outcome State Fault Refusal :=
  clapper d 1 (fun s => answerTo s 5 (leBytes 1 1 ++ leBytes 4 (rd s R.SSC_STATE.ENTRIES 0) ++ counterBytes s ++
    (upto s.part.cores).flatMap (fun c => leBytes 4 (storedWord s R.CORE_EVENTS.reg c)))) s

/-- GET_LIFE_PAGE: a page in four fragments; Damson's pages are refused. -/
def execClapperGetLifePage (d : InDgram) (page : Nat) (s : State) : Host.Outcome State Fault Refusal :=
  clapper d 2 (fun s =>
    if 0x380 ≤ page then reply (report s 0x0914 0 page) 2 0x0914 []
    else
      let p := lifePage s page
      (upto 4).foldl (fun s i => answerTo s 5 (leBytes 1 2 ++ leBytes 2 page ++ leBytes 2 (1024 * i) ++ slice p.1 (1024 * i) 1024)) p.2) s

/-- The bytes staged for a command code, none where no transfer is under way. -/
def staged (s : State) (code : Nat) : List Byte := ((s.mgmt.xfers.find? (fun x => x.1 == code)).map (·.2.1)).getD []

/-- Replaces them; an empty list ends the transfer. -/
def setStaged (s : State) (code : Nat) (l : List Byte) : State :=
  mgmtMap s fun m =>
    let rest := m.xfers.filter (fun x => x.1 != code)
    { m with xfers := if l.isEmpty then rest else rest ++ [(code, l, s.tick)] }

/-- A fragment is staged, the one at offset 0 as the first of a new transfer; the final COMMAND acts if the payload is
whole, else it is refused with `bad`. -/
def transfer (s : State) (code bad : Nat) (part : XferPart) (act : State → State × Nat) : State :=
  match part with
  | .frag off data =>
    let old := if off = 0 then [] else staged s code
    let l := old ++ List.replicate (off - old.length) 0
    reply (setStaged s code (l.take off ++ data ++ l.drop (off + data.length))) code 0 (leBytes 4 off)
  | .final total =>
    let whole := total != 0 && (staged s code).length == total
    let s1 := setStaged s code []
    let t := if whole then act s1 else (report s1 bad 0 total, bad)
    reply t.1 code t.2 (leBytes 4 total)

/-- A pack's kernels would take more than 1 ms per core at the slow corner's 1.6 × 10^9 steps a second (R287, R288, R232). -/
def chimeTooLong (p : ChimePack) : Bool := decide (1600000 < (p.kernels.map (·.steps)).foldl (· + ·) 0)

/-- A Chime pack is installed: verified, above the installed version, within its limits; it is written to the slot not in use, and its kernels join the
next round (R288, R341). -/
def installChime (s : State) (p : ChimePack) (bytes : List Byte) : State × Nat :=
  if !p.sigOk || decide (p.version ≤ rd s R.FLT_CHIME_ID.VERSION 0) || chimeTooLong p || decide (393216 < bytes.length) then
    (report s 0x0139 0 p.version, 0x0139)
  else
    let at' := 1 - s.life.packAt
    let life := { s.life with chimeNext := some (p.version, p.kernels), packAt := at', packs := tset [] s.life.packs at' bytes }
    let s1 := wr { s with life := life } R.FLT_CHIME_ID.VERSION 0 p.version
    (logChange (report s1 0x013A 0 p.version) [0x013A, p.version], 0)

/-- INSTALL_CHIME. -/
def execClapperInstallChime (d : InDgram) (part : XferPart) (pack : ChimePack) (s : State) : Host.Outcome State Fault Refusal :=
  clapper d 3 (fun s => transfer s 3 0x0139 part fun t => installChime t pack (staged s 3)) s

/-- WRITE_FIRMWARE: to the slot that did not boot; in recovery to slot A, and the part then restarts by a power-up (log
entry 60). -/
def clapperFirmware (s : State) (img : List Byte) : State × Nat :=
  if inRecovery s then
    let t := writeFirmware s 0 img
    (if t.2 = 0 then { t.1 with pwrGood := false } else t.1, t.2)
  else writeFirmware s (otherSlot s) img

/-- WRITE_FIRMWARE. -/
def execClapperWriteFirmware (d : InDgram) (part : XferPart) (s : State) : Host.Outcome State Fault Refusal :=
  clapper d 4 (fun s => transfer s 4 0x0903 part fun t => clapperFirmware t (staged s 4)) s

/-- HANDOVER: answered at its step 7, or refused. -/
def execClapperHandover (d : InDgram) (s : State) : Host.Outcome State Fault Refusal :=
  clapper d 5 (fun s =>
    let t := startHandover s
    if t.2 = 0 then mgmtMap t.1 fun m => { m with waiting := m.waiting ++ [(5, m.route)] } else reply t.1 5 t.2 []) s

/-- RELEASE. -/
def execClapperRelease (d : InDgram) (safeIn : Bool) (s : State) : Host.Outcome State Fault Refusal :=
  clapper d 6 (fun s => let t := askRelease s safeIn; reply t.1 6 t.2 []) s

/-- HAZARD_CLEAR. -/
def execClapperHazardClear (d : InDgram) (core : Nat) (s : State) : Host.Outcome State Fault Refusal :=
  clapper d 7 (fun s => reply (clearHazards s core) 7 0 (leBytes 4 core)) s

/-- SET_CALENDAR. -/
def execClapperSetCalendar (d : InDgram) (seconds : Nat) (s : State) : Host.Outcome State Fault Refusal :=
  clapper d 8 (fun s => reply (setCalendar s seconds) 8 0 (leBytes 4 seconds)) s

/-- KEY_CMD: the signed command goes unchanged to the control complex. -/
def execClapperKeyCmd (d : InDgram) (c : KeyCmd) (cut : Bool) (s : State) : Host.Outcome State Fault Refusal :=
  clapper d 9 (fun s => let t := applyKey s c cut; reply t.1 9 t.2 []) s

/-- GET_NONCE: the nonce returns in REPLY. -/
def execClapperGetNonce (d : InDgram) (s : State) : Host.Outcome State Fault Refusal :=
  clapper d 10 (fun s => let t := drawNonce s; reply t 10 0 t.sec.nonce) s

/-- The code of a submission: 0x0921 where it was refused or wrong. -/
def submitCode (s t : State) : Nat := if lifecycle s ≠ 2 ∨ rd t R.FLT_LAST.CODE 0 = 0x0920 then 0 else 0x0921

/-- REOPEN, by a password or a response. -/
def execClapperReopen (d : InDgram) (way : Reopening) (scope : Nat) (s : State) : Host.Outcome State Fault Refusal :=
  clapper d 11 (fun s =>
    let t := match way with
      | .password l => submitPw (secMap s fun x => { x with password := slice l 0 64, pwLen := l.length }) scope
      | .response l => submitCr (secMap s fun x => { x with response := slice l 0 32 }) scope
    reply t 11 (submitCode s t) (leBytes 4 scope)) s

/-- A transfer idle for 60 s is discarded. -/
def execTransferIdleTimeout (code : Nat) (s : State) : Host.Outcome State Fault Refusal :=
  match s.mgmt.xfers.find? (fun x => x.1 == code) with
  | none => ok s
  | some x => if s.tick < x.2.2 + 6000000000 then ok s else ok (setStaged s code [])

end Sys2Proof.Machine
end

