-- ==== Sys2Proof/Machine/Cvu.lean ====
section
/-! DEFINITION. Machine/Cvu.lean: flits of the mesh and the check-value units (R25, R26, R267-R269).
Its conventions: DEDUCED, log entry 17. -/

namespace Sys2Proof.Machine

open Sys2Proof

/-- A unit beyond its registers. -/
def cvu (s : State) (u : Nat) : Cvu := tget Cvu.reset s.cvus u

/-- Sets it. -/
def setCvu (s : State) (u : Nat) (c : Cvu) : State := { s with cvus := tset Cvu.reset s.cvus u c }

/-- A field of a unit. -/
def cvuFld (s : State) (f : Fld) (u : Nat) : Nat := rd s (f.nth u) 0

/-- A flit passes a unit's filter at a node and direction. -/
def passes (s : State) (node : Nat) (egress : Bool) (l : Flit) (u : Nat) : Bool :=
  cvuFld s R.CVU_CTRL.EN u == 1 && cvuFld s R.CVU_CTRL.NODE u == node && cvuFld s R.CVU_CTRL.DIR u == b2n egress &&
    (cvuFld s R.CVU_CTRL.SRC_EN u == 0 || cvuFld s R.CVU_CTRL.SRC u == l.src) &&
    (cvuFld s R.CVU_CTRL.DST_EN u == 0 || cvuFld s R.CVU_CTRL.DST u == l.dst) &&
    (cvuFld s R.CVU_CTRL.CLASS_EN u == 0 || cvuFld s R.CVU_CTRL.CLASS u == l.cls) &&
    (cvuFld s R.CVU_CFG.STREAM_EN u == 0 || cvuFld s R.CVU_CFG.STREAM u == l.stream)

/-- The header a unit feeds before a flit's payload (R267). -/
def flitHeader (l : Flit) : List Byte :=
  leBytes 1 (l.stream % 32) ++ leBytes 1 l.cls ++ leBytes 3 l.seq ++ leBytes 1 (l.payload.length - 1) ++ leBytes 1 l.src ++
  leBytes 1 l.dst

/-- Windows a unit has closed since it was enabled. -/
def Cvu.closed (c : Cvu) : Nat := c.base + c.vals.length

/-- Window k of a unit, while it is kept. -/
def Cvu.window (c : Cvu) (k : Nat) : Option (Nat × List Writer) := if c.base ≤ k then c.vals[k - c.base]? else none

/-- A unit compares window k with its partner's: a difference is reported, and every share whose data crossed the window is
alarmed (R268). -/
def compareWindow (s : State) (u k : Nat) : State :=
  match (cvu s u).window k, (cvu s (cvuFld s R.CVU_CFG.PARTNER u)).window k with
  | some a, some b =>
    if a.1 = b.1 then s
    else (a.2 ++ b.2).eraseDups.foldl alarmShare (hit (report s 0x030A u 0) (R.CVU_STATUS.MISMATCH.nth u) 0)
  | _, _ => s

/-- A unit compares the windows that it and its partner have both closed. -/
def compareCvu (s : State) (u : Nat) : State :=
  let c := cvu s u
  let n := min c.closed (cvu s (cvuFld s R.CVU_CFG.PARTNER u)).closed
  let s1 := (upto (n - c.compared)).foldl (fun s i => compareWindow s u (c.compared + i)) s
  setCvu s1 u { cvu s1 u with compared := max c.compared n }

/-- The units that compare with a unit's windows: each whose PARTNER it is. -/
def comparers (s : State) (u : Nat) : List Nat :=
  (upto 16).filter (fun v => cvuFld s R.CVU_CFG.CMP_EN v == 1 && cvuFld s R.CVU_CFG.PARTNER v == u)

/-- The windows of a unit that neither it nor a comparer of it has still to compare are given up. -/
def pruneCvu (s : State) (u : Nat) : State :=
  let c := cvu s u
  let own := if cvuFld s R.CVU_CFG.CMP_EN u = 1 then c.compared else c.closed
  let n := ((comparers s u).map (fun v => (cvu s v).compared)).foldl min own - c.base
  setCvu s u { c with base := c.base + n, vals := c.vals.drop n }

/-- A unit that runs two windows ahead of its partner sets OVERRUN (R268). -/
def checkAhead (s : State) (u : Nat) : State :=
  if (cvu s (cvuFld s R.CVU_CFG.PARTNER u)).closed + 2 ≤ (cvu s u).closed then hit (report s 0x030A u 0) (R.CVU_STATUS.OVERRUN.nth u) 0 else s

/-- The present window of a unit ends: its value moves to CVU_VAL, and the check restarts. -/
def closeWindow (s : State) (u : Nat) : State :=
  let c := cvu s u
  let s1 := wr (wr s (R.CVU_VAL_LO.VALUE.nth u) 0 c.crc) (R.CVU_VAL_HI.VALUE.nth u) 0 (c.crc / word32)
  let s2 := wr (wr s1 (R.CVU_COUNT.FLITS.nth u) 0 0) (R.CVU_STATUS.WINDOWS.nth u) 0 (cvuFld s R.CVU_STATUS.WINDOWS u + 1)
  let s3 := setCvu s2 u { c with crc := 0, shares := [], vals := c.vals ++ [(c.crc, c.shares)] }
  let s4 := if cvuFld s R.CVU_CFG.CMP_EN u = 1 then checkAhead (compareCvu s3 u) u else s3
  (upto 16).foldl pruneCvu (((comparers s u).filter (· != u)).foldl compareCvu s4)

/-- The window of a unit with a flit count holds FLITS flits (R267). -/
def windowFull (s : State) (u : Nat) : Bool :=
  cvuFld s R.CVU_WINDOW.FLITS u != 0 && decide (cvuFld s R.CVU_WINDOW.FLITS u ≤ cvuFld s R.CVU_COUNT.FLITS u)

/-- A unit takes a flit that passes its filter; a full window ends before it. -/
def takeFlit (l : Flit) (owner : Option Writer) (s : State) (u : Nat) : State :=
  let s := if windowFull s u then closeWindow s u else s
  let c := cvu s u
  let gap := match c.next with
    | some n => n != l.seq % 2 ^ 24
    | none => false
  let s1 := setCvu s u { c with crc := crc64From c.crc (flitHeader l ++ l.payload), next := some ((l.seq + 1) % 2 ^ 24),
                                shares := c.shares ++ owner.toList }
  let s2 := wr s1 (R.CVU_COUNT.FLITS.nth u) 0 (cvuFld s R.CVU_COUNT.FLITS u + 1)
  if gap then hit (report s2 0x030A u 0) (R.CVU_STATUS.SEQ_GAP.nth u) 0 else s2

/-! ### Bramble (R25, R26) -/

/-- Cluster node an edge position attaches to: 16 to 31 in the order N, S, W, E (R25). -/
def edgeAt (n : Nat) : Nat :=
  if n < 20 then n - 16 else if n < 24 then n - 20 + 12 else if n < 28 then 4 * (n - 24) else 4 * (n - 28) + 3

/-- The node after `at'` on the way to `dst`: along X, then along Y, then to the edge position (R25). -/
def nextNode (at' dst : Nat) : Nat :=
  if 16 ≤ at' then edgeAt at'
  else
    let t := if 16 ≤ dst then edgeAt dst else dst
    if at' = t then dst
    else if at' % 4 < t % 4 then at' + 1 else if t % 4 < at' % 4 then at' - 1
    else if at' < t then at' + 4 else at' - 4

/-- Hops still to go: at most eight. -/
def hopsLeft (at' dst : Nat) : Nat → Nat
  | 0 => 0
  | n + 1 => if at' = dst then 0 else hopsLeft (nextNode at' dst) dst n + 1

/-- The units that watch a node in a direction take a flit. -/
def snoop (s : State) (node : Nat) (egress : Bool) (l : Flit) (owner : Option Writer) : State :=
  ((upto 16).filter (passes s node egress l)).foldl (takeFlit l owner) s

/-- The next sequence number of a source and class. -/
def flitNo (s : State) (l : Flit) : Nat := tget 0 s.flitSeq (4 * l.src + l.cls)

/-- A flit's sideband is well formed. -/
def flitOk (l : Flit) : Bool :=
  decide (l.src < 32) && decide (l.dst < 32) && l.src != l.dst && decide (l.cls < 4) && decide (l.stream < 32) &&
    decide (1 ≤ l.payload.length) && decide (l.payload.length ≤ 256) && decide (l.addr < 2 ^ 40)

/-- A flit leaves its source with the next sequence number of its class. -/
def sendFlit (s : State) (l : Flit) (owner : Option Writer) : State :=
  let f := { l with seq := flitNo s l }
  snoop { s with mesh := s.mesh ++ [⟨l.src, f⟩], flitSeq := tset 0 s.flitSeq (4 * l.src + l.cls) ((f.seq + 1) % 2 ^ 24) }
    l.src true f owner

/-- Two flits of one class from one source to one destination. -/
def sameWay (a b : Flit) : Bool := a.src == b.src && a.dst == b.dst && a.cls == b.cls

/-- A flit sent before another of its way is passed by it when that one goes on: flits of one way arrive in the order
sent, so a flit that is passed is lost (R25; DESIGN CHOICE, log entry 17). -/
def passedBy (m a : MeshFlit) : Bool :=
  sameWay a.flit m.flit && decide (hopsLeft m.node m.flit.dst 10 ≤ hopsLeft a.node m.flit.dst 10)

/-- Poisoned data reaches its destination: the words it is written to are poisoned, and the share it belongs to is alarmed
(R26). -/
def takePoison (s : State) (node : Nat) (l : Flit) (owner : Option Writer) : State :=
  let s1 := if l.cls ≠ 1 ∧ devOk s l.addr l.payload.length ∧ !inHostWin l.addr then setPoison s l.addr l.payload.length true else s
  match owner with
  | none => report s1 0x0401 node 0
  | some w =>
    match runningOn s1 w with
    | some c => shareEvent s1 c 0x0401 (pcOf s1 c) (coreAt s1 c).seq
    | none => alarmShare (report s1 0x0401 node 0) w

/-- A flit on its way arrives at the next node: a parity error poisons a data flit, on a control flit it is a control-path
failure (R26); at its destination it is delivered. -/
def moveFlit (s : State) (m : MeshFlit) (parity : Bool) (owner : Option Writer) : State :=
  let node := nextNode m.node m.flit.dst
  let f := { m.flit with poison := m.flit.poison || (parity && m.flit.cls != 3) }
  let s1 := snoop { s with mesh := (s.mesh.takeWhile (· != m)).filter (fun a => !passedBy m a) ++
    (if node = f.dst then [] else [⟨node, f⟩]) ++ (s.mesh.dropWhile (· != m)).drop 1 } node false f owner
  let s2 := reportIf (parity && f.cls == 3) s1 0x0402 node 0
  if node = f.dst ∧ f.poison then takePoison s2 node f owner else s2

/-- The flit of a source, destination, class and sequence number whose next node is `node`. -/
def arriving (s : State) (node : Nat) (l : Flit) : Option MeshFlit :=
  s.mesh.find? (fun m => sameWay m.flit l && m.flit.seq == l.seq && nextNode m.node m.flit.dst == node)

/-- A flit leaves its source, or one on its way crosses into its next node (R25, R26). -/
def execBrambleFlitHop (node : Nat) (egress : Bool) (flit : Flit) (parity : Bool) (owner : Option Writer) (s : State) :
    Host.Outcome State Fault Refusal :=
  if egress then (if flitOk flit ∧ flit.src = node then ok (sendFlit s flit owner) else ok s)
  else match arriving s node flit with
    | none => ok s
    | some m => ok (moveFlit s m parity owner)

/-- The window of a unit with a flit count is full (R267). -/
def execCvuWindowClose (unit : Nat) (s : State) : Host.Outcome State Fault Refusal :=
  if unit < 16 ∧ cvuFld s R.CVU_CTRL.EN unit = 1 ∧ windowFull s unit then ok (closeWindow s unit)
  else ok s

/-! ### Register writes (R269) -/

/-- A write of a unit's register while it is enabled is refused. -/
def cvuWrite (s : State) (w : Wr) (r : RegSpec) (unit : Nat) (k : State → State) : State :=
  gate s w r unit fun s _ => if cvuFld s R.CVU_CTRL.EN unit = 1 then report s 0x030C unit 0 else k s

/-- CVU_CTRL: a write that clears EN is always taken; one that enables a unit whose filter names no source leaves it
off. -/
def execCvuCtrlWrite (w : Wr) (unit : Nat) (s : State) : Host.Outcome State Fault Refusal :=
  ok (gate s w R.CVU_CTRL.reg unit fun s _ =>
    if cvuFld s R.CVU_CTRL.EN unit = 1 ∧ bit w.val 0 then report s 0x030C unit 0
    else if bit w.val 0 ∧ !bit w.val 14 then report (putAll s R.CVU_CTRL.reg unit 0 (clrBit w.val 0)) 0x030C unit 0
    else
      let s1 := putAll s R.CVU_CTRL.reg unit 0 w.val
      if bit w.val 0 then wr (setCvu s1 unit Cvu.reset) (R.CVU_COUNT.FLITS.nth unit) 0 0 else s1)

/-- CVU_CFG without CLOSE. -/
def execCvuCfgWrite (w : Wr) (unit : Nat) (s : State) : Host.Outcome State Fault Refusal :=
  ok (if bit w.val 13 then s else cvuWrite s w R.CVU_CFG.reg unit fun s => putAll s R.CVU_CFG.reg unit 0 w.val)

/-- CVU_WINDOW. -/
def execCvuWindowWrite (w : Wr) (unit : Nat) (s : State) : Host.Outcome State Fault Refusal :=
  ok (cvuWrite s w R.CVU_WINDOW.reg unit fun s => putAll s R.CVU_WINDOW.reg unit 0 w.val)

/-- CVU_CFG with CLOSE: an enabled unit whose FLITS is 0 ends its window; the other fields are taken only by a unit that
is off. -/
def execCvuClose (w : Wr) (unit : Nat) (s : State) : Host.Outcome State Fault Refusal :=
  ok (if !bit w.val 13 then s
    else gate s w R.CVU_CFG.reg unit fun s _ =>
      if cvuFld s R.CVU_CTRL.EN unit = 1 then (if cvuFld s R.CVU_WINDOW.FLITS unit = 0 then closeWindow s unit else s)
      else putAll s R.CVU_CFG.reg unit 0 w.val)

end Sys2Proof.Machine
end

