-- ==== Sys2Proof/Machine/HostLink.lean ====
section
/-! DEFINITION. Machine/HostLink.lean: the edges of the host link, and CoaXPress control and event packets (R375, R385,
R438, R458-R460).
Its conventions: DEDUCED, log entry 18. -/

namespace Sys2Proof.Machine

open Sys2Proof

/-- SEGMENT_REQUEST events of every channel halted on an absent segment (R260, R460). -/
def segmentEvents (s : State) : List (Nat × List Byte) :=
  ((upto 72).filter (fun c => chState s c == chHalted && rd s R.DMA_CH_FAULT.CAUSE c == 6)).map fun c =>
    (1, leBytes 4 ((rd s R.DMA_CH_FAULT_ADDR_LO.ADDR c + rd s R.DMA_CH_FAULT_ADDR_HI.ADDR c * 2 ^ 32) / 2 ^ 26) ++ leBytes 1 c ++ leBytes 3 0)

/-- The host's mailbox instance is emptied: requests that execute run on, their responses and those that wait are
discarded and counted, and pending segment requests are posted again (R460). -/
def emptyMbx (s : State) : State :=
  let m := mbxOf s 0
  let s1 := bumpBy s R.MBX_CNT_DISCARD.COUNT 0 m.rspWait.length
  let s2 := setMbx s1 0 { Mbx.reset with reqs := m.reqs.map (fun r => { r with gone := true }), evtWait := segmentEvents s }
  [R.MBX_RSP_HEAD.SEQ, R.MBX_RSP_TAIL.SEQ, R.MBX_EVT_HEAD.SEQ, R.MBX_EVT_TAIL.SEQ, R.MBX_STATUS.ERR].foldl (fun s f => wr s f 0 0) s2

/-- The host's cursor into the report queue restarts at HEAD (R438). -/
def restartCursor (s : State) : State := wr s R.MGMT_HREP_TAIL.SEQ 0 (rd s R.MGMT_HREP_HEAD.SEQ 0)

/-- The link goes down, or the host resets: nothing but the host's side changes (R385). -/
def execPcieLinkDown (hostReset : Bool) (s : State) : Host.Outcome State Fault Refusal :=
  let s1 := report (wr s R.PCIE_STATUS.UP 0 0) 0x060F 0 0
  ok (if hostReset then restartCursor (emptyMbx s1) else s1)

/-- Every output queue and input ring is disabled until it is written again. -/
def disableRings (s : State) : State :=
  (upto 32).foldl (fun s k => wr (wr s R.STRM_HQ_CFG.ENTRIES k 0) R.STRM_HIN_CFG.ENTRIES k 0) s

/-- The translation entries are cleared. -/
def clearXlat (s : State) : State :=
  (upto 64).foldl (fun s e => wr (wr (wr s (R.PCIE_XLAT_LO.VALID.nth e) 0 0) (R.PCIE_XLAT_LO.BASE.nth e) 0 0)
    (R.PCIE_XLAT_HI.BASE.nth e) 0 0) s

/-- A function-level reset clears the state that faces the host, and cancels channels 64 to 71 (R385). -/
def execFunctionLevelReset (s : State) : Host.Outcome State Fault Refusal :=
  let s1 := { s with intHeld := s.intHeld.filter (fun p => decide (32 ≤ p.1)), intLast := s.intLast.filter (fun p => decide (32 ≤ p.1)) }
  let s2 := (upto 8).foldl (fun s j => cancelCh s (64 + j)) (clearXlat s1)
  ok (report (emptyMbx (disableRings s2)) 0x060F 0 0)

/-- An uncorrectable PCIe error is an error completion of its transfer (R385). -/
def execPcieAerUncorrectable (t : Transfer) (s : State) : Host.Outcome State Fault Refusal :=
  match t with
  | .piece c i =>
    match (dmaCh s c).pieces[i]? with
    | none => ok s
    | some q => if inHostWin q.src || inHostWin q.dst then ok (failPiece s c i 4 q (!inHostWin q.src)) else ok s
  | .entry k c =>
    match nextOut (strm s k) false with
    | none => ok s
    | some o => ok (entryFails s k o c)

/-- A control packet arrives on a connection: the reply of the CXP_CONTROL that waits is written to its buffer (R375,
R458). -/
def execCxpControlPacket (port channel : Nat) (data : List Byte) (s : State) : Host.Outcome State Fault Refusal :=
  match (mbxOf s 0).reqs.find? (fun r => r.cmd == 9 && fieldLE r.args 0 1 == port) with
  | none => ok s
  | some r =>
    let a := fieldLE r.args 4 8
    ok (withHost s 0 r channel a data.length fun s =>
      let s1 := (hostParts s a data.length).foldl (fun s p =>
        { s with hostMem := memWrite s.hostMem p.1 ((data.drop p.2.1).take p.2.2) }) s
      respond s1 0 r 0 data.length [])

/-- Fragments of at most 52 bytes of an event packet (R459). -/
def eventFragments (port : Nat) : Nat → Nat → List Byte → List (List Byte)
  | 0, _, _ => []
  | n + 1, i, l =>
    let part := l.take 52
    (leBytes 1 port ++ leBytes 1 i ++ leBytes 1 (b2n (decide (l.length ≤ 52))) ++ leBytes 1 part.length ++ part) ::
      eventFragments port n (i + 1) (l.drop 52)

/-- An event packet of a connection reaches the host in CXP_EVENT events. -/
def execCxpEventPacket (port : Nat) (data : List Byte) (s : State) : Host.Outcome State Fault Refusal :=
  if port < 4 ∨ 12 ≤ port ∨ !portOn s port then ok s
  else ok ((eventFragments port (max 1 (cdiv data.length 52)) 0 data).foldl (fun s d => queueEvent s 2 d) s)

end Sys2Proof.Machine
end

