-- ==== Sys2Proof/Machine/Pair.lean ====
section
/-! DEFINITION. Machine/Pair.lean: the redundant pair: forwarded lines and their tokens, digests and the vote, roles,
changes, marks and the rejoin; cells of the ring (R305, R310-R325).
Its conventions: DEDUCED, log entries 22, 48, 49, 52. -/

namespace Sys2Proof.Machine

open Sys2Proof

/-! ### Rejoin (R324) -/

/-- The rejoin is complete (0x0C0C): the stripe named on the lowest running stream is shown (R326). -/
def rejoined (s : State) : State :=
  let s1 := { s with pair := { s.pair with rejoin := [], matched := [], left := false } }
  let low := ((upto 32).find? (running s)).getD 0
  let r := (s.pair.rejoin.find? (fun p => p.1 == low)).getD (32, 0)
  report (lastChange (setRole s1 (if rd s R.ZP_STATUS.ROLE 0 = 1 then 1 else 2) true) r.1 r.2) 0x0C0C 0 0

/-- A stream's stripe digest has matched; the rejoin completes once every stream's has (DEDUCED, log entry 49). -/
def streamMatched (s : State) (k : Nat) : State :=
  let s1 := { s with pair := { s.pair with matched := k :: s.pair.matched } }
  if s1.pair.rejoin.all (fun p => s1.pair.matched.contains p.1) then rejoined s1 else s1

/-- Digests of a stripe of an unmatched member are compared from its rejoin stripe + SETTLE on. -/
def comparing (s : State) (k : Nat) (t : Stripe) : Bool :=
  match s.pair.rejoin.find? (fun p => p.1 == k), t.pkg with
  | some p, some g => decide (p.2 + g.settle ≤ t.no) && !s.pair.matched.contains k
  | _, _ => false

/-! ### Digests and the vote (R317-R320) -/

/-- Shares whose results a digest covers. -/
def coveringShares (g : Pkg) (k : Nat) (t : Stripe) (seg : Nat) : List Share :=
  t.shares.filter (fun h => coversShare g k t seg h.crop h.idx)

/-- Output bytes of a segment: its columns of every line the stripe yields, line by line (R319; DEDUCED, log entry 49). -/
def segmentBytes (s : State) (k : Nat) (t : Stripe) (g : Pkg) (seg : Nat) : List Byte :=
  let px := g.outChans * inSize (fval R.STRM_PB_CTRL.INFMT t.pb)
  let c := segColumns g k seg
  (upto (netOut g t)).flatMap fun i => slice (stagedLine s t.place t.no i) (c.1 * px) ((c.2 - c.1) * px)

/-- The actuator decisions of a crop batch: the records of its block (R319, R393). -/
def batchDecisions (s : State) (t : Stripe) (g : Pkg) (j : Nat) : List Byte :=
  let a := t.place.decision * 256 + (t.no % 4 * 256 + 128 + j) * (16 + 16 * g.decMax)
  memBytes s.mem (a + 16) (16 * min g.decMax (memLE s.mem a 4))

/-- The results of a crop batch, where the package places them (R319; DESIGN CHOICE, log entry 41). -/
def batchResults (s : State) (t : Stripe) (g : Pkg) (j : Nat) : List Byte :=
  memBytes s.mem (t.place.results * 256 + (t.no % 4 * 128 + j) * g.cropLen) g.cropLen

/-- CRC-64 of what a share has written: a band's output; a batch's is known by its digest alone. -/
def shareCrc (s : State) (k : Nat) (t : Stripe) (g : Pkg) (h : Share) : Nat :=
  match t.map.bands[h.idx]? with
  | some b => if h.crop then 0 else crc64 (bandOutput s t.place t.place.staging k t g b)
  | none => 0

/-- The originals a vote is about: each covering share's index, the core of its latest attempt, and the CRC-64 of its output. -/
def originals (s : State) (k : Nat) (t : Stripe) (g : Pkg) (seg : Nat) : List (Nat × Nat × Nat) :=
  (coveringShares g k t seg).map fun h => (h.idx, (h.atts.getLast?.map (·.core)).getD 0, shareCrc s k t g h)

/-- Digests a stripe has: its segments and its batches. -/
def digestCount (g : Pkg) (t : Stripe) : Nat := g.segments + (t.shares.filter (·.crop)).length

/-- A digest of a stripe. -/
def segOf (l : List (Nat × Nat)) (seg : Nat) : Option Nat := (l.find? (fun p => p.1 == seg)).map (·.2)

/-- Sets one. -/
def putSegDigest (l : List (Nat × Nat)) (seg v : Nat) : List (Nat × Nat) := l.filter (fun p => p.1 != seg) ++ [(seg, v)]

/-- KIND and FIRST of a DIGEST cell whose first digest is that of a segment, of a batch (0x8000 + index), or of the stripe (0xFFFF)
(R305). -/
def digestHead (seg : Nat) : Nat × Nat := if seg = 0xFFFF then (3, 0xFFFF) else if 0x8000 ≤ seg then (2, seg - 0x8000) else (1, seg)

/-- A DIGEST cell leaves (R305). -/
def sendDigest (s : State) (k n epoch seg : Nat) (vals : List Nat) : State :=
  let h := digestHead seg
  sendPair s 4 k (leBytes 1 k ++ leBytes 1 h.1 ++ leBytes 1 vals.length ++ leBytes 1 0 ++ leBytes 4 n ++ leBytes 2 epoch ++
    leBytes 2 h.2 ++ leBytes 4 0 ++ vals.flatMap (leBytes 8))

/-- ZP_STATUS.VOTING: a vote is open on some stripe. -/
def showVoting (s : State) : State :=
  wr s R.ZP_STATUS.VOTING 0 (b2n ((upto 32).any (fun k => (strm s k).stripes.any (fun t => !t.votes.isEmpty))))

/-- A segment or batch digest differs: reported, and the shares covering it are replayed (R320). -/
def openVote (g : Pkg) (k n : Nat) (s : State) (v : SegVote) : State :=
  match stripeOf (strm s k) n with
  | none => s
  | some t =>
    let s1 := bump (report s 0x0C01 k v.seg) R.ZP_CNT_MISMATCH.COUNT 0
    let s2 := modStripe s1 k n fun t => { t with votes := t.votes ++ [v], ready := false, pReady := false, pDigest := none }
    (coveringShares g k t v.seg).foldl (fun s h => if h.clean then replay s k n h.crop h.idx else s) s2

/-- Settled digests of both members are compared: a difference opens votes; one that remains after voting is a loss of
pair agreement; on a stripe of a rejoin an agreement completes its stream. -/
def compareDigests (s : State) (k n : Nat) : State :=
  match stripeOf (strm s k) n with
  | none => s
  | some t =>
    match t.pkg with
    | none => s
    | some g =>
      if !t.ready || !t.pReady || !t.votes.isEmpty || t.pDigest.isNone then s
      else
        let same := t.pDigest == some (stripeDigest k n t.epoch t.segs)
        if !paired s then (if comparing s k t && same then streamMatched s k else s)
        else if t.voted then reportIf (!same) s 0x0C05 k n
        else
          let diff := t.segs.filterMap (fun p => match segOf t.pSegs p.1 with
            | some q => if q = p.2 then none else some ⟨p.1, p.2, q, originals s k t g p.1⟩
            | none => none)
          showVoting (diff.foldl (openVote g k n) s)

/-- A check-value window that compares has taken data of a stripe's shares and is not closed, or not yet compared (R268, R317). -/
def windowOpen (s : State) (k n : Nat) : Bool :=
  (upto 16).any fun u =>
    let mine := fun (w : Writer) => w.stream == k && w.stripe == n
    (cvuFld s R.CVU_CFG.CMP_EN u == 1 || !(comparers s u).isEmpty) &&
      ((cvu s u).shares.any mine || (cvu s u).vals.any (fun v => v.2.any mine))

/-- READY is sent with the stripe digest once every digest stands, every latest attempt is clean, no vote is open, and the stripe's
check-value windows and staging reads have closed (R317). -/
def settleStripe (s : State) (k n : Nat) : State :=
  match stripeOf (strm s k) n with
  | none => s
  | some t =>
    match t.pkg with
    | none => s
    | some g =>
      if t.ready ∨ !t.votes.isEmpty ∨ t.segs.length < digestCount g t ∨ !localReady t ∨ windowOpen s k n ∨ restaging s k n then s
      else
        let s1 := modStripe s k n fun t => { t with ready := true }
        let s2 := sendDigest s1 k n t.epoch 0xFFFF [stripeDigest k n t.epoch t.segs]
        compareDigests (sendRecord s2 3 k 0 n t.epoch 0) k n

/-- Stripes that wait for nothing but the close of a window are settled. -/
def settleAll (s : State) : State :=
  if rd s R.ZP_STATUS.ROLE 0 = 0 then s
  else (upto 32).foldl (fun s k => (((strm s k).stripes.filter (fun t => t.begun && !t.committed)).map (·.no)).foldl (fun s n => settleStripe s k n) s) s

/-- The cores whose original the replay has not confirmed: those of the bands whose output has changed, or of the batch. -/
def outvoted (s : State) (k : Nat) (t : Stripe) (g : Pkg) (v : SegVote) : List Nat :=
  (v.outs.filter (fun o => if 0x8000 ≤ v.seg then true else
    (shareOf t false o.1).all (fun h => shareCrc s k t g h != o.2.2))).map (·.2.1)

/-- The vote of a member on a segment: own original O, own replay R, the partner's original P; the cores that produced an
outvoted original are charged (R320, R289). -/
def resolveVote (s : State) (k n r : Nat) (t : Stripe) (g : Pkg) (v : SegVote) : State :=
  let s1 := showVoting (modStripe s k n fun t =>
    { t with votes := t.votes.filter (fun u => u.seg != v.seg), segs := putSegDigest t.segs v.seg r, voted := true })
  if r = v.own then report s1 0x0C03 k v.seg
  else if r = v.partner then
    (outvoted s k t g v).foldl (fun s c => charge s c 0x0C02 0 n) (bump (report s1 0x0C02 k v.seg) R.ZP_CNT_VOTE_OWN.COUNT 0)
  else report s1 0x0C04 k v.seg

/-- A segment's or batch's digest is computed over its committed output bytes once the shares covering it have ended
clean; with a vote open on it, it is the replay's value (R319, R320). -/
def execSegmentDigestCompute (stream stripe seg : Nat) (s : State) : Host.Outcome State Fault Refusal :=
  match (stripeOf (strm s stream) stripe).bind (fun t => t.pkg.map (fun g => (t, g))) with
  | none => ok s
  | some (t, g) =>
    let cover := coveringShares g stream t seg
    let known := if seg < 0x8000 then decide (seg < g.segments) else !cover.isEmpty
    if !known || !t.begun || t.committed || !allSent t || !cover.all Share.clean || rd s R.ZP_STATUS.ROLE 0 == 0 then ok s
    else
      let body := if seg < 0x8000 then segmentBytes s stream t g seg else batchResults s t g (seg - 0x8000) ++ batchDecisions s t g (seg - 0x8000)
      let d := crc64 (digestPrefix stream stripe t.epoch (seg % 0x8000) ++ body)
      match t.votes.find? (fun v => v.seg == seg) with
      | some v => ok (settleStripe (resolveVote s stream stripe d t g v) stream stripe)
      | none =>
        if (segOf t.segs seg).isSome then ok (settleStripe s stream stripe)
        else
          let s1 := modStripe s stream stripe fun t => { t with segs := putSegDigest t.segs seg d }
          ok (settleStripe (sendDigest s1 stream stripe t.epoch seg [d]) stream stripe)

/-! ### Forwarded lines (R312, R313, R317) -/

/-- One-way latency of a link in ticks, from its measure in ns. -/
def latencyTicks (s : State) (l : Nat) : Nat := rd s R.ZL_LATENCY.NS l / 10

/-- A forwarded line as the receiver holds it: its stamp is the arrival of its last cell less the latency (R312). -/
def fedLine (s : State) (k link at' no : Nat) (words : List Nat) : Line :=
  let fl := frameLines s k
  let f := if fl = 0 then 0 else no % fl
  { no := no, fline := f, stamp := at' - latencyTicks s link, enc0 := encPos s 0, enc1 := encPos s 1, words := words,
    subst := false, opens := if fl = 0 then no == 0 else f == 0, closes := fl != 0 && f + 1 == fl, filled := false }

/-- A line is here whole, and is pending; a stream that rejoins takes lines from its first one on, and the speaker takes none of a
dual-fed stream, of which it forwards its own copy (R313). -/
def takeLine (s : State) (k link at' no : Nat) (words : List Nat) : State :=
  let x := strm s k
  if !running s k ∨ no < x.ownNext ∨ (x.route = .dual ∧ !isListener s) then s
  else modStrm s k fun x => { x with fed := true, pend := x.pend ++ [(at', fedLine s k link at' no words)] }

/-- A LINE cell joins the line that comes in: complete when as many bytes have come as its header says (R312). -/
def takeLineCell (s : State) (k link at' : Nat) (data : List Byte) : State :=
  let part := (strm s k).part ++ data
  let n := fieldLE part 12 4
  if part.length < 16 + n then modStrm s k fun x => { x with part := part }
  else takeLine (modStrm s k fun x => { x with part := [] }) k link at' (fieldLE part 0 4)
    (unpackWords (rawBits (rd s R.STRM_RF_CTRL.UNPACK k)) (slice part 16 n))

/-- A token names something this member does not hold (0x0507). -/
def stray (s : State) (link : Nat) : State := report s 0x0507 link 0

/-- A committed line is released into the receiver's raw front; on a dual-fed stream its own copy is compared (R313, R317). Behind a
line whose token never came none is (R318). -/
def freeLine (s : State) (k : Nat) (l : Line) : State :=
  let x := strm s k
  let own := x.own.find? (fun o => o.no == l.no)
  let s1 := modStrm s k fun x =>
    { x with pend := x.pend.filter (fun q => q.2.no != l.no), settled := x.settled.filter (· != l.no),
             own := x.own.filter (fun o => decide (l.no < o.no)), ownNext := l.no + 1 }
  if x.hole.isSome then s1 else enterLine (reportIf ((own.map (fun o => o.words != l.words)).getD false) s1 0x0C0D k l.no) k l

/-- The pending line of the lowest number, once it is committed. -/
def firstFree (x : Strm) : Option Line :=
  match x.pend.map (·.2) with
  | [] => none
  | a :: t =>
    let l := t.foldl (fun b l => if l.no < b.no then l else b) a
    if x.settled.contains l.no then some l else none

/-- Committed lines are released in order, up to the first one that is not settled. -/
def freeLines (k : Nat) : Nat → State → State
  | 0, s => s
  | n + 1, s =>
    match firstFree (strm s k) with
    | none => s
    | some l => freeLines k n (freeLine s k l)

/-- COMMIT settles a pending line, which enters the raw front once every line before it is settled (R317). -/
def commitLine (s : State) (k link no : Nat) : State :=
  if (strm s k).pend.any (fun p => p.2.no == no) then
    freeLines k (strm s k).pend.length (modStrm s k fun x => { x with settled := no :: x.settled.filter (· != no) })
  else stray s link

/-- RETRACT discards a pending line; the source forwards its substitute itself. -/
def retractLine (s : State) (k link no : Nat) : State :=
  let x := strm s k
  if x.pend.any (fun p => p.2.no == no) && !x.settled.contains no then
    freeLines k x.pend.length
      (report (bump (modStrm s k fun x => { x with pend := x.pend.filter (fun q => q.2.no != no) }) R.ZP_CNT_RETRACT.COUNT 0) 0x0C09 k no)
  else stray s link

/-- The stripe of a line that will not come stays open: the last one, or one that the line would have opened (R318). -/
def openHole (x : Strm) (l : Line) : Strm :=
  let y := { x with hole := some l.no }
  match x.stripes.getLast? with
  | some t => if t.complete then { y with stripes := x.stripes ++ [openStripe x l], nextStripe := x.nextStripe + 1 } else y
  | none => { y with stripes := [openStripe x l], nextStripe := x.nextStripe + 1 }

/-- No token within 2 line periods of a line's last cell: a retract with no substitute, after which the stripe cannot close (R318). -/
def execLineTokenTimeout (stream line : Nat) (s : State) : Host.Outcome State Fault Refusal :=
  let x := strm s stream
  match x.pend.find? (fun p => p.2.no == line) with
  | none => ok s
  | some p =>
    if x.settled.contains line ∨ s.tick < p.1 + 2 * lpOf s stream then ok s
    else
      let s1 := modStrm s stream fun x => (if x.hole.isSome then id else (openHole · p.2)) { x with pend := x.pend.filter (fun q => q.2.no != line) }
      ok (freeLines stream x.pend.length (report s1 0x0C0E stream line))

/-! ### Tokens of stripes and roles (R317, R320, R321, R323) -/

/-- A token of a stripe that is held, of its epoch once it has begun; any other is a stray (R305, R318). -/
def withStripe (s : State) (k link n epoch : Nat) (f : State → State) : State :=
  match stripeOf (strm s k) n with
  | some t => if t.begun ∧ t.epoch % 65536 ≠ epoch then stray s link else f s
  | none => stray s link

/-- A stripe that is held, or is still to come. -/
def heldOrAhead (s : State) (k n : Nat) : Bool :=
  !running s k || (stripeOf (strm s k) n).isSome || decide ((strm s k).nextStripe ≤ n)

/-- A withdrawn digest of the partner's. -/
def retractSeg (s : State) (k n seg : Nat) : State :=
  report (bump (modStripe s k n fun t => { t with pSegs := t.pSegs.filter (fun p => p.1 != seg), pReady := false })
    R.ZP_CNT_RETRACT.COUNT 0) 0x0C09 k seg

/-- Causes after which the partner of a doubting member signals doubt too (R325). -/
def sharedCause (c : Nat) : Bool := c == 0x0D08 || c == 0x0D03 || c == 0x0D0A

/-- LEAVE: the sender is lost; only the first copy acts (R305, R321). A line missing in both members is a doubt in both where the stream
has no copy of its own (R325). -/
def takeLeave (s : State) (cause : Nat) : State :=
  if s.pair.left then s else
  let s := { s with pair := { s.pair with left := true } }
  let gone := cause == 0x0403 && (upto 32).any (fun k => (strm s k).fed && (strm s k).own.isEmpty)
  let s1 := if sharedCause cause || gone then report s cause 0 0 else s
  partnerLost s1

/-- YIELD: from a speaker the receiver becomes the speaker from the stripe it names, once it has committed the one before; from a
listener the sender is unmatched. A stripe not held is a stray (R318, R323). -/
def takeYield (s : State) (link k n : Nat) : State :=
  if !heldOrAhead s k n then stray s link
  else match rd s R.ZP_STATUS.ROLE 0 with
  | 2 =>
    let s1 := lastChange s k n
    if !running s k ∨ n ≤ firstUncommitted (strm s k) then nameRejoin (becomeSpeaker s1)
    else
      let s2 := setRole s1 2 false
      { s2 with pair := { s2.pair with yieldAt := some (k, n) } }
  | 1 => nameRejoin (setRole (lastChange s k n) 1 false)
  | _ => s

/-- Digests of the partner's, pending until READY; those of another epoch of the stripe's are strays (R305). -/
def takeDigests (s : State) (link k kind n epoch first : Nat) (vals : List Nat) : State :=
  withStripe s k link n epoch fun s => modStripe s k n fun t =>
    if kind = 3 then { t with pDigest := vals.head? }
    else
      let base := if kind = 2 then 0x8000 else 0
      { t with pSegs := (List.zip (upto vals.length) vals).foldl (fun l p => putSegDigest l (base + first + p.1) p.2) t.pSegs }

/-! ### Marks (R316) -/

/-- A stripe whose every line was transmitted before a line. -/
def OutStripe.before (o : OutStripe) (line : Nat) : Bool := decide (o.first + o.lines.length ≤ line)

/-- Stripes wholly transmitted leave the output buffer; the queue's entries they took count on (DEDUCED, log entry 52). -/
def dropMarked (s : State) (k line : Nat) : State :=
  let gone := ((strm s k).outBuf.filter (fun o => o.before line)).length
  let s1 := modStrm s k fun x => { x with outBuf := x.outBuf.filter (fun o => !o.before line) }
  showFill (if toPcie s k then wr s1 R.STRM_HQ_HEAD.SEQ k (rd s R.STRM_HQ_HEAD.SEQ k + gone) else s1) k

/-- A line the speaker transmits, and with it the lines before it. -/
def markLines (s : State) (k line : Nat) : State :=
  if !isListener s then s
  else
    let s1 := { s with pair := { s.pair with lineMarks := tset 0 s.pair.lineMarks k (max (line + 1) (tget 0 s.pair.lineMarks k)) } }
    dropMarked (modStrm s1 k fun x => { x with outBuf := x.outBuf.map (fun o =>
      { o with lines := o.lines.map (fun l => if l.no ≤ line then { l with marked := true } else l) }) }) k line

/-- A decision the speaker executes is no longer the listener's; where the listener has not committed it yet, the mark is kept (R316). -/
def markDecision (s : State) (number : Nat) : State :=
  if !isListener s then s
  else if s.act.queue.any (fun d => d.number == number) then
    { s with act := { s.act with queue := s.act.queue.filter (fun d => d.number != number) } }
  else { s with pair := { s.pair with decMarks := s.pair.decMarks.filter (· != number) ++ [number] } }

/-! ### Changes (R314, R324, R40) -/

/-- A verified package is made resident for a stream. -/
def takePackage (s : State) (k : Nat) (img : Image) (bank : Nat) : State := install s bank img
  |> fun s => modStrm s k fun x =>
    { x with pkg := some img.pkg, place := placeFor img k, bank := bank, height := img.pkg.height, swap := none }

/-- The listener verifies a package it is to swap in, and confirms (R314). -/
def takeSwap (s : State) (k e : Nat) (img : Image) : State :=
  if trailerCode s img ≠ 0 ∨ (imageCode s img [k] false 0).1 ≠ 0 then s
  else
    let b := 1 - (strm s k).bank
    let s1 := install s b img
    let s2 := modStrm s1 k fun x => { x with swap := some ⟨img.pkg, placeFor img k, b, e, some e⟩ }
    sendPair (noteChange (retileSwap s2 [k]) k e) 6 k (leBytes 4 k ++ leBytes 4 e ++ leBytes 4 0x408)

/-- The listener's confirmation makes the proposed stripe the effect stripe. -/
def confirmSwap (s : State) (k e : Nat) : State :=
  retileSwap (modStrm s k fun x => { x with swap := x.swap.map (fun w => if w.prop = e then { w with eff := some e } else w) }) [k]

/-- A stream the listener does not run yet starts with the rejoin stripe's first line; one whose open stripe lacks a line goes on with it
(R318, R324). -/
def startAtRejoin (s : State) (k r first : Nat) : State :=
  if running s k ∧ (strm s k).hole.isSome then
    modStrm s k fun x =>
      { x with hole := none, fifo := [], done := [], stripes := x.stripes.filter (·.complete), ownNext := first, nextLine := first, nextStripe := r,
               pend := x.pend.filter (fun p => decide (first ≤ p.2.no)), settled := x.settled.filter (fun n => decide (first ≤ n)) }
  else if running s k ∨ (strm s k).pkg.isNone then s
  else
    modStrm (startStream (wr s R.STRM_SRC.EN k 1) k) k fun x => { x with nextLine := first, ownNext := first, nextStripe := r }

/-- The speaker names the rejoin stripe. -/
def takeRejoin (s : State) (k r number first : Nat) : State :=
  if rd s R.ZP_STATUS.ROLE 0 ≠ 3 ∨ isSafe s then s
  else if k = 32 then rejoined s
  else
    let s1 := startAtRejoin s k r first
    { s1 with pair := { s1.pair with
        epochs := s1.pair.epochs ++ [(k, r, number)], sched := s1.pair.sched ++ [(k, r, .rejoin number first)],
        rejoin := s1.pair.rejoin.filter (fun p => p.1 != k) ++ [(k, r)], matched := s1.pair.matched.filter (· != k) } }

/-- A change of the speaker's waits for its stripe. -/
def schedule (s : State) (k e : Nat) (c : Change) : State := { s with pair := { s.pair with sched := s.pair.sched ++ [(k, e, c)] } }

/-- A CONTROL cell's change. Only the confirmation and the request go to a speaker. -/
def takeChange (s : State) (k e : Nat) (c : Change) : State :=
  match c with
  | .confirm => confirmSwap s k e
  | .request => nameRejoin { s with pair := { s.pair with left := false } }
  | _ =>
    if !isListener s then s
    else match c with
      | .reg off v => if e = 0 ∨ !running s k then applyReg k s (k, e, .reg off v)
        else schedule (modStrm s k fun x => { x with changes := x.changes ++ [off] }) k e c
      | .start => if running s k ∨ (strm s k).pkg.isNone then s else startStream (wr s R.STRM_SRC.EN k 1) k
      | .stop => if running s k then stopStream s k else s
      | .load img => if running s k then s else takePackage s k img (freeBank s)
      | .swap img => takeSwap s k e img
      | .cal tables => setCal s k { calOf s k with staged := tables, checked := withoutChart tables, eff := some e }
      | .epoch n => { s with pair := { s.pair with epochs := s.pair.epochs ++ [(k, e, n)] } }
      | .rejoin n f => takeRejoin s k e n f
      | .confirm | .request => s

/-! ### Delivery in PSEQ order (R305, R312) -/

/-- What a cell's content does at the receiver; `at'` is the tick the cell arrived at. -/
def deliver (link at' : Nat) (s : State) (m : PairMsg) : State :=
  match m with
  | .line k data => takeLineCell s k link at' data
  | .commit k no => commitLine s k link no
  | .retractLine k no => retractLine s k link no
  | .ready k n e => withStripe s k link n e fun s => compareDigests (modStripe s k n fun t => { t with pReady := true }) k n
  | .retractSeg k n e seg => withStripe s k link n e fun s => retractSeg s k n seg
  | .leave cause => takeLeave s cause
  | .yields k n => takeYield s link k n
  | .dropped k n => if !heldOrAhead s k n then stray s link else if rd s R.ZP_STATUS.ROLE 0 = 2 then setRole s 3 false else s
  | .digests k kind n e first vals => takeDigests s link k kind n e first vals
  | .nothing => s
  | .mark true _ number => markDecision s number
  | .mark false k number => markLines s k number
  | .control k e c => takeChange s k e c
  | .reserved => stray s link

/-- Cells that came ahead of their turn and are next now are delivered. -/
def drainAhead (s : State) : Nat → State
  | 0 => s
  | n + 1 =>
    let mine := s.pair.ahead.filter (fun p => p.1 == s.pair.pIn)
    if mine.isEmpty then s
    else
      let s1 := { s with pair := { s.pair with ahead := s.pair.ahead.filter (fun p => p.1 != s.pair.pIn),
                                               pIn := (s.pair.pIn + 1) % 65536 } }
      drainAhead (mine.foldl (fun s p => deliver p.2.1 p.2.2.1 s p.2.2.2) s1) n

/-- No further records of the cell taken last follow. -/
def endRecords (s : State) (l : Nat) : State := setZl s l { zl s l with taking := 0 }

/-- A cell out of its turn waits in the crossing buffer; one that waits there already, sent again on the other link, is dropped (R312).
Where the buffer is full its data is lost, and a line of a stream with it (0x0403, R32). -/
def keepAhead (s : State) (rx : Rx) (m : PairMsg) : State :=
  if !rx.more && s.pair.ahead.any (fun p => p.1 == rx.pseq) then endRecords s rx.link
  else if crossRoom s rx.link = 0 then endRecords (report s 0x0403 13 rx.link) rx.link
  else { s with pair := { s.pair with ahead := s.pair.ahead ++ [(rx.pseq, rx.link, s.tick, m)] } }

/-- A pair cell's place in the order: delivered in its turn, or kept for it; one that has been delivered is dropped, and with it its
further records (R312). A further record of a cell just delivered is delivered. -/
def inTurn (s : State) (rx : Rx) (m : PairMsg) : State :=
  if rx.pseq = s.pair.pIn then
    drainAhead (deliver rx.link s.tick { s with pair := { s.pair with pIn := (s.pair.pIn + 1) % 65536 } } m) (2 * cellRoom)
  else if (rx.pseq + 65536 - s.pair.pIn) % 65536 < 32768 then keepAhead s rx m
  else if rx.more then deliver rx.link s.tick s m else endRecords s rx.link

/-- A pair cell arrives: the link layer takes it, and it is delivered in its turn; of one it discards only the place in the order is left.
A ring link delivers in its own order. -/
def arriveCell (s : State) (rx : Rx) (m : PairMsg) : State :=
  let t := takeCell s rx
  let pass := fun (s : State) (m : PairMsg) => if 2 ≤ rx.link then deliver rx.link s.tick s m else inTurn s rx m
  match t.2 with
  | .not => if rx.stomped && linkUp s rx.link then countDrop t.1 rx.link else t.1
  | .discarded => pass t.1 .nothing
  | .delivered => pass t.1 m

/-- The content of a token, or a reserved one. -/
def tokenOr (rsv : Bool) (m : PairMsg) : PairMsg := if rsv then .reserved else m

/-- LINE: a cell of a forwarded line. -/
def execZlLineCellReceived (rx : Rx) (stream : Nat) (data : List Byte) (s : State) : Host.Outcome State Fault Refusal :=
  ok (arriveCell s rx (.line stream data))

/-- COMMIT(stream, line). -/
def execTokenCommitReceived (rx : Rx) (stream line _epoch : Nat) (rsv : Bool) (s : State) : Host.Outcome State Fault Refusal :=
  ok (arriveCell s rx (tokenOr rsv (.commit stream line)))

/-- RETRACT(stream, line). -/
def execTokenRetractLineReceived (rx : Rx) (stream line _epoch : Nat) (rsv : Bool) (s : State) : Host.Outcome State Fault Refusal :=
  ok (arriveCell s rx (tokenOr rsv (.retractLine stream line)))

/-- READY(stream, stripe). -/
def execTokenReadyReceived (rx : Rx) (stream stripe epoch : Nat) (rsv : Bool) (s : State) : Host.Outcome State Fault Refusal :=
  ok (arriveCell s rx (tokenOr rsv (.ready stream stripe epoch)))

/-- RETRACT(stream, stripe, segment). -/
def execTokenRetractSegmentReceived (rx : Rx) (stream stripe epoch seg : Nat) (rsv : Bool) (s : State) :
    Host.Outcome State Fault Refusal := ok (arriveCell s rx (tokenOr rsv (.retractSeg stream stripe epoch seg)))

/-- LEAVE(cause). -/
def execTokenLeaveReceived (rx : Rx) (cause : Nat) (rsv : Bool) (s : State) : Host.Outcome State Fault Refusal :=
  ok (arriveCell s rx (tokenOr rsv (.leave cause)))

/-- YIELD(stream, stripe). -/
def execTokenYieldReceived (rx : Rx) (stream stripe _epoch : Nat) (rsv : Bool) (s : State) : Host.Outcome State Fault Refusal :=
  ok (arriveCell s rx (tokenOr rsv (.yields stream stripe)))

/-- DROP(stream, stripe). -/
def execTokenDropReceived (rx : Rx) (stream stripe _epoch : Nat) (rsv : Bool) (s : State) : Host.Outcome State Fault Refusal :=
  ok (arriveCell s rx (tokenOr rsv (.dropped stream stripe)))

/-- DIGEST. -/
def execDigestCellReceived (rx : Rx) (stream kind stripe epoch first : Nat) (vals : List Nat) (rsv : Bool) (s : State) :
    Host.Outcome State Fault Refusal := ok (arriveCell s rx (tokenOr rsv (.digests stream kind stripe epoch first vals)))

/-- MARK. -/
def execMarkCellReceived (rx : Rx) (decision : Bool) (stream number : Nat) (s : State) : Host.Outcome State Fault Refusal :=
  ok (arriveCell s rx (.mark decision stream number))

/-- CONTROL. -/
def execControlCellReceived (rx : Rx) (stream eff : Nat) (c : Change) (s : State) : Host.Outcome State Fault Refusal :=
  ok (arriveCell s rx (.control stream eff c))

/-! ### The ring (R310, R311) -/

/-- A cell that cannot be delivered is discarded (0x0506). -/
def undeliverable (s : State) (link : Nat) : State := countDrop (report s 0x0506 link 0) link

/-- A cell for this node, or one that has come back to its sender; its sender is a node of the ring. A stomped one is discarded and
counted at its destination (R307, R311). -/
def ringCell (s : State) (rx : Rx) (h : CellHead) (k : State → State) : State :=
  if rx.link < 2 ∨ rd s R.ZL_CTRL.MODE rx.link ≠ 2 then s
  else
    let t := takeCell s rx
    let own := rd s R.ZR_CTRL.NODE 0
    match t.2 with
    | .not => if rx.stomped && linkUp s rx.link && h.dst == own then countDrop t.1 rx.link else t.1
    | .discarded => t.1
    | .delivered =>
      let s1 := wr t.1 R.ZR_STATUS.NODES 0 (orBit (rd t.1 R.ZR_STATUS.NODES 0) h.src)
      if h.src = own ∨ h.hops = 0 then undeliverable s1 rx.link else if h.dst = own then k s1 else s1

/-- A COMMAND that came over the ring waits for the control complex (R435). -/
def takeCommand (s : State) (src : Nat) (l : List Byte) : State :=
  let d : InDgram := ⟨l.take 48, (l.drop 48).take (l.length - 80), l.drop (max 48 (l.length - 32))⟩
  { s with mgmt := { s.mgmt with relayed := s.mgmt.relayed ++ [(src, d)] } }

/-- A message is whole: a COMMAND that is relayed, a REPLY on its way back, which leaves unchanged, or another, which goes to the control
complex (R310, R435). -/
def takeMessage (s : State) (src kind : Nat) (l : List Byte) : State :=
  if kind = 7 then takeCommand s src l
  else if kind = 8 then (if isSet s R.MGMT_NET_CTRL.EN 0 then emit s (.datagram l) else s)
  else emit s (.answer 7 (src :: kind :: l.map (·.toNat)))

/-- A MESSAGE cell joins what has come of its sender's message: whole when as many bytes have come as its length says (R310). -/
def takeMessageCell (s : State) (src : Nat) (data : List Byte) : State :=
  let part := tget [] s.mgmt.parts src ++ data
  let keep := fun (l : List Byte) => { s with mgmt := { s.mgmt with parts := tset [] s.mgmt.parts src l } }
  if part.length < 8 + fieldLE part 4 4 then keep part
  else takeMessage (keep []) src (fieldLE part 0 4) (slice part 8 (fieldLE part 4 4))

/-- A MESSAGE cell for this node. -/
def execMessageCellReceived (rx : Rx) (head : CellHead) (data : List Byte) (s : State) : Host.Outcome State Fault Refusal :=
  ok (ringCell s rx head fun s => takeMessageCell s head.src data)

/-- An RSTREAM cell of a line, which is pending until its token settles it. -/
def execRstreamCellReceived (rx : Rx) (head : CellHead) (data : List Byte) (s : State) : Host.Outcome State Fault Refusal :=
  ok (ringCell s rx head fun s => takeLineCell s head.stream rx.link s.tick data)

/-- Both ring links run at the same generation: cells are forwarded cut-through. -/
def cutThrough (s : State) (l : Nat) : Bool := rd s R.ZL_STATUS.GEN l == rd s R.ZL_STATUS.GEN (otherLink l)

/-- A node passes a cell on: by its other ring link, or where that is down, back by the one it came on. One hop fewer is left; a cell that
finds the crossing buffer full is lost (0x0403, R32). Cut through from a link of four lanes onto one of eight the output runs empty in
the cell (R32, R310, R311; DEDUCED, log entry 48). -/
def passOn (s : State) (l : Nat) (h : CellHead) (data : List Byte) : State :=
  let o := if linkUp s (otherLink l) then otherLink l else l
  let cut := o != l && cutThrough s l
  let s1 := if cut then bump s R.ZL_CNT_FWD.COUNT l else s
  let s2 := if cut && rd s R.ZL_STATUS.STATE l == 4 && rd s R.ZL_STATUS.STATE o == 3 then underrun s1 14 else s1
  if crossRoom s l = 0 then report s 0x0403 14 l else giveCell s2 o { h with hops := h.hops - 1 } 0 data true

/-- Cut through, a cell whose CRC does not check at the tail has left stomped, with the LSEQ of the cell that is to follow (R311). -/
def stompOn (s : State) (l : Nat) (h : CellHead) (data : List Byte) : State :=
  let o := otherLink l
  if !cutThrough s l || !linkUp s o then s
  else emit (bump s R.ZL_CNT_FWD.COUNT l)
    (.cell o (cellBytes { h with hops := h.hops - 1 } (zl s o).next (zl s o).last 0 data true) none)

/-- A cell for another node is passed on. Cut through, one that fails its CRC at the tail goes on stomped and is asked for again; a stomped
one goes on as it came. One whose HOPS reaches 0, or that is back at its sender, is discarded (R311). -/
def execRingCellForward (rx : Rx) (head : CellHead) (data : List Byte) (s : State) : Host.Outcome State Fault Refusal :=
  let l := rx.link
  let own := rd s R.ZR_CTRL.NODE 0
  if l < 2 ∨ 4 ≤ l ∨ rd s R.ZL_CTRL.MODE l ≠ 2 ∨ !linkUp s l ∨ head.dst = own then ok s
  else
    let t := takeCell s rx
    let stop := head.src == own || decide (head.hops ≤ 1)
    match t.2 with
    | .discarded => ok t.1
    | .delivered => ok (if stop then undeliverable t.1 l else passOn t.1 l head data)
    | .not =>
      if stop || !(rx.stomped || (!rx.crcOk && rx.lseq == ((zl s l).last + 1) % 2 ^ 24)) then ok t.1 else ok (stompOn t.1 l head data)

/-! ### The speaker's timers and its hand-over (R314, R323, R326) -/

/-- A swap not confirmed 2 stripe periods before its stripe is postponed to a new proposal. -/
def execSwapConfirmTimeout (stream : Nat) (s : State) : Host.Outcome State Fault Refusal :=
  let x := strm s stream
  match x.swap, (x.stripes.filter (·.begun)).getLast? with
  | some w, some t =>
    if w.eff.isSome ∨ s.tick + 2 * spOf' s stream < t.t0 + (w.prop - t.no) * spOf' s stream then ok s
    else
      let s1 := report s 0x0C10 stream w.prop
      let e := effectFor s1 stream
      ok (sendControl (noteChange (modStrm s1 stream fun x => { x with swap := some { w with prop := e } }) stream e) stream e 0x407 [])
  | _, _ => ok s

/-- ZP_CTRL.SWAP on the speaker of a matched pair: the role goes to the listener at the next stripe boundary, as a yield
without leave. -/
def execZpSwap (w : Wr) (s : State) : Host.Outcome State Fault Refusal :=
  ok (gate s w R.ZP_CTRL.reg 0 fun s _ =>
    if !bit w.val 2 ∨ rd s R.ZP_STATUS.ROLE 0 ≠ 1 ∨ !paired s then s
    else if (leaders s).isEmpty then yieldPair s 0 0 0 0
    else { s with pair := { s.pair with swap := true } })

end Sys2Proof.Machine
end

