-- ==== Sys2Proof/Machine/RegAccess.lean ====
section
/-! DEFINITION. Machine/RegAccess.lean: register reads and writes that have no row of their own, absent and unmapped offsets,
interrupt registers, the debug window (R17, R441-R455, R461).
Its conventions: DEDUCED, log entry 10. -/

namespace Sys2Proof.Machine

open Sys2Proof

/-! ### What lies at an offset (R441, R442, R446, R462) -/

/-- Windows beyond the registers of 32 bits: first offset, bytes. -/
def windows : List (Nat × Nat) :=
  [(0x58000, 0x8000), (0x71000, 0x1000), (0x80040, 64), (0x80400, 72), (0x84000, 0x4000), (0x88000, 0x8000), (0x90040, 32),
   (0x90060, 32), (0x90080, 64), (0x90100, 128), (0x90180, 48), (0x91000, 0x2000), (0xA1000, 0x800), (0xA2000, 0x800), (0xF0100, 256)]

/-- An offset lies in a window. -/
def inWindow (off : Nat) (w : Nat × Nat) : Bool := decide (w.1 ≤ off) && decide (off < w.1 + w.2)

/-- An offset names a register or lies in a window. -/
def mapped (off : Nat) : Bool := (regAt off).isSome || windows.any (inWindow off)

/-- The WINERR bit an access to an offset sets because its instance is absent; none where it is present. -/
def absentBit (s : State) (who : Requester) (off : Nat) : Option Nat :=
  match regAt off with
  | some (r, _) => if (instOf s who r.kind).isNone then some (winBit r.kind) else none
  | none =>
    if inWindow off (0x58000, 0x8000) then (if (instOf s who .calStrm).isNone then some 5 else none)
    else if inWindow off (0x71000, 0x1000) then (if 896 ≤ rd s R.LIFE_PAGESEL.PAGE (reqNo who) then some 6 else none)
    else if decide (0x80000 ≤ off) && decide (off < 0x90000) && windows.any (inWindow off) && !s.part.damson then some 7
    else none

/-- The data of a read goes to its requester (DESIGN CHOICE, log entry 6). -/
def answerRead (s : State) (who : Requester) (off v : Nat) : State := emit s (.answer 8 [reqNo who, off, v])

/-- An access that reads zero, or is ignored, and sets a bit of GLB_WIN_STATUS. -/
def badAccess (s : State) (a : Acc) (b : Nat) : State :=
  let s1 := winErr s a.who b a.off
  if a.wval.isNone then answerRead s1 a.who a.off 0 else s1

/-- An access to an absent instance. -/
def execAbsentInstanceAccess (a : Acc) (s : State) : Host.Outcome State Fault Refusal :=
  match absentBit s a.who a.off with
  | some b => ok (badAccess s a b)
  | none => ok s

/-- An access to an unmapped offset. -/
def execUnmappedOffsetAccess (a : Acc) (s : State) : Host.Outcome State Fault Refusal :=
  if mapped a.off then ok s else ok (badAccess s a 8)

/-! ### Reads (R444, R450, R454) -/

/-- Fields that show something the model keeps elsewhere: identity, the requester's own mailbox, ticks, pins, groups of
cores, time left, windows. -/
def fieldView (s : State) (who : Requester) (f : Fld) (i : Nat) : Nat :=
  let is := fun (g : Fld) => f.off == g.off && f.lo == g.lo
  let mask := fun (p : Nat → Bool) => maskOf 8 (fun b => p (8 * i + b))
  if f.acc == .wo then 0
  else if is R.ID_PART.PART then s.part.code
  else if is R.ID_PART.CORES then s.part.cores
  else if is R.ID_PART.SCHEDULED then scheduled s.part s.part.cores
  else if is R.ID_PART.DAMSON then b2n s.part.damson
  else if is R.ID_PART.PAIR then b2n s.part.pair
  else if is R.ID_MEMORY.GIB_USABLE then dramBytes s / 2 ^ 30
  else if is R.GLB_STATUS.READY then b2n (rd s R.BOOT_STATUS.PHASE 0 == 6)
  else if is R.GLB_STATUS.SAFE then b2n (isSafe s)
  else if is R.GLB_STATUS.LIFECYCLE then lifecycle s
  else if is R.GLB_STATUS.ROLE then rd s R.ZP_STATUS.ROLE 0
  else if is R.GLB_STATUS.MBX_BUSY then b2n (decide (who ≠ .control) && rd s R.MBX_STATUS.SLOT_BUSY (reqNo who) != 0)
  else if is R.GLB_STATUS.RECOVERY then rd s R.MGMT_STATUS.RECOVERY 0
  else if is R.FIO_TICK_LO.TICK then tickLo s
  else if is R.FIO_ACT_LEVEL.LEVEL then maskOf 16 (fun k => pinOut s k == 1)
  else if is R.FIO_ACT_LEVEL.HIZ then maskOf 16 (fun k => pinOut s k == 2)
  else if is R.SSC_STATE.LOCKED then rd s R.SSC_LOCK.LOCK 0
  else if is R.DMA_CH_ID.CHANNEL then i
  else if is R.DMA_CH_ID.HOST then b2n (decide (64 ≤ i))
  else if is R.DMA_CH_ID.CLUSTER then (if i < 64 then i / 4 else 0)
  else if is R.DMA_ENG_TAGS.MAIN_BUSY then tagsBusy s i false
  else if is R.DMA_ENG_TAGS.LIGHT_BUSY then tagsBusy s i true
  else if is R.DMA_ENG_TAGS.MAIN_MAX then (if i = 16 then 128 else 64)
  else if is R.CORE_ID.CORE then i
  else if is R.CORE_ID.CLUSTER then i / 8
  else if is R.CORE_PC.PC then rd s f i % 4096
  else if is R.SPAD_RING_STATE.BOUND_CONS then b2n (ringBound s i f.idx false)
  else if is R.SPAD_RING_STATE.BOUND_PROD then b2n (ringBound s i f.idx true)
  else if is R.DMA_ENG_CHAIN.BYPASS && i == 16 then 0
  else if is R.CLU_INFO.IN_SERVICE then mask (inService s)
  else if is R.CLU_INFO.SUSPECT_MASK then mask (fun c => isSet s R.CORE_STATE.SUSPECT c)
  else if is R.CLU_INFO.RETIRED_MASK then mask (fun c => rd s R.CORE_CTRL.ROLE c == 2)
  else if is R.CORE_EVENTS.HOURS_QUIET then min 23 (quietTicks s i / 360000000000)
  else if is R.ZL_ID.LINK then i
  else if is R.SEC_ACCESS_STATUS.LOCK_MIN then
    (if isSet s R.SEC_ACCESS_STATUS.LOCKED_OUT 0 then
      min 65535 (cdiv (lockTicks (rd s R.SEC_ACCESS_STATUS.LOCKOUTS 0) - lockServed s) 6000000000) else 0)
  else if is R.DBG_STATUS.OPEN then b2n (dbgOpen s)
  else rd s f i

/-- The high half of a pair for a requester: what its last read of the low half latched (R444). -/
def latched (s : State) (who : Requester) (pair : Nat) : Nat := tget 0 s.hiLatch (reqNo who * 4 + pair)

/-- A read of a low half latches the high half for the reading requester. -/
def latch (s : State) (who : Requester) (pair v : Nat) : State :=
  { s with hiLatch := tset 0 s.hiLatch (reqNo who * 4 + pair) v }

/-- The high half an offset shows: 0 steps, 1 ticks, 2 powered seconds, 3 identity. -/
def highHalf (off : Nat) : Option Nat :=
  if off = R.CORE_CNT_STEPS_HI.reg.off then some 0 else if off = R.FIO_TICK_HI.reg.off then some 1
  else if off = R.LIFE_POWERED_HI.reg.off then some 2 else if off = R.ID_UNIQUE_HI.reg.off then some 3 else none

/-- A register reads zero: the closed debug window's, Damson's without VDD_MET, and an island's of a cluster the part does
not have (R37, R461, R477). -/
def dark (s : State) (off : Nat) : Bool :=
  (decide (R.PIPE_ISLAND.reg.off + 4 * clusters s ≤ off) && decide (off < R.PIPE_ISLAND.reg.off + 64)) || (decide (0xF0000 ≤ off) && !dbgOpen s) || (decide (0x80000 ≤ off) && decide (off < 0x90000) && !s.dms.powered)

/-- Entries of equal length laid out one after the other, n of them, of those a list holds. -/
def laidOut (l : List (List Byte)) (n size : Nat) : List Byte := (upto n).flatMap (fun i => slice (l.getD i []) 0 size)

/-- What a window shows a requester, from its first byte on (R349, R362, R368, R416, R437, R439, R456, R461): the write-only ones zero. -/
def windowBytes (s : State) (who : Requester) (first : Nat) : List Byte :=
  let n := reqNo who
  let d := s.dms
  let m := mbxOf s n
  if first = 0x58000 then
    let c := calOf s (rd s R.CAL_TBLSEL.STREAM n)
    let show' := fun bank => imageOf bank (rd s R.CAL_TBLSEL.TABLE n) (rd s R.STRM_GEOM.WIDTH (rd s R.CAL_TBLSEL.STREAM n))
    let l := match rd s R.CAL_TBLSEL.BANK n with
      | 0 => stamp (show' c.committed) c.setId | 1 => show' c.staged | 2 => stamp (show' c.previous) (c.setId - 1) | _ => show' []
    slice l (32768 * rd s R.CAL_TBLSEL.PAGE n) 32768
  else if first = 0x71000 then (lifePage s (rd s R.LIFE_PAGESEL.PAGE n)).1
  else if first = 0x80040 then slice d.recordKey 0 64
  else if first = 0x80400 then (upto 9).flatMap (fun i => leBytes 8 (at? 0 d.params i))
  else if first = 0x84000 then laidOut (d.trail.drop (256 * d.trailPage)) 256 64
  else if first = 0x88000 then laidOut d.records 256 128
  else if first = 0x90040 then slice s.sec.nonce 0 32
  else if first = 0x90100 then laidOut s.sec.keyHash 4 32
  else if first = 0x90180 then fwDigest (fwSlot s (rd s R.SEC_BOOT.SLOT 0))
  else if first = 0x91000 then
    (upto 256).flatMap fun i =>
      let back := (rd s R.MGMT_HREP_HEAD.SEQ 0 + 255 - i) % 256
      slice ((s.hrep[back]?).elim [] Report.bytes) 0 32
  else if first = 0xA1000 then memBytes m.slots 0 2048
  else if first = 0xA2000 then
    (upto 16).flatMap (fun i => slice (tget [] m.rsp i) 0 64) ++ (upto 16).flatMap (fun i => slice (tget [] m.evt i) 0 64)
  else if first = 0xF0100 then s.dbgData
  else []

/-- The word a read of a window's offset returns: zero where the window is dark, or is no requester's of that kind (R443, R461). -/
def readWindow (s : State) (who : Requester) (off : Nat) : Nat :=
  match windows.find? (inWindow off) with
  | none => 0
  | some w =>
    if dark s off || (absentBit s who off).isSome || (decide (0xF0000 ≤ off) && who != .host) || (blockOf off == some 12 && who == .control) then 0
    else fieldLE (windowBytes s who w.1) (off / 4 * 4 - w.1) 4

/-- The word a read of an offset returns to a requester. -/
def readReg (s : State) (who : Requester) (off : Nat) : Nat :=
  match regAt off with
  | none => readWindow s who off
  | some (r, n) =>
    match instOf s who r.kind, highHalf off with
    | none, _ => 0
    | some _, some p => latched s who p
    | some i, none =>
      if dark s off ∨ (blockOf off = some 12 ∧ who = .control) then 0
      else (r.flds.map (fun f => fieldView s who (f.nth n) i * 2 ^ f.lo)).foldl (· + ·) 0

/-- CORE_CNT_STEPS_LO of the selected core. -/
def execCoreCntStepsLoRead (who : Requester) (s : State) : Host.Outcome State Fault Refusal :=
  match instOf s who .core with
  | none => ok (badAccess s ⟨who, R.CORE_CNT_STEPS_LO.reg.off, 15, none⟩ 0)
  | some c => ok (answerRead (latch s who 0 (rd s R.CORE_CNT_STEPS_HI.COUNT c)) who R.CORE_CNT_STEPS_LO.reg.off
      (rd s R.CORE_CNT_STEPS_LO.COUNT c))

/-- FIO_TICK_LO. -/
def execFioTickLoRead (who : Requester) (s : State) : Host.Outcome State Fault Refusal :=
  ok (answerRead (latch s who 1 (s.tick / word32 % word32)) who R.FIO_TICK_LO.reg.off (tickLo s))

/-- LIFE_POWERED_LO. -/
def execLifePoweredLoRead (who : Requester) (s : State) : Host.Outcome State Fault Refusal :=
  ok (answerRead (latch s who 2 (rd s R.LIFE_POWERED_HI.SECONDS 0)) who R.LIFE_POWERED_LO.reg.off (rd s R.LIFE_POWERED_LO.SECONDS 0))

/-- ID_UNIQUE_LO. -/
def execIdUniqueLoRead (who : Requester) (s : State) : Host.Outcome State Fault Refusal :=
  ok (answerRead (latch s who 3 (rd s R.ID_UNIQUE_HI.ID 0)) who R.ID_UNIQUE_LO.reg.off (rd s R.ID_UNIQUE_LO.ID 0))

/-! ### Writes (R17, R442, R443) -/

/-- A write into a request slot of the requester's own mailbox: ignored with ERR while the slot is busy (R456, R460). -/
def writeReqSlot (s : State) (w : Wr) (a : Nat) : State :=
  if w.who = .control then s
  else
    let i := reqNo w.who
    if bit (rd s R.MBX_STATUS.SLOT_BUSY i) (a / 256) then hit s R.MBX_STATUS.ERR i
    else
      let m := mbxOf s i
      { s with mbx := tset Mbx.reset s.mbx i { m with slots := memWrite m.slots a (mergeBytes (memBytes m.slots a 4) w) } }

/-- A write into SEC_RESPONSE or SEC_PASSWORD: registers of 32 bits, closed to Clapper (R439, R442). -/
def writeSecret (s : State) (w : Wr) (off : Nat) : State :=
  if w.be ≠ 15 then winErr s w.who 9 off
  else if w.who = .clapper then s
  else if off < 0x90080 then secMap s fun x => { x with response := splice x.response (off - 0x90060) (leBytes 4 w.val) }
  else secMap s fun x => { x with password := splice x.password (off - 0x90080) (leBytes 4 w.val) }

/-- A write into DBG_DATA: the host's, while the window is open. -/
def writeDbgData (s : State) (w : Wr) (a : Nat) : State :=
  if w.who ≠ .host ∨ !dbgOpen s then s
  else { s with dbgData := splice s.dbgData a (mergeBytes (slice s.dbgData a 4) w) }

/-- A write into a window; those that are not named here are read-only, or have a row of their own. -/
def writeWindow (s : State) (w : Wr) (off : Nat) : State :=
  if inWindow off (0xA1000, 0x800) then writeReqSlot s w (off - 0xA1000)
  else if inWindow off (0x90060, 96) then writeSecret s w off
  else if inWindow off (0xF0100, 256) then writeDbgData s w (off - 0xF0100) else s

/-- ZP_CTRL: a change of PREFER is ignored, with CFG_REJECT, while a pair link is up; output 15 follows ROLE_OUT (R326). -/
def writeZpCtrl (s : State) (v : Nat) : State :=
  let up := [0, 1].filter (pairLinkUp s)
  let s1 := showFixed (putField s R.ZP_CTRL.ROLE_OUT 0 v)
  if up.isEmpty then putField s1 R.ZP_CTRL.PREFER 0 v
  else if fval R.ZP_CTRL.PREFER v = rd s R.ZP_CTRL.PREFER 0 then s1
  else up.foldl (fun s l => hit s R.ZL_STATUS.CFG_REJECT l) s1

/-- PIPE_PROMISE_STATUS: VOID stays set while HAZARD or FLAGGED_OUT is (R37). -/
def keepVoid (s : State) : State :=
  if isSet s R.PIPE_PROMISE_STATUS.HAZARD 0 || isSet s R.PIPE_PROMISE_STATUS.FLAGGED_OUT 0 then hit s R.PIPE_PROMISE_STATUS.VOID 0
  else s

/-- A write of a register's fields that have no row of their own, and what follows from it. -/
def writeFields (s : State) (w : Wr) (r : RegSpec) (n i : Nat) : State :=
  let s1 := putPlain s r n i w.val
  if r.off = R.CLU_MARGIN.reg.off then showMargin s1 i
  else if r.off = R.PIPE_PROMISE_STATUS.reg.off then keepVoid s1
  else if r.off = R.FIO_ACT_FUNC.reg.off then showFixed s1
  else if r.off = R.ZP_CTRL.reg.off then writeZpCtrl s w.val
  else if r.off = R.SEC_PW_LEN.reg.off then secMap s1 fun x => { x with pwLen := fval R.SEC_PW_LEN.LEN w.val }
  else if r.off = R.FIO_ENC_CTRL.reg.off then (if n = 0 ∧ s.part.damson then s else s1)
  else if r.off = R.CAL_BLEND.reg.off then
    (if listenerRefuses s w then report s 0x0C0B i 0 else sendControl s1 i (frontNext (strm s i)) r.off [w.val])
  else if 0xF0000 ≤ r.off then (if dbgOpen s then s1 else s)
  else s1

/-- A register write without a row of its own. -/
def execRegisterWrite (w : Wr) (off : Nat) (s : State) : Host.Outcome State Fault Refusal :=
  if (sourceReg off).isSome then execStreamConfigWrite w off s
  else match regAt off with
    | some (r, n) => ok (gate s w r n fun s i => writeFields s w r n i)
    | none => if windows.any (inWindow off) then ok (writeWindow s w off) else ok (winErr s w.who 8 off)

/-- CORE_CTRL with ROLE as written (R86). -/
def execCoreRoleWrite (w : Wr) (s : State) : Host.Outcome State Fault Refusal :=
  ok (gate s w R.CORE_CTRL.reg 0 fun s c => writeCoreCtrl s c w.val)

/-! ### Interrupts (R454, R455) -/

/-- A message on each of vectors 0 and 1 that still has an enabled bit set. -/
def notifyAgain (s : State) (who : Requester) : State :=
  let n := reqNo who
  let on := fun b => bit (rd s R.GLB_INT_STATUS.STATUS n) b && bit (rd s R.GLB_INT_ENABLE.EN n) b
  ([0, 1].filter (fun v => (upto 8).any (fun b => vectorOf b == v && on b))).foldl (fun s v => message s who v) s

/-- A message on each stream vector whose enabled bit is set. -/
def notifyStrms (s : State) (who : Requester) : State :=
  let n := reqNo who
  let on := fun k => bit (rd s R.GLB_INT_STRM_STATUS.STRM n) k && bit (rd s R.GLB_INT_STRM_ENABLE.EN n) k
  ((upto 32).filter on).foldl (fun s k => sendStrm s who k) s

/-- GLB_INT_STATUS. -/
def execGlbIntStatusWrite (w : Wr) (s : State) : Host.Outcome State Fault Refusal :=
  ok (gate s w R.GLB_INT_STATUS.reg 0 fun s i => notifyAgain (putAll s R.GLB_INT_STATUS.reg 0 i w.val) w.who)

/-- GLB_INT_ENABLE. -/
def execGlbIntEnableWrite (w : Wr) (s : State) : Host.Outcome State Fault Refusal :=
  ok (gate s w R.GLB_INT_ENABLE.reg 0 fun s i => notifyAgain (putAll s R.GLB_INT_ENABLE.reg 0 i w.val) w.who)

/-- GLB_INT_STRM_STATUS. -/
def execGlbIntStrmStatusWrite (w : Wr) (s : State) : Host.Outcome State Fault Refusal :=
  ok (gate s w R.GLB_INT_STRM_STATUS.reg 0 fun s i => notifyStrms (putAll s R.GLB_INT_STRM_STATUS.reg 0 i w.val) w.who)

/-- GLB_INT_STRM_ENABLE. -/
def execGlbIntStrmEnableWrite (w : Wr) (s : State) : Host.Outcome State Fault Refusal :=
  ok (gate s w R.GLB_INT_STRM_ENABLE.reg 0 fun s i => notifyStrms (putAll s R.GLB_INT_STRM_ENABLE.reg 0 i w.val) w.who)

/-- STRM_US has passed since a stream vector's last message: one that is held goes if its condition still holds. -/
def execIntHoldoffExpiry (who : Requester) (stream : Nat) (s : State) : Host.Outcome State Fault Refusal :=
  let key := intKey who stream
  let hold := rd s R.GLB_INT_HOLDOFF.STRM_US (reqNo who) * 100
  if 32 ≤ stream ∨ !tget false s.intHeld key ∨ s.tick + 1 < tget 0 s.intLast key + hold then ok s
  else
    let n := reqNo who
    let on := bit (rd s R.GLB_INT_STRM_STATUS.STRM n) stream && bit (rd s R.GLB_INT_STRM_ENABLE.EN n) stream
    let s1 := { s with intHeld := tset false s.intHeld key false }
    ok (if on then sendStrm s1 who stream else s1)

/-! ### The debug window (R461) -/

/-- The device address of the window. -/
def dbgAddr (s : State) : Nat := rd s R.DBG_ADDR_LO.ADDR 0 + rd s R.DBG_ADDR_HI.ADDR 0 * word32

/-- 256 bytes at an aligned, served address. -/
def dbgOk (s : State) : Bool := dbgAddr s % 32 == 0 && busOk s (dbgAddr s) 256

/-- The last access ended with an address error or a refusal. -/
def dbgErr (s : State) : State := hit s R.DBG_STATUS.ERR 0

/-- An invasive action: refused with 0x0921 and ERR while SAFE is 0 (R425). -/
def dbgInvasive (s : State) (f : State → State) : State := if isSafe s then f s else dbgErr (submitRefused s)

/-- READ. -/
def dbgRead (s : State) : State :=
  if dbgOk s then { s with dbgData := (busRead s (dbgAddr s) 256).1 } else dbgErr s

/-- WRITE. -/
def dbgWrite (s : State) : State :=
  dbgInvasive s fun s => if dbgOk s then busWrite s (dbgAddr s) s.dbgData false else dbgErr s

/-- RESUME: a halt ends. -/
def dbgResume (s : State) (c : Nat) : State :=
  if s.part.cores ≤ c then s else modCore s c fun k => { k with halted := false }

/-- A write of DBG_CTRL with bit b set acts on each bit of the write, lowest first; nothing while the window is closed. -/
def writeDbg (w : Wr) (b : Nat) (s : State) : State :=
  gate s w R.DBG_CTRL.reg 0 fun s _ =>
    if !dbgOpen s ∨ !bit w.val b then s
    else
      let c := fval R.DBG_CTRL.CORE w.val
      let s1 := if bit w.val 0 then dbgRead s else s
      let s2 := if bit w.val 1 then dbgWrite s1 else s1
      let s3 := if bit w.val 2 then dbgInvasive s2 (fun s => haltCore s c) else s2
      if bit w.val 3 then dbgResume s3 c else s3

/-- DBG_CTRL.READ. -/
def execDbgRead (w : Wr) (s : State) : Host.Outcome State Fault Refusal := ok (writeDbg w 0 s)

/-- DBG_CTRL.WRITE. -/
def execDbgWrite (w : Wr) (s : State) : Host.Outcome State Fault Refusal := ok (writeDbg w 1 s)

/-- DBG_CTRL.HALT. -/
def execDbgHalt (w : Wr) (s : State) : Host.Outcome State Fault Refusal := ok (writeDbg w 2 s)

/-- DBG_CTRL.RESUME. -/
def execDbgResume (w : Wr) (s : State) : Host.Outcome State Fault Refusal := ok (writeDbg w 3 s)

end Sys2Proof.Machine
end

