-- ==== Sys2Proof/Machine/Vector.lean ====
section
/-! DEFINITION. Machine/Vector.lean: the vector instructions (R120-R133). -/

namespace Sys2Proof.Machine

open Sys2Proof

/-! ### Lanes (R120) -/

/-- L(f): lanes of a register in a format's view. -/
def lanes (f : Nat) : Nat := 2048 / fmtWidth f

/-- Lane j of a register in a view of width b. -/
def vlane (b data j : Nat) : Nat := bits data (b * j) b

/-- A register from lane values of width b. -/
def packLanes (b : Nat) (vs : List Nat) : Nat :=
  ((List.zip (List.range vs.length) vs).foldl (fun a p => a + (p.2 % 2 ^ b) * 2 ^ (b * p.1)) 0) % 2 ^ 2048

/-- The lanes of a register. -/
def unpackLanes (b data : Nat) : List Nat := (List.range (2048 / b)).map (vlane b data)

/-- Formats of VOP, VOPS, VCMP, VRED, VARG and VPOOL (R122). -/
def vopFmt (f : Nat) : Bool := (decide (1 ≤ f) && decide (f ≤ 5)) || (decide (8 ≤ f) && decide (f ≤ 10))

/-- Formats of VSEL and VBC: any width but codebooks and microscaling (R122). -/
def vselFmt (f : Nat) : Bool := decide (f ≤ 10)

/-- FMT of a vector instruction. -/
def vfmt (w : Nat) : Nat := bits w 3 5
/-- Its mask register. -/
def vmask (k : Core) (w : Nat) : Nat := mreg k (bits w 0 3)

/-- Sums of counts. -/
def satOf (rs : List Res) : Nat := rs.foldl (fun a r => a + r.sat) 0
/-- Sums of new special values. -/
def nanOf (rs : List Res) : Nat := rs.foldl (fun a r => a + r.nan) 0

/-- Writes a vector result with its counts and flags (R56, R59, R121). -/
def putV (s : State) (c d data : Nat) (srcs : List VReg) (kept : Bool) (sat nan : Nat) : State :=
  let old := vreg (coreAt s c) d
  modCore (countBoth s c sat nan) c
    (fun k => setV k d (flagV data srcs old kept (decide (0 < sat)) (decide (0 < nan))))

/-- Lane-wise results under a mask: a disabled lane keeps the destination's contents (R120). -/
def putLanes (s : State) (c d f : Nat) (m : Nat) (srcs : List VReg) (g : Nat → Res) : State :=
  let b := fmtWidth f
  let old := (vreg (coreAt s c) d).data
  let rs := (List.range (lanes f)).map (fun j => if lane m j then g j else ⟨vlane b old j, 0, 0⟩)
  putV s c d (packLanes b (rs.map (·.v))) srcs (!(List.range (lanes f)).all (lane m)) (satOf rs) (nanOf rs)

/-! ### VOP, VOPS, VCMP, VSEL (R123, R124) -/

/-- The functions of R123 on one lane; none where the table shows 0x0110. -/
def vopFn (fn f x y : Nat) : Option Res :=
  let b := fmtWidth f
  let sh := y % 2 ^ log2 b
  let plain := fun v => some (⟨v, 0, 0⟩ : Res)
  if isIntFmt f then
    match fn with
    | 0 => some (toIntFmt f (intVal f x + intVal f y))
    | 1 => some (toIntFmt f (intVal f x - intVal f y))
    | 2 => some (toIntFmt f (intVal f x * intVal f y))
    | 3 => plain (if intVal f y < intVal f x then y else x)
    | 4 => plain (if intVal f x < intVal f y then y else x)
    | 5 => plain (Nat.land x y)
    | 6 => plain (Nat.lor x y)
    | 7 => plain (Nat.xor x y)
    | 8 => plain (x * 2 ^ sh % 2 ^ b)
    | 9 => plain (x / 2 ^ sh)
    | 10 => plain (if isUnsignedFmt f then x / 2 ^ sh else wrap b (intVal f x / ((2 ^ sh : Nat) : Int)))
    | _ => none
  else
    match fn with
    | 0 => some (fadd f x y)
    | 1 => some (fsub f x y)
    | 2 => some (fmul f x y)
    | 3 => plain (fmin f x y)
    | 4 => plain (fmax f x y)
    | _ => none

/-- The operations of R123 on an integer path with a residue lane: add, subtract, multiply and the shifts (R73, R76). -/
def vopChecked (fn f : Nat) : Bool := isIntFmt f && (decide (fn ≤ 2) || (decide (8 ≤ fn) && decide (fn ≤ 10)))

/-- The exact result of such an operation, before any clamp. -/
def vopExact (fn f x y : Nat) : Int :=
  match fn with
  | 0 => intVal f x + intVal f y
  | 1 => intVal f x - intVal f y
  | 2 => intVal f x * intVal f y
  | _ => intVal f ((vopFn fn f x y).getD ⟨0, 0, 0⟩).v

/-- The residue predicted for it from its operands (R75); that of a shift is its result's, the bits shifted out accounted
for. -/
def vopPredicted (fn f x y : Nat) : Nat :=
  match fn with
  | 0 => (res15 (intVal f x) + res15 (intVal f y)) % 15
  | 1 => (res15 (intVal f x) + (15 - res15 (intVal f y))) % 15
  | 2 => res15 (intVal f x) * res15 (intVal f y) % 15
  | _ => res15 (vopExact fn f x y)

/-- A checked operation's actual result, off by `err`, fails the comparison of R75. -/
def vopBad (fn f x y : Nat) (err : Int) : Bool := vopChecked fn f && res15 (vopExact fn f x y + err) != vopPredicted fn f x y

/-- The alarm of a vector instruction some of whose enabled lanes fail their comparison (R75, R148). -/
def vecAlarm (b : Bool) : List Nat := if b then [0x0102] else []

/-- FN is one R123 gives the format. -/
def vopFnOk (fn f : Nat) : Bool := (vopFn fn f 0 0).isSome

/-- A lane's result. -/
def vopRes (fn f x y : Nat) : Res := (vopFn fn f x y).getD ⟨0, 0, 0⟩

/-- A lane's result where a checked operation is off by `err`. -/
def vopOff (fn f x y : Nat) (err : Int) : Res :=
  if err = 0 ∨ !vopChecked fn f then vopRes fn f x y else toIntFmt f (vopExact fn f x y + err)

/-- VOP (R123). -/
def execVop (core : Nat) (chk : Chk) (s : State) : Host.Outcome State Fault Refusal :=
  ok (issue s core chk (isOp 0x20) fun s k w =>
    let f := vfmt w
    let fn := bits w 8 4
    if !decOk w .v .v .v [(0, 12)] ∨ !vopFmt f ∨ !vopFnOk fn f then .stop 0x0110
    else
      let a := vreg k (srcA w)
      let b := vreg k (srcB w)
      let n := fmtWidth f
      let x := fun j => vlane n a.data j
      let y := fun j => vlane n b.data j
      .go (putLanes s core (dst w) f (vmask k w) [a, b] fun j => vopOff fn f (x j) (y j) (errOf chk j 0))
        (vecAlarm ((errLanes chk).any fun j => decide (j < lanes f) && lane (vmask k w) j && vopBad fn f (x j) (y j) (errOf chk j 0))))

/-- VOPS (R123): the second operand is the low bits of a scalar register. -/
def execVops (core : Nat) (chk : Chk) (s : State) : Host.Outcome State Fault Refusal :=
  ok (issue s core chk (isOp 0x21) fun s k w =>
    let f := vfmt w
    let fn := bits w 8 4
    if !decOk w .v .v .s [(0, 12)] ∨ !vopFmt f ∨ !vopFnOk fn f then .stop 0x0110
    else
      let a := vreg k (srcA w)
      let n := fmtWidth f
      let y := sreg k (srcB w) % 2 ^ n
      let x := fun j => vlane n a.data j
      .go (putLanes s core (dst w) f (vmask k w) [a] fun j => vopOff fn f (x j) y (errOf chk j 0))
        (vecAlarm ((errLanes chk).any fun j => decide (j < lanes f) && lane (vmask k w) j && vopBad fn f (x j) y (errOf chk j 0))))

/-- The conditions of R124: 0 EQ, 1 NE, 2 LT, 3 LE, 4 GT, 5 GE. -/
def vcmpHolds (c f x y : Nat) : Bool :=
  let lt := if isIntFmt f then decide (intVal f x < intVal f y) else fvLt (fdec f x) (fdec f y)
  let gt := if isIntFmt f then decide (intVal f y < intVal f x) else fvLt (fdec f y) (fdec f x)
  let eq := if isIntFmt f then x == y else fvEq (fdec f x) (fdec f y)
  match c with
  | 0 => eq | 1 => !eq | 2 => lt | 3 => lt || eq | 4 => gt | _ => gt || eq

/-- VCMP (R124): every lane not compared is written disabled. -/
def execVcmp (core : Nat) (k : Chk) (s : State) : Host.Outcome State Fault Refusal :=
  ok (issue s core k (isOp 0x22) fun s k w =>
    let f := vfmt w
    let c := bits w 8 4
    if !decOk w .m .v .v [(0, 12)] ∨ !vopFmt f ∨ 6 ≤ c then .stop 0x0110
    else
      let a := (vreg k (srcA w)).data
      let b := (vreg k (srcB w)).data
      let n := fmtWidth f
      let m := vmask k w
      .go (modCore s core fun k' => setM k' (dst w)
        (maskOf 256 fun j => decide (j < lanes f) && lane m j && vcmpHolds c f (vlane n a j) (vlane n b j))) [])

/-- VSEL (R124). -/
def execVsel (core : Nat) (k : Chk) (s : State) : Host.Outcome State Fault Refusal :=
  ok (issue s core k (isOp 0x23) fun s k w =>
    let f := vfmt w
    if !decOk w .v .v .v [(0, 8)] ∨ !vselFmt f then .stop 0x0110
    else
      let a := vreg k (srcA w)
      let b := vreg k (srcB w)
      let n := fmtWidth f
      let m := vmask k w
      .go (putV s core (dst w) (packLanes n ((List.range (lanes f)).map fun j =>
        if lane m j then vlane n a.data j else vlane n b.data j)) [a, b] false 0 0) [])

/-! ### Conversion and requantisation (R125, R126) -/

/-- Results for elements 0 to n − 1 written to lanes from `at0` of a destination of width b; others keep (R125). -/
def putSegment (s : State) (c d b at0 n m : Nat) (srcs : List VReg) (g : Nat → Res) : State :=
  let old := (vreg (coreAt s c) d).data
  let rs := (List.range n).map (fun j => if lane m j then g j else ⟨vlane b old (at0 + j), 0, 0⟩)
  let data := (List.range (2048 / b)).map (fun j => if at0 ≤ j ∧ j < at0 + n then (at? ⟨0, 0, 0⟩ rs (j - at0)).v else vlane b old j)
  putV s c d (packLanes b data) srcs (decide (n < 2048 / b) || !(List.range n).all (lane m)) (satOf rs) (nanOf rs)

/-- VCVT (R125). -/
def execVcvt (core : Nat) (k : Chk) (s : State) : Host.Outcome State Fault Refusal :=
  ok (issue s core k (isOp 0x24) fun s k w =>
    let sf := vfmt w
    let df := bits w 8 5
    let trunc := bit w 13
    let part := bits w 14 3
    let ls := lanes sf
    let ld := lanes df
    let n := min ls ld
    if !decOk w .v .v .none [(0, 17)] ∨ !convPair sf df ∨ (trunc ∧ (isIntFmt sf ∨ !isIntFmt df)) ∨ max ls ld < (part + 1) * n then
      .stop 0x0110
    else
      let a := vreg k (srcA w)
      let src0 := if ld < ls then part * n else 0
      let dst0 := if ls < ld then part * n else 0
      .go (putSegment s core (dst w) (fmtWidth df) dst0 n (vmask k w) [a] fun j =>
        convert sf df (vlane (fmtWidth sf) a.data (src0 + j)) trunc) [])

/-- The requantisation of a product whose shift is off by `err` (R126). -/
def requantOff (p : Int) (S : Nat) (Z : Int) (U : Nat) (err : Int) : Res := toIntFmt U (rneDiv p (2 ^ S) + err + Z)

/-- The shift fails its comparison: the residue of its result, times 2^S, and that of the bits it has discarded give that of the product
(R73, R75). -/
def shiftBad (p : Int) (S : Nat) (err : Int) : Bool :=
  let q := rneDiv p (2 ^ S)
  (res15 (q + err) * 2 ^ (S % 4) + res15 (p - q * (2 ^ S : Nat))) % 15 != res15 p

/-- VREQ (R126, R200). -/
def execVreq (core : Nat) (chk : Chk) (s : State) : Host.Outcome State Fault Refusal :=
  ok (issue s core chk (isOp 0x25) fun s k w =>
    let df := vfmt w
    let perch := bit w 8
    let part := bits w 15 3
    if !decOk w .v .v (if perch then .v else .s) [(0, 34)] ∨ 5 ≤ df ∨ lanes df < (part + 1) * 64 then .stop 0x0110
    else
      let a := vreg k (srcA w)
      let b := vreg k (srcB w)
      let z := sext 16 (bits w 18 16)
      let mj := fun j => if perch then sext 32 (vlane 32 b.data (j % 32)) else sext 32 (sreg k (srcB w))
      let sj := fun j => if perch then vlane 32 b.data (32 + j % 32) % 64 else bits w 9 6
      let x := fun j => sext 32 (vlane 32 a.data j)
      .go (putSegment s core (dst w) (fmtWidth df) (part * 64) 64 (vmask k w) (if perch then [a, b] else [a]) fun j =>
        requantOff (x j * mj j + errOf chk j 0) (sj j) z df (errOf chk j 1))
        (vecAlarm ((errLanes chk).any fun j => decide (j < 64) && lane (vmask k w) j &&
          (res15 (x j * mj j + errOf chk j 0) != res15 (x j) * res15 (mj j) % 15 ||
            shiftBad (x j * mj j + errOf chk j 0) (sj j) (errOf chk j 1)))))

/-! ### Functions and reductions (R127-R130) -/

/-- VFN (R127). -/
def execVfn (core : Nat) (k : Chk) (s : State) : Host.Outcome State Fault Refusal :=
  ok (issue s core k (isOp 0x26) fun s k w =>
    let f := vfmt w
    let fn := bits w 8 4
    if !decOk w .v .v .none [(0, 12)] ∨ f < 8 ∨ 10 < f ∨ 7 ≤ fn then .stop 0x0110
    else
      let a := vreg k (srcA w)
      .go (putLanes s core (dst w) f (vmask k w) [a] fun j =>
        let r := vfn fn (widen f (vlane (fmtWidth f) a.data j))
        let o := fenc f (fdec 10 r.1)
        ⟨o.v, 0, r.2 + o.nan⟩) [])

/-- The canonical pattern of a lane (a NaN becomes the canonical one). -/
def canon (f x : Nat) : Nat := if isIntFmt f then x else if fdec f x = .nan then canonNan f else x

/-- Maximum (`hi`) or minimum of lanes in a format (R62). -/
def extreme (hi : Bool) (f : Nat) : List Nat → Nat
  | [] => 0
  | x :: t => t.foldl (fun a y =>
      if isIntFmt f then (if hi then (if intVal f a < intVal f y then y else a) else (if intVal f y < intVal f a then y else a))
      else if hi then fmax f a y else fmin f a y) (canon f x)

/-- Magnitude of a lane: saturated to the format's maximum for an integer (R128). -/
def magLane (f x : Nat) : Res :=
  if isIntFmt f then toIntFmt f ((intVal f x).natAbs : Int) else ⟨x % 2 ^ (fmtWidth f - 1), 0, 0⟩

/-- The taking-part lanes of a group, by their order in it. -/
def partOf (m : Nat) (xs : List Nat) : List Nat :=
  ((List.zip (List.range xs.length) xs).filter (fun p => lane m p.1)).map (·.2)

/-- A sum of FP32 lanes by the tree of R128, written canonical (R48). The whole sum is one vector-unit operation: a special
value that no lane held counts once (R59; DEDUCED, log entry 20). -/
def sumLanes (G : Nat) (xs : List Nat) : Res :=
  let v := (fenc 10 (fdec 10 (treeSum G xs).1)).v
  let some' := fun p => xs.any (fun x => p (fdec 10 x))
  let isInf := fun (x : FV) => match x with
    | .inf _ => true
    | _ => false
  ⟨v, 0, b2n (match fdec 10 v with
    | .nan => !some' (· == .nan)
    | .inf _ => !some' (fun x => x == .nan || isInf x)
    | _ => false)⟩

/-- An integer sum whose actual result is off by `err`, saturated to INT32. -/
def intSum (f : Nat) (xs : List Nat) (err : Int) : Res := toIntFmt 5 (xs.foldl (fun a x => a + intVal f x) 0 + err)

/-- It fails the comparison with the residue predicted from its operands (R75). -/
def intSumBad (f : Nat) (xs : List Nat) (err : Int) : Bool :=
  res15 (xs.foldl (fun a x => a + intVal f x) 0 + err) != xs.foldl (fun a x => (a + res15 (intVal f x)) % 15) 0

/-- A group's result of R128 (result view T, or INT32 or FP32 for SUM), an integer sum off by `err`. -/
def redGroup (op f G m : Nat) (err : Int) (xs : List Nat) : Res :=
  let ys := partOf m xs
  match op with
  | 0 => ⟨extreme true f ys, 0, 0⟩
  | 1 => ⟨extreme false f ys, 0, 0⟩
  | 2 =>
    if isIntFmt f then intSum f ys err
    else sumLanes G ((List.zip (List.range xs.length) xs).map (fun p => if lane m p.1 then widen f p.2 else 0))
  | _ =>
    let e := extreme true f (ys.map (fun x => (magLane f x).v))
    let clamped := isIntFmt f && !isUnsignedFmt f && ys.any (fun x => intVal f x == intMin f)
    ⟨e, b2n clamped, 0⟩

/-- The consecutive groups of g lanes. -/
def groupsOf (g : Nat) (xs : List Nat) : List (List Nat) :=
  (List.range (xs.length / g)).map (fun q => (xs.drop (q * g)).take g)

/-- VRED (R128). -/
def execVred (core : Nat) (chk : Chk) (s : State) : Host.Outcome State Fault Refusal :=
  ok (issue s core chk (isOp 0x27) fun s k w =>
    let f := vfmt w
    let op := bits w 8 3
    let G := bits w 11 4
    let g := 2 ^ G
    if !decOk w .v .v .none [(0, 15)] ∨ !vopFmt f ∨ 4 ≤ op ∨ G = 0 ∨ lanes f < g ∨ (op = 2 ∧ 64 < lanes f / g) then .stop 0x0110
    else
      let a := vreg k (srcA w)
      let gs := groupsOf g (unpackLanes (fmtWidth f) a.data)
      let rs := (List.zip (List.range gs.length) gs).map (fun p => redGroup op f G (vmask k w) (errOf chk p.1 0) p.2)
      .go (putV s core (dst w) (packLanes (if op = 2 then 32 else fmtWidth f) (rs.map (·.v))) [a] false (satOf rs) (nanOf rs))
        (vecAlarm (op == 2 && isIntFmt f && (errLanes chk).any fun q =>
          decide (q < gs.length) && intSumBad f (partOf (vmask k w) (at? [] gs q)) (errOf chk q 0))))

/-- x beats the best so far in VARG's order: R62, a NaN above every number, a tie to the lower index (R129). -/
def argBeats (f best x : Nat) : Bool :=
  if isIntFmt f then decide (intVal f best < intVal f x)
  else if fdec f best = .nan then false
  else if fdec f x = .nan then true else ordLt (fdec f best) (fdec f x)

/-- The index of the greatest taking-part lane of a group, none if no lane takes part (R129). -/
def argGroup (f m : Nat) (xs : List Nat) : Option (Nat × Nat) :=
  ((List.zip (List.range xs.length) xs).filter (fun p => lane m p.1)).foldl
    (fun b p => match b with
      | none => some p
      | some q => if argBeats f q.2 p.2 then some p else some q) none

/-- A lane's value widened exactly to 32 bits. -/
def widen32 (f x : Nat) : Nat := if isIntFmt f then wrap 32 (intVal f x) else widen f x

/-- VARG (R129). -/
def execVarg (core : Nat) (k : Chk) (s : State) : Host.Outcome State Fault Refusal :=
  ok (issue s core k (isOp 0x28) fun s k w =>
    let f := vfmt w
    let g := 2 ^ bits w 8 4
    if !decOk w .v .v .none [(0, 12)] ∨ !vopFmt f ∨ lanes f < g ∨ 32 < lanes f / g then .stop 0x0110
    else
      let a := vreg k (srcA w)
      let rs := (groupsOf g (unpackLanes (fmtWidth f) a.data)).map (argGroup f (vmask k w))
      let idx := rs.map (fun r => (r.map (·.1)).getD 0)
      let vals := rs.map (fun r => (r.map (fun p => widen32 f p.2)).getD 0)
      .go (putV s core (dst w) (packLanes 32 (padTo 32 idx ++ padTo 32 vals)) [a] false 0 0) [])

/-- Slot lane k of a group of slots combined (R130), an integer sum off by `err`. An INT32 sum saturates once, as the exact sum
(DEDUCED, log entry 20). -/
def poolLane (op f G : Nat) (err : Int) (xs : List Nat) : Res :=
  match op with
  | 0 => ⟨extreme true f xs, 0, 0⟩
  | 1 => ⟨extreme false f xs, 0, 0⟩
  | _ =>
    if f = 5 then intSum 5 xs err else sumLanes G xs

/-- VPOOL (R130). -/
def execVpool (core : Nat) (chk : Chk) (s : State) : Host.Outcome State Fault Refusal :=
  ok (issue s core chk (isOp 0x29) fun s k w =>
    let f := vfmt w
    let op := bits w 8 2
    let S := bits w 10 2
    let G := bits w 12 2
    if !decOk w .v .v .none [(0, 14)] ∨ !vopFmt f ∨ op = 3 ∨ (op = 2 ∧ f ≠ 5 ∧ f ≠ 10) ∨ 3 < S + G then .stop 0x0110
    else
      let a := vreg k (srcA w)
      let n := fmtWidth f
      let m := vmask k w
      let per := 2 ^ S * 256 / n
      let slots := fun q j => (List.range (2 ^ G)).map fun i => vlane n a.data ((q * 2 ^ G + i) * per + j)
      let rs := (List.range (8 / 2 ^ (S + G))).flatMap (fun q => (List.range per).map (fun j =>
        if lane m j then poolLane op f G (errOf chk (per * q + j) 0) (slots q j) else ⟨0, 0, 0⟩))
      .go (putV s core (dst w) (packLanes n (rs.map (·.v))) [a] false (satOf rs) (nanOf rs))
        (vecAlarm (op == 2 && f == 5 && (errLanes chk).any fun l =>
          decide (l < rs.length) && lane m (l % per) && intSumBad 5 (slots (l / per) (l % per)) (errOf chk l 0))))

/-! ### VACC, VMXQ, VBC (R131-R133) -/

/-- VACC (R131). -/
def execVacc (core : Nat) (k : Chk) (s : State) : Host.Outcome State Fault Refusal :=
  ok (issue s core k (isOp 0x2A) fun s k w =>
    let r := (sreg k (srcB w) + bits w 0 4) % word32
    if !decOk w .v .a .s [(0, 4)] ∨ 15 < r then .stop 0x0110
    else match k.run with
      | none => .hold
      | some d =>
        if d.accTiles ≤ srcA w then .stop 0x0109
        else
          let t := tileAt k (srcA w)
          .go (modCore s core fun k' => setV k' (dst w) ⟨tileRows t r, t.sat, t.nan⟩) (storeCodes t r))

/-- VMXQ is a word of opcode 0x2B; DIR is bit 14. -/
def mxFmtOf (w : Nat) : Nat := if bit w 13 then 14 else 13

/-- VMXQ, DIR 0 (R64, R132). -/
def execVmxqQuantise (core : Nat) (k : Chk) (s : State) : Host.Outcome State Fault Refusal :=
  ok (issue s core k (fun w => isOp 0x2B w && !bit w 14) fun s k w =>
    let f := vfmt w
    if !decOk w .v .v .none [(3, 13)] ∨ f < 8 ∨ 10 < f ∨ bit w 15 then .stop 0x0110
    else
      let a := vreg k (srcA w)
      let mx := mxFmtOf w
      let blocks := (groupsOf 32 (unpackLanes (fmtWidth f) a.data)).map (fun b => mxQuant mx (b.map (fdec f)))
      let scales := leNat (blocks.map (fun b => BitVec.ofNat 8 b.1))
      let events := blocks.foldl (fun n b => n + b.2.2) 0
      let s1 := putV s core (dst w) (packLanes (fmtWidth mx) (blocks.flatMap (·.2.1))) [a] false 0 events
      .go (modCore s1 core fun k' => setS k' (bits w 8 5) scales) [])

/-- VMXQ, DIR 1 (R50, R132). -/
def execVmxqExpand (core : Nat) (k : Chk) (s : State) : Host.Outcome State Fault Refusal :=
  ok (issue s core k (fun w => isOp 0x2B w && bit w 14) fun s k w =>
    if !decOk w .v .v .none [(3, 13)] ∨ vfmt w ≠ 10 then .stop 0x0110
    else
      let a := vreg k (srcA w)
      let mx := mxFmtOf w
      let p := bits w 15 1
      let scales := sreg k (bits w 8 5)
      let rs := (List.range 64).map (fun j =>
        let blk := 2 * p + j / 32
        mxExpand mx (bits scales (8 * blk) 8) (vlane (fmtWidth mx) a.data (32 * blk + j % 32)))
      .go (putV s core (dst w) (packLanes 32 (rs.map (·.v))) [a] false 0 (nanOf rs)) [])

/-- VBC (R133). -/
def execVbc (core : Nat) (k : Chk) (s : State) : Host.Outcome State Fault Refusal :=
  ok (issue s core k (isOp 0x2C) fun s k w =>
    let f := vfmt w
    if !decOk w .v .s .none [(3, 5), (12, 16)] ∨ !vselFmt f then .stop 0x0110
    else
      let n := fmtWidth f
      let x := wrap 32 ((sreg k (srcA w) : Int) + sext 16 (bits w 12 16)) % 2 ^ n
      .go (modCore s core fun k' => setV k' (dst w) ⟨packLanes n (List.replicate (lanes f) x), false, false⟩) [])

end Sys2Proof.Machine
end

