-- ==== Sys2Proof/Machine/Dispatch.lean ====
section
/-! DEFINITION. Machine/Dispatch.lean: one arm per command, each one direct call of its meaning. -/

namespace Sys2Proof.Machine

open Sys2Proof

/-- The effect of a command on everything but the queue. -/
def exec (i : Instr) (s : State) : Host.Outcome State Fault Refusal :=
  match i with
  | .registerWrite w off => Sys2Proof.Machine.execRegisterWrite w off s
  | .absentInstanceAccess a => Sys2Proof.Machine.execAbsentInstanceAccess a s
  | .unmappedOffsetAccess a => Sys2Proof.Machine.execUnmappedOffsetAccess a s
  | .coreCntStepsLoRead who => Sys2Proof.Machine.execCoreCntStepsLoRead who s
  | .fioTickLoRead who => Sys2Proof.Machine.execFioTickLoRead who s
  | .lifePoweredLoRead who => Sys2Proof.Machine.execLifePoweredLoRead who s
  | .idUniqueLoRead who => Sys2Proof.Machine.execIdUniqueLoRead who s
  | .lineReceived stream route => Sys2Proof.Machine.execLineReceived stream route s
  | .rawFrontLine stream k => Sys2Proof.Machine.execRawFrontLine stream k s
  | .lineWriteToDram stream => Sys2Proof.Machine.execLineWriteToDram stream s
  | .stripeClose stream => Sys2Proof.Machine.execStripeClose stream s
  | .partialStripeTimeout stream => Sys2Proof.Machine.execPartialStripeTimeout stream s
  | .shareDispatch stream => Sys2Proof.Machine.execShareDispatch stream s
  | .cropBatchDispatch stream => Sys2Proof.Machine.execCropBatchDispatch stream s
  | .shareDescriptorWrite core words => Sys2Proof.Machine.execShareDescriptorWrite core words s
  | .shareEnd core crc => Sys2Proof.Machine.execShareEnd core crc s
  | .computeDeadlineExpiry stream stripe crop idx => Sys2Proof.Machine.execComputeDeadlineExpiry stream stripe crop idx s
  | .commit stream => Sys2Proof.Machine.execCommit stream s
  | .commitDeadlineExpiry stream stripe => Sys2Proof.Machine.execCommitDeadlineExpiry stream stripe s
  | .pictureBackLine stream k => Sys2Proof.Machine.execPictureBackLine stream k s
  | .outputLineSend stream gvsp empty => Sys2Proof.Machine.execOutputLineSend stream gvsp empty s
  | .brambleFlitHop node egress flit parity owner => Sys2Proof.Machine.execBrambleFlitHop node egress flit parity owner s
  | .fieldTickLoss ssc => Sys2Proof.Machine.execFieldTickLoss ssc s
  | .fieldFrequencyWindowEnd count ssc => Sys2Proof.Machine.execFieldFrequencyWindowEnd count ssc s
  | .sysRefclkLoss ssc => Sys2Proof.Machine.execSysRefclkLoss ssc s
  | .paceEvaluation busFail monitors => Sys2Proof.Machine.execPaceEvaluation busFail monitors s
  | .pmbusReadbackCheck readMv statusFault busFail => Sys2Proof.Machine.execPmbusReadbackCheck readMv statusFault busFail s
  | .voutModeRecheck ulinear16 busFail => Sys2Proof.Machine.execVoutModeRecheck ulinear16 busFail s
  | .pipePaceCtrlWrite w => Sys2Proof.Machine.execPipePaceCtrlWrite w s
  | .latencyMaxClear w => Sys2Proof.Machine.execLatencyMaxClear w s
  | .nop core k => Sys2Proof.Machine.execNop core k s
  | .li core k => Sys2Proof.Machine.execLi core k s
  | .alu core k => Sys2Proof.Machine.execAlu core k s
  | .alui core k => Sys2Proof.Machine.execAlui core k s
  | .mfsr core k => Sys2Proof.Machine.execMfsr core k s
  | .br core k => Sys2Proof.Machine.execBr core k s
  | .jmp core k => Sys2Proof.Machine.execJmp core k s
  | .call core k => Sys2Proof.Machine.execCall core k s
  | .ret core k => Sys2Proof.Machine.execRet core k s
  | .loopOpen core k => Sys2Proof.Machine.execLoopOpen core k s
  | .tset core k => Sys2Proof.Machine.execTset core k s
  | .tadv core k => Sys2Proof.Machine.execTadv core k s
  | .tedge core k => Sys2Proof.Machine.execTedge core k s
  | .mma core k => Sys2Proof.Machine.execMma core k s
  | .mmaFamilyStart core => Sys2Proof.Machine.execMmaFamilyStart core s
  | .mmaw core k => Sys2Proof.Machine.execMmaw core k s
  | .mmad core k => Sys2Proof.Machine.execMmad core k s
  | .mmac core k => Sys2Proof.Machine.execMmac core k s
  | .oacc core k => Sys2Proof.Machine.execOacc core k s
  | .vop core k => Sys2Proof.Machine.execVop core k s
  | .vops core k => Sys2Proof.Machine.execVops core k s
  | .vcmp core k => Sys2Proof.Machine.execVcmp core k s
  | .vsel core k => Sys2Proof.Machine.execVsel core k s
  | .vcvt core k => Sys2Proof.Machine.execVcvt core k s
  | .vreq core k => Sys2Proof.Machine.execVreq core k s
  | .vfn core k => Sys2Proof.Machine.execVfn core k s
  | .vred core k => Sys2Proof.Machine.execVred core k s
  | .varg core k => Sys2Proof.Machine.execVarg core k s
  | .vpool core k => Sys2Proof.Machine.execVpool core k s
  | .vacc core k => Sys2Proof.Machine.execVacc core k s
  | .vmxqQuantise core k => Sys2Proof.Machine.execVmxqQuantise core k s
  | .vmxqExpand core k => Sys2Proof.Machine.execVmxqExpand core k s
  | .vbc core k => Sys2Proof.Machine.execVbc core k s
  | .vld core k => Sys2Proof.Machine.execVld core k s
  | .vst core k => Sys2Proof.Machine.execVst core k s
  | .slsLoad core k => Sys2Proof.Machine.execSlsLoad core k s
  | .slsStore core k => Sys2Proof.Machine.execSlsStore core k s
  | .xferWrite core k => Sys2Proof.Machine.execXferWrite core k s
  | .xferRead core k => Sys2Proof.Machine.execXferRead core k s
  | .xferReadResponse core index how => Sys2Proof.Machine.execXferReadResponse core index how s
  | .remoteWriteAck core index error poisoned => Sys2Proof.Machine.execRemoteWriteAck core index error poisoned s
  | .bindRing core k => Sys2Proof.Machine.execBindRing core k s
  | .bindCounter core k => Sys2Proof.Machine.execBindCounter core k s
  | .rput core k => Sys2Proof.Machine.execRput core k s
  | .ringReservationGrant core ring => Sys2Proof.Machine.execRingReservationGrant core ring s
  | .ringSlotLanded core ring index poisoned => Sys2Proof.Machine.execRingSlotLanded core ring index poisoned s
  | .rget core k => Sys2Proof.Machine.execRget core k s
  | .rwinAcquire core k => Sys2Proof.Machine.execRwinAcquire core k s
  | .rwinRelease core k => Sys2Proof.Machine.execRwinRelease core k s
  | .ringWaitSatisfied core => Sys2Proof.Machine.execRingWaitSatisfied core s
  | .cwait core k => Sys2Proof.Machine.execCwait core k s
  | .counterWaitSatisfied core => Sys2Proof.Machine.execCounterWaitSatisfied core s
  | .csetAdd core k => Sys2Proof.Machine.execCsetAdd core k s
  | .csetSet core k => Sys2Proof.Machine.execCsetSet core k s
  | .gongArrive core k => Sys2Proof.Machine.execGongArrive core k s
  | .gongWait core k => Sys2Proof.Machine.execGongWait core k s
  | .gongSync core k => Sys2Proof.Machine.execGongSync core k s
  | .gongGenerationComplete stream stripe id => Sys2Proof.Machine.execGongGenerationComplete stream stripe id s
  | .gongWaitLimitExpiry core => Sys2Proof.Machine.execGongWaitLimitExpiry core s
  | .fence core k => Sys2Proof.Machine.execFence core k s
  | .fenceComplete core => Sys2Proof.Machine.execFenceComplete core s
  | .endShare core k => Sys2Proof.Machine.execEndShare core k s
  | .chk core k => Sys2Proof.Machine.execChk core k s
  | .stallWatchdogExpiry core => Sys2Proof.Machine.execStallWatchdogExpiry core s
  | .bankWrite core bank addr word => Sys2Proof.Machine.execBankWrite core bank addr word s
  | .validateBank w => Sys2Proof.Machine.execValidateBank w s
  | .validateComplete core bank => Sys2Proof.Machine.execValidateComplete core bank s
  | .invalidateBank w => Sys2Proof.Machine.execInvalidateBank w s
  | .instructionScrubPass core flips => Sys2Proof.Machine.execInstructionScrubPass core flips s
  | .coreEnWrite w => Sys2Proof.Machine.execCoreEnWrite w s
  | .coreStop w => Sys2Proof.Machine.execCoreStop w s
  | .coreCntClear w => Sys2Proof.Machine.execCoreCntClear w s
  | .coreRoleWrite w => Sys2Proof.Machine.execCoreRoleWrite w s
  | .coreStartDone core => Sys2Proof.Machine.execCoreStartDone core s
  | .coreDrainDone core => Sys2Proof.Machine.execCoreDrainDone core s
  | .coreDrainTimeout core => Sys2Proof.Machine.execCoreDrainTimeout core s
  | .marginWiden core => Sys2Proof.Machine.execMarginWiden core s
  | .ratchetRotation core bank accesses => Sys2Proof.Machine.execRatchetRotation core bank accesses s
  | .spadHazardClear w => Sys2Proof.Machine.execSpadHazardClear w s
  | .spadCfgWrite w => Sys2Proof.Machine.execSpadCfgWrite w s
  | .bankGroupStartDone core group => Sys2Proof.Machine.execBankGroupStartDone core group s
  | .bankGroupDrainDone core group => Sys2Proof.Machine.execBankGroupDrainDone core group s
  | .spadRemap w => Sys2Proof.Machine.execSpadRemap w s
  | .remapCopyDone core => Sys2Proof.Machine.execRemapCopyDone core s
  | .remapRecorded core => Sys2Proof.Machine.execRemapRecorded core s
  | .spadRowmapWrite w n => Sys2Proof.Machine.execSpadRowmapWrite w n s
  | .spadRingCfg0Write w r => Sys2Proof.Machine.execSpadRingCfg0Write w r s
  | .spadRingCfg1Write w r => Sys2Proof.Machine.execSpadRingCfg1Write w r s
  | .spadRingStateWrite w r => Sys2Proof.Machine.execSpadRingStateWrite w r s
  | .spadCntWrite w n meets => Sys2Proof.Machine.execSpadCntWrite w n meets s
  | .strmRfCtrlWrite w => Sys2Proof.Machine.execStrmRfCtrlWrite w s
  | .strmPbCtrlWrite w => Sys2Proof.Machine.execStrmPbCtrlWrite w s
  | .retiling => Sys2Proof.Machine.execRetiling s
  | .dmaGo w => Sys2Proof.Machine.execDmaGo w s
  | .dmaCancel w => Sys2Proof.Machine.execDmaCancel w s
  | .dmaCancelComplete channel => Sys2Proof.Machine.execDmaCancelComplete channel s
  | .dmaResume w => Sys2Proof.Machine.execDmaResume w s
  | .dmaCntClear w => Sys2Proof.Machine.execDmaCntClear w s
  | .dmaMove channel bad => Sys2Proof.Machine.execDmaMove channel bad s
  | .dmaMovex channel bad => Sys2Proof.Machine.execDmaMovex channel bad s
  | .dmaLoop channel bad => Sys2Proof.Machine.execDmaLoop channel bad s
  | .dmaEndloop channel bad => Sys2Proof.Machine.execDmaEndloop channel bad s
  | .dmaWaitDrain channel bad => Sys2Proof.Machine.execDmaWaitDrain channel bad s
  | .dmaWaitCounter channel bad => Sys2Proof.Machine.execDmaWaitCounter channel bad s
  | .dmaWaitSatisfied channel => Sys2Proof.Machine.execDmaWaitSatisfied channel s
  | .dmaWaitLimitExpiry channel => Sys2Proof.Machine.execDmaWaitLimitExpiry channel s
  | .dmaSignalCounter channel bad => Sys2Proof.Machine.execDmaSignalCounter channel bad s
  | .dmaSignalEvent channel bad => Sys2Proof.Machine.execDmaSignalEvent channel bad s
  | .dmaSignalSend channel index meets => Sys2Proof.Machine.execDmaSignalSend channel index meets s
  | .dmaSumStart channel bad => Sys2Proof.Machine.execDmaSumStart channel bad s
  | .dmaSumStop channel bad => Sys2Proof.Machine.execDmaSumStop channel bad s
  | .dmaSumResultStore channel => Sys2Proof.Machine.execDmaSumResultStore channel s
  | .dmaEnd channel bad => Sys2Proof.Machine.execDmaEnd channel bad s
  | .dmaPieceAck channel index how => Sys2Proof.Machine.execDmaPieceAck channel index how s
  | .dmaTagTimeout channel index => Sys2Proof.Machine.execDmaTagTimeout channel index s
  | .dramRequestTimeout who => Sys2Proof.Machine.execDramRequestTimeout who s
  | .pcieCompletionTimeout channel index => Sys2Proof.Machine.execPcieCompletionTimeout channel index s
  | .chainSegmentGrant channel => Sys2Proof.Machine.execChainSegmentGrant channel s
  | .chainWordDelivered channel core => Sys2Proof.Machine.execChainWordDelivered channel core s
  | .chainStallLimitExpiry core => Sys2Proof.Machine.execChainStallLimitExpiry core s
  | .dmaSegInval w => Sys2Proof.Machine.execDmaSegInval w s
  | .segmentCopyDone slot => Sys2Proof.Machine.execSegmentCopyDone slot s
  | .cvuCtrlWrite w unit => Sys2Proof.Machine.execCvuCtrlWrite w unit s
  | .cvuCfgWrite w unit => Sys2Proof.Machine.execCvuCfgWrite w unit s
  | .cvuClose w unit => Sys2Proof.Machine.execCvuClose w unit s
  | .cvuWindowWrite w unit => Sys2Proof.Machine.execCvuWindowWrite w unit s
  | .cvuWindowClose unit => Sys2Proof.Machine.execCvuWindowClose unit s
  | .coreForgiveness core => Sys2Proof.Machine.execCoreForgiveness core s
  | .shadowDispatch stream stripe band => Sys2Proof.Machine.execShadowDispatch stream stripe band s
  | .shadowCompareDone stream stripe band => Sys2Proof.Machine.execShadowCompareDone stream stripe band s
  | .testSliceStart core chime number steps words => Sys2Proof.Machine.execTestSliceStart core chime number steps words s
  | .testRoundOverdue => Sys2Proof.Machine.execTestRoundOverdue s
  | .configCrcRecheck flips => Sys2Proof.Machine.execConfigCrcRecheck flips s
  | .lockstepMismatch found => Sys2Proof.Machine.execLockstepMismatch found s
  | .doubt cause => Sys2Proof.Machine.execDoubt cause s
  | .sscDoubtWrite w => Sys2Proof.Machine.execSscDoubtWrite w s
  | .sscWdogKick w => Sys2Proof.Machine.execSscWdogKick w s
  | .sscWatchdogExpiry => Sys2Proof.Machine.execSscWatchdogExpiry s
  | .commitWatchdogExpiry stream stripe => Sys2Proof.Machine.execCommitWatchdogExpiry stream stripe s
  | .safeInAssert low => Sys2Proof.Machine.execSafeInAssert low s
  | .sscCopyDisagree => Sys2Proof.Machine.execSscCopyDisagree s
  | .sscSafeLevelWrite w => Sys2Proof.Machine.execSscSafeLevelWrite w s
  | .sscLockWrite w => Sys2Proof.Machine.execSscLockWrite w s
  | .sscRelease w safeIn => Sys2Proof.Machine.execSscRelease w safeIn s
  | .strmFltCtrlWrite w => Sys2Proof.Machine.execStrmFltCtrlWrite w s
  | .zlShortCellReceived rx credit => Sys2Proof.Machine.execZlShortCellReceived rx credit s
  | .zlIdleCellTimer link => Sys2Proof.Machine.execZlIdleCellTimer link s
  | .zlLinkSilence link => Sys2Proof.Machine.execZlLinkSilence link s
  | .zlRetrainTimer link => Sys2Proof.Machine.execZlRetrainTimer link s
  | .zlTrained link lanes latencyNs => Sys2Proof.Machine.execZlTrained link lanes latencyNs s
  | .zlHelloReceived link h => Sys2Proof.Machine.execZlHelloReceived link h s
  | .zlHelloTimeout link => Sys2Proof.Machine.execZlHelloTimeout link s
  | .zlLineCellReceived rx stream data => Sys2Proof.Machine.execZlLineCellReceived rx stream data s
  | .tokenCommitReceived rx stream line epoch rsv => Sys2Proof.Machine.execTokenCommitReceived rx stream line epoch rsv s
  | .tokenRetractLineReceived rx stream line epoch rsv => Sys2Proof.Machine.execTokenRetractLineReceived rx stream line epoch rsv s
  | .tokenReadyReceived rx stream stripe epoch rsv => Sys2Proof.Machine.execTokenReadyReceived rx stream stripe epoch rsv s
  | .tokenRetractSegmentReceived rx stream stripe epoch seg rsv => Sys2Proof.Machine.execTokenRetractSegmentReceived rx stream stripe epoch seg rsv s
  | .tokenLeaveReceived rx cause rsv => Sys2Proof.Machine.execTokenLeaveReceived rx cause rsv s
  | .tokenYieldReceived rx stream stripe epoch rsv => Sys2Proof.Machine.execTokenYieldReceived rx stream stripe epoch rsv s
  | .tokenDropReceived rx stream stripe epoch rsv => Sys2Proof.Machine.execTokenDropReceived rx stream stripe epoch rsv s
  | .digestCellReceived rx stream kind stripe epoch first vals rsv => Sys2Proof.Machine.execDigestCellReceived rx stream kind stripe epoch first vals rsv s
  | .segmentDigestCompute stream stripe seg => Sys2Proof.Machine.execSegmentDigestCompute stream stripe seg s
  | .markCellReceived rx decision stream number => Sys2Proof.Machine.execMarkCellReceived rx decision stream number s
  | .controlCellReceived rx stream eff c => Sys2Proof.Machine.execControlCellReceived rx stream eff c s
  | .messageCellReceived rx head data => Sys2Proof.Machine.execMessageCellReceived rx head data s
  | .rstreamCellReceived rx head data => Sys2Proof.Machine.execRstreamCellReceived rx head data s
  | .ringCellForward rx head data => Sys2Proof.Machine.execRingCellForward rx head data s
  | .lineTokenTimeout stream line => Sys2Proof.Machine.execLineTokenTimeout stream line s
  | .swapConfirmTimeout stream => Sys2Proof.Machine.execSwapConfirmTimeout stream s
  | .zpSwap w => Sys2Proof.Machine.execZpSwap w s
  | .zlCtrlWrite w => Sys2Proof.Machine.execZlCtrlWrite w s
  | .zrCtrlWrite w => Sys2Proof.Machine.execZrCtrlWrite w s
  | .calRun w => Sys2Proof.Machine.execCalRun w s
  | .calCaptureStart stream => Sys2Proof.Machine.execCalCaptureStart stream s
  | .calCaptureEnd stream => Sys2Proof.Machine.execCalCaptureEnd stream s
  | .calComputeDone stream => Sys2Proof.Machine.execCalComputeDone stream s
  | .calCommit w => Sys2Proof.Machine.execCalCommit w s
  | .calDiscard w => Sys2Proof.Machine.execCalDiscard w s
  | .calEffectStart stream => Sys2Proof.Machine.execCalEffectStart stream s
  | .calPbBlendStart stream => Sys2Proof.Machine.execCalPbBlendStart stream s
  | .calBlendEnd stream => Sys2Proof.Machine.execCalBlendEnd stream s
  | .calApertureWrite w off => Sys2Proof.Machine.execCalApertureWrite w off s
  | .calLimWrite w off => Sys2Proof.Machine.execCalLimWrite w off s
  | .calPersistWrite w => Sys2Proof.Machine.execCalPersistWrite w s
  | .calCanaryCtrlWrite w => Sys2Proof.Machine.execCalCanaryCtrlWrite w s
  | .tempSensorRead readings => Sys2Proof.Machine.execTempSensorRead readings s
  | .sensorExclude sensor => Sys2Proof.Machine.execSensorExclude sensor s
  | .sensorRejoin sensor => Sys2Proof.Machine.execSensorRejoin sensor s
  | .supplyMonitorCal found => Sys2Proof.Machine.execSupplyMonitorCal found s
  | .canaryEvaluation delays => Sys2Proof.Machine.execCanaryEvaluation delays s
  | .dramTrackingUpdate changes => Sys2Proof.Machine.execDramTrackingUpdate changes s
  | .serdesEqUpdate link eye training => Sys2Proof.Machine.execSerdesEqUpdate link eye training s
  | .lifeCountersWrite good => Sys2Proof.Machine.execLifeCountersWrite good s
  | .wearHistogramTick => Sys2Proof.Machine.execWearHistogramTick s
  | .rtcSet w => Sys2Proof.Machine.execRtcSet w s
  | .vbatOutOfRange mv => Sys2Proof.Machine.execVbatOutOfRange mv s
  | .tapTimeFrameSend => Sys2Proof.Machine.execTapTimeFrameSend s
  | .dmsLinesFrame flips met => Sys2Proof.Machine.execDmsLinesFrame flips met s
  | .dmsTimeFrame flips met => Sys2Proof.Machine.execDmsTimeFrame flips met s
  | .dmsTapSilence met => Sys2Proof.Machine.execDmsTapSilence met s
  | .dmsEncoderPulse a b => Sys2Proof.Machine.execDmsEncoderPulse a b s
  | .dmsStart f => Sys2Proof.Machine.execDmsStart f s
  | .dmsStop f => Sys2Proof.Machine.execDmsStop f s
  | .dmsRecAck f => Sys2Proof.Machine.execDmsRecAck f s
  | .dmsIdent f => Sys2Proof.Machine.execDmsIdent f s
  | .dmsTrailPage f => Sys2Proof.Machine.execDmsTrailPage f s
  | .dmsSetparam f cut => Sys2Proof.Machine.execDmsSetparam f cut s
  | .dmsFwupdate f version sha cut => Sys2Proof.Machine.execDmsFwupdate f version sha cut s
  | .dmsTrailAck f => Sys2Proof.Machine.execDmsTrailAck f s
  | .dmsAdjustEnter met => Sys2Proof.Machine.execDmsAdjustEnter met s
  | .dmsAdjustLeave met => Sys2Proof.Machine.execDmsAdjustLeave met s
  | .dmsStateSave met => Sys2Proof.Machine.execDmsStateSave met s
  | .dmsBoot okA okB paramsOk met => Sys2Proof.Machine.execDmsBoot okA okB paramsOk met s
  | .dmsOscFail met => Sys2Proof.Machine.execDmsOscFail met s
  | .dmsOscRecover => Sys2Proof.Machine.execDmsOscRecover s
  | .dmsPowerLoss => Sys2Proof.Machine.execDmsPowerLoss s
  | .csi2FrameStart port vc number => Sys2Proof.Machine.execCsi2FrameStart port vc number s
  | .csi2FrameEnd port vc => Sys2Proof.Machine.execCsi2FrameEnd port vc s
  | .csi2LineStart port vc => Sys2Proof.Machine.execCsi2LineStart port vc s
  | .csi2LineEnd port vc => Sys2Proof.Machine.execCsi2LineEnd port vc s
  | .csi2LongPacket port vc dt how words => Sys2Proof.Machine.execCsi2LongPacket port vc dt how words s
  | .csi2GenericShortPacket port vc code => Sys2Proof.Machine.execCsi2GenericShortPacket port vc code s
  | .cxpStreamPacket port id p => Sys2Proof.Machine.execCxpStreamPacket port id p s
  | .cxpControlPacket port channel data => Sys2Proof.Machine.execCxpControlPacket port channel data s
  | .cxpEventPacket port data => Sys2Proof.Machine.execCxpEventPacket port data s
  | .cxpLockLoss link => Sys2Proof.Machine.execCxpLockLoss link s
  | .cxpDiscoveryDone port rate links => Sys2Proof.Machine.execCxpDiscoveryDone port rate links s
  | .slvdsLine start stop words => Sys2Proof.Machine.execSlvdsLine start stop words s
  | .sourceLoss port => Sys2Proof.Machine.execSourceLoss port s
  | .sourceRegained port lanes => Sys2Proof.Machine.execSourceRegained port lanes s
  | .hinEntryRead stream => Sys2Proof.Machine.execHinEntryRead stream s
  | .strmHinHeadWrite w => Sys2Proof.Machine.execStrmHinHeadWrite w s
  | .hqEntryWrite stream failed => Sys2Proof.Machine.execHqEntryWrite stream failed s
  | .strmHqTailWrite w => Sys2Proof.Machine.execStrmHqTailWrite w s
  | .strmQueueConfigWrite w reg => Sys2Proof.Machine.execStrmQueueConfigWrite w reg s
  | .gvspBlockSend stream => Sys2Proof.Machine.execGvspBlockSend stream s
  | .gvcpDiscovery port => Sys2Proof.Machine.execGvcpDiscovery port s
  | .gvcpRegisterAccess port addr wval standardId => Sys2Proof.Machine.execGvcpRegisterAccess port addr wval standardId s
  | .gvcpMemoryAccess port addr data len => Sys2Proof.Machine.execGvcpMemoryAccess port addr data len s
  | .gvcpAddressAssignment port ip => Sys2Proof.Machine.execGvcpAddressAssignment port ip s
  | .gvcpPacketresend port channel block first last => Sys2Proof.Machine.execGvcpPacketresend port channel block first last s
  | .pcieLinkTrained gen width => Sys2Proof.Machine.execPcieLinkTrained gen width s
  | .pcieLinkDown hostReset => Sys2Proof.Machine.execPcieLinkDown hostReset s
  | .functionLevelReset => Sys2Proof.Machine.execFunctionLevelReset s
  | .pcieAerUncorrectable t => Sys2Proof.Machine.execPcieAerUncorrectable t s
  | .streamStart w => Sys2Proof.Machine.execStreamStart w s
  | .streamStop w => Sys2Proof.Machine.execStreamStop w s
  | .streamConfigWrite w off => Sys2Proof.Machine.execStreamConfigWrite w off s
  | .portCfgWrite w => Sys2Proof.Machine.execPortCfgWrite w s
  | .portCxpTrigWrite w => Sys2Proof.Machine.execPortCxpTrigWrite w s
  | .portSlvdsSyncWrite w second => Sys2Proof.Machine.execPortSlvdsSyncWrite w second s
  | .encoderPulse enc a b busy => Sys2Proof.Machine.execEncoderPulse enc a b busy s
  | .triggerEdge input rising busy => Sys2Proof.Machine.execTriggerEdge input rising busy s
  | .fioTrigCtrlWrite w levels => Sys2Proof.Machine.execFioTrigCtrlWrite w levels s
  | .decisionDue => Sys2Proof.Machine.execDecisionDue s
  | .pulseEnd => Sys2Proof.Machine.execPulseEnd s
  | .aliveToggle => Sys2Proof.Machine.execAliveToggle s
  | .fioActForceWrite w => Sys2Proof.Machine.execFioActForceWrite w s
  | .pwrGoodAssert b => Sys2Proof.Machine.execPwrGoodAssert b s
  | .bootStepOverrun step => Sys2Proof.Machine.execBootStepOverrun step s
  | .pwrGoodDeassert railsHold good => Sys2Proof.Machine.execPwrGoodDeassert railsHold good s
  | .supplyRailOutOfRange rail out => Sys2Proof.Machine.execSupplyRailOutOfRange rail out s
  | .vddMetLoss => Sys2Proof.Machine.execVddMetLoss s
  | .thermistorRead inlet outlet power => Sys2Proof.Machine.execThermistorRead inlet outlet power s
  | .coolantAlarm => Sys2Proof.Machine.execCoolantAlarm s
  | .junctionCheck => Sys2Proof.Machine.execJunctionCheck s
  | .thermalLimitExpiry => Sys2Proof.Machine.execThermalLimitExpiry s
  | .shedRelease => Sys2Proof.Machine.execShedRelease s
  | .thermalTrip => Sys2Proof.Machine.execThermalTrip s
  | .thermCtrlWrite w => Sys2Proof.Machine.execThermCtrlWrite w s
  | .handoverAbandon => Sys2Proof.Machine.execHandoverAbandon s
  | .keyAddKey c => Sys2Proof.Machine.execKeyAddKey c s
  | .keyRevokeKey c => Sys2Proof.Machine.execKeyRevokeKey c s
  | .keySetPassword c => Sys2Proof.Machine.execKeySetPassword c s
  | .keySetMgmtKey c => Sys2Proof.Machine.execKeySetMgmtKey c s
  | .keyProvisionDone c cut => Sys2Proof.Machine.execKeyProvisionDone c cut s
  | .vendorProvision crKey firstKey cut => Sys2Proof.Machine.execVendorProvision crKey firstKey cut s
  | .vendorReturn sigOk key cut => Sys2Proof.Machine.execVendorReturn sigOk key cut s
  | .secSubmitPw w => Sys2Proof.Machine.execSecSubmitPw w s
  | .secSubmitCr w => Sys2Proof.Machine.execSecSubmitCr w s
  | .secNonce w => Sys2Proof.Machine.execSecNonce w s
  | .secClose w => Sys2Proof.Machine.execSecClose w s
  | .nonceExpiry => Sys2Proof.Machine.execNonceExpiry s
  | .lockoutEnd => Sys2Proof.Machine.execLockoutEnd s
  | .jtagAccess op => Sys2Proof.Machine.execJtagAccess op s
  | .mgmtDatagramReceived d => Sys2Proof.Machine.execMgmtDatagramReceived d s
  | .mgmtAckReceived d => Sys2Proof.Machine.execMgmtAckReceived d s
  | .mgmtResendTimer => Sys2Proof.Machine.execMgmtResendTimer s
  | .mgmtPeerSilent => Sys2Proof.Machine.execMgmtPeerSilent s
  | .mgmtHeartbeat => Sys2Proof.Machine.execMgmtHeartbeat s
  | .reportSend => Sys2Proof.Machine.execReportSend s
  | .mgmtRateWrite w => Sys2Proof.Machine.execMgmtRateWrite w s
  | .clapperGetSnapshot d => Sys2Proof.Machine.execClapperGetSnapshot d s
  | .clapperGetLifePage d page => Sys2Proof.Machine.execClapperGetLifePage d page s
  | .clapperInstallChime d part pack => Sys2Proof.Machine.execClapperInstallChime d part pack s
  | .clapperWriteFirmware d part => Sys2Proof.Machine.execClapperWriteFirmware d part s
  | .clapperHandover d => Sys2Proof.Machine.execClapperHandover d s
  | .clapperRelease d safeIn => Sys2Proof.Machine.execClapperRelease d safeIn s
  | .clapperHazardClear d core => Sys2Proof.Machine.execClapperHazardClear d core s
  | .clapperSetCalendar d seconds => Sys2Proof.Machine.execClapperSetCalendar d seconds s
  | .clapperKeyCmd d c cut => Sys2Proof.Machine.execClapperKeyCmd d c cut s
  | .clapperGetNonce d => Sys2Proof.Machine.execClapperGetNonce d s
  | .clapperReopen d way scope => Sys2Proof.Machine.execClapperReopen d way scope s
  | .transferIdleTimeout code => Sys2Proof.Machine.execTransferIdleTimeout code s
  | .glbIntStatusWrite w => Sys2Proof.Machine.execGlbIntStatusWrite w s
  | .glbIntEnableWrite w => Sys2Proof.Machine.execGlbIntEnableWrite w s
  | .glbIntStrmStatusWrite w => Sys2Proof.Machine.execGlbIntStrmStatusWrite w s
  | .glbIntStrmEnableWrite w => Sys2Proof.Machine.execGlbIntStrmEnableWrite w s
  | .intHoldoffExpiry who stream => Sys2Proof.Machine.execIntHoldoffExpiry who stream s
  | .mbxLoad w img channel => Sys2Proof.Machine.execMbxLoad w img channel s
  | .mbxSwap w img channel => Sys2Proof.Machine.execMbxSwap w img channel s
  | .mbxHandover w => Sys2Proof.Machine.execMbxHandover w s
  | .mbxWriteFirmware w channel => Sys2Proof.Machine.execMbxWriteFirmware w channel s
  | .mbxKeyCmd w c channel => Sys2Proof.Machine.execMbxKeyCmd w c channel s
  | .mbxHazardClear w => Sys2Proof.Machine.execMbxHazardClear w s
  | .mbxDramRead w channel => Sys2Proof.Machine.execMbxDramRead w channel s
  | .mbxDramWrite w channel => Sys2Proof.Machine.execMbxDramWrite w channel s
  | .mbxCxpControl w => Sys2Proof.Machine.execMbxCxpControl w s
  | .mbxSegment w channel => Sys2Proof.Machine.execMbxSegment w channel s
  | .mbxDamsonCmd w => Sys2Proof.Machine.execMbxDamsonCmd w s
  | .mbxResponsePost side => Sys2Proof.Machine.execMbxResponsePost side s
  | .mbxEventPost side => Sys2Proof.Machine.execMbxEventPost side s
  | .mbxRspTailWrite w => Sys2Proof.Machine.execMbxRspTailWrite w s
  | .mbxEvtTailWrite w => Sys2Proof.Machine.execMbxEvtTailWrite w s
  | .dbgRead w => Sys2Proof.Machine.execDbgRead w s
  | .dbgWrite w => Sys2Proof.Machine.execDbgWrite w s
  | .dbgHalt w => Sys2Proof.Machine.execDbgHalt w s
  | .dbgResume w => Sys2Proof.Machine.execDbgResume w s
  | .controlPairSelfTestDone pass burnOk => Sys2Proof.Machine.execControlPairSelfTestDone pass burnOk s
  | .vddIo33Below2v7 => Sys2Proof.Machine.execVddIo33Below2v7 s

end Sys2Proof.Machine
end

