-- ==== Sys2Proof/Machine/Idle.lean ====
section
/-! DEFINITION. Machine/Idle.lean: what the block does when no command waits (DESIGN CHOICE, log entry 8). -/

namespace Sys2Proof.Machine

open Sys2Proof

/-- The SSC's own 25 MHz oscillator counts every 40 ns (R295, R298). -/
def sscTick (s : State) : State :=
  if s.sscPhase = 3 then { s with sscPhase := 0, sscCount := s.sscCount + 1 } else { s with sscPhase := s.sscPhase + 1 }

/-- Ticks of a calendar second: RTC_TRIM's steps of 0.25 ppm shorten it (R347; the sign is a DESIGN CHOICE, log entry 8). -/
def rtcSecond (s : State) : Nat := (100000000 - 25 * sext 10 (rd s R.RTC_TRIM.PPM_Q2 0)).toNat

/-- The calendar counts seconds while it is set (R347). -/
def rtcTick (s : State) : State :=
  if s.rtcPhase + 1 < rtcSecond s then { s with rtcPhase := s.rtcPhase + 1 }
  else
    let s1 := { s with rtcPhase := 0 }
    if isSet s R.RTC_STATUS.VALID 0 then wr s1 R.RTC_SECONDS.SECONDS 0 (rd s1 R.RTC_SECONDS.SECONDS 0 + 1) else s1

/-- With no command waiting, one tick of 10 ns passes (R30, R389): the field tick count advances while the field
timebase runs (R32); the SSC's oscillator and the calendar go on always; and the control complex cancels the channels whose halt
cannot be resumed (R264) hands over the cores whose rows have failed with no spare left (R168), settles the stripes whose
windows have closed (R317), and moves the DRAM channels' delays (R329). -/
def idle (s : State) : State :=
  let s1 := stepDrift (settleAll (settleSpareless (answerHalts (rtcTick (sscTick s)))))
  if s.fieldLost then s1 else { s1 with tick := s1.tick + 1 }

end Sys2Proof.Machine
end

