-- ==== Sys2Proof/Safety.lean ====
section
/-! DEFINITION. Safety.lean: the terms in which statements speak of runs: a write that passes the conditions every
register write passes, an instruction a core can fetch and issue, the shape every run keeps, and when two states agree. -/

namespace Sys2Proof.Machine

open Sys2Proof

/-! ### Register writes (R17, R442, R443, R446) -/

/-- A write reaches the `n`-th register of an array, of the selected instance `i`: the instance is present, all four
byte enables are set, the requester may write the register, and no reserved bit is written 1. -/
abbrev Takes (s : State) (w : Wr) (r : RegSpec) (n i : Nat) : Prop :=
  instOf s w.who r.kind = some i ∧ w.be = 15 ∧ mayWrite w.who r.kind (r.off + r.stride * n) = true ∧
    r.flds.any (fun f => f.acc != .ro) = true ∧ rsvTouched r w.val = false

/-- A register whose write acts beyond its fields, or only sometimes: margin trims, the promise status, actuator and pair functions,
password length, encoder 0's control, the calibration blend and the debug window. -/
def hasOwnEffect (r : RegSpec) : Bool :=
  [R.CLU_MARGIN.reg.off, R.PIPE_PROMISE_STATUS.reg.off, R.FIO_ACT_FUNC.reg.off, R.ZP_CTRL.reg.off, R.SEC_PW_LEN.reg.off, R.FIO_ENC_CTRL.reg.off,
    R.CAL_BLEND.reg.off].contains r.off || decide (0xF0000 ≤ r.off)

/-! ### Instructions of a core (R76, R94, R95) -/

/-- No check fails and nothing is poisoned while the instruction runs. -/
def quietRun : Chk := ⟨[], false⟩

/-- Core `c` runs a share, may issue, and fetches the instruction word `w`, of which no stored bit has flipped: it does not wait for the
data of an XFER read in one of the word's vector registers, and no loop ends at it without a body. -/
abbrev Fetches (s : State) (c w : Nat) : Prop :=
  mayIssue s c = true ∧ pcOf s c ≤ 4095 ∧ bankWord s c (activeBank s c) (pcOf s c) = w ∧ bankFlips s c (activeBank s c) (pcOf s c) = 0 ∧
    (coreAt s c).reads.any (fun r => (vregsOf w).contains r.vd) = false ∧
    badLoopEnd (coreAt s c) w (pcOf s c) = false

/-- An instruction of the MMA family has nothing to hold or stop it (R94, R112 to R118): descriptors, shape and pairing
are valid, its tile is one of the share's, a tile it adds to has the tag it writes, its words exist, and what it reads, holds and adds
to carries neither poison nor a failing check. -/
abbrev MmaRuns (s : State) (c w : Nat) (g : MmaArgs) (tag group p : Nat) (d : Desc) : Prop :=
  ¬ ((coreAt s c).computing = true ∧ (coreAt s c).waiting.isSome = true) ∧ descOk g.a = true ∧ descOk g.b = true ∧
    g.shapeOk = true ∧ g.pair = some (tag, group, p) ∧ (coreAt s c).run = some d ∧ g.b.cols ≤ group ∧ dst w < d.accTiles ∧
    (bit w 0 = true ∨ (tileAt (coreAt s c) (dst w)).init = false ∨ (tileAt (coreAt s c) (dst w)).tag = tag) ∧
    fpOk s c g.aFoot = true ∧ fpOk s c (weightFoot g) = true ∧ fpCodes s c (mmaReads (coreAt s c) g (bit w 1)) = [] ∧
    (heldFor s c (coreAt s c) g.b g.cb (bit w 1)).parityBad (mmaColumn (coreAt s c) w g) = false ∧
    (mmaSum (coreAt s c) w g tag (heldFor s c (coreAt s c) g.b g.cb (bit w 1)) quietRun).2.2.2 = []

/-- What it leaves: the accumulator tile with the products added under the mask, its counts, the weight tile it holds, and
its steps started or queued (R68, R113). -/
def mmaResult (s : State) (c w : Nat) (g : MmaArgs) (tag p : Nat) : State :=
  let k := coreAt s c
  let h := heldFor s c k g.b g.cb (bit w 1)
  let r := accumulate (tileAt k (dst w)) (bit w 0) tag
    (fun i n => decide (i < g.a.rows) && decide (n < g.b.rows) && lane (mreg k (bits w 2 3)) n)
    (fun i n old => (accElem g.a.fmt (weightFmt h) tag (g.aRow i) (weightsOf h n) (g.aScale i) (scalesOf h n) old, false))
  queueMma (countBoth (modCore s c fun k => setTile { k with held := nextHeld k h (reusable k g.b g.cb (bit w 1)).isSome } (dst w) r.1) c r.2.1 r.2.2.1) c
    (g.a.rows * g.steps p)

/-! ### Instructions of a DMA channel (R239, R240, R263) -/

/-- Channel `c` runs a program with start `st`, and fetches the instruction `w`, at an address of memory and without an error, with a step
of its budget left. -/
abbrev DmaFetches (s : State) (c : Nat) (st : DmaStart) (w : Nat) : Prop :=
  (dmaCh s c).run = some st ∧ chState s c = chRunning ∧ (dmaCh s c).pc < st.len ∧
    fetchOk s (instrAt st (dmaCh s c).pc) = true ∧ busBad s (instrAt st (dmaCh s c).pc) 32 = [] ∧ dmaInstr s st (dmaCh s c).pc = w ∧
    ((dmaCh s c).begun = true ∨ (dmaCh s c).steps < budgetOf st)

/-! ### Cells of a Zehorn link (R305 to R307, R312) -/

/-- The link layer of a link that is up takes a good cell that is next in sequence, and `s1` is what it leaves; on a pair
link it is next in PSEQ order too. -/
abbrev CellTaken (s : State) (rx : Rx) (s1 : State) : Prop :=
  linkUp s rx.link = true ∧ rx.more = false ∧ rx.stomped = false ∧ rx.crcOk = true ∧ rx.bad = false ∧
    rx.lseq = ((zl s rx.link).last + 1) % 2 ^ 24 ∧
    takeAck (setZl s rx.link { zl s rx.link with
      lastRx := s.tick, last := rx.lseq, nakked := false, taking := rx.lseq + 1 }) rx.link rx.ack rx.nak none = s1 ∧
    (2 ≤ rx.link ∨ rx.pseq = s1.pair.pIn)

/-- A cell that is next has its effect; on a pair link cells that came ahead and are next now follow it. -/
def thenAhead (link : Nat) (s : State) (f : State → State) : State :=
  if 2 ≤ link then f s
  else drainAhead (f { s with pair := { s.pair with pIn := (s.pair.pIn + 1) % 65536 } }) (2 * cellRoom)

/-! ### Commands from the host and from Clapper (R431, R456, R457) -/

/-- A doorbell of instance `i` for a slot that is not busy and holds a well-formed request `r` of command `cmd`; `s1` is
the state with the slot busy. -/
abbrev Requested (s : State) (w : Wr) (cmd i : Nat) (r : MbxReq) (s1 : State) : Prop :=
  Takes s w R.MBX_DOORBELL.reg 0 i ∧ bit (rd s R.MBX_STATUS.SLOT_BUSY i) (w.val % 8) = false ∧
    r = requestOf (w.val % 8) (slotBytes (mbxOf s i) (w.val % 8)) ∧ r.cmd = cmd ∧
    argLen (slotBytes (mbxOf s i) (w.val % 8)) ≤ 248 ∧
    s1 = setMbx s i { mbxOf s i with reqs := (mbxOf s i).reqs ++ [r] }

/-- A COMMAND is taken (R431, R435): at the enabled management port, or out of those that came over the ring; its tag verifies,
and its identity and number are right. `s1` is the state it leaves, with what its ACK covers freed; `back` ends an answer over
the ring. -/
abbrev CommandTaken (s : State) (d : InDgram) (s1 : State) (back : State → State) : Prop :=
  (isSet s R.MGMT_NET_CTRL.EN 0 = true ∧ s.mgmt.relayed.find? (fun x => x.2 == d) = none ∧ forOther s d = false ∧
    authentic (wr s R.MGMT_STATUS.LINK 0 1) d = true ∧ s1 = accept (wr s R.MGMT_STATUS.LINK 0 1) d ∧ back = id) ∨
  (∃ x, s.mgmt.relayed.find? (fun x => x.2 == d) = some x ∧
    let s0 := { s with mgmt := { s.mgmt with relayed := s.mgmt.relayed.erase x, route := some x.1 } }
    authentic s0 d = true ∧ s1 = accept s0 d ∧ back = fun t => { t with mgmt := { t.mgmt with route := none } })

/-! ### What every run keeps -/

/-- The maps of numbers a state is built from are in canonical form: the two memories (R236) and the register map. -/
abbrev WellKept (s : State) : Prop := Memory.wf s.mem ∧ Memory.wf s.hostMem ∧ keysRise s.regs = true

/-- A Damson command frame is taken (R361): Damson runs and it carries command `cmd` in its bytes `b`, over MET_RX, framed, with a CRC
that checks, or as the next frame of the tap, with a digest and a form that check; `s0` is the state it is answered in. -/
abbrev DmsTaken (s : State) (f : DmsFrame) (cmd : Nat) (b : List Byte) (s0 : State) : Prop :=
  dmsAwake s = true ∧ fieldLE b 0 1 = cmd ∧
    match f.via with
    | .serial line => frameOf line = some b ∧ dmsAt s f.met = s0
    | .tap flips => ∃ fr s1, tapTake s flips (fun t => t == 2) = some (fr, s1) ∧ tapDigestOk fr = true ∧
        tapFormOk fr 2 = true ∧ fieldLE fr 1 1 = 0 ∧ tapBody fr = b ∧ dmsAt s1 f.met = s0

end Sys2Proof.Machine
end

