-- ==== Sys2Proof/Certificates/Slice0/Obligations.lean ====
section
/-! DEFINITION. Certificates/Slice0/Obligations.lean: the statements about the model, each with the rules it rests on. -/

open Sys2Proof Sys2Proof.Machine

/-- A step takes the command at the front of the queue and runs it on the state with the queue's rest. -/
def Obligations.StepRunsTheFrontCommand : Prop :=
  ∀ (c : Instr) (rest : List Instr) (s : State),
    step { s with pending := c :: rest } = exec c { s with pending := rest }

/-- With no command waiting a step lets one tick pass, the model's choice of log entry 8: the field tick count
advances while the field timebase runs, the SSC's count every fourth tick, the calendar's seconds, each as long as
RTC_TRIM makes it, while it is set; a DMA channel halted for good is cancelled with it (log entry 17), a core that
ended with no spare left is settled, a part of a pair settles its stripes, and a DRAM sampling point moves one step
towards the place it was given (log entry 56); where none of these waits, nothing else changes. It rests on the
model's choices of log entries 8, 17, 56. -/
def Obligations.IdleStepLetsATickPass : Prop :=
  ∀ s : State, s.pending = [] → ∃ t,
    (let u := stepDrift (settleAll (settleSpareless (answerHalts t)))
     step s = .next (if s.fieldLost then u else { u with tick := u.tick + 1 })) ∧
    t = { s with sscCount := t.sscCount, sscPhase := t.sscPhase, rtcPhase := t.rtcPhase, regs := t.regs } ∧
    (s.sscPhase = 3 → t.sscCount = s.sscCount + 1 ∧ t.sscPhase = 0) ∧
    (s.sscPhase ≠ 3 → t.sscCount = s.sscCount ∧ t.sscPhase = s.sscPhase + 1) ∧
    (s.rtcPhase + 1 < rtcSecond s ∨ isSet s R.RTC_STATUS.VALID 0 = false → t.regs = s.regs) ∧
    (rtcSecond s ≤ s.rtcPhase + 1 → isSet s R.RTC_STATUS.VALID 0 = true →
      rd t R.RTC_SECONDS.SECONDS 0 = (rd s R.RTC_SECONDS.SECONDS 0 + 1) % 2 ^ 32) ∧
    ((∀ c, c ∈ s.dmas.map (·.1) → chState t c = chHalted → isSet t R.DMA_CH_STATE.RESUMABLE c = true) → answerHalts t = t) ∧
    (∀ c d, s.dmas = [(c, d)] → chState t c = chHalted → isSet t R.DMA_CH_STATE.RESUMABLE c = false →
      answerHalts t = cancelCh t c) ∧
    ((∀ e, e ∈ t.cores → e.2.spareless = false ∨ e.2.run.isSome = true) → settleSpareless t = t) ∧
    (rd t R.ZP_STATUS.ROLE 0 = 0 → settleAll t = t) ∧
    (t.self.driftTo = t.self.drift → stepDrift t = t) ∧
    (∀ c, c < 8 → tget 0 (stepDrift t).self.drift c =
      stepTo 1 (tget 0 t.self.drift c) (tget 0 t.self.driftTo c))

/-- R295, R401, R17: after reset SAFE is latched with cause 0x0D0C, the control complex is in PHASE 0, no core is on,
no stream runs, the field tick count is 0, nothing is queued, and the memories list nothing. It rests on the model's
choices of log entries 2, 3. -/
def Obligations.ResetIsSafeAndQuiet : Prop :=
  isSafe State.reset = true ∧ rd State.reset R.SSC_CAUSE.CODE 0 = 0x0D0C ∧ rd State.reset R.BOOT_STATUS.PHASE 0 = 0 ∧
    (∀ c, c < 128 → rd State.reset R.CORE_STATE.STATE c = coreOff) ∧
    (∀ k, k < 32 → running State.reset k = false) ∧ State.reset.tick = 0 ∧ State.reset.pending = [] ∧
    State.reset.mem = [] ∧ State.reset.hostMem = [] ∧ State.reset.fatalQ = [] ∧ State.reset.ordQ = [] ∧
    WellKept State.reset

/-- Every step keeps the stores of a state in canonical form: main memory, host memory and the register map. It rests
on the model's choices of log entry 3. -/
def Obligations.EveryStepKeepsTheStores : Prop :=
  ∀ s t : State, WellKept s → step s = .next t → WellKept t

/-- R297, R298: a latched SAFE stays latched, whatever command is given, but for a release: RELEASE of SSC_CTRL by the
host or Clapper, or Clapper's RELEASE command, with SAFE_IN_n high, the field timebase running and no environment
doubt present. It rests on the model's choices of log entry 4. -/
def Obligations.SafeIsLeftByAReleaseOnly : Prop :=
  ∀ (c : Instr) (s t : State), exec c s = .next t → isSafe s = true → isSafe t = false →
    s.fieldLost = false ∧ s.flt.env = [] ∧
      ((∃ w, c = .sscRelease w false ∧ fval R.SSC_CTRL.RELEASE w.val = 0x5A ∧ w.who ≠ .control) ∨
        (∃ d, c = .clapperRelease d false ∧ authentic s d = true))

/-- No command touches the queue or changes what the part is; what has left the part is not taken back, and free
values are drawn forward only, so that no two draws of a run are the same one (log entries 1, 6). It rests on the
model's choices of log entries 1, 6. -/
def Obligations.CommandsLeaveTheQueueAlone : Prop :=
  ∀ (c : Instr) (s t : State), exec c s = .next t →
    t.pending = s.pending ∧ t.part = s.part ∧ s.free ≤ t.free ∧ ∃ l, t.out = l ++ s.out

/-- No command stops: each has a next state, in every state. It rests on the model's choices of log entry 4. -/
def Obligations.EveryCommandCompletes : Prop :=
  ∀ (c : Instr) (s : State), ∃ t, exec c s = .next t

/-- R17: a write of a register without a row of its own, by a requester that may write it, gives every RW field the
bits written, clears the RW1C bits written 1, changes no other field of any register and nothing else. The registers
whose write has an effect beyond their fields are those `RegisterWriteElsewhere` names. It rests on the model's
choices of log entry 10. -/
def Obligations.RegisterWriteSetsItsFields : Prop :=
  ∀ (s : State) (w : Wr) (off n i : Nat) (r : RegSpec), regAt off = some (r, n) → sourceReg off = none →
    hasOwnEffect r = false → Takes s w r n i →
    ∃ t, exec (.registerWrite w off) s = .next t ∧ t = { s with regs := t.regs } ∧
      (∀ f ∈ r.flds, rd t (f.nth n) i =
        if f.ownRow then rd s (f.nth n) i
        else match f.acc with
          | .rw => bits w.val f.lo f.width
          | .rw1c => maskOf f.width (fun b => bit (rd s (f.nth n) i) b && !bit (bits w.val f.lo f.width) b)
          | .ro | .wo => rd s (f.nth n) i) ∧
      (∀ g j, (∀ f ∈ r.flds, g.key j ≠ (f.nth n).key i) → rd t g j = rd s g j)

/-- Register writes whose effect goes beyond the register's fields: the windows, and what a field of R37, R155, R326,
R390, R395, R426 or R461 governs besides itself. It rests on the model's choices of log entries 10, 62. -/
def Obligations.RegisterWriteElsewhere : Prop :=
  (∀ (s : State) (w : Wr) (i : Nat), Takes s w R.CLU_MARGIN.reg 0 i →
    exec (.registerWrite w R.CLU_MARGIN.reg.off) s = .next (showMargin (putPlain s R.CLU_MARGIN.reg 0 i w.val) i)) ∧
  (∀ (s : State) (w : Wr) (i : Nat), Takes s w R.FIO_ACT_FUNC.reg 0 i →
    exec (.registerWrite w R.FIO_ACT_FUNC.reg.off) s = .next (showFixed (putPlain s R.FIO_ACT_FUNC.reg 0 i w.val))) ∧
  (∀ (s : State) (w : Wr) (i : Nat), Takes s w R.ZP_CTRL.reg 0 i →
    exec (.registerWrite w R.ZP_CTRL.reg.off) s = .next (writeZpCtrl s w.val)) ∧
  (∀ (s : State) (w : Wr) (i : Nat), Takes s w R.CAL_BLEND.reg 0 i →
    exec (.registerWrite w R.CAL_BLEND.reg.off) s = .next
      (if listenerRefuses s w then report s 0x0C0B i 0
       else sendControl (putPlain s R.CAL_BLEND.reg 0 i w.val) i (frontNext (strm s i)) R.CAL_BLEND.reg.off [w.val])) ∧
  (∀ (s : State) (w : Wr) (i : Nat), Takes s w R.PIPE_PROMISE_STATUS.reg 0 i →
    exec (.registerWrite w R.PIPE_PROMISE_STATUS.reg.off) s = .next (keepVoid (putPlain s R.PIPE_PROMISE_STATUS.reg 0 i w.val))) ∧
  (∀ (s : State) (w : Wr) (i : Nat), Takes s w R.SEC_PW_LEN.reg 0 i →
    exec (.registerWrite w R.SEC_PW_LEN.reg.off) s = .next (secMap (putPlain s R.SEC_PW_LEN.reg 0 i w.val)
      fun x => { x with pwLen := fval R.SEC_PW_LEN.LEN w.val })) ∧
  (∀ (s : State) (w : Wr) (n i : Nat), n < 2 → Takes s w R.FIO_ENC_CTRL.reg n i →
    exec (.registerWrite w (R.FIO_ENC_CTRL.reg.off + R.FIO_ENC_CTRL.reg.stride * n)) s = .next
      (if n = 0 ∧ s.part.damson = true then s else putPlain s R.FIO_ENC_CTRL.reg n i w.val)) ∧
  (∀ (s : State) (w : Wr) (i : Nat), Takes s w R.DBG_ADDR_LO.reg 0 i →
    exec (.registerWrite w R.DBG_ADDR_LO.reg.off) s = .next
      (if dbgOpen s = true then putPlain s R.DBG_ADDR_LO.reg 0 i w.val else s)) ∧
  (∀ (s : State) (w : Wr) (a : Nat), w.who ≠ .control → a < 0x800 →
    bit (rd s R.MBX_STATUS.SLOT_BUSY (reqNo w.who)) (a / 256) = false →
    exec (.registerWrite w (0xA1000 + a)) s = .next (writeReqSlot s w a)) ∧
  (∀ (s : State) (w : Wr) (a : Nat), w.who = .host → a < 256 → dbgOpen s = true →
    exec (.registerWrite w (0xF0100 + a)) s = .next
      { s with dbgData := splice s.dbgData a (mergeBytes (slice s.dbgData a 4) w) })

/-- R442, R446, R449: an access to an absent instance or to an unmapped offset has the bad access as its effect, and a
register write to an absent instance, to no register or window, or with partial byte enables has it too: the
requester's GLB_WIN_STATUS takes the bit of its kind, and FIRST_OFFSET where no bit was set, and nothing else changes;
a read is answered zero. An access that is to neither changes nothing by these two commands. It rests on the model's
choices of log entries 6, 10. -/
def Obligations.BadAccessSetsWindowError : Prop :=
  (∀ (s : State) (a : Acc) (b : Nat), absentBit s a.who a.off = some b →
    exec (.absentInstanceAccess a) s = .next (badAccess s a b)) ∧
  (∀ (s : State) (a : Acc), mapped a.off = false → exec (.unmappedOffsetAccess a) s = .next (badAccess s a 8)) ∧
  (∀ (s : State) (a : Acc), absentBit s a.who a.off = none → exec (.absentInstanceAccess a) s = .next s) ∧
  (∀ (s : State) (a : Acc), mapped a.off = true → exec (.unmappedOffsetAccess a) s = .next s) ∧
  (∀ (s : State) (a : Acc) (b : Nat),
    (badAccess s a b).regs = (winErr s a.who b a.off).regs ∧
      badAccess s a b = { s with regs := (badAccess s a b).regs, out := (badAccess s a b).out } ∧
      (badAccess s a b).out = (if a.wval.isNone then [.answer 8 [reqNo a.who, a.off, 0]] else []) ++ s.out) ∧
  (∀ (s : State) (who : Requester) (b off : Nat),
    winErr s who b off = { s with regs := (winErr s who b off).regs } ∧
      rd (winErr s who b off) (winFld b) (reqNo who) = 1 ∧
      (winClear s (reqNo who) = true →
        rd (winErr s who b off) R.GLB_WIN_STATUS.FIRST_OFFSET (reqNo who) = off / 16 % 65536) ∧
      (∀ (f : Fld) (j : Nat), f.key j ≠ (winFld b).key (reqNo who) →
        (winClear s (reqNo who) = true → f.key j ≠ R.GLB_WIN_STATUS.FIRST_OFFSET.key (reqNo who)) →
        rd (winErr s who b off) f j = rd s f j)) ∧
  (∀ (s : State) (w : Wr) (off n i : Nat) (r : RegSpec), regAt off = some (r, n) → sourceReg off = none →
    instOf s w.who r.kind = some i → w.be ≠ 15 →
    exec (.registerWrite w off) s = .next (winErr s w.who 9 (r.off + r.stride * n))) ∧
  (∀ (s : State) (w : Wr) (off n : Nat) (r : RegSpec), regAt off = some (r, n) → sourceReg off = none →
    instOf s w.who r.kind = none →
    exec (.registerWrite w off) s = .next (winErr s w.who (winBit r.kind) (r.off + r.stride * n))) ∧
  (∀ (s : State) (w : Wr) (off : Nat) (r : RegSpec), sourceReg off = some r →
    (∀ i, instOf s w.who r.kind = some i → w.be ≠ 15 →
      exec (.registerWrite w off) s = .next (winErr s w.who 9 r.off) ∧
      exec (.streamConfigWrite w off) s = .next (winErr s w.who 9 r.off)) ∧
    (instOf s w.who r.kind = none →
      exec (.registerWrite w off) s = .next (winErr s w.who (winBit r.kind) r.off) ∧
      exec (.streamConfigWrite w off) s = .next (winErr s w.who (winBit r.kind) r.off))) ∧
  (∀ (s : State) (w : Wr) (off : Nat), sourceReg off = none → mapped off = false →
    exec (.registerWrite w off) s = .next (winErr s w.who 8 off))

/-- R444: a read of the low word of a pair answers it and latches the high word for the reading requester only. It
rests on the model's choices of log entries 6, 62. -/
def Obligations.LowReadLatchesHigh : Prop :=
  (∀ (s : State) (who : Requester) (c : Nat), instOf s who .core = some c →
    exec (.coreCntStepsLoRead who) s = .next { s with
      hiLatch := tset 0 s.hiLatch (reqNo who * 4) (rd s R.CORE_CNT_STEPS_HI.COUNT c),
      out := .answer 8 [reqNo who, R.CORE_CNT_STEPS_LO.reg.off, rd s R.CORE_CNT_STEPS_LO.COUNT c] :: s.out }) ∧
  (∀ (s : State) (who : Requester), exec (.fioTickLoRead who) s = .next { s with
      hiLatch := tset 0 s.hiLatch (reqNo who * 4 + 1) (s.tick / 2 ^ 32 % 2 ^ 32),
      out := .answer 8 [reqNo who, R.FIO_TICK_LO.reg.off, s.tick % 2 ^ 32] :: s.out }) ∧
  (∀ (s : State) (who : Requester), exec (.lifePoweredLoRead who) s = .next { s with
      hiLatch := tset 0 s.hiLatch (reqNo who * 4 + 2) (rd s R.LIFE_POWERED_HI.SECONDS 0),
      out := .answer 8 [reqNo who, R.LIFE_POWERED_LO.reg.off, rd s R.LIFE_POWERED_LO.SECONDS 0] :: s.out }) ∧
  (∀ (s : State) (who : Requester), exec (.idUniqueLoRead who) s = .next { s with
      hiLatch := tset 0 s.hiLatch (reqNo who * 4 + 3) (rd s R.ID_UNIQUE_HI.ID 0),
      out := .answer 8 [reqNo who, R.ID_UNIQUE_LO.reg.off, rd s R.ID_UNIQUE_LO.ID 0] :: s.out }) ∧
  (∀ (s : State) (who other : Requester) (p q v : Nat), p < 4 → q < 4 →
    latched (latch s who p v) other q = if other = who ∧ q = p then v else latched s other q)

/-- R455: a write of an interrupt status or enable register of the requester's own copy takes effect as its access
code says, and a message goes on each vector of the register's kind that still has an enabled bit set, a stream
vector's under its holdoff; what a holdoff held goes when it ends, if its condition still holds. It rests on the
model's choices of log entry 62. -/
def Obligations.InterruptWritesNotifyAgain : Prop :=
  (∀ (s : State) (w : Wr) (i : Nat), Takes s w R.GLB_INT_STATUS.reg 0 i →
    exec (.glbIntStatusWrite w) s = .next (notifyAgain (wr s R.GLB_INT_STATUS.STATUS i
      (maskOf R.GLB_INT_STATUS.STATUS.width
        (fun b => bit (rd s R.GLB_INT_STATUS.STATUS i) b && !bit (fval R.GLB_INT_STATUS.STATUS w.val) b))) w.who)) ∧
  (∀ (s : State) (w : Wr) (i : Nat), Takes s w R.GLB_INT_ENABLE.reg 0 i →
    exec (.glbIntEnableWrite w) s = .next (notifyAgain (wr s R.GLB_INT_ENABLE.EN i (fval R.GLB_INT_ENABLE.EN w.val)) w.who)) ∧
  (∀ (s : State) (w : Wr) (i : Nat), Takes s w R.GLB_INT_STRM_STATUS.reg 0 i →
    exec (.glbIntStrmStatusWrite w) s = .next (notifyStrms (wr s R.GLB_INT_STRM_STATUS.STRM i
      (maskOf R.GLB_INT_STRM_STATUS.STRM.width
        (fun b => bit (rd s R.GLB_INT_STRM_STATUS.STRM i) b && !bit (fval R.GLB_INT_STRM_STATUS.STRM w.val) b))) w.who)) ∧
  (∀ (s : State) (w : Wr) (i : Nat), Takes s w R.GLB_INT_STRM_ENABLE.reg 0 i →
    exec (.glbIntStrmEnableWrite w) s = .next
      (notifyStrms (wr s R.GLB_INT_STRM_ENABLE.EN i (fval R.GLB_INT_STRM_ENABLE.EN w.val)) w.who)) ∧
  (∀ (s : State) (who : Requester) (k : Nat), k < 32 → tget false s.intHeld (intKey who k) = true →
    tget 0 s.intLast (intKey who k) + rd s R.GLB_INT_HOLDOFF.STRM_US (reqNo who) * 100 ≤ s.tick + 1 →
    bit (rd s R.GLB_INT_STRM_STATUS.STRM (reqNo who)) k = true → bit (rd s R.GLB_INT_STRM_ENABLE.EN (reqNo who)) k = true →
    exec (.intHoldoffExpiry who k) s = .next
      (message { s with intLast := tset 0 s.intLast (intKey who k) (s.tick + 1),
                        intHeld := tset false (tset false s.intHeld (intKey who k) false) (intKey who k) false } who (2 + k)))

/-- R461, R425: while the debug window is open, READ takes 256 bytes of an aligned, served device address into
DBG_DATA, RESUME ends a core's halt, and WRITE and HALT act only while SAFE is latched; refused, they set
DBG_STATUS.ERR and report 0x0921. It rests on the model's choices of log entry 62. -/
def Obligations.DebugWindowActs : Prop :=
  (∀ (s : State) (w : Wr), Takes s w R.DBG_CTRL.reg 0 0 → dbgOpen s = true → w.val % 16 = 1 → dbgOk s = true →
    exec (.dbgRead w) s = .next { s with dbgData := (busRead s (dbgAddr s) 256).1 }) ∧
  (∀ (s : State) (w : Wr), Takes s w R.DBG_CTRL.reg 0 0 → dbgOpen s = true → w.val % 16 = 2 → isSafe s = true →
    dbgOk s = true → exec (.dbgWrite w) s = .next (busWrite s (dbgAddr s) s.dbgData false)) ∧
  (∀ (s : State) (w : Wr), Takes s w R.DBG_CTRL.reg 0 0 → dbgOpen s = true → w.val % 16 = 4 → isSafe s = true →
    exec (.dbgHalt w) s = .next (haltCore s (bits w.val 4 7))) ∧
  (∀ (s : State) (w : Wr), Takes s w R.DBG_CTRL.reg 0 0 → dbgOpen s = true → w.val % 16 = 8 →
    bits w.val 4 7 < s.part.cores →
    exec (.dbgResume w) s = .next (modCore s (bits w.val 4 7) fun k => { k with halted := false })) ∧
  (∀ (s : State) (w : Wr), Takes s w R.DBG_CTRL.reg 0 0 → dbgOpen s = true → w.val % 16 = 2 → isSafe s = false →
    exec (.dbgWrite w) s = .next (wr (submitRefused s) R.DBG_STATUS.ERR 0 1)) ∧
  (∀ (s : State) (w : Wr), Takes s w R.DBG_CTRL.reg 0 0 → dbgOpen s = true → w.val % 16 = 4 → isSafe s = false →
    exec (.dbgHalt w) s = .next (wr (submitRefused s) R.DBG_STATUS.ERR 0 1))

/-- R18, R21, R26: the way of a line. A line crosses into the interior and enters its stream and goes to the partner,
or is compared with what the partner sent of it, or goes to the node of the ring that computes it; the raw front turns
the next line into codes, and a first computation that differs from the second is counted; the processed line is
stored at its place in the input buffer and counted into its stripe, no other byte of memory changing; a complete
stripe is closed and reported to the SSC, with 0x0616 where its lines came too fast, and its stripe's credits open
(R254); two stripe periods without a line close the open stripe. It rests on the model's choices of log entries 5, 41.
-/
def Obligations.LinesBecomeStripes : Prop :=
  (∀ (s : State) (k : Nat) (route : LineRoute) (l : Line) (rest : List Line), (strm s k).cross = l :: rest →
    (let s1 := modStrm s k fun x => { x with cross := rest, route := route }
     exec (.lineReceived k route) s = .next (match route with
       | .ring n => ringLine s1 n k 1 l.no l.stamp l.words
       | _ => if (strm s k).fed = true ∨ route = .dual ∧ usesPartner s = true then compareOwn s1 k l
         else forwardLine (enterLine s1 k l) k 1 l.no l.stamp l.words))) ∧
  (∀ (s : State) (k : Nat) (e : EndChk) (l : Line) (rest : List Line), (strm s k).fifo = l :: rest →
    awaitsEffect s k (stripeAhead (strm s k) l).1 = false → e.first = true ∨ e.second = true →
    ∃ t, exec (.rawFrontLine k e) s = .next t ∧
      (let s0 := takeRf (applyRegs (coefErrors s k e) k (stripeAhead (strm s k) l).1 true) k (stripeAhead (strm s k) l).1
          (stripeAhead (strm s k) l).2
       let rf := (strm s0 k).rf
       let s1 := checkLength s0 k (stripeAhead (strm s k) l).1 l (if fval R.STRM_RF_CTRL.UNPACK rf = 5
         then 2 * rd s R.STRM_GEOM.WIDTH k else rd s R.STRM_GEOM.WIDTH k)
       let s2 := if e.first then s1
         else wr (bump (report s1 0x0641 k (stripeAhead (strm s k) l).1) R.STRM_RF_CNT_RETRY.COUNT k) R.STRM_RF_STATUS.RETRY k 1
       let f := front s2 k rf l
       let s3 := bumpBy (bumpBy (bumpBy s2 R.STRM_RF_CNT_SAT.COUNT k f.sat) R.STRM_RF_CNT_UNDER.COUNT k f.under)
         R.STRM_RF_CNT_DEFECT.COUNT k f.defect
       t = showRfBlend (captureLine (modStrm s3 k fun x =>
         { x with fifo := rest, done := x.done ++ [frontLine x rf l f], netLine := (frontLine x rf l f).net + 1 })
         k l rf) k l.no)) ∧
  (∀ (s : State) (k : Nat) (x : WLine) (rest : List WLine), (strm s k).done = x :: rest →
    exec (.lineWriteToDram k) s = .next
      (setStrm { s with mem := writeCodes s.mem (strm s k).place x } k (countWritten { strm s k with done := rest } x))) ∧
  (∀ (m : List Host.Cell) (p : Place) (x : WLine) (a : Nat), (∀ j < x.codes.length, ∀ i < x.size,
      a ≠ inputAt p x.net (codeOff x j) + i) → memByte (writeCodes m p x) a = memByte m a) ∧
  (∀ (s : State) (k : Nat) (t : Stripe), toClose (strm s k) = some t →
    exec (.stripeClose k) s = .next
      (let s1 := watchClose (modStripe s k t.no fun t => { t with closed := true }) k t.no
       let s2 := if tooFast s k t then wr (report s1 0x0616 k t.no) R.STRM_STATUS.FAST k 1 else s1
       if leader s k = k then openCredits s2 k t.no else s2)) ∧
  (∀ (s : State) (k : Nat) (t : Stripe), (strm s k).stripes.getLast? = some t → t.complete = false →
    (strm s k).cross = [] → (strm s k).fifo = [] → (strm s k).done = [] → (strm s k).lastAt + 2 * spOf' s k ≤ s.tick →
    exec (.partialStripeTimeout k) s = .next (closePartial s k t))

/-- R205, R218, R219, R234, R258: each bubble of a chain is filled with a share that does not read it; the shares of a
stream's oldest closed stripe are dispatched once every member of its group is closed and the barriers of the stripe
before are done; crops are cut into batches when the stripe's stream work is done; the tiling follows the cores in
service. It rests on the model's choices of log entries 40, 15. -/
def Obligations.SharesAreDispatched : Prop :=
  (∀ (s0 s : State) (k : Nat) (t t1 : Stripe), s = showWaits (fillBubbles s0) → leader s k = k → (strm s k).pkg.isSome = true →
    toDispatch (strm s k) = some t → allClosed s k t.no = true → (t.no = 0 ∨ barriersDone s k (t.no - 1) = true) →
    stripeOf (strm (if t.begun then s else beginStripe s k t) k) t.no = some t1 →
    exec (.shareDispatch k) s0 = .next (showWaits ((List.zip (upto t1.map.bands.length) t1.map.bands).foldl (dispatchBand k t.no)
      (if t.begun then s else beginStripe s k t)))) ∧
  (∀ (s : State) (k : Nat) (t t1 : Stripe) (g : Pkg),
    (strm s k).stripes.find? (fun t => t.begun && !t.committed &&
      (!t.crops || t.shares.any (fun h => h.crop && h.atts.isEmpty))) = some t →
    t.pkg = some g → t.crops = true ∨ streamWorkDone s k t g = true →
    stripeOf (strm (if t.crops then s else cutCrops s k t g) k) t.no = some t1 →
    exec (.cropBatchDispatch k) s = .next (showWaits ((t1.shares.filter (·.crop)).foldl (dispatchCrop k t.no)
      (if t.crops then s else cutCrops s k t g)))) ∧
  (∀ s : State, exec .retiling s = .next (retile s))

/-- R82, R83: a share that has stopped issuing ends when its writes are acknowledged, its reads answered and its
matrix instructions complete: its record is posted, its counts are taken, the queued descriptor starts, and the record
is acted on. R21: a share, of a band or of crops, of a begun stripe that has not ended one stripe period after T0
misses its compute deadline, once: 0x0B04 is reported, DEADLINE_MISS and MISS_COUNT show it, and the islands are
evaluated. R279, R320, R323: the stream's oldest uncommitted stripe commits when its conditions hold; one not
committed two stripe periods after T0 is a doubt of cause 0x0D02 on a part that has no partner, given up by an
unmatched listener, and in a pair the partner's work is dropped where only its digest is lacking, and yielded to it
otherwise; committed staging that cannot leave by R10's bound is the same doubt. It rests on the model's choices of
log entries 5, 16. -/
def Obligations.SharesEndAndStripesCommit : Prop :=
  (∀ (s : State) (c crc : Nat) (d : Desc), (coreAt s c).run = some d → (coreAt s c).ending = true →
    (coreAt s c).outw = [] → (coreAt s c).reads = [] → (coreAt s c).waiting = none →
    exec (.shareEnd c crc) s = .next (showWaits (serveWaiting 128 (settleSpares (afterEnd (startNext (slackOf (journalise (countEnd
      { s with shareRecs := tset [] s.shareRecs c (recWords s c (coreAt s c) d) } c (coreAt s c) d) c d false) c d) c) c d
      (recWord0 (coreAt s c)) (coreAt s c).endPc crc (coreAt s c).operands (bankWord s c d.bank (coreAt s c).endPc)) c)))) ∧
(∀ (s : State) (k n idx : Nat) (crop : Bool) (t : Stripe) (h : Share), stripeOf (strm s k) n = some t → lpOf s k ≠ 0 → t.begun = true →
    (crop = false → idx < t.map.bands.length) → shareOf t crop idx = some h → h.finished = false →
    (if crop then 1000 + idx else idx) ∉ t.late → t.t0 + spOf' s k ≤ s.tick →
    exec (.computeDeadlineExpiry k n crop idx) s = .next (paceEval (bump (wr
      (report (modStripe s k n fun t => { t with late := (if crop then 1000 + idx else idx) :: t.late }) 0x0B04 k n)
      R.PIPE_PACE_STATUS.DEADLINE_MISS 0 1) R.PIPE_SLACK_MIN.MISS_COUNT 0) 20 false)) ∧
((∀ (s : State) (k : Nat) (t : Stripe) (g : Pkg),
    (strm s k).stripes.find? (fun t => !t.committed) = some t → t.pkg = some g → leader s k = k → mayCommit s k t = true →
    exec (.commit k) s = .next (yieldCommit (swapRole (commitStripe s k t g) k t) k t.no)) ∧
  (∀ (s : State) (k n : Nat) (t : Stripe), stripeOf (strm s k) n = some t → lpOf s k ≠ 0 → leader s k = k →
    t.begun = true ∨ allClosed s k n = true ∨ holed s k t = true → t.committed = false → flowNow s k t = false →
    t0Of s k t + 2 * spOf' s k ≤ s.tick →
    exec (.commitDeadlineExpiry k n) s = .next
      (if rd s R.ZP_STATUS.ROLE 0 = 3 then giveUp s k n
       else if paired s = false then report s 0x0D02 k n
       else if localReady t = true ∧ t.ready = true ∧ (t.pReady && t.pDigest.isSome) = false then dropPartner s k t
       else yieldPair s k n t.epoch (yieldCause s k t))) ∧
  (∀ (s : State) (k n : Nat) (t : Stripe), stripeOf (strm s k) n = some t → t.committed = true →
    restaging s k n = true → lpOf s k ≠ 0 → egressBound s k t ≤ s.tick →
    exec (.commitDeadlineExpiry k n) s = .next (report s 0x0D02 k n)) ∧
  (∀ (s : State) (k n : Nat), paired s = false → isSafe s = false → rd s R.ZP_STATUS.ROLE 0 = 0 →
    isSafe (report s 0x0D02 k n) = true ∧ rd (report s 0x0D02 k n) R.SSC_CAUSE.CODE 0 = 0x0D02))

/-- R191, R195, R338: the picture back packs the next committed line of a stream, counting what saturated and what was
not a number; a first computation that differs from the second is reported and counted, and where the second differs
too the line is not sent on. It rests on the model's choices of log entry 5. -/
def Obligations.PictureBackPacks : Prop :=
  ∀ (s : State) (k i : Nat) (e : EndChk) (o : OutStripe) (l : OutLine), nextPicture (strm s k) = some (o, i) →
    pbWaits s k o.no = false → o.lines[i]? = some l →
    (let s1 := coefErrors s k e
     let s2 := if e.first then s1
       else wr (bump (report s1 0x0410 k o.no) R.STRM_PB_CNT_RETRY.COUNT k) R.STRM_PB_STATUS.RETRY k 1
     let b := pbBlend s2 k o.blend l.no
     let r := pictureLine b o (i % s2dOf (fval R.STRM_PB_CTRL.D2S o.pb)) l.raw
     exec (.pictureBackLine k e) s = .next (if e.first = false ∧ e.second = false then endFails s2 0x0411 k o.no o.epoch
       else wr (modOut (bumpBy (bumpBy s2 R.STRM_PB_CNT_SAT.COUNT k r.sat)
       R.STRM_PB_CNT_NAN.COUNT k r.nan) k o fun o => { o with lines := setAt o.lines i { l with packed := some r.bytes } })
       R.CAL_BLEND_POS.PB_J k (min b.j b.n)))

/-- R32, R298: a loss of the field timebase, a window outside 995 to 1,005 ticks, and a stop of SYS_REFCLK latch SAFE
with cause 0x0B05 and the SSC's count as its tick; a window within tolerance ends the loss. R33 to R37, R329: the pace
monitor. Every millisecond the islands are evaluated, then trimmed by the monitors read; within 2 ms of a command
READ_VOUT within 15 mV of it confirms it and one further off, a STATUS_BYTE fault or a failed bus enters PMBUS_FAIL,
as a VOUT_MODE other than ULINEAR16 does at the recheck of each second; a control value in range is taken whole, one
out of range sets CFG_REJECT alone; MAX_TICKS is cleared by CLEAR. It rests on the model's choices of log entry 12. -/
def Obligations.TimebaseAndPaceAct : Prop :=
  ((∀ (s : State) (ssc : Nat), isSafe s = false → rd s R.ZP_STATUS.ROLE 0 = 0 →
    ∃ t, exec (.fieldTickLoss ssc) s = .next t ∧ exec (.sysRefclkLoss ssc) s = .next t ∧
      (∀ count, count < 995 ∨ 1005 < count → exec (.fieldFrequencyWindowEnd count ssc) s = .next t) ∧
      isSafe t = true ∧ t.fieldLost = true ∧ rd t R.SSC_CAUSE.CODE 0 = 0x0B05 ∧
      rd t R.SSC_CAUSE_TICK.TICK 0 = ssc % 2 ^ 32 ∧ t.act.drive = (upto 16).map (safeLevel s) ∧ t.act.alive = 0 ∧
      t.mem = s.mem ∧ t.hostMem = s.hostMem ∧ t.cores = s.cores ∧ t.strms = s.strms) ∧
  (∀ (s : State) (count ssc : Nat), 995 ≤ count → count ≤ 1005 →
    exec (.fieldFrequencyWindowEnd count ssc) s = .next { s with fieldLost := false })) ∧
((∀ (s : State) (busFail : Bool) (monitors : List Nat), elapsed s s.pace.evalAt 100000 = true →
    exec (.paceEvaluation busFail monitors) s = .next ((List.zip (upto (clusters s)) monitors).foldl
      (fun s m => trimStep s m.1 m.2) (paceEval { s with pace := { s.pace with evalAt := s.tick } } 5 busFail))) ∧
  (∀ (s : State) (busFail : Bool) (monitors : List Nat), elapsed s s.pace.evalAt 100000 = false →
    exec (.paceEvaluation busFail monitors) s = .next s) ∧
  (∀ (s s1 : State) (mv : Nat) (fault : Bool), s.pace.used = true → s.pace.fail = false → s.pace.unread = true →
    s.tick + 1 ≤ s.pace.lastCmd + 200000 →
    s1 = pmbus (pmbus { s with pace := { s.pace with unread := false } } 0x79 0 0) 0x8B 0 0 →
    (rd s R.PIPE_PACE_STATUS.VDD_CORE_MV 0 ≤ mv + 15 → mv ≤ rd s R.PIPE_PACE_STATUS.VDD_CORE_MV 0 + 15 →
      exec (.pmbusReadbackCheck mv false false) s = .next
        (showIslands { s1 with pace := { s1.pace with vddNow := rd s R.PIPE_PACE_STATUS.VDD_CORE_MV 0 } })) ∧
    ((fault = true ∨ mv + 15 < rd s R.PIPE_PACE_STATUS.VDD_CORE_MV 0 ∨ rd s R.PIPE_PACE_STATUS.VDD_CORE_MV 0 + 15 < mv) →
      exec (.pmbusReadbackCheck mv fault false) s = .next (pmbusFail s1 0x0B03)) ∧
    exec (.pmbusReadbackCheck mv fault true) s = .next (pmbusFail s1 0x0B02)) ∧
  (∀ s s1 : State, s.pace.used = true → s.pace.fail = false → elapsed s s.pace.modeAt 100000000 = true →
    s1 = pmbus { s with pace := { s.pace with modeAt := s.tick } } 0x20 0 0 →
    exec (.voutModeRecheck true false) s = .next s1 ∧ exec (.voutModeRecheck false false) s = .next (pmbusFail s1 0x0B03) ∧
    ∀ u, exec (.voutModeRecheck u true) s = .next (pmbusFail s1 0x0B02)) ∧
  (∀ (s : State) (w : Wr), Takes s w R.PIPE_PACE_CTRL.reg 0 0 → exec (.pipePaceCtrlWrite w) s = .next
    (if paceCtrlOk w.val then paceState (showSlack (putAll s R.PIPE_PACE_CTRL.reg 0 0 w.val))
     else wr s R.PIPE_PACE_STATUS.CFG_REJECT 0 1)) ∧
  (∀ (s : State) (w : Wr), Takes s w R.PIPE_LATENCY_MAX.reg 0 0 → bit w.val 31 = true →
    exec (.latencyMaxClear w) s = .next (wr s R.PIPE_LATENCY_MAX.MAX_TICKS 0 0)))

/-- R371, R195, R398: a stopped stream whose configuration passes starts; a refused start leaves EN 0, sets
START_REJECT and reports the code; EN = 0 stops a running stream; a configuration write that would change a field of a
running stream is ignored whole with 0x060B, and otherwise taken; raw-front, picture-back and queue registers are
taken whole or ignored whole with CFG_REJECT or 0x060B. It rests on the model's choices of log entries 15, 43. -/
def Obligations.StreamsAreConfigured : Prop :=
  (∀ (s : State) (w : Wr) (k : Nat), Takes s w R.STRM_SRC.reg 0 k → running s k = false → bit w.val 0 = true →
    listenerRefuses s w = false →
    ((startCode (putAll s R.STRM_SRC.reg 0 k w.val) k).1 = 0 →
      exec (.streamStart w) s = .next (startStream (putAll s R.STRM_SRC.reg 0 k w.val) k)) ∧
    (∀ c d, c ≠ 0 → startCode (putAll s R.STRM_SRC.reg 0 k w.val) k = (c, d) → exec (.streamStart w) s = .next
      (report (showCostOver (wr (wr (putAll s R.STRM_SRC.reg 0 k w.val) R.STRM_SRC.EN k 0) R.STRM_STATUS.START_REJECT k 1)
        k c) c k d))) ∧
  (∀ (s : State) (w : Wr) (k : Nat), Takes s w R.STRM_SRC.reg 0 k → listenerRefuses s w = true →
    (running s k = false → bit w.val 0 = true → exec (.streamStart w) s = .next (report s 0x0C0B k 0)) ∧
    (running s k = true → bit w.val 0 = false → exec (.streamStop w) s = .next (report s 0x0C0B k 0))) ∧
  (∀ (s : State) (w : Wr) (k : Nat), Takes s w R.STRM_SRC.reg 0 k → running s k = true → bit w.val 0 = false →
    listenerRefuses s w = false → exec (.streamStop w) s = .next
      (if changes s k w.val sourceFlds then report s 0x060B k 0 else stopStream s k)) ∧
  (∀ (s : State) (w : Wr) (k : Nat), Takes s w R.STRM_GEOM.reg 0 k → listenerRefuses s w = false →
    exec (.streamConfigWrite w R.STRM_GEOM.reg.off) s = .next
      (if running s k then (if changes s k w.val R.STRM_GEOM.reg.flds then report s 0x060B k 0 else s)
       else sendControl (putAll s R.STRM_GEOM.reg 0 k w.val) k 0 R.STRM_GEOM.reg.off [w.val])) ∧
  (∀ (s : State) (w : Wr) (k : Nat), Takes s w R.STRM_RF_CTRL.reg 0 k → listenerRefuses s w = false →
    exec (.strmRfCtrlWrite w) s = .next
      (if rfCtrlOk w.val = false then wr s R.STRM_RF_STATUS.CFG_REJECT k 1
       else if running s k ∧ changes s k w.val [R.STRM_RF_CTRL.UNPACK, R.STRM_RF_CTRL.CFA, R.STRM_RF_CTRL.S2D] then
         report s 0x060B k 0
       else sendControl (putAll s R.STRM_RF_CTRL.reg 0 k w.val) k (frontNext (strm s k)) R.STRM_RF_CTRL.reg.off [w.val])) ∧
  (∀ (s : State) (w : Wr) (k : Nat), Takes s w R.STRM_PB_CTRL.reg 0 k → listenerRefuses s w = false →
    exec (.strmPbCtrlWrite w) s = .next
      (if pbCtrlOk w.val = false ∨ (running s k = true ∧ (strm s k).pkg.any (chselAbsent · w.val) = true) then
         wr s R.STRM_PB_STATUS.CFG_REJECT k 1
       else if running s k ∧ changes s k w.val [R.STRM_PB_CTRL.PIXFMT, R.STRM_PB_CTRL.D2S, R.STRM_PB_CTRL.INFMT] then
         report s 0x060B k 0
       else if regWord s R.STRM_PB_CTRL.reg k = w.val % 65536 then putAll s R.STRM_PB_CTRL.reg 0 k w.val
       else if running s k = true then
         sendControl (modStrm (putAll s R.STRM_PB_CTRL.reg 0 k w.val) k fun x => { x with changes := x.changes ++ [0x18500] })
           k (firstUndispatched (strm s k)) 0x18500 [w.val]
       else sendControl (putAll s R.STRM_PB_CTRL.reg 0 k w.val) k 0 0x18500 [w.val])) ∧
  (∀ (s : State) (w : Wr) (k : Nat) (q : QueueReg), Takes s w (queueReg q) 0 k → exec (.strmQueueConfigWrite w q) s = .next
    (if running s k ∨ ((q = .hqBaseLo ∨ q = .hinBaseLo) ∧ w.val % 4096 ≠ 0) then wr s R.STRM_OUT_STATUS.CFG_REJECT k 1
     else putAll s (queueReg q) 0 k w.val)) ∧
  (∀ (s : State) (w : Wr) (k : Nat), Takes s w R.STRM_HQ_TAIL.reg 0 k →
    exec (.strmHqTailWrite w) s = .next (wr s R.STRM_HQ_TAIL.SEQ k (w.val % 2 ^ 32))) ∧
  (∀ (s : State) (w : Wr) (k : Nat), Takes s w R.STRM_HIN_HEAD.reg 0 k →
    exec (.strmHinHeadWrite w) s = .next (wr s R.STRM_HIN_HEAD.SEQ k (w.val % 2 ^ 32)))

/-- R380, R384, R386, R388: a committed line leaves for the host or GigE Vision unless SAFE is latched or the part is
a listener, in commit order over the streams of one link, with an underrun counted where the crossing buffer ran
empty; the oldest stripe's queue entry is completed once its lines are written; a block ends with its chunk and
trailer; a posted input entry enters its lines and TAIL advances. It rests on the model's choices of log entries 6,
42. -/
def Obligations.OutputLeaves : Prop :=
  (∀ (s : State) (k : Nat) (o : OutStripe) (l : OutLine) (b : List Byte), isSafe s = false → isListener s = false →
    toPcie s k = true → pcieUp s = true → hqRoom s k = true → nextOut (strm s k) false = some o →
    inOrder s k false o = true → restaging s k o.no = false → o.lines[o.sentP]? = some l → l.packed = some b →
    exec (.outputLineSend k false false) s = .next (sendLine s k false o o.sentP l b) ∧
    exec (.outputLineSend k false true) s = .next (underrun (sendLine s k false o o.sentP l b) 8)) ∧
  (∀ (s : State) (k : Nat) (o : OutStripe) (l : OutLine) (b : List Byte), isSafe s = false → isListener s = false →
    toGvsp s k = true → nextOut (strm s k) true = some o → inOrder s k true o = true → restaging s k o.no = false →
    o.lines[o.sentG]? = some l → l.packed = some b →
    exec (.outputLineSend k true false) s = .next (sendLine s k true o o.sentG l b) ∧
    exec (.outputLineSend k true true) s = .next (underrun (sendLine s k true o o.sentG l b) 9)) ∧
  (∀ (s : State) (k : Nat) (g e : Bool), isSafe s = true → exec (.outputLineSend k g e) s = .next s) ∧
  (∀ (s : State) (k : Nat) (o : OutStripe), isSafe s = false → isListener s = false → toPcie s k = true →
    pcieUp s = true → hqRoom s k = true → nextOut (strm s k) false = some o →
    inOrder s k false o = true → o.lines.length ≤ o.sentP →
    exec (.hqEntryWrite k none) s = .next (finishEntry s k o false)) ∧
  (∀ (s : State) (k : Nat) (o : OutStripe), isSafe s = false → isListener s = false → toGvsp s k = true →
    nextOut (strm s k) true = some o → inOrder s k true o = true → o.lines.length ≤ o.sentG →
    (let port := rd s R.STRM_OUT_CTRL.GV_PORT k
     let ch := rd s R.STRM_OUT_CTRL.GV_CHANNEL k
     exec (.gvspBlockSend k) s = .next (sweepOut (modOut (emit (emit
       (if o.lines.isEmpty then emit s (.gev port ch (gvLeader o)) else s) (.gev port ch (3 :: (o.no + 1) :: 0x0000940F ::
       (hqHeader s k o false).map (·.toNat)))) (.gev port ch [4, o.no + 1, 0])) k o fun o => { o with doneG := true }) k))) ∧
  (∀ (s : State) (k : Nat), running s k = true → rd s R.STRM_SRC.PORT k = 13 → 2 ≤ rd s R.STRM_HIN_CFG.ENTRIES k →
    rd s R.STRM_HIN_TAIL.SEQ k ≠ rd s R.STRM_HIN_HEAD.SEQ k → pcieUp s = true →
    (let w := rd s R.STRM_GEOM.WIDTH k
     let u := rd s R.STRM_RF_CTRL.UNPACK k
     let tail := rd s R.STRM_HIN_TAIL.SEQ k
     let a := hostBase s R.STRM_HIN_BASE_LO.BASE R.STRM_HIN_BASE_HI.BASE k +
       tail % rd s R.STRM_HIN_CFG.ENTRIES k * rd s R.STRM_HIN_CFG.STRIDE_PAGES k * 4096
     let s1 := (upto (strm s k).height).foldl (fun s i => linkLine s k
       (unpackLine s.hostMem (a + i * (cdiv (2 * w) 64 * 64)) (rawBits u) (if u = 5 then 2 * w else w)) false) s
     exec (.hinEntryRead k) s = .next (raiseStrm (wr s1 R.STRM_HIN_TAIL.SEQ k (tail + 1)) k)))

/-- R372 to R374: CSI-2. A Frame Start opens the stream's frame and a gap in the numbers is reported; Frame End closes
it; Line Start and Line End, with LSLE, mark a line's position and substitute a line whose packet was lost; a long
packet with a good header gives a line, a corrected header is reported, and counted on D-PHY, a bad header or burst is
dropped and counted; generic short packets change nothing. It rests on the model's choices of log entry 5. -/
def Obligations.Csi2PacketsAreReceived : Prop :=
  (∀ (s : State) (p v n : Nat), csi s p v = true → (vcOf s p v).inFrame = false →
    (∀ m, (vcOf s p v).last = some m → n = (m + 1) % 65536) →
    exec (.csi2FrameStart p v n) s = .next (setVc (onStream s p v openFrame) p v ⟨true, some n, false, false⟩)) ∧
  (∀ (s : State) (p v : Nat), csi s p v = true → (vcOf s p v).inFrame = true →
    exec (.csi2FrameEnd p v) s = .next
      (setVc (onStream s p v closeFrame) p v { vcOf s p v with inFrame := false, inLine := false })) ∧
  (∀ (s : State) (p v : Nat), csi s p v = true → isSet s R.PORT_CFG.LSLE p = true →
    exec (.csi2LineStart p v) s = .next (setVc s p v { vcOf s p v with inLine := true, got := false })) ∧
  (∀ (s : State) (p v : Nat), csi s p v = true → (vcOf s p v).inLine = true → (vcOf s p v).got = true →
    exec (.csi2LineEnd p v) s = .next (setVc s p v { vcOf s p v with inLine := false })) ∧
  (∀ (s : State) (p v : Nat), csi s p v = true → (vcOf s p v).inLine = true → (vcOf s p v).got = false →
    exec (.csi2LineEnd p v) s = .next (onStream (setVc s p v { vcOf s p v with inLine := false }) p v
      fun s k => if marked s k && !(strm s k).inFrame then s else substLine s k)) ∧
  (∀ (s : State) (p v dt : Nat) (words : List Nat), csi s p v = true →
    exec (.csi2LongPacket p v dt .good words) s = .next (csiPacket s p v dt true words) ∧
    exec (.csi2LongPacket p v dt .payload words) s = .next (csiPacket s p v dt false words) ∧
    exec (.csi2LongPacket p v dt .corrected words) s =
      .next (csiPacket (report (if rd s R.PORT_CFG.MODE p = 1 then s else bump s R.PORT_CNT_CORR.COUNT p) 0x0601 p 0) p v dt true words) ∧
    exec (.csi2LongPacket p v dt .burst words) s =
      .next (report (bump (bump s R.PORT_CNT_CODE.COUNT p) R.PORT_CNT_DROP.COUNT p) 0x0602 p 0) ∧
    exec (.csi2LongPacket p v dt .header words) s = .next (report (bump s R.PORT_CNT_DROP.COUNT p) 0x0602 p 0)) ∧
  (∀ (s : State) (p v code : Nat), exec (.csi2GenericShortPacket p v code) s = .next s)

/-- R375, R377, R397, R459: CoaXPress. On an enabled port a stream packet that is next by its TAG takes its turn, and
the held ones it completes follow it; one that is ahead waits for its predecessors on the other links, and one that is
late is reported. A packet's turn: an unsupported header is reported, an image header opens a frame, a good packet
gives its lines, and a bad one is counted, reported and its lines substituted. An event packet becomes CXP_EVENT
events of at most 52 bytes; a control packet's bytes answer the CXP_CONTROL that waits; a lost link loses its
connection; discovery at the configured rate and links locks the port, and leaves it acquiring otherwise. On a port
that is not an enabled CoaXPress port none of them changes anything. PORT_CXP_TRIG is taken while nothing is bound to
its port, and refused whole where the port or the part has no such source. R371, R376, R379, R397: sub-LVDS, the port
registers and the loss of a source. A line between sync codes is received: a start-of-frame code opens the frame, an
end-of-frame code closes it, and a line whose codes are none of the port's is counted, reported and substituted.
PORT_CFG and the sync codes are taken while nothing is bound to the port and refused whole otherwise. A source that
loses lock or its clock puts its port in LOST and its running streams with it; it returns with the lanes it has, and a
port that waits for no source keeps its state. It rests on the model's choices of log entry 18. -/
def Obligations.CameraPortsAreServed : Prop :=
  ((∀ (s : State) (p id : Nat) (x : CxpPacket), 4 ≤ p → p < 12 → portOn s p = true →
    exec (.cxpStreamPacket p id x) s = .next
      (onStream (bumpBy s R.PORT_CNT_CODE.COUNT p x.codeErrors) p id fun s k =>
        if cxpWant s k = 0 ∨ cxpLead s k x = 0 then cxpDrain p k (cxpTurn p k s x)
        else if cxpLead s k x < 128 then cxpAhead p k s x else report s 0x0607 p x.tag)) ∧
  (∀ (s s1 : State) (p k : Nat) (x : CxpPacket),
    s1 = { s with ports := { s.ports with tags := tset 0 s.ports.tags k ((x.tag + 1) % 256 + 1) } } →
    (x.header = some false → cxpTurn p k s x = unsupported s1 p) ∧
    (x.good = true → x.codeErrors = 0 →
      (x.header = none → cxpTurn p k s x = x.lines.foldl (fun s l => goodLine s k l) s1) ∧
      (x.header = some true → cxpTurn p k s x = x.lines.foldl (fun s l => goodLine s k l) (openFrame s1 k))) ∧
    (x.header ≠ some false → x.good = false ∨ x.codeErrors ≠ 0 → cxpTurn p k s x =
      x.lines.foldl (fun s l => failedLine s k l) (report (bump s1 R.PORT_CNT_CRC.COUNT p) 0x0603 p x.tag))) ∧
  (∀ (s : State) (p : Nat) (data : List Byte), 4 ≤ p → p < 12 → portOn s p = true →
    exec (.cxpEventPacket p data) s = .next
      ((eventFragments p (max 1 (cdiv data.length 52)) 0 data).foldl (fun s d => queueEvent s 2 d) s)) ∧
  (∀ (s : State) (p ch : Nat) (data : List Byte) (r : MbxReq),
    (mbxOf s 0).reqs.find? (fun r => r.cmd == 9 && fieldLE r.args 0 1 == p) = some r →
    exec (.cxpControlPacket p ch data) s = .next (withHost s 0 r ch (fieldLE r.args 4 8) data.length fun s =>
      respond ((hostParts s (fieldLE r.args 4 8) data.length).foldl (fun s q =>
        { s with hostMem := memWrite s.hostMem q.1 ((data.drop q.2.1).take q.2.2) }) s) 0 r 0 data.length [])) ∧
  (∀ (s : State) (l : Nat), l < 8 → portOn s (l + 4) = true → exec (.cxpLockLoss l) s =
    .next (loseSource (report s 0x0607 (masterOf s (l + 4)) l) (masterOf s (l + 4)))) ∧
  (∀ (s : State) (p : Nat), 4 ≤ p → p < 12 → portOn s p = true →
    exec (.cxpDiscoveryDone p (rd s R.PORT_CFG.RATE p) (rd s R.PORT_CFG.LANES p)) s =
      .next (lockPort s p (rd s R.PORT_CFG.LANES p) (rd s R.PORT_CFG.RATE p)) ∧
    ∀ rate links, rate ≠ rd s R.PORT_CFG.RATE p ∨ links ≠ rd s R.PORT_CFG.LANES p →
      exec (.cxpDiscoveryDone p rate links) s = .next (report (wr (wr (wr s R.PORT_STATUS.STATE p 1)
        R.PORT_STATUS.LANES_UP p links) R.PORT_STATUS.RATE_ACT p rate) 0x0604 p rate)) ∧
  (∀ (s : State) (p id rate links : Nat) (x : CxpPacket) (data : List Byte), p < 4 ∨ 12 ≤ p ∨ portOn s p = false →
    exec (.cxpStreamPacket p id x) s = .next s ∧ exec (.cxpEventPacket p data) s = .next s ∧
    exec (.cxpDiscoveryDone p rate links) s = .next s) ∧
  (∀ (s : State) (w : Wr) (p : Nat), Takes s w R.PORT_CXP_TRIG.reg 0 p →
    (boundTo s p ≠ [] → exec (.portCxpTrigWrite w) s = .next (portReject s p)) ∧
    (boundTo s p = [] → 4 ≤ p → p < 12 → fval R.PORT_CXP_TRIG.SRC w.val ≠ 3 ∨ s.part.damson = false →
      exec (.portCxpTrigWrite w) s = .next (putAll s R.PORT_CXP_TRIG.reg 0 p w.val)) ∧
    (fval R.PORT_CXP_TRIG.SRC w.val = 3 → s.part.damson = true → exec (.portCxpTrigWrite w) s = .next (portReject s p)) ∧
    (p < 4 ∨ 12 ≤ p → w.val ≠ 0 → exec (.portCxpTrigWrite w) s = .next (portReject s p)))) ∧
((∀ (s : State) (start stop : Nat) (words : List Nat), portOn s 12 = true →
    start = rd s R.PORT_SLVDS_SYNC0.SOL 12 ∨ start = rd s R.PORT_SLVDS_SYNC1.SOF 12 →
    stop = rd s R.PORT_SLVDS_SYNC0.EOL 12 ∨ stop = rd s R.PORT_SLVDS_SYNC1.EOF 12 →
    exec (.slvdsLine start stop words) s = .next (onStream s 12 0 fun t k =>
      let t1 := goodLine (if start = rd s R.PORT_SLVDS_SYNC1.SOF 12 then openFrame t k else t) k words
      if stop = rd s R.PORT_SLVDS_SYNC1.EOF 12 then closeFrame t1 k else t1)) ∧
  (∀ (s : State) (start stop : Nat) (words : List Nat), portOn s 12 = true →
    (start ≠ rd s R.PORT_SLVDS_SYNC0.SOL 12 ∧ start ≠ rd s R.PORT_SLVDS_SYNC1.SOF 12) ∨
    (stop ≠ rd s R.PORT_SLVDS_SYNC0.EOL 12 ∧ stop ≠ rd s R.PORT_SLVDS_SYNC1.EOF 12) →
    exec (.slvdsLine start stop words) s = .next (onStream (report (bump s R.PORT_CNT_CODE.COUNT 12) 0x0613 12 start) 12 0
      fun t k =>
      let t1 := failedLine (if start = rd s R.PORT_SLVDS_SYNC1.SOF 12 then openFrame t k else t) k words
      if stop = rd s R.PORT_SLVDS_SYNC1.EOF 12 then closeFrame t1 k else t1)) ∧
  (∀ (s : State) (start stop : Nat) (words : List Nat), portOn s 12 = false →
    exec (.slvdsLine start stop words) s = .next s) ∧
  (∀ (s : State) (w : Wr) (p : Nat), Takes s w R.PORT_CFG.reg 0 p →
    (boundTo s p ≠ [] ∨ portCfgOk p w.val = false → exec (.portCfgWrite w) s = .next (portReject s p)) ∧
    (boundTo s p = [] → portCfgOk p w.val = true → exec (.portCfgWrite w) s = .next
      (let s1 := putAll s R.PORT_CFG.reg 0 p w.val
       showFixed (if portOn s1 p = false then
          wr (wr (wr s1 R.PORT_STATUS.STATE p 0) R.PORT_STATUS.LANES_UP p 0) R.PORT_STATUS.RATE_ACT p 0
        else if portOn s p then s1 else wr s1 R.PORT_STATUS.STATE p 1)))) ∧
  (∀ (s : State) (w : Wr) (second : Bool) (p : Nat),
    Takes s w (if second then R.PORT_SLVDS_SYNC1.reg else R.PORT_SLVDS_SYNC0.reg) 0 p →
    (boundTo s p ≠ [] ∨ (p ≠ 12 ∧ w.val ≠ 0) → exec (.portSlvdsSyncWrite w second) s = .next (portReject s p)) ∧
    (boundTo s p = [] → p = 12 → exec (.portSlvdsSyncWrite w second) s =
      .next (putAll s (if second then R.PORT_SLVDS_SYNC1.reg else R.PORT_SLVDS_SYNC0.reg) 0 p w.val))) ∧
  (∀ (s s1 : State) (p : Nat), p < 13 → portOn s p = true → rd s R.PORT_STATUS.STATE p ≠ 3 →
    s1 = report (bump (wr (hit (wr s R.PORT_STATUS.STATE p 3) R.PORT_STATUS.LOSS p) R.PORT_STATUS.LANES_UP p 0)
      R.PORT_CNT_LOSS.COUNT p) 0x0604 p 0 →
    exec (.sourceLoss p) s = .next ((boundTo s p).foldl (fun s k => strmState s k 3) { s1 with
      ports := { s1.ports with ahead := s1.ports.ahead.filter (fun e => !(boundTo s p).contains e.1)
                               tags := s1.ports.tags.filter (fun e => !(boundTo s p).contains e.1) } })) ∧
  (∀ (s : State) (p : Nat), p < 13 → portOn s p = false ∨ rd s R.PORT_STATUS.STATE p = 3 →
    exec (.sourceLoss p) s = .next s) ∧
  (∀ (s : State) (p lanes : Nat), p < 13 → portOn s p = true →
    rd s R.PORT_STATUS.STATE p = 1 ∨ rd s R.PORT_STATUS.STATE p = 3 →
    exec (.sourceRegained p lanes) s = .next (lockPort s p lanes (rd s R.PORT_CFG.RATE p))) ∧
  (∀ (s : State) (p lanes : Nat), p < 13 → portOn s p = false ∨
    (rd s R.PORT_STATUS.STATE p ≠ 1 ∧ rd s R.PORT_STATUS.STATE p ≠ 3) → exec (.sourceRegained p lanes) s = .next s) ∧
  (∀ (s s1 : State) (p lanes rate : Nat),
    s1 = wr (wr (wr s R.PORT_STATUS.STATE p 2) R.PORT_STATUS.LANES_UP p lanes) R.PORT_STATUS.RATE_ACT p rate →
    (rd s R.PORT_STATUS.STATE p = 3 → lockPort s p lanes rate = (boundTo s p).foldl resume (report s1 0x0605 p 0)) ∧
    (rd s R.PORT_STATUS.STATE p ≠ 3 → lockPort s p lanes rate = s1)))

/-- R386: GigE Vision control: discovery is answered with address and identity, a register written is read back, an
address assigned is taken, packets of a block still held are sent again and those of a block no longer held reported;
a listener transmits nothing. It rests on the model's choices of log entry 6. -/
def Obligations.GvcpIsAnswered : Prop :=
  (∀ (s : State) (p : Nat), p < 2 → isListener s = false → exec (.gvcpDiscovery p) s = .next { s with
    out := .gev p 8 [(gvPort s p).ip, rd s R.ID_UNIQUE_LO.ID 0, rd s R.ID_UNIQUE_HI.ID 0] :: s.out }) ∧
  (∀ (s : State) (p a v : Nat), p < 2 → isListener s = false →
    exec (.gvcpRegisterAccess p a (some v) false) s = .next
      (emit (setGv s p { gvPort s p with regs := tset 0 (gvPort s p).regs a (v + 1) }) (.gev p 9 [a, 0]))) ∧
  (∀ (s : State) (p a v : Nat), p < 2 → isListener s = false → tget 0 (gvPort s p).regs a = v + 1 →
    exec (.gvcpRegisterAccess p a none false) s = .next (emit s (.gev p 9 [a, 0, v]))) ∧
  (∀ (s : State) (p a : Nat) (data : List Nat) (len : Nat), p < 2 → isListener s = false → data ≠ [] →
    exec (.gvcpMemoryAccess p a data len) s = .next (emit (setGv s p { gvPort s p with
      regs := (List.zip (upto data.length) data).foldl (fun m q => tset 0 m (a + 4 * q.1) (q.2 + 1)) (gvPort s p).regs })
      (.gev p 10 [a]))) ∧
  (∀ (s : State) (p ip : Nat), p < 2 →
    exec (.gvcpAddressAssignment p ip) s = .next (setGv s p { gvPort s p with ip := ip })) ∧
  (∀ (s : State) (p ch block first last k : Nat) (o : OutStripe), isListener s = false →
    (upto 32).find? (fun k => toGvsp s k && rd s R.STRM_OUT_CTRL.GV_PORT k == p &&
      rd s R.STRM_OUT_CTRL.GV_CHANNEL k == ch && running s k) = some k →
    (strm s k).outBuf.find? (fun o => o.no + 1 == block && decide (0 < o.sentG)) = some o →
    exec (.gvcpPacketresend p ch block first last) s = .next
      ((blockPackets s p ch k o first last).foldl (fun s x => emit s (.gev p ch x)) s))

/-- R385: a trained PCIe link shows its generation and width and reports 0x060E below 5.0 x8; a link down is shown and
reported and changes only the host's side; a function-level reset clears the host's side and cancels channels 64 to
71; an uncorrectable error is an error completion of its transfer. It rests on the model's choices of log entry 18. -/
def Obligations.PcieLinkEvents : Prop :=
  (∀ (s : State) (gen width : Nat), gen < 16 → width < 32 → ∃ t, exec (.pcieLinkTrained gen width) s = .next t ∧
    (5 ≤ gen → 8 ≤ width → t = wr (wr (wr s R.PCIE_STATUS.GEN 0 gen) R.PCIE_STATUS.WIDTH 0 width) R.PCIE_STATUS.UP 0 1) ∧
    (gen < 5 ∨ width < 8 → t = report (wr (wr (wr s R.PCIE_STATUS.GEN 0 gen) R.PCIE_STATUS.WIDTH 0 width)
      R.PCIE_STATUS.UP 0 1) 0x060E 0 0)) ∧
  (∀ s : State, exec (.pcieLinkDown false) s = .next (report (wr s R.PCIE_STATUS.UP 0 0) 0x060F 0 0) ∧
    exec (.pcieLinkDown true) s = .next (restartCursor (emptyMbx (report (wr s R.PCIE_STATUS.UP 0 0) 0x060F 0 0)))) ∧
  (∀ s : State, exec .functionLevelReset s = .next (report (emptyMbx (disableRings ((upto 8).foldl
    (fun s j => cancelCh s (64 + j)) (clearXlat { s with
      intHeld := s.intHeld.filter (fun p => decide (32 ≤ p.1)),
      intLast := s.intLast.filter (fun p => decide (32 ≤ p.1)) })))) 0x060F 0 0)) ∧
  (∀ (s : State) (c i : Nat) (q : Piece), (dmaCh s c).pieces[i]? = some q → (inHostWin q.src || inHostWin q.dst) = true →
    exec (.pcieAerUncorrectable (.piece c i)) s = .next (failPiece s c i 4 q (!inHostWin q.src))) ∧
  (∀ (s : State) (k c : Nat) (o : OutStripe), nextOut (strm s k) false = some o →
    exec (.pcieAerUncorrectable (.entry k c)) s = .next (entryFails s k o c))

/-- R390 to R395, R474: the field side. Decisions that are due run in ascending order and leave the queue; pulses
whose width has passed drive the opposite level; a rise of an encoder's input A that has stood with B low is a cycle
upwards; a cycle moves the encoder's position by one, and a double change is counted; an edge of a trigger input that
has stood for 3 ticks is the frame start of the streams that wait for it; an input being enabled starts from its
present level; ALIVE toggles each millisecond of a running field timebase while SAFE is 0 and is held low while it is
1; outputs are forced only with no stream enabled and SAFE 0; below 2.7 V the outputs are at high impedance. It rests
on the model's choices of log entry 5. -/
def Obligations.FieldSideActs : Prop :=
  (∀ s : State, isListener s = false → exec .decisionDue s = .next (((s.act.queue.filter (isDue s)).foldr insertDecision []).foldl
    runDecision { s with act := { s.act with queue := s.act.queue.filter (fun d => !isDue s d) } })) ∧
  (∀ s : State, exec .pulseEnd s = .next ((s.act.ends.filter (fun e => decide (e.2.1 ≤ s.tick))).foldl
    (fun s e => decide' s e.1 e.2.2) { s with act := { s.act with ends := s.act.ends.filter (fun e => decide (s.tick < e.2.1)) } })) ∧
  (∀ (s s1 : State) (e : Nat) (a b : Bool) (busy : List Nat) (q : Quad × Option EncEv), e < 2 →
    (e = 0 → s.part.damson = false ∧ s.dms.powered = true) → isSet s (R.FIO_ENC_CTRL.EN.nth e) 0 = true →
    q = quadTake (tget Quad.reset s.act.encs e) s.tick (rd s (R.FIO_ENC_CTRL.FILT.nth e) 0) a b →
    s1 = { s with act := { s.act with encs := tset Quad.reset s.act.encs e q.1 } } →
    (∀ ev : EncEv, ev ≠ .both → q.2 = some ev → isSet s (R.FIO_ENC_CTRL.DIR.nth e) 0 = decide (ev = .up) →
      exec (.encoderPulse e a b busy) s =
        .next (wr s1 (R.FIO_ENC_POS.POS.nth e) 0 (rd s1 (R.FIO_ENC_POS.POS.nth e) 0 + (2 ^ 32 - 1)))) ∧
    (∀ ev : EncEv, ev ≠ .both → q.2 = some ev → isSet s (R.FIO_ENC_CTRL.DIR.nth e) 0 = decide (ev = .down) →
      exec (.encoderPulse e a b busy) s =
        .next ((trigPorts (wr s1 (R.FIO_ENC_POS.POS.nth e) 0 (rd s1 (R.FIO_ENC_POS.POS.nth e) 0 + 1))
          (if e = 1 then 1 else 3)).foldl (pulseTrigger busy)
          (wr s1 (R.FIO_ENC_POS.POS.nth e) 0 (rd s1 (R.FIO_ENC_POS.POS.nth e) 0 + 1)))) ∧
    (q.2 = some .both → exec (.encoderPulse e a b busy) s = .next (bump (report s1 0x0618 e 0) R.FIO_CNT_ENCERR.COUNT 0)) ∧
    (q.2 = none → exec (.encoderPulse e a b busy) s = .next s1)) ∧
  (∀ (q : Quad) (now : Nat), q.a = false → q.b = false → q.rawA = true → q.rawB = false →
    (∀ need : Nat, q.sinceA + need ≤ now → (quadTake q now need true false).2 = some .up) ∧
    (∀ need : Nat, now < q.sinceA + need → (quadTake q now need true false).2 = none)) ∧
  (∀ (s : State) (i since : Nat) (up : Bool) (busy : List Nat), i < 8 → bit (rd s R.FIO_TRIG_CTRL.EN 0) i = true →
    tget false s.act.trigLevel i ≠ up → since = trigSince s i up → since + 3 ≤ s.tick →
    (let raw := tset (false, 0) s.act.trigRaw i (up, since)
     let s0 := { s with act := { s.act with trigRaw := raw, trigLevel := tset false s.act.trigLevel i up } }
     let s1 := ((upto 32).filter fun k => rd s R.STRM_FRAME.FRAME_SRC k == 1 && rd s R.STRM_FRAME.TRIG k == i &&
       rd s R.STRM_FRAME.TRIG_EDGE k == (if up then 0 else 1) && running s k && !(strm s k).inFrame).foldl
         (fun s k => modStrm s k fun x => { x with edge := some since }) s0
     exec (.triggerEdge i up busy) s = .next
       (((trigPorts s1 2).filter (fun p => rd s1 R.PORT_CXP_TRIG.INPUT p == i)).foldl (sendTrigger busy) s1))) ∧
  (∀ (s : State) (w : Wr) (levels : Nat), Takes s w R.FIO_TRIG_CTRL.reg 0 0 → exec (.fioTrigCtrlWrite w levels) s = .next
    (let new := (upto 8).filter (fun i => bit w.val i && !bit (rd s R.FIO_TRIG_CTRL.EN 0) i)
     let l := new.foldl (fun l i => tset false l i (bit levels i)) s.act.trigLevel
     let r := new.foldl (fun l i => tset (false, 0) l i (bit levels i, s.tick)) s.act.trigRaw
     putAll { s with act := { s.act with trigLevel := l, trigRaw := r } } R.FIO_TRIG_CTRL.reg 0 0 w.val)) ∧
  (∀ s : State, elapsed s s.act.aliveAt 100000 = true → exec .aliveToggle s =
    .next { s with act := { s.act with alive := if isSafe s then 0 else 1 - s.act.alive, aliveAt := s.tick } }) ∧
  (∀ s : State, elapsed s s.act.aliveAt 100000 = false → exec .aliveToggle s = .next s) ∧
  (∀ (s : State) (w : Wr), Takes s w R.FIO_ACT_FORCE.reg 0 0 → exec (.fioActForceWrite w) s = .next
    (if noStream s = false ∨ isSafe s = true then report s 0x0612 0 0
     else ((upto 16).filter (fun o => bit w.val (16 + o) && !fixedOut (putAll s R.FIO_ACT_FORCE.reg 0 0 w.val) o)).foldl
      (fun s o => drive s o (bits w.val o 1)) (putAll s R.FIO_ACT_FORCE.reg 0 0 w.val))) ∧
  (∀ s : State, ∃ t, exec .vddIo33Below2v7 s = .next t ∧ t.act.ioLow = true ∧ ∀ k < 16, pinOut t k = 2)

/-- R96 to R99: the scalar instructions. A fetched NOP, LI, ALU, ALUI or MFSR whose fields are in range completes: it
writes its destination register alone, and control passes to the next word. It rests on the model's choices of log
entry 13. -/
def Obligations.ScalarInstructionsComplete : Prop :=
  ∀ (s : State) (c w : Nat), Fetches s c w →
    (w = 0 → exec (.nop c quietRun) s = .next (completed s c (pcOf s c))) ∧
    (opc w = 1 → decOk w .s .none .none [(0, 32)] = true →
      exec (.li c quietRun) s = .next (completed (modCore s c fun k => setS k (dst w) (bits w 0 32)) c (pcOf s c))) ∧
    (opc w = 2 → decOk w .s .s .s [(0, 4)] = true →
      exec (.alu c quietRun) s = .next (completed (modCore s c fun k =>
        setS k (dst w) (aluFn (bits w 0 4) (sreg (coreAt s c) (srcA w)) (sreg (coreAt s c) (srcB w)))) c (pcOf s c))) ∧
    (opc w = 3 → decOk w .s .s .none [(0, 36)] = true → ¬ (7 ≤ bits w 0 4 ∧ bits w 0 4 ≤ 9 ∧ 32 ≤ bits w 4 32) →
      exec (.alui c quietRun) s = .next (completed (modCore s c fun k =>
        setS k (dst w) (aluFn (bits w 0 4) (sreg (coreAt s c) (srcA w)) (bits w 4 32))) c (pcOf s c))) ∧
    (∀ d : Desc, opc w = 4 → decOk w .s .none .none [(0, 5)] = true → bits w 0 5 < 12 → (coreAt s c).run = some d →
      exec (.mfsr c quietRun) s = .next (completed (modCore s c fun k =>
        setS k (dst w) (mfsrVal (coreAt s c) c d (bits w 0 5))) c (pcOf s c)))

/-- R98: the sixteen functions of ALU and ALUI, as operations on 32-bit words. -/
def Obligations.AluFunctionsAreTheSpecs : Prop :=
  ∀ x y : BitVec 32,
    aluFn 0 x.toNat y.toNat = (x + y).toNat ∧ aluFn 1 x.toNat y.toNat = (x - y).toNat ∧
    aluFn 2 x.toNat y.toNat = (x * y).toNat ∧
    aluFn 3 x.toNat y.toNat = ((x.signExtend 64 * y.signExtend 64).extractLsb' 32 32).toNat ∧
    aluFn 4 x.toNat y.toNat = (x &&& y).toNat ∧ aluFn 5 x.toNat y.toNat = (x ||| y).toNat ∧
    aluFn 6 x.toNat y.toNat = (x ^^^ y).toNat ∧ aluFn 7 x.toNat y.toNat = (x <<< (y.toNat % 32)).toNat ∧
    aluFn 8 x.toNat y.toNat = (x >>> (y.toNat % 32)).toNat ∧ aluFn 9 x.toNat y.toNat = (x.sshiftRight (y.toNat % 32)).toNat ∧
    aluFn 10 x.toNat y.toNat = (if x.slt y then x else y).toNat ∧
    aluFn 11 x.toNat y.toNat = (if x.slt y then y else x).toNat ∧
    aluFn 12 x.toNat y.toNat = (if x < y then x else y).toNat ∧ aluFn 13 x.toNat y.toNat = (if x < y then y else x).toNat ∧
    aluFn 14 x.toNat y.toNat = (if x.slt y then 1 else 0) ∧ aluFn 15 x.toNat y.toNat = (if x < y then 1 else 0)

/-- R101 to R104, R147: control flow. BR transfers control when its condition holds, popping the loops it leaves, and
passes on otherwise; JMP and CALL go to the sum of a register and an offset, CALL pushing the return address; RET pops
it; LOOP pushes a counted loop, or skips a body with count zero; END ends the share once earlier instructions have
completed; CHK passes on when its condition holds and ends the share with 0x0117 when it does not. It rests on the
model's choices of log entry 13. -/
def Obligations.ControlFlowCompletes : Prop :=
  ∀ (s : State) (c w : Nat), Fetches s c w →
    (opc w = 5 → decOk w .none .s .s [(0, 20)] = true → bits w 16 4 < 6 → bits w 0 16 ≤ 4095 →
      exec (.br c quietRun) s = .next
        (if condHolds (bits w 16 4) (sreg (coreAt s c) (srcA w)) (sreg (coreAt s c) (srcB w)) then
          transferred (modCore s c fun k => { k with loops := popLoops (bits w 0 16) k.loops }) c (pcOf s c) (bits w 0 16)
        else completed s c (pcOf s c))) ∧
    (∀ t, t = (sreg (coreAt s c) (srcA w) + bits w 0 16) % 2 ^ 32 → t ≤ 4095 → decOk w .none .s .none [(0, 16)] = true →
      (opc w = 6 → exec (.jmp c quietRun) s = .next
        (transferred (modCore s c fun k => { k with loops := popLoops t k.loops }) c (pcOf s c) t)) ∧
      (opc w = 7 → (coreAt s c).ret.length < 8 → exec (.call c quietRun) s = .next
        (transferred (modCore s c fun k => { k with ret := (pcOf s c + 1) :: k.ret }) c (pcOf s c) t))) ∧
    (∀ t rest, opc w = 8 → decOk w .none .none .none [] = true → (coreAt s c).ret = t :: rest →
      exec (.ret c quietRun) s = .next (transferred (modCore s c fun k => { k with ret := rest }) c (pcOf s c) t)) ∧
    (∀ n stop, opc w = 9 → decOk w .s .s .none [(0, 32)] = true → stop = bits w 16 16 →
      n = (sreg (coreAt s c) (srcA w) + bits w 0 16) % 2 ^ 32 → pcOf s c < stop → stop ≤ 4095 →
      badNest (coreAt s c) (pcOf s c) stop = false → (n = 0 ∨ (coreAt s c).loops.length < 4) →
      exec (.loopOpen c quietRun) s = .next (if n = 0 then transferred s c (pcOf s c) (stop + 1)
        else completed (modCore s c fun k =>
          setS { k with loops := ⟨pcOf s c + 1, stop, n, 0, dst w⟩ :: k.loops } (dst w) 0) c (pcOf s c))) ∧
    (opc w = 0x3C → decOk w .none .none .none [] = true → (coreAt s c).reads = [] → (coreAt s c).waiting = none →
      exec (.endShare c quietRun) s = .next (transferred (modCore s c fun k =>
        { k with done := true, ending := true, endPc := pcOf s c, loops := [], ret := [] }) c (pcOf s c) (pcOf s c))) ∧
    (opc w = 0x3D → decOk w .none .s .s [(0, 4)] = true → bits w 0 4 < 6 →
      exec (.chk c quietRun) s = .next
        (if condHolds (bits w 0 4) (sreg (coreAt s c) (srcA w)) (sreg (coreAt s c) (srcB w)) then completed s c (pcOf s c)
         else shareEvent s c 0x0117 (pcOf s c) (coreAt s c).seq))

/-- R77, R89, R92: a word with an unassigned opcode, a NOP with a set bit, and a fetch beyond word 4,095 end the share
with 0x0110; two flipped bits of a stored word end it with 0x0106 and clear the bank's VALID. R103: at the last word
of the innermost loop a completed instruction starts the next pass with the counter in the loop's register, or leaves
the loop when its count is reached; elsewhere control passes to the next word. It rests on the model's choices of log
entry 13. -/
def Obligations.LoopsAndIllegalWords : Prop :=
  ((∀ (s : State) (c w : Nat), Fetches s c w → w ≠ 0 → (opc w = 0 ∨ unassigned w = true) →
    exec (.nop c quietRun) s = .next (shareEvent s c 0x0110 (pcOf s c) (coreAt s c).seq)) ∧
  (∀ (s : State) (c : Nat) (k : Chk), mayIssue s c = true → 4095 < pcOf s c →
    exec (.nop c k) s = .next (shareEvent s c 0x0110 (pcOf s c) (coreAt s c).seq)) ∧
  (∀ (s : State) (c : Nat), mayIssue s c = true → pcOf s c ≤ 4095 →
    popcount 72 (bankFlips s c (activeBank s c) (pcOf s c)) = 2 → exec (.li c quietRun) s = .next (shareEvent
    (wr s (if activeBank s c = 0 then R.CORE_STATE.BANK_A_VALID else R.CORE_STATE.BANK_B_VALID) c 0) c 0x0106 (pcOf s c)
      (coreAt s c).seq))) ∧
(∀ (s : State) (c pc : Nat) (l : LoopRec) (rest : List LoopRec), (coreAt s c).loops = l :: rest → pc ≤ 4095 →
    (l.stop = pc → l.iter + 1 < l.n → l.start ≤ 4095 → pcOf (completed s c pc) c = l.start ∧
      (coreAt (completed s c pc) c).loops = { l with iter := l.iter + 1 } :: rest ∧
      (l.d ≠ 0 → sreg (coreAt (completed s c pc) c) l.d = (l.iter + 1) % 2 ^ 32)) ∧
    (l.stop = pc → l.n ≤ l.iter + 1 → rest = [] →
      pcOf (completed s c pc) c = pc + 1 ∧ (coreAt (completed s c pc) c).loops = []) ∧
    (l.stop ≠ pc → pcOf (completed s c pc) c = pc + 1 ∧ (coreAt (completed s c pc) c).loops = l :: rest))

/-- R96: the all-zero word is `nop`; it changes no register of the core but the program counter, which advances by one
where no loop ends, and no memory; a bank cleared to zero executes NOPs up to word 4,095, and beyond it, or where a
bit of [57:0] is set, the share ends with 0x0110. -/
def Obligations.NopHasNoEffect : Prop :=
  (∀ (s : State) (c : Nat), Fetches s c 0 → (coreAt s c).loops = [] →
    ∃ t, exec (.nop c quietRun) s = .next t ∧ pcOf t c = pcOf s c + 1 ∧
      coreAt t c = { coreAt s c with seq := (coreAt s c).seq + 1, lastPc := pcOf s c } ∧
      t = { s with cores := t.cores, regs := t.regs } ∧ (∀ d, d ≠ c → coreAt t d = coreAt s d) ∧
      (∀ f i, f.key i ≠ R.CORE_PC.PC.key c → rd t f i = rd s f i)) ∧
  (∀ (s : State) (c w : Nat), Fetches s c w → opc w = 0 → w ≠ 0 →
    exec (.nop c quietRun) s = .next (shareEvent s c 0x0110 (pcOf s c) (coreAt s c).seq)) ∧
  (∀ (s : State) (c : Nat), mayIssue s c = true → (coreAt s c).loops = [] → (coreAt s c).reads = [] →
    (∀ a, a < 4096 → bankWord s c (activeBank s c) a = 0 ∧ bankFlips s c (activeBank s c) a = 0) →
    (pcOf s c ≤ 4095 → Fetches s c 0) ∧
    (4095 < pcOf s c → exec (.nop c quietRun) s = .next (shareEvent s c 0x0110 (pcOf s c) (coreAt s c).seq)))

/-- R97: `li` writes its 32-bit immediate into the scalar register its DST names, and no other; s0 discards it (R91);
a reserved bit set or a register index out of range ends the share with 0x0110; the rule's example word loads 1,024
into s5. -/
def Obligations.LiWritesItsImmediate : Prop :=
  (∀ (s : State) (c w : Nat), Fetches s c w → opc w = 1 →
    (decOk w .s .none .none [(0, 32)] = true → ∃ s1, exec (.li c quietRun) s = .next (completed s1 c (pcOf s c)) ∧
      sreg (coreAt s1 c) (dst w) = (if dst w = 0 then 0 else bits w 0 32) ∧
      (∀ i, i ≠ dst w → sreg (coreAt s1 c) i = sreg (coreAt s c) i) ∧
      s1 = { s with cores := s1.cores } ∧ coreAt s1 c = { coreAt s c with s := (coreAt s1 c).s } ∧
      ∀ d, d ≠ c → coreAt s1 d = coreAt s d) ∧
    (decOk w .s .none .none [(0, 32)] = false →
      exec (.li c quietRun) s = .next (shareEvent s c 0x0110 (pcOf s c) (coreAt s c).seq))) ∧
  (opc 0x0450000000000400 = 1 ∧ dst 0x0450000000000400 = 5 ∧ bits 0x0450000000000400 0 32 = 1024 ∧
    decOk 0x0450000000000400 .s .none .none [(0, 32)] = true)

/-- R109 to R119, R68: the tile instructions. TSET, TADV and TEDGE write one descriptor or mask; an instruction of the
MMA family with nothing to hold or stop it leaves `mmaResult` of its own operands; OACC adds outlier products to its
tile, once the outlier path's one place is free; a waiting matrix instruction starts and counts its steps. It rests on
the model's choices of log entries 14, 63. -/
def Obligations.TileInstructionsComplete : Prop :=
  (∀ (s : State) (c w : Nat), Fetches s c w →
    (opc w = 0x10 → decOk w .t .s .s [(0, 40)] = true → bits w 19 5 < 15 →
      exec (.tset c quietRun) s = .next (completed (modCore s c fun k => setT k (dst w)
        { base := (sreg (coreAt s c) (srcA w) + bits w 30 10) % 65536, stride := bits w 0 12,
          rows := (sreg (coreAt s c) (srcB w) + bits w 24 6) % 64, cols := bits w 12 7, fmt := bits w 19 5 }) c (pcOf s c))) ∧
    (opc w = 0x11 → decOk w .t .s .s [(0, 16)] = true →
      exec (.tadv c quietRun) s = .next (completed (modCore s c fun k => setT k (dst w)
        { treg (coreAt s c) (dst w) with
          base := wrap 16 (((treg (coreAt s c) (dst w)).base : Int) + sreg (coreAt s c) (srcA w) + sext 16 w),
          rows := if srcB w = 0 then (treg (coreAt s c) (dst w)).rows else sreg (coreAt s c) (srcB w) % 64 }) c (pcOf s c))) ∧
    (opc w = 0x12 → decOk w .m .s .none [(0, 9)] = true →
      exec (.tedge c quietRun) s = .next (completed (modCore s c fun k =>
        setM k (dst w) (2 ^ min 256 (sreg (coreAt s c) (srcA w) + bits w 0 9) - 1)) c (pcOf s c)))) ∧
  (∀ (s : State) (c w tag group p : Nat) (d : Desc), Fetches s c w →
    (let a := treg (coreAt s c) (srcA w)
     let b := treg (coreAt s c) (srcB w)
     let y0 := sreg (coreAt s c) (bits w 15 5)
     (∀ g : MmaArgs, opc w = 0x13 → decOk w .a .t .t [(0, 5)] = true →
       g = { a := a, b := b, cb := none, pair := mmaPairing a.fmt b.fmt, shapeOk := a.cols == b.cols,
             aFoot := footprint a, aRow := tileRow s c a, aScale := scaleRow s c a, steps := id } →
       MmaRuns s c w g tag group p d → exec (.mma c quietRun) s = .next (completed (mmaResult s c w g tag p) c (pcOf s c))) ∧
     (∀ g : MmaArgs, opc w = 0x14 → decOk w .a .t .t [(0, 20)] = true → bits w 5 6 ≠ 0 →
       g = { a := a, b := b, cb := none, pair := mmawPairing a.fmt b.fmt,
             shapeOk := a.cols == b.cols && decide (y0 < bits w 5 6),
             aFoot := (List.range a.rows).map (fun i => (wordAt ((a.base : Int) + pixOff a w y0 i), wpr a)),
             aRow := fun i => pixElems s c a.fmt (wordAt ((a.base : Int) + pixOff a w y0 i)) 0 a.cols,
             aScale := fun _ => [], steps := id } →
       MmaRuns s c w g tag group p d → exec (.mmaw c quietRun) s = .next (completed (mmaResult s c w g tag p) c (pcOf s c))) ∧
     (∀ (g : MmaArgs) (G taps words : Nat) (tap : Nat → Nat → Nat), opc w = 0x15 → decOk w .a .t .t [(0, 39)] = true →
       bits w 5 6 ≠ 0 → G = bits w 29 5 + 1 → taps = (bits w 20 3 + 1) * (bits w 23 3 + 1) →
       tap = (fun i t => wordAt ((a.base : Int) + pixOff a w y0 i +
         ((t % (bits w 23 3 + 1) * (bits w 26 3 + 1) * a.stride +
           t / (bits w 23 3 + 1) * (bits w 26 3 + 1) * wpr a : Nat) : Int))) →
       words = ((bits w 34 5 + G) * fmtWidth a.fmt - 1) / 256 + 1 - bits w 34 5 * fmtWidth a.fmt / 256 →
       g = { a := a, b := b, cb := none, pair := mmawPairing a.fmt b.fmt,
             shapeOk := decide (y0 < bits w 5 6) && decide (G * taps ≤ 32) && decide (bits w 34 5 + G ≤ a.cols) &&
               b.cols == G * taps,
             aFoot := (List.range a.rows).flatMap (fun i => (List.range taps).map (fun t =>
               (tap i t + bits w 34 5 * fmtWidth a.fmt / 256, words))),
             aRow := fun i => (List.range (G * taps)).map (fun e =>
               (pixElems s c a.fmt (tap i (e % taps)) (bits w 34 5 + e / taps) 1).headD 0),
             aScale := fun _ => [], steps := fun p => max p (cdiv (words * taps) 4) } →
       MmaRuns s c w g tag group p d → exec (.mmad c quietRun) s = .next (completed (mmaResult s c w g tag p) c (pcOf s c))) ∧
     (∀ g : MmaArgs, opc w = 0x16 → decOk w .a .t .t [(0, 26)] = true →
       g = { a := a, b := b, cb := some ((sreg (coreAt s c) (bits w 5 5) + bits w 10 16) % 65536),
             pair := mmacPairing a.fmt b.fmt, shapeOk := a.cols == b.cols,
             aFoot := footprint a, aRow := tileRow s c a, aScale := fun _ => [], steps := id } →
       MmaRuns s c w g tag group p d → exec (.mmac c quietRun) s = .next (completed (mmaResult s c w g tag p) c (pcOf s c))))) ∧
  (∀ (s : State) (c w : Nat) (d : Desc), Fetches s c w → opc w = 0x17 → decOk w .a .t .t [(0, 1), (2, 8)] = true →
    (coreAt s c).run = some d → dst w < d.accTiles → (coreAt s c).outlier = false →
    (let k := coreAt s c
     let a := treg k (srcA w)
     let b := treg k (srcB w)
     let t := tileAt k (dst w)
     let tag := if bit w 0 = true ∨ t.init = false then 2 else t.tag
     descOk a = true → descOk b = true → a.fmt = 8 → b.fmt = 8 → a.cols ≤ 8 → a.cols = b.cols →
     fpOk s c (footprint a ++ footprint b) = true → fpCodes s c (footprint a ++ footprint b) = [] →
     (let r := accumulate t (bit w 0) tag
        (fun i n => decide (i < a.rows) && decide (n < b.rows) && lane (mreg k (bits w 2 3)) n)
        (fun i n old => (outlierElem tag (sreg k (bits w 5 5)) (tileRow s c a i) (tileRow s c b n) old, false))
      r.2.2.2 = [] → exec (.oacc c quietRun) s = .next (completed (countBoth (modCore s c fun k =>
        setTile { k with outlier := true } (dst w) r.1) c r.2.1 r.2.2.1) c (pcOf s c))))) ∧
  (∀ (s : State) (c w : Nat), Fetches s c w → opc w = 0x17 → (coreAt s c).outlier = true →
    exec (.oacc c quietRun) s = .next (modCore s c fun k => { k with outlier := false })) ∧
  (∀ (s : State) (c n : Nat), (coreAt s c).waiting = some n → exec (.mmaFamilyStart c) s =
    .next (countSteps (modCore s c fun k => { k with waiting := none, computing := true }) c n))

/-- R71, R113: an instruction of the MMA family changes no accumulator tile but its own, no scalar, vector or mask
register, no other core and no memory. It rests on the model's choices of log entries 14, 63. -/
def Obligations.MmaChangesItsTileOnly : Prop :=
  ∀ (s : State) (c w tag p : Nat) (g : MmaArgs),
    (∀ e, e ≠ dst w → tileAt (coreAt (mmaResult s c w g tag p) c) e = tileAt (coreAt s c) e) ∧
    (∀ e, e ≠ c → coreAt (mmaResult s c w g tag p) e = coreAt s e) ∧
    (coreAt (mmaResult s c w g tag p) c).s = (coreAt s c).s ∧ (coreAt (mmaResult s c w g tag p) c).v = (coreAt s c).v ∧
    (coreAt (mmaResult s c w g tag p) c).m = (coreAt s c).m ∧ (coreAt (mmaResult s c w g tag p) c).t = (coreAt s c).t ∧
    (mmaResult s c w g tag p).mem = s.mem ∧ (mmaResult s c w g tag p).hostMem = s.hostMem ∧
    (∀ (f : Fld) (i : Nat), f.lo < 32 → f.off ≠ R.CORE_CNT_SAT.reg.off → f.off ≠ R.CORE_CNT_NANINF.reg.off →
      f.off ≠ R.CORE_CNT_STEPS_LO.reg.off → f.off ≠ R.CORE_CNT_STEPS_HI.reg.off →
      rd (mmaResult s c w g tag p) f i = rd s f i)

/-- R120 to R125, R133: the lane-wise vector instructions. A fetched VOP, VOPS, VCMP, VSEL, VCVT or VBC whose format,
function and fields are allowed completes and writes its destination register from the lanes its mask enables,
counting what saturated and what became special. It rests on the model's choices of log entry 13. -/
def Obligations.LaneInstructionsComplete : Prop :=
  ∀ (s : State) (c w f n : Nat) (k : Core), Fetches s c w → k = coreAt s c → f = vfmt w → n = fmtWidth f →
    (opc w = 0x20 → decOk w .v .v .v [(0, 12)] = true → vopFmt f = true → vopFnOk (bits w 8 4) f = true →
      exec (.vop c quietRun) s = .next (completed (putLanes s c (dst w) f (vmask k w) [vreg k (srcA w), vreg k (srcB w)]
        fun j => vopRes (bits w 8 4) f (vlane n (vreg k (srcA w)).data j) (vlane n (vreg k (srcB w)).data j)) c (pcOf s c))) ∧
    (opc w = 0x21 → decOk w .v .v .s [(0, 12)] = true → vopFmt f = true → vopFnOk (bits w 8 4) f = true →
      exec (.vops c quietRun) s = .next (completed (putLanes s c (dst w) f (vmask k w) [vreg k (srcA w)]
        fun j => vopRes (bits w 8 4) f (vlane n (vreg k (srcA w)).data j) (sreg k (srcB w) % 2 ^ n)) c (pcOf s c))) ∧
    (opc w = 0x22 → decOk w .m .v .v [(0, 12)] = true → vopFmt f = true → bits w 8 4 < 6 →
      exec (.vcmp c quietRun) s = .next (completed (modCore s c fun k' => setM k' (dst w) (maskOf 256 fun j =>
        decide (j < lanes f) && lane (vmask k w) j &&
          vcmpHolds (bits w 8 4) f (vlane n (vreg k (srcA w)).data j) (vlane n (vreg k (srcB w)).data j))) c (pcOf s c))) ∧
    (opc w = 0x23 → decOk w .v .v .v [(0, 8)] = true → vselFmt f = true →
      exec (.vsel c quietRun) s = .next (completed (putV s c (dst w) (packLanes n ((List.range (lanes f)).map fun j =>
        if lane (vmask k w) j then vlane n (vreg k (srcA w)).data j else vlane n (vreg k (srcB w)).data j))
        [vreg k (srcA w), vreg k (srcB w)] false 0 0) c (pcOf s c))) ∧
    (∀ df m part, opc w = 0x24 → decOk w .v .v .none [(0, 17)] = true → df = bits w 8 5 → m = min (lanes f) (lanes df) →
      part = bits w 14 3 → convPair f df = true →
      (bit w 13 = false ∨ (isIntFmt f = false ∧ isIntFmt df = true)) → (part + 1) * m ≤ max (lanes f) (lanes df) →
      exec (.vcvt c quietRun) s = .next (completed (putSegment s c (dst w) (fmtWidth df)
        (if lanes f < lanes df then part * m else 0) m (vmask k w) [vreg k (srcA w)] fun j =>
        convert f df (vlane n (vreg k (srcA w)).data ((if lanes df < lanes f then part * m else 0) + j)) (bit w 13))
        c (pcOf s c))) ∧
    (opc w = 0x2C → decOk w .v .s .none [(3, 5), (12, 16)] = true → vselFmt f = true →
      exec (.vbc c quietRun) s = .next (completed (modCore s c fun k' => setV k' (dst w) ⟨packLanes n (List.replicate (lanes f)
        (wrap 32 ((sreg k (srcA w) : Int) + sext 16 (bits w 12 16)) % 2 ^ n)), false, false⟩) c (pcOf s c)))

/-- R126 to R132: requantisation, functions, reductions, accumulator reads and microscaling. A fetched VREQ, VFN,
VRED, VARG, VPOOL, VACC or VMXQ whose fields are allowed completes and writes its destination register. It rests on
the model's choices of log entry 20. -/
def Obligations.RowInstructionsComplete : Prop :=
  ∀ (s : State) (c w f n : Nat) (k : Core) (a : VReg), Fetches s c w → k = coreAt s c → f = vfmt w → n = fmtWidth f →
    a = vreg k (srcA w) →
    (opc w = 0x25 → decOk w .v .v (if bit w 8 then .v else .s) [(0, 34)] = true → f < 5 → (bits w 15 3 + 1) * 64 ≤ lanes f →
      exec (.vreq c quietRun) s = .next (completed (putSegment s c (dst w) n (bits w 15 3 * 64) 64 (vmask k w)
        (if bit w 8 then [a, vreg k (srcB w)] else [a]) fun j => requant (sext 32 (vlane 32 a.data j))
          (if bit w 8 then sext 32 (vlane 32 (vreg k (srcB w)).data (j % 32)) else sext 32 (sreg k (srcB w)))
          (if bit w 8 then vlane 32 (vreg k (srcB w)).data (32 + j % 32) % 64 else bits w 9 6) (sext 16 (bits w 18 16)) f)
        c (pcOf s c))) ∧
    (opc w = 0x26 → decOk w .v .v .none [(0, 12)] = true → 8 ≤ f → f ≤ 10 → bits w 8 4 < 7 →
      exec (.vfn c quietRun) s = .next (completed (putLanes s c (dst w) f (vmask k w) [a] fun j =>
        ⟨(fenc f (fdec 10 (vfn (bits w 8 4) (widen f (vlane n a.data j))).1)).v, 0,
          (vfn (bits w 8 4) (widen f (vlane n a.data j))).2 +
            (fenc f (fdec 10 (vfn (bits w 8 4) (widen f (vlane n a.data j))).1)).nan⟩) c (pcOf s c))) ∧
    (∀ op G rs, opc w = 0x27 → decOk w .v .v .none [(0, 15)] = true → vopFmt f = true → op = bits w 8 3 → G = bits w 11 4 →
      op < 4 → G ≠ 0 → 2 ^ G ≤ lanes f → (op = 2 → lanes f / 2 ^ G ≤ 64) →
      rs = (groupsOf (2 ^ G) (unpackLanes n a.data)).map (redGroup op f G (vmask k w) 0) →
      exec (.vred c quietRun) s = .next (completed (putV s c (dst w) (packLanes (if op = 2 then 32 else n) (rs.map (·.v)))
        [a] false (satOf rs) (nanOf rs)) c (pcOf s c))) ∧
    (∀ g rs, opc w = 0x28 → decOk w .v .v .none [(0, 12)] = true → vopFmt f = true → g = 2 ^ bits w 8 4 → g ≤ lanes f →
      lanes f / g ≤ 32 → rs = (groupsOf g (unpackLanes n a.data)).map (argGroup f (vmask k w)) →
      exec (.varg c quietRun) s = .next (completed (putV s c (dst w) (packLanes 32
        (padTo 32 (rs.map (fun r => (r.map (·.1)).getD 0)) ++ padTo 32 (rs.map (fun r => (r.map (fun p => widen32 f p.2)).getD 0))))
        [a] false 0 0) c (pcOf s c))) ∧
    (∀ op S G rs, opc w = 0x29 → decOk w .v .v .none [(0, 14)] = true → vopFmt f = true → op = bits w 8 2 → S = bits w 10 2 →
      G = bits w 12 2 → op ≠ 3 → (op = 2 → f = 5 ∨ f = 10) → S + G ≤ 3 →
      rs = (List.range (8 / 2 ^ (S + G))).flatMap (fun q => (List.range (2 ^ S * 256 / n)).map (fun j =>
        if lane (vmask k w) j then poolLane op f G 0 ((List.range (2 ^ G)).map fun i =>
          vlane n a.data ((q * 2 ^ G + i) * (2 ^ S * 256 / n) + j)) else ⟨0, 0, 0⟩)) →
      exec (.vpool c quietRun) s = .next (completed (putV s c (dst w) (packLanes n (rs.map (·.v))) [a] false (satOf rs)
        (nanOf rs)) c (pcOf s c))) ∧
    (∀ r (d : Desc), opc w = 0x2A → decOk w .v .a .s [(0, 4)] = true → r = (sreg k (srcB w) + bits w 0 4) % 2 ^ 32 → r ≤ 15 →
      k.run = some d → srcA w < d.accTiles → storeCodes (tileAt k (srcA w)) r = [] →
      exec (.vacc c quietRun) s = .next (completed (modCore s c fun k' => setV k' (dst w)
        ⟨tileRows (tileAt k (srcA w)) r, (tileAt k (srcA w)).sat, (tileAt k (srcA w)).nan⟩) c (pcOf s c))) ∧
    (∀ blocks, opc w = 0x2B → bit w 14 = false → decOk w .v .v .none [(3, 13)] = true → 8 ≤ f → f ≤ 10 → bit w 15 = false →
      blocks = (groupsOf 32 (unpackLanes n a.data)).map (fun b => mxQuant (mxFmtOf w) (b.map (fdec f))) →
      exec (.vmxqQuantise c quietRun) s = .next (completed (modCore (putV s c (dst w)
        (packLanes (fmtWidth (mxFmtOf w)) (blocks.flatMap (·.2.1))) [a] false 0 (blocks.foldl (fun n b => n + b.2.2) 0)) c
        fun k' => setS k' (bits w 8 5) (leNat (blocks.map (fun b => BitVec.ofNat 8 b.1)))) c (pcOf s c))) ∧
    (∀ rs, opc w = 0x2B → bit w 14 = true → decOk w .v .v .none [(3, 13)] = true → f = 10 →
      rs = (List.range 64).map (fun j => mxExpand (mxFmtOf w) (bits (sreg k (bits w 8 5)) (8 * (2 * bits w 15 1 + j / 32)) 8)
        (vlane (fmtWidth (mxFmtOf w)) a.data (32 * (2 * bits w 15 1 + j / 32) + j % 32))) →
      exec (.vmxqExpand c quietRun) s = .next (completed (putV s c (dst w) (packLanes 32 (rs.map (·.v))) [a] false 0 (nanOf rs))
        c (pcOf s c)))

/-- R120, R121: a lane-wise write changes nothing but its vector register, the counts of saturated and special lanes,
and keeps every lane its mask disables. -/
def Obligations.LaneWritesKeepTheRest : Prop :=
  ∀ (s : State) (c d f m : Nat) (srcs : List VReg) (g : Nat → Res),
    (∀ e, e ≠ d → vreg (coreAt (putLanes s c d f m srcs g) c) e = vreg (coreAt s c) e) ∧
    (∀ e, e ≠ c → coreAt (putLanes s c d f m srcs g) e = coreAt s e) ∧
    (coreAt (putLanes s c d f m srcs g) c).s = (coreAt s c).s ∧ (coreAt (putLanes s c d f m srcs g) c).m = (coreAt s c).m ∧
    (coreAt (putLanes s c d f m srcs g) c).acc = (coreAt s c).acc ∧
    (putLanes s c d f m srcs g).mem = s.mem ∧ (putLanes s c d f m srcs g).hostMem = s.hostMem ∧
    (vopFmt f = true → (∀ j, (g j).v < 2 ^ fmtWidth f) → ∀ j < lanes f,
      vlane (fmtWidth f) (vreg (coreAt (putLanes s c d f m srcs g) c) d).data j =
        if lane m j then (g j).v else vlane (fmtWidth f) (vreg (coreAt s c) d).data j)

/-- R136, R151, R152: loads and stores of the core's own scratchpad. A fetched VLD, VST or SLS on words that exist and
are switched on completes; a load on clean words writes its register; a store writes its words, whose poison it
clears, and no other byte of memory. It rests on the model's choices of log entry 13. -/
def Obligations.LocalAccessesComplete : Prop :=
  (∀ (s : State) (c w a n : Nat), Fetches s c w → a = localWord (coreAt s c) w → n = wordsOf w →
    (opc w = 0x30 → decOk w .v .s .none [(0, 19)] = true → spSpan s c a n = true → readCodes s c a n = [] →
      exec (.vld c quietRun) s = .next (completed (modCore s c fun k => setV k (dst w) ⟨spWords s c a n, false, false⟩)
        c (pcOf s c))) ∧
    (opc w = 0x31 → decOk w .none .s .v [(0, 20)] = true → spSpan s c a n = true →
      exec (.vst c quietRun) s = .next (completed (markOut (spStores s c a (vreg (coreAt s c) (srcB w)).data n) c (bit w 19)
        (vreg (coreAt s c) (srcB w))) c (pcOf s c))) ∧
    (opc w = 0x32 → bit w 19 = false → decOk w .s .s .none [(0, 20)] = true → spOk s c a = true → readCodes s c a 1 = [] →
      exec (.slsLoad c quietRun) s = .next (completed (modCore s c fun k =>
        setS k (dst w) (bits (spWord s c a) (32 * bits w 16 3) 32)) c (pcOf s c))) ∧
    (opc w = 0x32 → bit w 19 = true → decOk w .none .s .s [(0, 20)] = true → spOk s c a = true →
      exec (.slsStore c quietRun) s = .next (completed (spStore s c a
        (setBits (spWord s c a) (32 * bits w 16 3) 32 (sreg (coreAt s c) (srcB w)))) c (pcOf s c)))) ∧
  (∀ (s : State) (c a v n pc b : Nat) (out : Bool) (r : VReg),
    (b < spAddr c a ∨ spAddr c a + 32 * n ≤ b) →
    memByte (completed (markOut (spStores s c a v n) c out r) c pc).mem b = memByte s.mem b) ∧
  (∀ (s : State) (c a v n : Nat), v < 2 ^ (256 * n) → spWords (spStores s c a v n) c a n = v) ∧
  (∀ (s : State) (c a v pc b : Nat), (b < spAddr c a ∨ spAddr c a + 32 ≤ b) →
    memByte (completed (spStore s c a v) c pc).mem b = memByte s.mem b)

/-- R137: XFER. A fetched XFER to a device address that exists and is another's issues its write, which stays
outstanding, or its read; a write lands at its address with its poison, counting its arrival, or answers an error,
which alarms the share; the data of a read is written to its register, with an alarm where it is poisoned, and an
error answer ends the read. It rests on the model's choices of log entry 5. -/
def Obligations.TransfersComplete : Prop :=
  (∀ (s : State) (c w a n : Nat) (h : Option Handle), Fetches s c w → opc w = 0x37 → a = xferAddr (coreAt s c) w →
    n = wordsOf w → h = creg (coreAt s c) (bits w 22 5) → devOk s a (32 * n) = true → remoteBad s a n = false →
    (bit w 19 = false → decOk w .none .s .v [(0, 27)] = true →
      (bit w 21 = false ∨ (wrongCounter s a h = false ∧ inDram s a = false)) → tagFree s (c / 8) true = true →
      exec (.xferWrite c quietRun) s = .next (completed (markOut (spoilSpan (sendWrite s c (destOf s a)
        (.xfer a n ((vreg (coreAt s c) (srcB w)).data % 2 ^ (256 * n))
          (if bit w 21 then h.map (fun h => (h.core, h.index)) else none))) c a n) c (bit w 20) (vreg (coreAt s c) (srcB w)))
        c (pcOf s c))) ∧
    (bit w 19 = true → decOk w .v .s .none [(0, 20)] = true →
      exec (.xferRead c quietRun) s = .next (completed (modCore s c fun k =>
        { k with reads := k.reads ++ [⟨dst w, a, n, pcOf s c, k.seq, s.tick⟩] }) c (pcOf s c)))) ∧
  (∀ (s : State) (c i a n data : Nat) (count : Option (Nat × Nat)) (o : OutWrite) (p : Bool),
    (coreAt s c).outw[i]? = some o → mayLand (coreAt s c).outw i o = true → o.kind = .xfer a n data count →
    devOk s a (32 * n) = true →
    exec (.remoteWriteAck c i false p) s =
      .next (land (setCore s c { coreAt s c with outw := dropAt (coreAt s c).outw i }) c o p)) ∧
  (∀ (s : State) (c i : Nat) (o : OutWrite) (p : Bool), (coreAt s c).outw[i]? = some o →
    mayLand (coreAt s c).outw i o = true → (∀ r, o.kind ≠ .slot r) →
    exec (.remoteWriteAck c i true p) s =
      .next (shareEvent (setCore s c { coreAt s c with outw := dropAt (coreAt s c).outw i }) c 0x0114 o.pc o.seq)) ∧
  (∀ (s : State) (c i : Nat) (r : PendRead), (coreAt s c).reads[i]? = some r → devOk s r.addr (32 * r.words) = true →
    (let s1 := modCore (noteParity s r.addr (32 * r.words)) c fun k => setV { k with reads := dropAt k.reads i } r.vd
       ⟨leNat (busRead s r.addr (32 * r.words)).1, false, false⟩
     exec (.xferReadResponse c i .good) s = .next
       (if (busRead s r.addr (32 * r.words)).2 then shareEvent s1 c 0x0401 r.pc r.seq else s1))) ∧
  (∀ (s : State) (c i : Nat) (r : PendRead), (coreAt s c).reads[i]? = some r →
    exec (.xferReadResponse c i .error) s = .next (failRead s c i)) ∧
  (∀ (s : State) (c : Nat) (o : OutWrite) (a n data b : Nat) (count : Option (Nat × Nat)) (p : Bool),
    o.kind = .xfer a n data count → (b < a ∨ a + 32 * n ≤ b) → memByte (land s c o p).mem b = memByte s.mem b)

/-- R138, R139, R159 to R161, R167: rings. BIND binds a handle; RPUT sends its slot where the ring grants it and waits
where it does not; the owner grants a waiting producer, unless the ring's state is bad, which ends the producer's
share; a slot lands word for word and is settled in reservation order, but not in a ring whose state is bad; RGET
reads the head slot and frees it; RWIN gives the head's address and frees what is released; a consumer waits while the
ring lacks slots, and resumes when it has them. It rests on the model's choices of log entry 5. -/
def Obligations.RingInstructionsComplete : Prop :=
  (∀ (s : State) (c w : Nat), Fetches s c w →
    (∀ o, opc w = 0x33 → bit w 5 = false → decOk w .h .s .none [(0, 8)] = true → bits w 0 5 < 16 →
      o = (if bit w 6 then c else sreg (coreAt s c) (srcA w)) → present s o = true → ringEn s o (bits w 0 5) = true →
      (bit w 7 = false → o = c) → (bit w 7 = true → ringProducer s o (bits w 0 5) = .core c) →
      exec (.bindRing c quietRun) s = .next (completed (modCore s c fun k =>
        { k with h := tset none k.h (dst w) (some ⟨o, bits w 0 5, bit w 7⟩) }) c (pcOf s c))) ∧
    (∀ o, opc w = 0x33 → bit w 5 = true → decOk w .c .s .none [(0, 7)] = true →
      o = (if bit w 6 then c else sreg (coreAt s c) (srcA w)) → present s o = true →
      exec (.bindCounter c quietRun) s = .next (completed (modCore s c fun k =>
        { k with c := tset none k.c (dst w) (some ⟨o, bits w 0 5, false⟩) }) c (pcOf s c))) ∧
    (∀ (h : Handle) (t : State), opc w = 0x34 → decOk w .h .none .v [(0, 1)] = true → hreg (coreAt s c) (dst w) = some h →
      h.producer = true → (ringX s h.core h.index).bad = false →
      ((granted s h.core h.index || ringRoom s h.core h.index) = true → execRput.putSlot s c w h = .go t [] →
        exec (.rput c quietRun) s = .next (completed t c (pcOf s c))) ∧
      ((granted s h.core h.index || ringRoom s h.core h.index) = false →
        exec (.rput c quietRun) s = .next (wr (modCore (wantSlot s h.core h.index) c fun k =>
          { k with wait := some ⟨.ringWrite, s.tick⟩, lastPc := pcOf s c }) R.CORE_STATE.WAITING c 1))) ∧
    (∀ r a z, opc w = 0x35 → decOk w .v .h .none [] = true → consumerRing (hreg (coreAt s c) (srcA w)) = some r →
      z = slotWords s c r → a = ringBase s c r + ringHead s c r * z →
      (ringX s c r).bad = false →
      (1 ≤ ringFill s c r → readCodes s c a z = [] → exec (.rget c quietRun) s = .next (completed (advanceHead
        (modCore s c fun k => setV k (dst w) ⟨spWords s c a z, false, false⟩) c r 1) c (pcOf s c))) ∧
      (ringFill s c r = 0 → exec (.rget c quietRun) s = .next (wr (modCore (wr s (R.SPAD_RING_STATE.WAIT_RD.nth r) c 1) c
        fun k => { k with wait := some ⟨.ringRead, s.tick⟩, lastPc := pcOf s c }) R.CORE_STATE.WAITING c 1))) ∧
    (∀ r, opc w = 0x36 → consumerRing (hreg (coreAt s c) (srcA w)) = some r → bits w 0 8 ≠ 0 → (ringX s c r).bad = false →
      bits w 0 8 ≤ ringFill s c r →
      (bit w 8 = false → decOk w .s .h .none [(0, 9)] = true → bits w 0 8 ≤ ringCount s c r →
        bits w 0 8 ≤ ringMirror s c r + 1 → exec (.rwinAcquire c quietRun) s = .next (completed (modCore s c fun k =>
          setS k (dst w) (ringBase s c r + ringHead s c r * slotWords s c r)) c (pcOf s c))) ∧
      (bit w 8 = true → decOk w .none .h .none [(0, 9)] = true → readsSlots s c r (bits w 0 8) = false →
        exec (.rwinRelease c quietRun) s = .next (completed (advanceHead s c r (bits w 0 8)) c (pcOf s c))))) ∧
  (∀ (s : State) (c r : Nat), (ringX s c r).want = true →
    ((ringX s c r).bad = false → ringRoom s c r = true → exec (.ringReservationGrant c r) s = .next (reserve s c r)) ∧
    ∀ p, (ringX s c r).bad = true → ringProducer s c r = .core p →
      exec (.ringReservationGrant c r) s = .next (ringSpoilt s c r (pcOf s p, (coreAt s p).seq))) ∧
  (∀ (s : State) (c r i data : Nat) (p : Bool) (v : Resv), (ringX s c r).out[i]? = some v → v.data = some data → v.landed = false →
    (let t := writeSlot s c r v.slot data (v.poison || p)
     ((ringX s c r).bad = false → exec (.ringSlotLanded c r i p) s = .next
       (let t1 := settleSlots (setRingX t c r { ringX s c r with out := setAt (ringX s c r).out i { v with landed := true } }) c r
        match ringProducer s c r with
        | .core q => ackSlot t1 q c r
        | .dma _ => t1)) ∧
     ((ringX s c r).bad = true → exec (.ringSlotLanded c r i p) s = .next
       (let t1 := setRingX t c r { ringX s c r with out := dropAt (ringX s c r).out i }
        match ringProducer s c r with
        | .core q => ringSpoilt (ackSlot t1 q c r) c r (slotOf s q c r)
        | .dma _ => ringSpoilt t1 c r (0, 0))))) ∧
  (∀ (s : State) (c since : Nat) (h : Handle), (coreAt s c).wait = some ⟨.ringRead, since⟩ →
    hreg (coreAt s c) (srcA (bankWord s c (activeBank s c) (pcOf s c))) = some h →
    opc (bankWord s c (activeBank s c) (pcOf s c)) = 0x35 → 1 ≤ ringFill s c h.index →
    (ringX s c h.index).bad = false →
    (let w := bankWord s c (activeBank s c) (pcOf s c)
     let s1 := wr (wr (modCore s c fun k => { k with wait := none }) R.CORE_STATE.WAITING c 0)
       (R.SPAD_RING_STATE.WAIT_RD.nth h.index) c 0
     let z := slotWords s c h.index
     let a := ringBase s c h.index + ringHead s c h.index * z
     readCodes s c a z = [] → exec (.ringWaitSatisfied c) s = .next (completed (advanceHead
       (modCore s1 c fun k => setV k (dst w) ⟨spWords s c a z, false, false⟩) c h.index 1) c (pcOf s c)))) ∧
  (∀ (s : State) (c since : Nat) (h : Handle), (coreAt s c).wait = some ⟨.ringRead, since⟩ →
    hreg (coreAt s c) (srcA (bankWord s c (activeBank s c) (pcOf s c))) = some h →
    opc (bankWord s c (activeBank s c) (pcOf s c)) = 0x36 →
    bits (bankWord s c (activeBank s c) (pcOf s c)) 0 8 ≤ ringFill s c h.index → (ringX s c h.index).bad = false →
    (let w := bankWord s c (activeBank s c) (pcOf s c)
     let s1 := wr (wr (modCore s c fun k => { k with wait := none }) R.CORE_STATE.WAITING c 0)
       (R.SPAD_RING_STATE.WAIT_RD.nth h.index) c 0
     exec (.ringWaitSatisfied c) s = .next (completed (modCore s1 c fun k =>
       setS k (dst w) (ringBase s c h.index + ringHead s c h.index * slotWords s c h.index)) c (pcOf s c)))) ∧
  (∀ (s s1 t : State) (c since : Nat) (h : Handle), (coreAt s c).wait = some ⟨.ringWrite, since⟩ →
    hreg (coreAt s c) (dst (bankWord s c (activeBank s c) (pcOf s c))) = some h → (ringX s h.core h.index).bad = false →
    (granted s h.core h.index || ringRoom s h.core h.index) = true →
    s1 = wr (modCore s c fun k => { k with wait := none }) R.CORE_STATE.WAITING c 0 →
    execRput.putSlot s1 c (bankWord s c (activeBank s c) (pcOf s c)) h = .go t [] →
    exec (.ringWaitSatisfied c) s = .next (completed t c (pcOf s c)))

/-- R143, R146, R163, R165: counters and fences. CWAIT passes on when its target is reached and waits otherwise,
resuming when an update reaches it; CSET ADD and SET change a counter of the core's own and ADD sends to another's;
FENCE passes on when no write is outstanding and waits otherwise, ending with the last acknowledgement; a ring or
counter wait that outlasts its limit alarms the share. It rests on the model's choices of log entry 5. -/
def Obligations.CountersAndFencesComplete : Prop :=
  (∀ (s : State) (c w : Nat), Fetches s c w →
    (∀ h : Handle, opc w = 0x38 → decOk w .none .c .s [(0, 24)] = true → creg (coreAt s c) (srcA w) = some h → h.core = c →
      tget false (coreAt s c).badCnt h.index = false →
      exec (.cwait c quietRun) s = .next
        (if reached (cntVal s c h.index) ((sreg (coreAt s c) (srcB w) + bits w 0 24) % 2 ^ 24) then completed s c (pcOf s c)
         else wr (modCore s c fun k => { k with wait := some ⟨.counter, s.tick⟩, lastPc := pcOf s c }) R.CORE_STATE.WAITING c 1)) ∧
    (∀ (h : Handle) (v : Nat), opc w = 0x39 → bit w 24 = false → decOk w .c .s .none [(0, 25)] = true →
      creg (coreAt s c) (dst w) = some h → v = (sreg (coreAt s c) (srcA w) + bits w 0 24) % 2 ^ 24 →
      tget false (coreAt s c).badCnt h.index = false → countsSelf (coreAt s c) c h.index = false →
      exec (.csetAdd c quietRun) s = .next (completed (if h.core = c then addCnt s c h.index v
        else sendWrite s c h.core (.cset h.index v)) c (pcOf s c))) ∧
    (∀ (h : Handle) (v : Nat), opc w = 0x39 → bit w 24 = true → decOk w .c .s .none [(0, 25)] = true →
      creg (coreAt s c) (dst w) = some h → h.core = c → v = (sreg (coreAt s c) (srcA w) + bits w 0 24) % 2 ^ 24 →
      tget false (coreAt s c).badCnt h.index = false → countsSelf (coreAt s c) c h.index = false →
      exec (.csetSet c quietRun) s = .next (completed (wr s (R.SPAD_CNT.VALUE.nth h.index) c v) c (pcOf s c))) ∧
    (opc w = 0x3B → decOk w .none .none .none [] = true →
      exec (.fence c quietRun) s = .next (if (coreAt s c).outw = [] then completed s c (pcOf s c)
        else modCore s c fun k => { k with wait := some ⟨.fence, s.tick⟩, lastPc := pcOf s c }))) ∧
  (∀ (s : State) (c since : Nat), (coreAt s c).wait = some ⟨.fence, since⟩ → (coreAt s c).outw = [] →
    exec (.fenceComplete c) s =
      .next (completed (wr (modCore s c fun k => { k with wait := none }) R.CORE_STATE.WAITING c 0) c (pcOf s c))) ∧
  (∀ (s : State) (c since : Nat) (h : Handle), (coreAt s c).wait = some ⟨.counter, since⟩ →
    creg (coreAt s c) (srcA (bankWord s c (activeBank s c) (pcOf s c))) = some h →
    tget false (coreAt s c).badCnt h.index = false →
    reached (cntVal s c h.index) ((sreg (coreAt s c) (srcB (bankWord s c (activeBank s c) (pcOf s c))) +
      bits (bankWord s c (activeBank s c) (pcOf s c)) 0 24) % 2 ^ 24) = true →
    exec (.counterWaitSatisfied c) s =
      .next (completed (wr (modCore s c fun k => { k with wait := none }) R.CORE_STATE.WAITING c 0) c (pcOf s c))) ∧
  (∀ (s : State) (c since code : Nat) (what : WaitFor) (d : Desc), (coreAt s c).wait = some ⟨what, since⟩ →
    (coreAt s c).run = some d → since + stallLimit s c d ≤ s.tick →
    (what = .ringRead ∧ code = 0x0201 ∨ what = .ringWrite ∧ code = 0x0202 ∨ what = .counter ∧ code = 0x0203) →
    exec (.stallWatchdogExpiry c) s = .next (shareEvent s c code (pcOf s c) (coreAt s c).seq))

/-- R144, R145: Gong barriers. ARRIVE counts the share's band once in a generation; WAIT passes on when the generation
of the share's last arrival is complete and waits otherwise; SYNC does both; a completed generation releases its
waiters; a wait of two stripe periods alarms the share with 0x0116. -/
def Obligations.GongBarriersComplete : Prop :=
  (∀ (s s1 : State) (c w : Nat) (d : Desc), Fetches s c w → opc w = 0x3A → decOk w .none .none .none [(0, 5)] = true →
    (coreAt s c).run = some d → d.kind < 2 →
    (bits w 3 2 = 0 → arrive s c (coreAt s c) d (bits w 0 3) = .inl s1 →
      exec (.gongArrive c quietRun) s = .next (completed s1 c (pcOf s c))) ∧
    (∀ (g : Gong) (n : Nat), gongOf s d.stream d.stripe (bits w 0 3) = some g → n = myArrivals (coreAt s c) (bits w 0 3) →
      n ≠ 0 → bits w 3 2 = 1 → exec (.gongWait c quietRun) s = .next
        (if g.complete (at? 0 (g.past d.bandStart) (n - 1)) then completed s c (pcOf s c)
         else wr (modCore s c fun k => { k with wait := some ⟨.gong d.stream d.stripe (bits w 0 3)
           (at? 0 (g.past d.bandStart) (n - 1)), s.tick⟩, lastPc := pcOf s c }) R.CORE_STATE.WAITING c 1)) ∧
    (bits w 3 2 = 2 → arrive s c (coreAt s c) d (bits w 0 3) = .inl s1 →
      gongWait s1 (coreAt s1 c) d (bits w 0 3) = .go s1 [] →
      exec (.gongSync c quietRun) s = .next (completed s1 c (pcOf s c)))) ∧
  (∀ (s : State) (k n i : Nat) (g : Gong), gongOf s k n i = some g →
    exec (.gongGenerationComplete k n i) s = .next
      ((gongWaiters s g).foldl (fun s c => endWait s c fun s _ _ => .go s []) s)) ∧
  (∀ (s : State) (c since a b i g : Nat) (d : Desc), (coreAt s c).wait = some ⟨.gong a b i g, since⟩ →
    (coreAt s c).run = some d → since + 2 * shareTicks s d ≤ s.tick →
    exec (.gongWaitLimitExpiry c) s = .next (shareEvent s c 0x0116 (pcOf s c) (coreAt s c).seq))

/-- R77 to R86, R405, R406: core control. A descriptor in order is offered to the core and one out of order refused
with 0x0107; a bank word is written and clears VALID, or is refused with 0x0108 while the bank is in use; validation
computes the bank's CRC-32C and sets VALID; each second a scrub corrects the words with one flipped bit and clears the
VALID of a bank with two in a word; a write of CORE_CTRL takes every field; a starting core becomes IDLE or DRAINING
and owes its tests anew, and a drained core OFF or STARTING. It rests on the model's choices of log entry 5. -/
def Obligations.CoreControlActs : Prop :=
  (∀ (s : State) (c : Nat) (words : List Nat), present s c = true → bit (at? 0 words 0) 0 = true →
    exec (.shareDescriptorWrite c words) s = .next (if descCause s c words ≠ 0 then coreRefuse s c 0x0107 (descCause s c words)
      else offerDesc s c (descOf words))) ∧
  (∀ (s : State) (c b a x : Nat), present s c = true → b < 2 → a < 4096 →
    (bankInUse s c b = false → ∃ t, exec (.bankWrite c b a x) s = .next t ∧ bankWord t c b a = x % 2 ^ 64 ∧
      (∀ c' b' a', c' < 128 → b' < 2 → a' < 4096 → (c', b', a') ≠ (c, b, a) → bankWord t c' b' a' = bankWord s c' b' a') ∧
      rd t (if b = 0 then R.CORE_STATE.BANK_A_VALID else R.CORE_STATE.BANK_B_VALID) c = 0 ∧
      t = { s with banks := t.banks, regs := t.regs }) ∧
    (bankInUse s c b = true → exec (.bankWrite c b a x) s = .next (coreRefuse s c 0x0108 0))) ∧
  (∀ (s : State) (c b : Nat), b < 2 → tget false (coreAt s c).validating b = true →
    exec (.validateComplete c b) s = .next (setBankValid (wr (modCore s c fun k =>
      { k with validating := tset false k.validating b false }) (if b = 0 then R.CORE_BANK_A_CRC.CRC else R.CORE_BANK_B_CRC.CRC) c
      (crc32c (bankBytes s c b))) c b 1)) ∧
  (∀ (s s1 : State) (c : Nat) (flips : List (Nat × Nat × Nat)), present s c = true → isSet s R.CORE_CTRL.SCRUB_EN c = true →
    elapsed s (coreAt s c).scrubAt 10000000 = true →
    s1 = flips.foldl (fun s f => strikeFetch s (bankIx c f.1 f.2.1) [.fetch f.2.2])
      (modCore s c fun k => { k with scrubAt := s.tick }) →
    exec (.instructionScrubPass c flips) s = .next ((s1.bankErr.filter (fun e => e.1 / 8192 == c)).foldl (scrubWord c) s1)) ∧
  (∀ (s : State) (c : Nat) (e : Nat × Nat),
    (popcount 72 e.2 = 1 → scrubWord c s e = coreReport { s with bankErr := tset 0 s.bankErr e.1 0 } c 0x0105) ∧
    (popcount 72 e.2 = 2 → scrubWord c s e =
      coreReport (coreFaultReg (setBankValid s c (e.1 / 4096 % 2) 0) c 0x0106 (pcOf s c) 0) c 0x0106)) ∧
  (∀ (s : State) (w : Wr) (c : Nat), Takes s w R.CORE_CTRL.reg 0 c →
    exec (.coreEnWrite w) s = .next (writeCoreCtrl s c w.val) ∧ exec (.coreRoleWrite w) s = .next (writeCoreCtrl s c w.val) ∧
    (bits w.val 6 2 ≠ 0 → exec (.validateBank w) s = .next (writeCoreCtrl s c w.val)) ∧
    (bits w.val 8 2 ≠ 0 → exec (.invalidateBank w) s = .next (writeCoreCtrl s c w.val)) ∧
    (bit w.val 1 = true → exec (.coreStop w) s = .next (writeCoreCtrl s c w.val)) ∧
    (bit w.val 2 = true → exec (.coreCntClear w) s = .next (writeCoreCtrl s c w.val))) ∧
  (∀ (s s0 : State) (c : Nat), present s c = true → rd s R.CORE_STATE.STATE c = coreStarting →
    s0 = clearTests (clearBanks s c) c →
    exec (.coreStartDone c) s = .next (wr (setCore { s0 with
      flt := { s0.flt with failedRun := s0.flt.failedRun.filter (·.1 != c) } } c { Core.reset with
      rings := (coreAt s c).rings, badCnt := (coreAt s c).badCnt, remap := (coreAt s c).remap, since := s.tick })
      R.CORE_STATE.STATE c (if isSet s R.CORE_CTRL.EN c then coreIdle else coreDraining))) ∧
  (∀ (s : State) (c : Nat), present s c = true → rd s R.CORE_STATE.STATE c = coreDraining → (coreAt s c).run = none →
    (coreAt s c).next = none → exec (.coreDrainDone c) s = .next (modCore (wr s R.CORE_STATE.STATE c
      (if isSet s R.CORE_CTRL.EN c then coreStarting else coreOff)) c fun k => { k with since := s.tick })) ∧
  (∀ (s : State) (c : Nat) (d : Desc), rd s R.CORE_STATE.STATE c = coreDraining → (coreAt s c).run = some d →
    (coreAt s c).since + drainLimit s c ≤ s.tick → exec (.coreDrainTimeout c) s = .next (stopShare s c)) ∧
  (∀ (s : State) (c : Nat), present s c = true → exec (.marginWiden c) s = .next (widenMargin s c))

/-- R153 to R156, R163, R167 to R171: the scratchpad. A rotation serves the accesses of a bank in slot order and
reports its hazards; a bank group starts, zeroed, and drains; a remap switches the row map when its copy is done, and
is recorded; row-map, ring and counter registers are taken where R171 allows and refused whole otherwise. It rests on
the model's choices of log entry 5. -/
def Obligations.ScratchpadControlActs : Prop :=
  (∀ (s : State) (c b : Nat) (l : List RotAcc), present s c = true → exec (.ratchetRotation c b l) s = .next
    (let m := (served b l).filter (fun a => spOk s c a.word)
     ((pairs m).filter (fun p => hazardPair p.1 p.2)).foldl
      (fun s p => spHazard s c p.1.word (p.1.slot - 1) (p.2.slot - 1) 0) (m.foldl (serve s c) s))) ∧
  (∀ (s : State) (w : Wr) (c : Nat), Takes s w R.SPAD_HAZARD.reg 0 c → bit w.val 31 = true →
    exec (.spadHazardClear w) s = .next (clearHazard s c)) ∧
  (∀ (s : State) (w : Wr) (c : Nat), Takes s w R.SPAD_CFG.reg 0 c → exec (.spadCfgWrite w) s = .next
    (if (List.range 4).any (fun g => groupState s c g == 2 && !bit w.val g && groupHeld s c g) then coreRefuse s c 0x0207 0
     else (List.range 4).foldl (fun s g => requestGroup s c g (bit w.val g)) (putAll s R.SPAD_CFG.reg 0 c w.val))) ∧
  (∀ (s : State) (c g : Nat), present s c = true → g < 4 →
    (groupState s c g = 1 → exec (.bankGroupStartDone c g) s = .next
      (setGroup (zeroGroup s c g) c g (if bit (rd s R.SPAD_CFG.GROUP_EN c) g then 2 else 3))) ∧
    (groupState s c g = 3 → exec (.bankGroupDrainDone c g) s = .next
      (setGroup (wr s R.SPAD_PWR_STATUS.REENABLE_PENDING c (clrBit (rd s R.SPAD_PWR_STATUS.REENABLE_PENDING c) g)) c g
        (if bit (rd s R.SPAD_PWR_STATUS.REENABLE_PENDING c) g then 1 else 0)))) ∧
  (∀ (s : State) (w : Wr) (c : Nat), Takes s w R.SPAD_REMAP.reg 0 c → bit w.val 31 = true →
    (let ix := mapIx (bits w.val 0 5) (bits w.val 24 3)
     isSet s (R.SPAD_ROWMAP.VALID.nth ix) c = false → isSet s (R.SPAD_ROWMAP.SPARE_BAD.nth ix) c = false →
     bits w.val 8 9 < 384 → groupState s c (bits w.val 8 9 / 96) = 2 → isSet s R.SPAD_PWR_STATUS.REMAP_BUSY c = false →
     exec (.spadRemap w) s = .next (modCore (wr s R.SPAD_PWR_STATUS.REMAP_BUSY c 1) c fun k =>
       { k with remap := some ⟨bits w.val 0 5, bits w.val 8 9, bits w.val 24 3, 0⟩ }))) ∧
  (∀ (s : State) (c : Nat) (r : Remap), (coreAt s c).remap = some r → r.bank < 32 → r.entry < 8 → r.row < 384 →
    (r.stage = 0 → ∃ t, exec (.remapCopyDone c) s = .next t ∧
      rd t (R.SPAD_ROWMAP.ROW.nth (mapIx r.bank r.entry)) c = r.row ∧
      isSet t (R.SPAD_ROWMAP.VALID.nth (mapIx r.bank r.entry)) c = true ∧
      (∀ e, e < 8 → e ≠ r.entry → isSet t (R.SPAD_ROWMAP.VALID.nth (mapIx r.bank e)) c =
        (isSet s (R.SPAD_ROWMAP.VALID.nth (mapIx r.bank e)) c &&
          decide (rd s (R.SPAD_ROWMAP.ROW.nth (mapIx r.bank e)) c ≠ r.row))) ∧
      (coreAt t c).remap = some { r with stage := 1 } ∧ t.mem = s.mem) ∧
    (r.stage = 1 → ∃ t, exec (.remapRecorded c) s = .next t ∧ rd t R.SPAD_PWR_STATUS.REMAP_BUSY c = 0 ∧
      (coreAt t c).remap = none ∧ tget 0 t.rowMaps ((c * 32 + r.bank) * 8 + r.entry) = r.row + 1 + 1024 ∧
      (∀ e, e < 8 → e ≠ r.entry → tget 0 t.rowMaps ((c * 32 + r.bank) * 8 + e) % 1024 ≠ r.row + 1))) ∧
  (∀ (s : State) (w : Wr) (c n : Nat), n < 256 → Takes s w R.SPAD_ROWMAP.reg n c → exec (.spadRowmapWrite w n) s = .next
    (if 384 ≤ bits w.val 0 9 ∨ groupState s c (bits w.val 0 9 / 96) ≠ 1 then coreRefuse s c 0x0207 0
     else putAll s R.SPAD_ROWMAP.reg n c w.val)) ∧
  (∀ (s : State) (w : Wr) (c r : Nat), r < 16 →
    (Takes s w R.SPAD_RING_CFG0.reg r c → exec (.spadRingCfg0Write w r) s = .next
      (if (ringEn s c r ∧ bit w.val 31) ∨ ringBusy s c r ∨
          (bit w.val 31 ∧ ringCfgOk (putAll s R.SPAD_RING_CFG0.reg r c w.val) c r = false) then coreRefuse s c 0x0208 0
       else putAll s R.SPAD_RING_CFG0.reg r c w.val)) ∧
    (Takes s w R.SPAD_RING_CFG1.reg r c → exec (.spadRingCfg1Write w r) s = .next
      (if ringEn s c r ∨ ringBusy s c r then coreRefuse s c 0x0208 0 else putAll s R.SPAD_RING_CFG1.reg r c w.val)) ∧
    (Takes s w R.SPAD_RING_STATE.reg r c → exec (.spadRingStateWrite w r) s = .next
      (if ringBusy s c r ∨ ringCount s c r ≤ bits w.val 0 12 ∨ ringCount s c r < bits w.val 12 12 then
         coreRefuse s c 0x0208 0
       else setRingX (putAll s R.SPAD_RING_STATE.reg r c w.val) c r { ringX s c r with bad := false }))) ∧
  (∀ (s : State) (w : Wr) (c n : Nat), n < 32 → Takes s w R.SPAD_CNT.reg n c →
    exec (.spadCntWrite w n false) s = .next (setCnt s c n (bits w.val 0 24)) ∧
    exec (.spadCntWrite w n true) s = .next (spHazard (setCnt s c n (bits w.val 0 24)) c n 0 0 1))

/-- R285 to R290: fault work in the background. A core without an event for 24 h moves down one state; a shadow is
dispatched on a spare, and compared: equal values end it, different ones call a third run and then a vote; a test
slice starts on a free core, with TEST_EN or, for calibration and a re-enabled core's tests, without; a round longer
than 8 s is reported once. It rests on the model's choices of log entries 16, 30. -/
def Obligations.BackgroundFaultWork : Prop :=
  (∀ (s : State) (c e : Nat), c < s.part.cores → rd s R.CORE_EVENTS.COUNT c = e + 1 → rd s R.CORE_CTRL.ROLE c ≠ 2 →
    24 * 3600 * 100000000 ≤ quietTicks s c → exec (.coreForgiveness c) s =
      .next (wr (wr (quietRestart s c) R.CORE_EVENTS.COUNT c e) R.CORE_STATE.SUSPECT c 0)) ∧
  (∀ (s : State) (k n b : Nat) (h : Shadow), shadowOf s k n b = some h → shedding s = false → barriersDone s k n = true →
    h.core = 1000 → exec (.shadowDispatch k n b) s = .next (sendShadow s k n b [h.home] fun c h => { h with core := c })) ∧
  (∀ (s : State) (k n b x y : Nat) (h : Shadow) (t : Stripe) (g : Pkg) (bd : Band), shadowOf s k n b = some h →
    stripeOf (strm s k) n = some t → t.pkg = some g → t.map.bands[b]? = some bd →
    x = crc64 (bandOutput s t.place t.place.staging k t g bd) → y = crc64 (bandOutput s t.place t.place.shStaging k t g bd) →
    (h.differs = false → h.ended = some true → originalClean s k n b = true → exec (.shadowCompareDone k n b) s = .next
      (if x = y then dropShadow (bump s R.FLT_CNT_SHADOW.COUNT 0) k n b
       else sendShadow (modShadow (bump s R.FLT_CNT_SHADOW.COUNT 0) k n b fun h => { h with differs := true, value := y })
         k n b [h.home, h.core] fun c h => { h with third := some c })) ∧
    (h.differs = true → h.thirdDone = true →
      exec (.shadowCompareDone k n b) s = .next (shadowVote s h x h.value y (bandInput s k t g bd)))) ∧
  (∀ (s : State) (c number steps : Nat) (chime free : Bool) (words : List Nat) (t : Slice),
    free = ((!chime && (calStream number).isSome) || (upto s.part.cores).any (untested s)) →
    isSet s R.FLT_CTRL.TEST_EN 0 = true ∨ free = true →
    shedding s = false → sliceIdle s = true → paired s = false ∨ chime = true ∨ free = true →
    (chime = true → s.flt.withdrawn.contains number = false) → nextSlice s c chime number steps words = some t →
    100 ≤ sliceTicks t.steps → sliceTicks t.steps ≤ 2000 → sliceCore s c (sliceTicks t.steps) = true →
    accepts s c (descOf t.words).bank = true →
    exec (.testSliceStart c chime number steps words) s = .next (offerDesc (wr { s with flt := { s.flt with slice := some t } }
      R.FLT_TEST_STATUS.CORE 0 c) c { descOf t.words with kind := 3 })) ∧
  (∀ s : State, s.flt.roundOver = false → isSet s R.FLT_CTRL.TEST_EN 0 = true → s.flt.roundAt + 800000000 ≤ s.tick →
    exec .testRoundOverdue s = .next (wr (report { s with flt := { s.flt with roundOver := true } } 0x013B 0 0)
      R.FLT_TEST_STATUS.OVERDUE 0 1))

/-- R243 to R247: the program instructions of a DMA channel. A fetched LOOP, ENDLOOP, WAIT, SIGNAL, SUM or END whose
fields are allowed takes effect and the channel goes on, or waits for what the WAIT or END asks; END with nothing
outstanding posts the completion record and takes up the queued start. It rests on the model's choices of log entry
17. -/
def Obligations.DmaProgramsRun : Prop :=
  ∀ (s : State) (c w : Nat) (st : DmaStart) (d : DmaCh), DmaFetches s c st w → d = dmaCh s c →
    (dmaOp w = 3 → onlyBits w [(0, 4), (8, 24), (64, 40), (128, 40)] = true → bits w 8 24 ≠ 0 → d.loops.length < 4 →
      exec (.dmaLoop c false) s = .next (stepOn s c fun d =>
        { d with loops := d.loops ++ [⟨d.pc + 1, bits w 8 24, 0, bits w 64 40, bits w 128 40⟩] })) ∧
    (∀ l, dmaOp w = 4 → onlyBits w [(0, 4)] = true → d.loops.getLast? = some l →
      exec (.dmaEndloop c false) s = .next (if l.iter + 1 < l.n then stepOn s c fun d =>
          { d with pc := l.start - 1, loops := d.loops.dropLast ++ [{ l with iter := l.iter + 1 }] }
        else stepOn s c fun d => { d with loops := d.loops.dropLast })) ∧
    (dmaOp w = 5 → bits w 4 2 = 0 → onlyBits w [(0, 4)] = true →
      exec (.dmaWaitDrain c false) s = .next (if drained d then stepOn s c id else waitOn s c .drain)) ∧
    (∀ t, dmaOp w = 5 → bits w 4 2 = 1 → onlyBits w [(0, 7), (8, 7), (16, 5), (32, 24)] = true →
      present s (bits w 8 7) = true →
      tget false (coreAt s (bits w 8 7)).badCnt (bits w 16 5) = false →
      t = (if bit w 6 then (rd s R.DMA_CH_CRED.CRED c + bits w 32 24) % 2 ^ 24 else bits w 32 24) →
      exec (.dmaWaitCounter c false) s = .next (if reached (cntVal s (bits w 8 7) (bits w 16 5)) t then
          takeCredit (stepOn s c id) c t (bit w 6)
        else waitOn s c (.counter (bits w 8 7) (bits w 16 5) t (bit w 6)))) ∧
    (dmaOp w = 6 → bits w 4 2 = 0 → onlyBits w [(0, 4), (8, 7), (16, 5), (32, 24)] = true → present s (bits w 8 7) = true →
      exec (.dmaSignalCounter c false) s = .next (stepOn s c fun d =>
        { d with signals := d.signals ++ [⟨d.seq, some (bits w 8 7, bits w 16 5), bits w 32 24⟩] })) ∧
    (dmaOp w = 6 → bits w 4 2 = 1 → onlyBits w [(0, 5), (32, 24)] = true →
      exec (.dmaSignalEvent c false) s = .next (stepOn s c fun d =>
        { d with signals := d.signals ++ [⟨d.seq, none, bits w 32 24⟩] })) ∧
    (dmaOp w = 7 → bits w 4 2 = 0 → onlyBits w [(0, 4), (6, 1)] = true → d.check = none →
      exec (.dmaSumStart c false) s = .next (stepOn s c fun d => { d with check := some ⟨bit w 6, []⟩ })) ∧
    (∀ a k, dmaOp w = 7 → bits w 4 2 = 1 → onlyBits w [(0, 5), (64, 40)] = true → d.check = some k → a = bits w 64 40 →
      a % alignAt a = 0 → foreign c a = false → busOk s a (sumSize a) = true →
      exec (.dmaSumStop c false) s = .next (stepOn s c fun d =>
        { d with check := none, seq := d.seq + 1, stores := d.stores ++ [⟨d.seq, a, k⟩] })) ∧
    (w = 0 → d.loops = [] → exec (.dmaEnd c false) s = .next
      (if drained d then
        takeNext (postRecord (beginStep (modDma s c fun d => { d with check := none }) c) c 1) c
       else waitOn (modDma s c fun d => { d with check := none }) c .final))

/-- R241, R242, R249, R250: data movement. A fetched MOVE to an address issues its next piece as an outstanding read
and write; a MOVE to a ring issues the next slot the channel has reserved; a chain MOVE enters the weight chain; a
MOVEX asks for its indices, and issues the next piece of its present element once that element's index has come. What
is misaligned, absent or a host address a cluster's channel may not name halts the channel instead. R250, R251, R262,
R381: a piece that is acknowledged retires, and its data goes to its destination; no other byte of memory changes; one
answered with an error, or older than its limit, halts the channel with 0x0303 and its cause, and a parity error of
its tag with 0x030B. It rests on the model's choices of log entry 17. -/
def Obligations.DmaPiecesMoveData : Prop :=
  ((∀ (s : State) (c w : Nat) (st : DmaStart), DmaFetches s c st w → dmaOp w = 1 → bits w 5 2 < 3 →
    onlyBits w (moveFields (bits w 5 2)) = true → bit w 7 = false →
    exec (.dmaMove c false) s = .next
      (let len := (bits w 8 24 + 1) * 32
       let a := dmaSrc (dmaCh s c) st (bits w 64 40) false
       if bits w 5 2 = 0 then movePlain s c st w len a false else if bits w 5 2 = 1 then moveRing s c st w len a false
       else moveChain s c st w len a false)) ∧
  (∀ (s : State) (c w len a b n : Nat) (st : DmaStart) (d : DmaCh), d = dmaCh s c → b = dmaDst d st (bits w 128 40) →
    misaligned a b len false = none → n = pieceLen len (d.offset * 32) b none →
    foreign c (a + d.offset * 32) = false → busOk s (a + d.offset * 32) n = true →
    foreign c (b + d.offset * 32) = false → busOk s (b + d.offset * 32) n = true →
    overlaps (b + d.offset * 32) n (st.prog * 256) (32 * st.len) = false →
    otherPathMeets s c (b + d.offset * 32) n (decide (len ≤ 256)) .plain = false → tagFree s (engOf c) (decide (len ≤ 256)) = true →
    movePlain s c st w len a false = modDma (beginStep s c) c fun e => moved len n { e with
      seq := e.seq + 1,
      pieces := e.pieces ++ [⟨e.seq, decide (len ≤ 256), a + d.offset * 32, b + d.offset * 32, n, .plain, s.tick, false, false⟩],
      check := e.check.map (fun k => { k with parts := k.parts ++ [(e.seq, none)] }) }) ∧
  (∀ (s : State) (c w : Nat) (st : DmaStart), DmaFetches s c st w → dmaOp w = 2 →
    onlyBits w [(0, 7), (8, 48), (64, 40), (128, 40), (192, 64)] = true → bits w 32 24 ≠ 0 →
    foreign c (indexSpan w).1 = false → busOk s (indexSpan w).1 (indexSpan w).2 = true →
    ((dmaCh s c).begun = true ∨ misalignedX (dmaCh s c) st w = none) →
    ((dmaCh s c).offset ≠ 0 ∨ (dmaCh s c).sub ≠ 0 ∨ stepAligned (dmaCh s c) st w = true ∨
      misalignedElem (dmaCh s c) st w = some none) →
    exec (.dmaMovex c false) s = .next (match indexOf (dmaCh s c) w (dmaCh s c).offset with
      | some i => moveElem s c st w i
      | none => fetchIndex s c w)) ∧
  (∀ (s : State) (c w x : Nat) (st : DmaStart), DmaFetches s c st w → dmaOp w = 2 →
    onlyBits w [(0, 7), (8, 48), (64, 40), (128, 40), (192, 64)] = true → bits w 32 24 ≠ 0 →
    foreign c (indexSpan w).1 = false → busOk s (indexSpan w).1 (indexSpan w).2 = true →
    (dmaCh s c).begun = false → misalignedX (dmaCh s c) st w = some x →
    exec (.dmaMovex c false) s = .next (haltCh s c 0x0301 0 x))) ∧
((∀ (s : State) (c i : Nat) (q : Piece), (dmaCh s c).pieces[i]? = some q →
    exec (.dmaPieceAck c i (.read .error)) s = .next (failPiece s c i (errorCause q.src) q false) ∧
    exec (.dmaPieceAck c i .writeError) s = .next (failPiece s c i (errorCause q.dst) q true) ∧
    exec (.dmaPieceAck c i .tagParity) s = .next (haltCh (losePiece s c i q) c 0x030B 0 q.src) ∧
    (mustFollow s (dmaCh s c) q.seq q.dst q.len .plain = false → q.kind = .plain → parityBad s q.src q.len = false →
      ∃ t bad, bad = (if q.poison then upto (cdiv q.len 32) else (busBad s q.src q.len).eraseDups) ∧
        exec (.dmaPieceAck c i (.read .good)) s = .next t ∧
        t = poisonWords (busWrite (retirePiece s c i q (busRead s q.src q.len).1 (!bad.isEmpty)) q.dst
          (busRead s q.src q.len).1 false) q.dst bad ∧
        (inHostWin q.dst = false → t.hostMem = s.hostMem ∧
          ∀ b, (b < q.dst ∨ q.dst + q.len ≤ b) → memByte t.mem b = memByte s.mem b) ∧
        (inHostWin q.dst = true → t.mem = s.mem)) ∧
    (q.issued + max 1 (rd s R.DMA_CH_LIMIT.TAG_US c) * 100 ≤ s.tick → ((spOf s q.dst).isSome || (spOf s q.src).isSome) = true →
      exec (.dmaTagTimeout c i) s = .next (failPiece s c i 5 q (spOf s q.dst).isSome)) ∧
    ((inDram s q.src || toDram s q) = true → q.issued + 1000 ≤ s.tick →
      exec (.dramRequestTimeout (.piece c i)) s = .next (failPiece s c i 1 q (!inDram s q.src))) ∧
    ((inHostWin q.src || inHostWin q.dst) = true → q.issued + 5000 ≤ s.tick →
      exec (.pcieCompletionTimeout c i) s = .next (failPiece s c i 3 q (!inHostWin q.src)))) ∧
  (∀ (s : State) (c i : Nat) (r : PendRead), (coreAt s c).reads[i]? = some r → inDram s r.addr = true →
    r.since + 1000 ≤ s.tick → exec (.dramRequestTimeout (.read c i)) s = .next (failRead s c i)) ∧
  (∀ (s : State) (c i cause : Nat) (q : Piece) (o : Bool), c < 256 → cause < 16 → chState s c = chRunning →
    chState (failPiece s c i cause q o) c = chHalted ∧ rd (failPiece s c i cause q o) R.DMA_CH_FAULT.CODE c = 0x0303 ∧
      rd (failPiece s c i cause q o) R.DMA_CH_FAULT.CAUSE c = cause))

/-- R244 to R246, R264 to R266, R269: what a channel waits for wakes it, and a wait of WAIT_US halts it; SIGNALs
follow the writes before them; a check's result is stored when every read it covers has come and no earlier write
meets it; GO starts or queues a program or is refused with 0x030C; CANCEL, RESUME and CNT_CLEAR act; a cancelling
channel with nothing outstanding becomes IDLE. It rests on the model's choices of log entry 17. -/
def Obligations.DmaChannelsAreControlled : Prop :=
  (∀ (s : State) (w : Wr) (c : Nat), Takes s w R.DMA_CH_CTRL.reg 0 c →
    (w.val % 16 = 1 → exec (.dmaGo w) s = .next (goCh s c)) ∧
    (w.val % 16 = 2 → exec (.dmaCancel w) s = .next (cancelCh s c)) ∧
    (w.val % 16 = 4 → exec (.dmaResume w) s = .next (resumeCh s c)) ∧
    (w.val % 16 = 8 → exec (.dmaCntClear w) s = .next (wr (wr (wr (wr s R.DMA_CH_CNT_STEPS.COUNT c 0)
      R.DMA_CH_CNT_WORDS.COUNT c 0) R.DMA_CH_CNT_HALTS.COUNT c 0) R.DMA_CH_CNT_SEGABS.COUNT c 0))) ∧
  (∀ (s : State) (c : Nat), 0 < (startOf s c).len → (startOf s c).len ≤ 4096 → chState s c ≠ chCancelling →
    goCh s c = (if (dmaCh s c).run = none then setChState (setDma s c (beginProgram (dmaCh s c) (startOf s c))) c chRunning
      else if (dmaCh s c).next = none then modDma s c fun d => { d with next := some (startOf s c) }
      else report s 0x030C c 0)) ∧
  (∀ (s : State) (c : Nat), chState s c = chCancelling → (dmaCh s c).pieces = [] →
    exec (.dmaCancelComplete c) s = .next (endCancel s c)) ∧
  (∀ (s : State) (c since : Nat), (dmaCh s c).wait = some (.drain, since) → drained (dmaCh s c) = true →
    exec (.dmaWaitSatisfied c) s = .next (wake s c true)) ∧
  (∀ (s : State) (c since core n t : Nat) (rel : Bool), (dmaCh s c).wait = some (.counter core n t rel, since) →
    (tget false (coreAt s core).badCnt n = false → reached (cntVal s core n) t = true → exec (.dmaWaitSatisfied c) s = .next (takeCredit (wake s c true) c t rel)) ∧
    (since + max 1 (rd s R.DMA_CH_LIMIT.WAIT_US c) * 100 ≤ s.tick →
      exec (.dmaWaitLimitExpiry c) s = .next (haltCh s c 0x0308 0 0))) ∧
  (∀ (s : State) (c since core r : Nat), (dmaCh s c).wait = some (.ring core r, since) →
    since + max 1 (rd s R.DMA_CH_LIMIT.WAIT_US c) * 100 ≤ s.tick →
    exec (.dmaWaitLimitExpiry c) s = .next (haltCh (dropWant s c (dmaCh s c)) c 0x0202 0 0)) ∧
  (∀ (s : State) (c i : Nat) (g : PendSignal), (dmaCh s c).signals[i]? = some g →
    settledBefore (dmaCh s c) g.before = true → exec (.dmaSignalSend c i false) s = .next
      (match g.counter with
        | none => emit (modDma s c fun d => { d with signals := dropAt d.signals i }) (.toControl 3 c g.val)
        | some p => addCnt (modDma s c fun d => { d with signals := dropAt d.signals i }) p.1 p.2 g.val)) ∧
  (∀ (s t : State) (c : Nat) (x : SumStore) (rest : List SumStore) (l : List Byte) (p : Bool),
    (dmaCh s c).stores = x :: rest → covered x.check = some (l, p) → t = modDma s c (fun d => { d with stores := rest }) →
    exec (.dmaSumResultStore c) s = .next (if mustFollow t (dmaCh t c) x.seq x.dst (sumSize x.dst) .plain then s
      else busWrite t x.dst (sumBytes x.check l p (sumSize x.dst)) false))

/-- R255 to R260: the weight chain and the segments. A waiting chain MOVE is injected when its segments are free; a
receiver stores the next word of the chain in its own scratchpad and nowhere else; a receiver that accepts nothing for
STALL_LIMIT from the word offered to it is bypassed; DMA_SEG_INVAL drops the cached entries; a segment that is asked
for takes a slot, whose old segment is absent from then on; a copied segment is present and resumes the channels
halted on it. It rests on the model's choices of log entry 17. -/
def Obligations.ChainAndSegments : Prop :=
  (∀ (s : State) (c lo hi since : Nat), (dmaCh s c).wait = some (.chain lo hi, since) → chainFree s lo hi = true →
    exec (.chainSegmentGrant c) s = .next (wake s c false)) ∧
  (∀ (s : State) (c core a : Nat) (m : ChainMove), chainOf s c = some m → core ∈ receivers s m →
    tget 0 m.got core < m.issued → chainHeld s m core (tget 0 m.got core) = false → chainSource s m core (tget 0 m.got core) = some a →
    ∃ t, exec (.chainWordDelivered c core) s = .next t ∧
      memBytes t.mem (spAddr core (m.word + tget 0 m.got core)) 32 = (busRead s a 32).1 ∧
      ∀ b, (b < spAddr core (m.word + tget 0 m.got core) ∨ spAddr core (m.word + tget 0 m.got core) + 32 ≤ b) →
        memByte t.mem b = memByte s.mem b) ∧
  (∀ (s : State) (core : Nat) (m : ChainMove), m ∈ s.chains → core ∈ receivers s m →
    tget 0 m.got core < offered s m core →
    tget 0 m.since core + max 1 (rd s R.DMA_CHAIN_CTRL.STALL_LIMIT 0) * 10 ≤ s.tick + 1 →
    (let s1 := wr s R.DMA_ENG_CHAIN.BYPASS (core / 8) (orBit (rd s R.DMA_ENG_CHAIN.BYPASS (core / 8)) (core % 8))
     let pass := fun (m : ChainMove) => match chainNext s m core with
       | some k => if (receivers s m).contains core ∧ tget 0 m.got core ≤ tget 0 m.got k then { m with since := tset 0 m.since k (s.tick + 1) } else m
       | none => m
     exec (.chainStallLimitExpiry core) s =
       .next (retile (charge (report { s1 with chains := s1.chains.map pass } 0x0309 core 0) core 0x0309 0 0)))) ∧
  (∀ (s : State) (w : Wr), Takes s w R.DMA_SEG_INVAL.reg 0 0 → bit w.val 0 = true →
    exec (.dmaSegInval w) s = .next { s with segCache := [] }) ∧
  (∀ (s : State) (slot : Nat) (r : MbxReq), (mbxOf s 0).reqs.find? (fun r => r.cmd == 10 && r.slot == slot) = some r →
    (s.segCopies.find? (fun p => p.1 == slot) = none → exec (.segmentCopyDone slot) s = .next (startCopy s slot)) ∧
    (∀ p, s.segCopies.find? (fun p => p.1 == slot) = some p →
      (let s1 := { s with segCopies := s.segCopies.filter (fun p => p.1 != slot) }
       let s2 := putSeg (hostToDram s1 (fieldLE r.args 8 8) (slotAt s1 p.2) (2 ^ 26)) (fieldLE r.args 0 4) (p.2 + 2 ^ 31)
       exec (.segmentCopyDone slot) s = .next (respond ((upto 72).foldl
         (fun s c => if haltedOn s (fieldLE r.args 0 4) c then resumeCh s c else s) s2) 0 r 0 0 []))))

/-- R25, R26, R267 to R269: the mesh and the check-value units. A flit leaves its source with the next number of its
class, and goes on by X and then Y, in the order of its way; at each node it enters the units that watch it, and a
parity error poisons it or is a control-path failure; a full window closes; CVU_CTRL, CVU_CFG and CVU_WINDOW are taken
by a unit that is off; CLOSE ends the window of a unit without a flit count. It rests on the model's choices of log
entry 17. -/
def Obligations.CheckValueUnitsAct : Prop :=
  (∀ (s : State) (node : Nat) (flit : Flit) (p : Bool) (o : Option Writer), flitOk flit = true → flit.src = node →
    exec (.brambleFlitHop node true flit p o) s = .next (sendFlit s flit o)) ∧
  (∀ (s : State) (node : Nat) (flit : Flit) (p : Bool) (o : Option Writer) (m : MeshFlit), arriving s node flit = some m →
    exec (.brambleFlitHop node false flit p o) s = .next (moveFlit s m p o)) ∧
  (∀ (s : State) (m : MeshFlit) (p : Bool) (o : Option Writer), nextNode m.node m.flit.dst ≠ m.flit.dst →
    (let n := nextNode m.node m.flit.dst
     let f := { m.flit with poison := m.flit.poison || (p && m.flit.cls != 3) }
     let s1 := snoop { s with mesh := (s.mesh.takeWhile (· != m)).filter (fun a => !passedBy m a) ++ [⟨n, f⟩] ++
       (s.mesh.dropWhile (· != m)).drop 1 } n false f o
     moveFlit s m p o = if p = true ∧ m.flit.cls = 3 then report s1 0x0402 n 0 else s1)) ∧
  (∀ (s : State) (u : Nat), u < 16 → cvuFld s R.CVU_CTRL.EN u = 1 →
    windowFull s u = true → exec (.cvuWindowClose u) s = .next (closeWindow s u)) ∧
  (∀ (s : State) (w : Wr) (u : Nat), cvuFld s R.CVU_CTRL.EN u = 0 →
    (Takes s w R.CVU_CTRL.reg u 0 → bit w.val 0 = true → bit w.val 14 = true → exec (.cvuCtrlWrite w u) s =
      .next (wr (setCvu (putAll s R.CVU_CTRL.reg u 0 w.val) u Cvu.reset) (R.CVU_COUNT.FLITS.nth u) 0 0)) ∧
    (Takes s w R.CVU_CTRL.reg u 0 → bit w.val 0 = false →
      exec (.cvuCtrlWrite w u) s = .next (putAll s R.CVU_CTRL.reg u 0 w.val)) ∧
    (Takes s w R.CVU_CFG.reg u 0 → bit w.val 13 = false →
      exec (.cvuCfgWrite w u) s = .next (putAll s R.CVU_CFG.reg u 0 w.val)) ∧
    (Takes s w R.CVU_WINDOW.reg u 0 → exec (.cvuWindowWrite w u) s = .next (putAll s R.CVU_WINDOW.reg u 0 w.val))) ∧
  (∀ (s : State) (w : Wr) (u : Nat), Takes s w R.CVU_CFG.reg u 0 → bit w.val 13 = true → cvuFld s R.CVU_CTRL.EN u = 1 →
    cvuFld s R.CVU_WINDOW.FLITS u = 0 → exec (.cvuClose w u) s = .next (closeWindow s u))

/-- R294 to R298, R301: the safe-state controller. A doubt latches SAFE with its cause and its tick, drives the
outputs to their safe levels, drops the decisions queued and stops ALIVE; a further doubt is only counted. A doubt
written by the control complex is one, code 0 excepted; a kick restarts the watchdogs and their expiry is a doubt, as
SAFE_IN_n low and disagreeing copies are. Safe levels are taken before the lock, and the lock holds them; a release is
done when its conditions are met, refused with 0x0D0E otherwise, and ignored while SAFE is 0. R276 to R278: the
control pairs, the configuration and the protection classes. Each millisecond the content registers are checked
against the CRC of what was written. A lockstep mismatch is handed to the standby pair, which resends the dispatches
of the journal that no core has taken, or is a doubt without one; a corrected word of the control memory is reported
and a lost one is a doubt. A pair's self-test ends its testing with or without a standby pair, goes on with a hand-
over or abandons it; protection classes are taken, but unprotected dropping not for a digest stream. It rests on the
model's choices of log entry 21. -/
def Obligations.SafeStateCommandsAct : Prop :=
  ((∀ (s : State) (cause : Nat), isSafe s = false → rd s R.ZP_STATUS.ROLE 0 = 0 →
    ∃ t, exec (.doubt cause) s = .next t ∧ isSafe t = true ∧ rd t R.SSC_CAUSE.CODE 0 = cause % 2 ^ 16 ∧
      rd t R.SSC_CAUSE_TICK.TICK 0 = (if s.fieldLost then s.sscCount else s.tick) % 2 ^ 32 ∧
      t.act.drive = (upto 16).map (safeLevel s) ∧ t.act.queue = [] ∧ t.act.ends = [] ∧ t.act.alive = 0 ∧
      t.mem = s.mem ∧ t.hostMem = s.hostMem ∧ t.cores = s.cores ∧ t.strms = s.strms) ∧
  (∀ (s : State) (cause : Nat), isSafe s = true → exec (.doubt cause) s = .next (bump s R.SSC_STATE.ENTRIES 0)) ∧
  (∀ (s : State) (w : Wr) (i : Nat), Takes s w R.SSC_DOUBT.reg 0 i →
    (fval R.SSC_DOUBT.CODE w.val = 0 → exec (.sscDoubtWrite w) s = .next (report s 0x0D0F 0 0)) ∧
    (fval R.SSC_DOUBT.CODE w.val ≠ 0 →
      exec (.sscDoubtWrite w) s = .next (doubt s (fval R.SSC_DOUBT.CODE w.val)))) ∧
  (∀ (s : State) (w : Wr) (i : Nat), Takes s w R.SSC_WDOG.reg 0 i →
    (bit w.val 0 = true → exec (.sscWdogKick w) s = .next
      { s with flt := { s.flt with kickAt := s.sscCount }, act := { s.act with kick := s.tick } }) ∧
    (bit w.val 0 = false → exec (.sscWdogKick w) s = .next s)) ∧
  (∀ s : State, (s.flt.kickAt + 25000 ≤ s.sscCount → exec .sscWatchdogExpiry s = .next (report s 0x0D09 0 0)) ∧
    (s.sscCount < s.flt.kickAt + 25000 → exec .sscWatchdogExpiry s = .next s)) ∧
  (∀ (s : State) (k n t0 : Nat), s.flt.watch.find? (fun e => e.1 == k && e.2.1 == n) = some (k, n, t0) →
    (spOf' s k * 10 ≤ (s.sscCount - t0) * 19 →
      exec (.commitWatchdogExpiry k n) s = .next (report (unwatch s k n) 0x0D09 k n)) ∧
    ((s.sscCount - t0) * 19 < spOf' s k * 10 → exec (.commitWatchdogExpiry k n) s = .next s)) ∧
  (∀ s : State, exec (.safeInAssert true) s = .next (report (wr s R.SSC_STATE.SAFE_IN 0 1) 0x0D0A 0 0) ∧
    exec (.safeInAssert false) s = .next (wr s R.SSC_STATE.SAFE_IN 0 0) ∧
    exec .sscCopyDisagree s = .next (report { s with
      act := { s.act with drive := (upto 16).map (safeLevel s), ends := [], queue := [], alive := 0, armed := [] } } 0x0D0B 0 0)) ∧
  (∀ (s : State) (w : Wr) (i : Nat), Takes s w R.SSC_SAFE_LEVEL.reg 0 i →
    (isSet s R.SSC_LOCK.LOCK 0 = false → (∀ k, k < 16 → bits w.val (2 * k) 2 ≠ 3) →
      exec (.sscSafeLevelWrite w) s = .next (putAll s R.SSC_SAFE_LEVEL.reg 0 i w.val)) ∧
    (isSet s R.SSC_LOCK.LOCK 0 = true → exec (.sscSafeLevelWrite w) s = .next s)) ∧
  (∀ (s : State) (w : Wr) (i : Nat), Takes s w R.SSC_LOCK.reg 0 i →
    (bit w.val 0 = true → isSet s R.SSC_LOCK.LOCK 0 = false → exec (.sscLockWrite w) s = .next
      (let s1 := wr (wr s R.SSC_LOCK.LOCK 0 1) R.SSC_STATE.LOCKED 0 1
       if isSafe s1 then { s1 with act := { s1.act with drive := (upto 16).map (safeLevel s1) } } else s1)) ∧
    (bit w.val 0 = false ∨ isSet s R.SSC_LOCK.LOCK 0 = true → exec (.sscLockWrite w) s = .next s)) ∧
  (∀ (s s1 : State) (w : Wr) (i : Nat) (safeIn : Bool), Takes s w R.SSC_CTRL.reg 0 i → w.who ≠ .control →
    s1 = wr s R.SSC_STATE.SAFE_IN 0 (b2n safeIn) →
    (fval R.SSC_CTRL.RELEASE w.val ≠ 0x5A → exec (.sscRelease w safeIn) s = .next s) ∧
    (fval R.SSC_CTRL.RELEASE w.val = 0x5A →
      (isSafe s = false → exec (.sscRelease w safeIn) s = .next s1) ∧
      (isSafe s = true → safeIn = false → s.fieldLost = false → s.flt.env = [] →
        exec (.sscRelease w safeIn) s = .next (releaseSafe s1)) ∧
      (isSafe s = true → safeIn = true ∨ s.fieldLost = true ∨ s.flt.env ≠ [] →
        exec (.sscRelease w safeIn) s = .next (report s1 0x0D0E 0 0))))) ∧
((∀ (s s0 s1 : State) (flips : List RegFlip), s0 = flips.foldl flipReg s →
    s1 = { s0 with flt := { s0.flt with cfgAt := s.tick } } →
    (s.tick < s.flt.cfgAt + 100000 → exec (.configCrcRecheck flips) s = .next s0) ∧
    (s.flt.cfgAt + 100000 ≤ s.tick →
      (crc32c (configWords s1 true) = crc32c (configWords s1 false) → exec (.configCrcRecheck flips) s = .next s1) ∧
      (crc32c (configWords s1 true) ≠ crc32c (configWords s1 false) →
        exec (.configCrcRecheck flips) s = .next (report s1 0x0D08 0 0)))) ∧
  (∀ s : State,
    (isSet s R.SSC_STATE.STANDBY 0 = true → s.flt.handover ≠ 1 → exec (.lockstepMismatch .lockstep) s = .next
      (report (resendJournal (wr (wr { s with flt := { s.flt with testing := true } } R.SSC_STATE.STANDBY 0 0)
        R.BOOT_STATUS.STANDBY_OK 0 0)) 0x0D04 0 0)) ∧
    (isSet s R.SSC_STATE.STANDBY 0 = false ∨ s.flt.handover = 1 →
      exec (.lockstepMismatch .lockstep) s = .next (report s 0x0D05 0 0)) ∧
    exec (.lockstepMismatch .sramCorrected) s = .next (report s 0x0D06 0 0) ∧
    exec (.lockstepMismatch .sramLost) s = .next (report s 0x0D07 0 0)) ∧
  (∀ (s s1 : State) (pass burnOk : Bool), s1 = wr (wr { s with flt := { s.flt with testing := false } }
      R.SSC_STATE.STANDBY 0 (b2n pass)) R.BOOT_STATUS.STANDBY_OK 0 (b2n pass) →
    (s.flt.handover = 1 → exec (.controlPairSelfTestDone pass burnOk) s =
      .next (if pass then readyHandover s else abandon s)) ∧
    (s.flt.handover ≠ 1 → s.flt.testing = false → exec (.controlPairSelfTestDone pass burnOk) s = .next s) ∧
    (s.flt.handover ≠ 1 → s.flt.testing = true → exec (.controlPairSelfTestDone pass burnOk) s =
      .next (if s.flt.handover = 3 then finishHandover s1 burnOk else s1))) ∧
  (∀ s : State, (s.flt.handover = 1 ∨ s.flt.handover = 2 → exec .handoverAbandon s = .next (abandon s)) ∧
    (s.flt.handover ≠ 1 → s.flt.handover ≠ 2 → exec .handoverAbandon s = .next s)) ∧
  (∀ (s : State) (w : Wr) (k p : Nat), Takes s w R.STRM_FLT_CTRL.reg 0 k → p = fval R.STRM_FLT_CTRL.PROT w.val →
    (p = 1 ∨ p = 3 → exec (.strmFltCtrlWrite w) s = .next s) ∧
    (p = 0 ∨ p = 2 → listenerRefuses s w = true → exec (.strmFltCtrlWrite w) s = .next (report s 0x0C0B k 0)) ∧
    (p = 2 → listenerRefuses s w = false → isSet s R.STRM_FLT_CTRL.DIGEST k = true →
      exec (.strmFltCtrlWrite w) s = .next (report s 0x060B k 0)) ∧
    (p = 0 ∨ (p = 2 ∧ isSet s R.STRM_FLT_CTRL.DIGEST k = false) → listenerRefuses s w = false →
      exec (.strmFltCtrlWrite w) s = .next
        (sendControl (modStrm (putAll s R.STRM_FLT_CTRL.reg 0 k w.val) k fun x =>
          { x with changes := x.changes ++ [0x18800], dropFlow := false }) k (firstUndispatched (strm s k)) 0x18800 [w.val]))))

/-- R303, R306 to R309, R326: the Zehorn link layer. A short cell's acknowledgement and credits are taken, one that
fails its CRC is counted, and a data cell it shows as lost is asked for again; a link with nothing to send sends short
cells, a silent one goes down, and a down one retrains; a trained link measures its latency and sends HELLO, or comes
up at the generation settled; HELLO settles a ring link, or both pair links on one generation, and refuses a mode that
differs; control registers are taken while their link is down. It rests on the model's choices of log entries 22, 46.
-/
def Obligations.ZehornLinksAct : Prop :=
  (∀ (s : State) (rx : Rx) (credit : Option Nat), linkUp s rx.link = true →
    (rx.crcOk = false → exec (.zlShortCellReceived rx credit) s =
      .next (bump (report s 0x0503 rx.link 0) R.ZL_CNT_CRC.COUNT rx.link)) ∧
    (∀ s1 : State, rx.crcOk = true →
      takeAck (setZl s rx.link { zl s rx.link with lastRx := s.tick }) rx.link rx.ack rx.nak credit = s1 →
      (rx.bad = true → exec (.zlShortCellReceived rx credit) s = .next (countDrop (report s1 0x0507 rx.link 0) rx.link)) ∧
      (rx.bad = false → linkUp s1 rx.link = true → seqBeyond rx.lseq (((zl s1 rx.link).last + 1) % 2 ^ 24) = true →
        exec (.zlShortCellReceived rx credit) s = .next (askAgain s1 rx.link true)) ∧
      (rx.bad = false → seqBeyond rx.lseq (((zl s1 rx.link).last + 1) % 2 ^ 24) = false →
        exec (.zlShortCellReceived rx credit) s = .next s1))) ∧
  (∀ (s : State) (l : Nat), l < 4 → linkUp s l = true →
    ((zl s l).lastTx + 10 ≤ s.tick → exec (.zlIdleCellTimer l) s = .next (emit (setZl s l { zl s l with lastTx := s.tick })
      (.cell l (sealCell false (headBytes (ownHead s 0 (if l < 2 then (s.pair.hello.map (·.node)).getD 0 else 0) 0)
        (zl s l).next (zl s l).last false 0 0)) (some (crossRoom s l))))) ∧
    ((zl s l).lastRx + 100 ≤ s.tick → exec (.zlLinkSilence l) s = .next (dropLink (report s 0x0502 l 0) l))) ∧
  (∀ (s : State) (l : Nat), l < 4 → linkWanted s l = true → rd s R.ZL_STATUS.STATE l = 0 →
    (zl s l).downAt + 10000000 ≤ s.tick → exec (.zlRetrainTimer l) s = .next (wr s R.ZL_STATUS.STATE l 1)) ∧
  (∀ (s : State) (l lanes ns : Nat), l < 4 → rd s R.ZL_STATUS.STATE l = 1 → lanes % 256 = 255 →
    let s1 := wr (wr s R.ZL_STATUS.LANES l 255) R.ZL_LATENCY.NS l (min 65535 ns)
    ((zl s l).settled = none → exec (.zlTrained l lanes ns) s = .next
      (let s2 := wr (wr s1 R.ZL_STATUS.STATE l 2) R.ZL_STATUS.GEN l 1
       sendHello (setZl s2 l { zl s2 l with trainedAt := s.tick }) l)) ∧
    (∀ (g : Nat) (h : Hello), (zl s l).settled = some (g, h) →
      exec (.zlTrained l lanes ns) s = .next (bringUp s1 l h g (min 2 h.levelMax)))) ∧
  (∀ (s : State) (l : Nat) (h : Hello), l < 4 → rd s R.ZL_STATUS.STATE l = 2 → h.part ≠ 0x62 →
    (h.mode ≠ rd s R.ZL_CTRL.MODE l → exec (.zlHelloReceived l h) s = .next (dropLink (report s 0x0505 l 0) l)) ∧
    (h.mode = 2 → rd s R.ZL_CTRL.MODE l = 2 → 2 ≤ l → sharedGen (ownGens s l) h.genMask ≠ 0 →
      exec (.zlHelloReceived l h) s = .next (settle s l h (sharedGen (ownGens s l) h.genMask)))) ∧
  (∀ (s : State) (l : Nat) (h : Hello), l < 2 → rd s R.ZL_STATUS.STATE l = 2 → h.part = s.part.code → h.part ≠ 0x62 →
    s.part.pair = true → 2 ≤ h.levelMax → h.mode = 1 → rd s R.ZL_CTRL.MODE l = 1 →
    sharedGen (ownGens s l) h.genMask ≠ 0 → pairLinkUp s (1 - l) = false →
    exec (.zlHelloReceived l h) s = .next
      (let g := if otherGen s (1 - l) = 1 then 1 else sharedGen (ownGens s l) h.genMask
       alignPair (settle s l h g) l g h)) ∧
  (∀ (s : State) (l : Nat), l < 4 → rd s R.ZL_STATUS.STATE l = 2 → (zl s l).trainedAt + 1000000 ≤ s.tick →
    (zl s l).said = false → exec (.zlHelloTimeout l) s = .next
      (let s1 := report s 0x0505 l 0
       let s2 := if l < 2 ∧ pairLinkUp s (1 - l) = true then report s1 0x0502 l 0 else s1
       dropLink (setZl s2 l { zl s2 l with said := true }) l)) ∧
  (∀ (s : State) (l gen : Nat) (h : Hello), (gen = 1 → otherGen s (1 - l) ≠ 2) → alignPair s l gen h = s) ∧
  (∀ (s : State) (w : Wr) (l : Nat), Takes s w R.ZL_CTRL.reg 0 l →
    (linkUp s l = true → exec (.zlCtrlWrite w) s = .next (hit s R.ZL_STATUS.CFG_REJECT l)) ∧
    (linkUp s l = false → exec (.zlCtrlWrite w) s = .next
      (let s1 := putAll s R.ZL_CTRL.reg 0 l w.val
       if linkWanted s1 l = false then showDown s1 l 0 else if linkWanted s l then s1 else wr s1 R.ZL_STATUS.STATE l 1))) ∧
  (∀ (s : State) (w : Wr) (i : Nat), Takes s w R.ZR_CTRL.reg 0 i → linkUp s 2 = false → linkUp s 3 = false →
    exec (.zrCtrlWrite w) s = .next (putAll s R.ZR_CTRL.reg 0 0 w.val))

/-- R305, R310 to R324: the redundant pair and the ring. A cell that is taken in its turn has its effect: a forwarded
line is pending until COMMIT releases it or RETRACT or the token's timeout discards it; READY and DIGEST bring the
partner's digests to be compared; LEAVE, YIELD and DROP change the roles; MARK and CONTROL reach the listener; a
reserved token is reported. Ring cells for this node are delivered (a message when it is whole: a relayed command, its
reply, or another for the control complex), and others passed on with one hop fewer, back where the other link is
down. A digest is computed over committed bytes; a swap not confirmed is proposed again; ZP_CTRL.SWAP hands the role
over. It rests on the model's choices of log entries 22, 45, 48, 49. -/
def Obligations.PairAndRingCellsAct : Prop :=
  (∀ (s s1 : State) (rx : Rx), CellTaken s rx s1 →
    (∀ (k : Nat) (data : List Byte), exec (.zlLineCellReceived rx k data) s =
      .next (thenAhead rx.link s1 fun t => takeLineCell t k rx.link s1.tick data)) ∧
    (∀ k n e : Nat, exec (.tokenCommitReceived rx k n e false) s =
      .next (thenAhead rx.link s1 fun t => commitLine t k rx.link n)) ∧
    (∀ k n e : Nat, exec (.tokenRetractLineReceived rx k n e false) s =
      .next (thenAhead rx.link s1 fun t => retractLine t k rx.link n)) ∧
    (∀ k n e : Nat, exec (.tokenReadyReceived rx k n e false) s = .next (thenAhead rx.link s1 fun t =>
      withStripe t k rx.link n e fun t => compareDigests (modStripe t k n fun x => { x with pReady := true }) k n)) ∧
    (∀ k n e seg : Nat, exec (.tokenRetractSegmentReceived rx k n e seg false) s = .next (thenAhead rx.link s1 fun t =>
      withStripe t k rx.link n e fun t => retractSeg t k n seg)) ∧
    (∀ cause : Nat, exec (.tokenLeaveReceived rx cause false) s = .next (thenAhead rx.link s1 fun t => takeLeave t cause)) ∧
    (∀ k n e : Nat, exec (.tokenYieldReceived rx k n e false) s =
      .next (thenAhead rx.link s1 fun t => takeYield t rx.link k n)) ∧
    (∀ k n e : Nat, exec (.tokenDropReceived rx k n e false) s = .next (thenAhead rx.link s1 fun t =>
      if heldOrAhead t k n = false then report t 0x0507 rx.link 0
      else if rd t R.ZP_STATUS.ROLE 0 = 2 then setRole t 3 false else t)) ∧
    (∀ (k kind n e first : Nat) (vals : List Nat), exec (.digestCellReceived rx k kind n e first vals false) s =
      .next (thenAhead rx.link s1 fun t => takeDigests t rx.link k kind n e first vals)) ∧
    (∀ k number : Nat, exec (.markCellReceived rx false k number) s =
        .next (thenAhead rx.link s1 fun t => markLines t k number) ∧
      exec (.markCellReceived rx true k number) s = .next (thenAhead rx.link s1 fun t => markDecision t number)) ∧
    (∀ (k e : Nat) (c : Change), exec (.controlCellReceived rx k e c) s =
      .next (thenAhead rx.link s1 fun t => takeChange t k e c)) ∧
    (∀ (i : Instr) (k n e seg cause kind first : Nat) (vals : List Nat),
      i ∈ [.tokenCommitReceived rx k n e true, .tokenRetractLineReceived rx k n e true, .tokenReadyReceived rx k n e true,
        .tokenRetractSegmentReceived rx k n e seg true, .tokenLeaveReceived rx cause true, .tokenYieldReceived rx k n e true,
        .tokenDropReceived rx k n e true, .digestCellReceived rx k kind n e first vals true] →
      exec i s = .next (thenAhead rx.link s1 fun t => report t 0x0507 rx.link 0))) ∧
  (∀ (s : State) (k link n e : Nat) (f : State → State) (x : Stripe), stripeOf (strm s k) n = some x →
    (x.begun = false ∨ x.epoch % 65536 = e → withStripe s k link n e f = f s) ∧
    (x.begun = true → x.epoch % 65536 ≠ e → withStripe s k link n e f = report s 0x0507 link 0)) ∧
  (∀ (s : State) (k link n e : Nat) (f : State → State), stripeOf (strm s k) n = none →
    withStripe s k link n e f = report s 0x0507 link 0) ∧
  (∀ (s s1 : State) (rx : Rx) (h : CellHead) (data : List Byte), CellTaken s rx s1 → 2 ≤ rx.link → rx.link < 4 →
    rd s R.ZL_CTRL.MODE rx.link = 2 → h.src ≠ rd s R.ZR_CTRL.NODE 0 →
    let s2 := wr s1 R.ZR_STATUS.NODES 0 (orBit (rd s1 R.ZR_STATUS.NODES 0) h.src)
    (h.dst = rd s R.ZR_CTRL.NODE 0 → h.hops ≠ 0 →
      exec (.messageCellReceived rx h data) s = .next (takeMessageCell s2 h.src data) ∧
      exec (.rstreamCellReceived rx h data) s = .next (takeLineCell s2 h.stream rx.link s2.tick data)) ∧
    (h.dst = rd s R.ZR_CTRL.NODE 0 → h.hops = 0 →
      exec (.messageCellReceived rx h data) s = .next (undeliverable s2 rx.link)) ∧
    (h.dst ≠ rd s R.ZR_CTRL.NODE 0 → 1 < h.hops →
      exec (.ringCellForward rx h data) s = .next (passOn s1 rx.link h data)) ∧
    (h.dst ≠ rd s R.ZR_CTRL.NODE 0 → h.hops ≤ 1 →
      exec (.ringCellForward rx h data) s = .next (undeliverable s1 rx.link))) ∧
  (∀ (s : State) (src kind : Nat) (data : List Byte), tget [] s.mgmt.parts src = [] → kind < 2 ^ 32 →
    data.length < 2 ^ 32 → takeMessageCell s src (leBytes 4 kind ++ leBytes 4 data.length ++ data) =
      takeMessage { s with mgmt := { s.mgmt with parts := tset [] s.mgmt.parts src [] } } src kind data) ∧
  (∀ (s : State) (src : Nat) (data : List Byte), takeMessage s src 7 data = takeCommand s src data ∧
    takeMessage s src 8 data = (if isSet s R.MGMT_NET_CTRL.EN 0 then emit s (.datagram data) else s) ∧
    ∀ kind, kind ≠ 7 → kind ≠ 8 → takeMessage s src kind data = emit s (.answer 7 (src :: kind :: data.map (·.toNat)))) ∧
  (∀ (s : State) (l : Nat) (h : CellHead) (data : List Byte), crossRoom s l ≠ 0 →
    (linkUp s (otherLink l) = true → cutThrough s l = false →
      passOn s l h data = giveCell s (otherLink l) { h with hops := h.hops - 1 } 0 data true) ∧
    (linkUp s (otherLink l) = false → passOn s l h data = giveCell s l { h with hops := h.hops - 1 } 0 data true)) ∧
  (∀ (s : State) (k n at0 : Nat) (l : Line), (strm s k).pend.find? (fun p => p.2.no == n) = some (at0, l) →
    (strm s k).settled.contains n = false → at0 + 2 * lpOf s k ≤ s.tick → (strm s k).hole = none →
    exec (.lineTokenTimeout k n) s = .next (freeLines k (strm s k).pend.length (report (modStrm s k fun x =>
      openHole { x with pend := x.pend.filter (fun q => q.2.no != n) } l) 0x0C0E k n))) ∧
  (∀ (s : State) (k n seg : Nat) (t : Stripe) (g : Pkg), stripeOf (strm s k) n = some t →
    t.pkg = some g → (seg < 0x8000 → seg < g.segments) → (0x8000 ≤ seg → coveringShares g k t seg ≠ []) →
    t.begun = true → t.committed = false → allSent t = true →
    (coveringShares g k t seg).all Share.clean = true → rd s R.ZP_STATUS.ROLE 0 ≠ 0 →
    t.votes.find? (fun v => v.seg == seg) = none → segOf t.segs seg = none →
    exec (.segmentDigestCompute k n seg) s = .next
      (let body := if seg < 0x8000 then segmentBytes s k t g seg
         else batchResults s t g (seg - 0x8000) ++ batchDecisions s t g (seg - 0x8000)
       let d := crc64 (digestPrefix k n t.epoch (seg % 0x8000) ++ body)
       settleStripe (sendDigest (modStripe s k n fun t => { t with segs := putSegDigest t.segs seg d }) k n t.epoch seg [d]) k n)) ∧
  (∀ (s : State) (k : Nat) (w : Swap) (t : Stripe), (strm s k).swap = some w → w.eff = none →
    ((strm s k).stripes.filter (·.begun)).getLast? = some t →
    t.t0 + (w.prop - t.no) * spOf' s k ≤ s.tick + 2 * spOf' s k → exec (.swapConfirmTimeout k) s = .next
      (let s1 := report s 0x0C10 k w.prop
       let e := effectFor s1 k
       sendControl (noteChange (modStrm s1 k fun x => { x with swap := some { w with prop := e } }) k e) k e 0x407 [])) ∧
  (∀ (s : State) (w : Wr) (i : Nat), Takes s w R.ZP_CTRL.reg 0 i → bit w.val 2 = true → rd s R.ZP_STATUS.ROLE 0 = 1 →
    paired s = true → exec (.zpSwap w) s = .next (if leaders s = [] then yieldPair s 0 0 0 0
      else { s with pair := { s.pair with swap := true } }))

/-- R332, R334, R338 to R342, R348: calibration sets. A run is scheduled, captures from a stripe boundary or frame
start into a cleared sum area, ends after COUNT and, its sums checked, stages the computed tables, or fails; COMMIT
checks the staged set and gives it an effect stripe; DISCARD takes the committed one back; at the effect stripe the
raw front's and then the picture back's blend begin, and after N lines of both PREVIOUS is released and the set
persisted; the aperture writes the staged table's bytes; limits, the persistence slot and the canary target are taken
whole or refused whole. It rests on the model's choices of log entries 51, 53, 54. -/
def Obligations.CalibrationSetsAct : Prop :=
  (∀ (s : State) (w : Wr) (k : Nat), Takes s w R.CAL_CTRL.reg 0 k → listenerRefuses s w = false →
    let s1 := putPlain s R.CAL_CTRL.reg 0 k w.val
    (bit w.val 2 = true → (calOf s1 k).run = none → countFits s1 k (rd s1 R.CAL_CTRL.COUNT k) = true →
      rd s1 R.STRM_GEOM.WIDTH k * frameLines s1 k ≤ 2 ^ 25 → exec (.calRun w) s = .next (setCal s1 k { calOf s1 k with
        run := some ⟨rd s1 R.CAL_CTRL.KIND k, rd s1 R.CAL_CTRL.COUNT k, 0, 0, isSet s1 R.CAL_CTRL.AUTO_COMMIT k, []⟩ })) ∧
    (bit w.val 0 = true → runBusy (calOf s1 k) = false → (calOf s1 k).eff = none →
      exec (.calCommit w) s = .next (commitSet s1 k)) ∧
    (bit w.val 1 = true → runComputes (calOf s1 k) = false →
      exec (.calDiscard w) s = .next (setCal s1 k { calOf s1 k with staged := (calOf s1 k).committed }))) ∧
  (∀ (s : State) (k : Nat) (r : CalRun), (calOf s k).run = some r →
    (r.phase = 0 → captureMayStart s k = true →
      exec (.calCaptureStart k) s = .next (clearSums (setCal s k { calOf s k with run := some { r with phase := 1 } }) k)) ∧
    (r.phase = 1 → r.count ≤ r.got →
      exec (.calCaptureEnd k) s = .next (setCal s k { calOf s k with run := some { r with phase := 2 } })) ∧
    (r.phase = 2 → r.words = [] → shedding s = false → exec (.calComputeDone k) s = .next
      (match runTables s k r with
       | none => failRun s k
       | some t => if r.auto = true ∧ (calOf s k).eff = none
           then commitSet (setCal s k { calOf s k with run := none, staged := t }) k
           else setCal s k { calOf s k with run := none, staged := t }))) ∧
  (∀ (s : State) (k e : Nat) (l : Line) (rest : List Line), (strm s k).fifo = l :: rest → (calOf s k).eff = some e →
    e ≤ (stripeAhead (strm s k) l).1 → exec (.calEffectStart k) s = .next
      (let c := calOf s k
       let new := stampSet c.checked (c.setId + 1)
       let blended := frontSet (rfBlend s k (l.no - 1)) (rd s R.STRM_GEOM.WIDTH k) (frameLines s k != 0)
       let s1 := setCal s k { c with
         previous := if c.blending = true then joinSets blended c.previous else c.committed
         committed := new, setId := c.setId + 1, eff := none, inFrom := some (l.no : Nat), blending := true
         shades := if (stripeAhead (strm s k) l).1 = 0 then isSet s R.STRM_RF_CTRL.SHADE_EN k
           else fval R.STRM_RF_CTRL.SHADE_EN (strm s k).rf == 1
         pbNext := c.pbNext ++ [(e, new)]
         pbOld := if c.blending = true then c.pbOld else c.committed
         pbNew := if c.blending = true then c.pbNew else c.committed }
       changeRecord (report (wr (wr s1 R.CAL_SET_ID.ID k (c.setId + 1)) R.CAL_BLEND_POS.RF_J k 0) 0x0804 k e) k e
         .calibration)) ∧
  (∀ (s : State) (k i e : Nat) (o : OutStripe) (l : OutLine) (new : List (Nat × List Byte)) (rest : List (Nat × List (Nat × List Byte))),
    nextPicture (strm s k) = some (o, i) → (calOf s k).pbNext = (e, new) :: rest → o.lines[i]? = some l → e ≤ o.no →
    exec (.calPbBlendStart k) s = .next
      (let c := calOf s k
       let old := if c.outFrom = none then c.pbNew
         else pictureSet (pbBlend s k o.blend (l.no - 1)) (rd s R.STRM_GEOM.WIDTH k)
       wr (setCal s k { c with
         pbOld := old, pbNew := new, pbNext := rest, outFrom := some (l.no : Nat),
         previous := joinSets c.previous old }) R.CAL_BLEND_POS.PB_J k 0)) ∧
  (∀ (s : State) (k : Nat), (calOf s k).blending = true → (calOf s k).pbNext = [] →
    blendN s k ≤ rd s R.CAL_BLEND_POS.RF_J k → blendN s k ≤ rd s R.CAL_BLEND_POS.PB_J k →
    exec (.calBlendEnd k) s = .next
      (let c := calOf s k
       persist (report (setCal s k { c with
         previous := [], blending := false, inFrom := none, outFrom := none, pbOld := [], pbNew := c.committed }) 0x0805 k c.setId) k)) ∧
  (∀ (s : State) (w : Wr) (off : Nat),
    let k := rd s R.CAL_TBLSEL.STREAM (reqNo w.who)
    let t := rd s R.CAL_TBLSEL.TABLE (reqNo w.who)
    let a := rd s R.CAL_TBLSEL.PAGE (reqNo w.who) * 32768 + off
    t < 9 → w.who ≠ .clapper → rd s R.CAL_TBLSEL.BANK (reqNo w.who) = 1 → off < 32768 → off % 4 = 0 → a + 4 ≤ imageMax t →
    runComputes (calOf s k) = false → exec (.calApertureWrite w off) s = .next
      (let b := imageOf (calOf s k).staged t (rd s R.STRM_GEOM.WIDTH k)
       let l := b ++ List.replicate (a + 4 - b.length) 0
       let image := splice l a (mergeBytes (slice l a 4) w)
       setCal s k { calOf s k with staged := putTable (calOf s k).staged t (rd s R.STRM_GEOM.WIDTH k) image })) ∧
  (∀ (s : State) (w : Wr) (off k : Nat) (r : RegSpec), limReg off = some r → Takes s w r 0 k →
    exec (.calLimWrite w off) s = .next (if limOk off w.val then putAll s r 0 k w.val else calReject s k)) ∧
  (∀ (s : State) (w : Wr) (k : Nat), Takes s w R.CAL_PERSIST.reg 0 k →
    let slot := fval R.CAL_PERSIST.SLOT w.val
    let own := fun n => exec (.calPersistWrite w) s = .next
      (let s1 := putAll s R.CAL_PERSIST.reg 0 k w.val
       { s1 with life := { s1.life with owners := tset 0 s1.life.owners k n } })
    (fval R.CAL_PERSIST.EN w.val = 1 → (∀ p, p ∈ s.life.owners → p.2 = slot + 1 → p.1 = k) → own (slot + 1)) ∧
    (fval R.CAL_PERSIST.EN w.val = 1 → (∃ p, p ∈ s.life.owners ∧ p.2 = slot + 1 ∧ p.1 ≠ k) →
      exec (.calPersistWrite w) s = .next (calReject s k)) ∧
    (fval R.CAL_PERSIST.EN w.val = 0 → own 0)) ∧
  (∀ (s : State) (w : Wr) (i : Nat), Takes s w R.CAL_CANARY_CTRL.reg 0 i → exec (.calCanaryCtrlWrite w) s = .next
    (if 10 ≤ fval R.CAL_CANARY_CTRL.TARGET w.val ∧ fval R.CAL_CANARY_CTRL.TARGET w.val ≤ 40
     then putAll s R.CAL_CANARY_CTRL.reg 0 0 w.val
     else calReject s (rd s R.CAL_TBLSEL.STREAM (reqNo w.who))))

/-- R329 to R331, R341 to R347, R428: self-calibration and life. Sensors are read with their offsets, a far one is
excluded after 1 s and rejoins after 1 h; supply monitors take values in range and refuse the rest with 0x0807;
canaries, DRAM tracking and SerDes eyes are evaluated; every 60 s the life counters are written, and every second the
wear histograms, the cycle counter and the trims move; RTC_SET sets the calendar; VBAT out of range sets the tamper
latch, and below 2 V loses the calendar, which is reported once. It rests on the model's choices of log entries 5, 55,
56, 57. -/
def Obligations.SelfCalibrationActs : Prop :=
  (∀ (s : State) (readings : List Int), s.timers.sensors + 100000 ≤ s.tick → exec (.tempSensorRead readings) s = .next
    (let s0 := { s with timers := { s.timers with sensors := s.tick } }
     let s1 := (List.zip (upto 24) readings).foldl (fun s p =>
       wr s (R.CAL_TEMP.TEMP.nth p.1) 0 (wrap 16 (p.2 + sext 8 (rd s (R.CAL_TEMP.OFFSET.nth p.1) 0)))) s0
     notePeak ((upto (clusters s1)).foldl trackSensor s1))) ∧
  (∀ (s : State) (n : Nat), n < clusters s →
    (excluded s n = false → tget 0 s.self.far n ≠ 0 → tget 0 s.self.far n + 100000000 ≤ s.tick + 1 →
      exec (.sensorExclude n) s = .next (showUnknown (report (wr s (R.CAL_TEMP.EXCLUDED.nth n) 0 1) 0x0806 n 0))) ∧
    (excluded s n = true → tget 0 s.self.within n ≠ 0 → tget 0 s.self.within n + 360000000000 ≤ s.tick + 1 →
      exec (.sensorRejoin n) s = .next (showUnknown (wr s (R.CAL_TEMP.EXCLUDED.nth n) 0 0)))) ∧
  (∀ (s : State) (found : List (Nat × Int)), s.timers.supply + 360000000000 ≤ s.tick →
    exec (.supplyMonitorCal found) s = .next ((List.zip (upto 19) found).foldl (fun s p =>
      if 980 ≤ p.2.1 ∧ p.2.1 ≤ 1020 ∧ p.2.2.natAbs ≤ 20 then { s with
        self := { s.self with monTargets := s.self.monTargets.filter (fun q => q.1 != p.1) ++ [(p.1, p.2.1, p.2.2)] } }
      else selfRejected (report s 0x0807 p.1 0) 1) { s with timers := { s.timers with supply := s.tick } })) ∧
  (∀ (s : State) (delays : List (List Nat)), s.timers.canary + 1000000000 ≤ s.tick → exec (.canaryEvaluation delays) s =
    .next ((List.zip (upto (clusters s)) delays).foldl canary { s with timers := { s.timers with canary := s.tick } })) ∧
  (∀ (s : State) (ds : List Int), s.timers.dram + 10000000 ≤ s.tick →
    exec (.dramTrackingUpdate ds) s = .next ((List.zip (upto 8) ds).foldl (fun s p =>
      let sum := tget 0 s.self.driftTo p.1 + p.2
      if p.2.natAbs ≤ 4 ∧ sum.natAbs ≤ 16 then { s with self := { s.self with driftTo := tset 0 s.self.driftTo p.1 sum } }
      else selfRejected (report s 0x080A p.1 0) 5) { s with timers := { s.timers with dram := s.tick } })) ∧
  (∀ (s : State) (l eye : Nat), exec (.serdesEqUpdate l eye true) s =
      .next { s with self := { s.self with eye := tset 0 s.self.eye l eye } } ∧
    exec (.serdesEqUpdate l eye false) s =
      .next (if 2 * eye < tget 0 s.self.eye l then retrain (selfRejected (report s 0x080B l eye) 4) l else s)) ∧
  (∀ (s : State) (good : Bool), s.timers.counters + 6000000000 ≤ s.tick → ∃ t, exec (.lifeCountersWrite good) s = .next t ∧
    t.life.now.powered = s.life.now.powered + 60 ∧ t.life.fresh = [] ∧ t.sec.lockFrom = s.tick ∧
    (good = true → t.life.counters.copy = 1 - s.life.counters.copy ∧
      t.life.counters.seq = (s.life.counters.seq + 1) % word32 ∧ t.life.counters.older = s.life.counters.newest ∧
      t.life.counters.newest.powered = s.life.now.powered + 60) ∧
    (good = false → t.life.counters = s.life.counters ∧ t.life.wears = s.life.wears)) ∧
  (∀ s : State, s.timers.wear + 100000000 ≤ s.tick → exec .wearHistogramTick s = .next
    (let on := (upto (clusters s)).filter (clusterInService s)
     let s1 := on.foldl wearSecond { s with timers := { s.timers with wear := s.tick } }
     moveTrims (match on.filterMap (fun c => (junction s c).map (·.1)) with
       | [] => s1
       | t :: rest => cycleStep s1 (rest.foldl max t)))) ∧
  (∀ (s : State) (w : Wr) (i : Nat), Takes s w R.RTC_SET.reg 0 i → exec (.rtcSet w) s = .next
    (wr (wr { s with rtcPhase := 0 } R.RTC_SECONDS.SECONDS 0 w.val) R.RTC_STATUS.VALID 0 1)) ∧
  (∀ (s : State) (mv : Nat), mv < 2500 ∨ 3600 < mv → exec (.vbatOutOfRange mv) s = .next
    (let s1 := report (wr s R.SEC_ACCESS_STATUS.TAMPER 0 1) 0x0B11 0 mv
     if 2000 ≤ mv then s1 else noteCalendar (wr s1 R.RTC_STATUS.VALID 0 0))) ∧
  (∀ s : State, s.life.calLost = false → isSet s R.RTC_STATUS.VALID 0 = false →
    noteCalendar s = report { s with life := { s.life with calLost := true } } 0x080F 0 0)

/-- R346: every second the thermal cycle counter takes the rule's step over the highest junction temperature of the
clusters in service, in eighths of a kelvin; at start-up it begins going up from the temperature there is. -/
def Obligations.ThermalCyclesAreCounted : Prop :=
  (∀ s : State, s.timers.wear + 100000000 ≤ s.tick → ∃ t, exec .wearHistogramTick s = .next t ∧
    match serviceJunctions s with
    | [] => t.life.up = s.life.up ∧ t.life.p = s.life.p ∧ t.life.v = s.life.v ∧ t.life.now.cycles = s.life.now.cycles
    | x :: rest =>
      let h := rest.foldl max x
      let l := s.life
      if l.up then
        if l.p < h then t.life.up = true ∧ t.life.p = h ∧ t.life.v = l.v ∧ t.life.now.cycles = l.now.cycles
        else if h ≤ l.p - 160 then t.life.up = false ∧ t.life.p = l.p ∧ t.life.v = h ∧
          t.life.now.cycles = l.now.cycles + (if 160 ≤ l.p - l.v then 1 else 0)
        else t.life.up = true ∧ t.life.p = l.p ∧ t.life.v = l.v ∧ t.life.now.cycles = l.now.cycles
      else if h < l.v then t.life.up = false ∧ t.life.p = l.p ∧ t.life.v = h ∧ t.life.now.cycles = l.now.cycles
      else if l.v + 160 ≤ h then t.life.up = true ∧ t.life.p = h ∧ t.life.v = l.v ∧ t.life.now.cycles = l.now.cycles
      else t.life.up = false ∧ t.life.p = l.p ∧ t.life.v = l.v ∧ t.life.now.cycles = l.now.cycles) ∧
  (∀ (s : State) (x : Int) (rest : List Int), serviceJunctions s = x :: rest →
    bootCycles s = { s with life := { s.life with up := true, p := rest.foldl max x, v := rest.foldl max x } })

/-- R402, R412 to R414, R425, R476, R477: heat, supplies and power-up. Thermistors are read and the flow estimated; an
inlet out of range for 10 s is a coolant alarm; the junction temperature is evaluated, a limit held is a doubt with
SHED, SHED ends after 10 s below 95 °C, and the trip drives THERM_TRIP_n; a rail out of range, VDD_MET's loss and
PWR_GOOD's fall have their reactions; PWR_GOOD's assertion is the power-up sequence. It rests on the model's choices
of log entries 58, 59. -/
def Obligations.HeatAndPowerAct : Prop :=
  (∀ (s : State) (inlet outlet : Ntc) (p : Nat), s.timers.thermistors + 10000000 ≤ s.tick →
    exec (.thermistorRead inlet outlet p) s =
      .next (readCoolant { s with timers := { s.timers with thermistors := s.tick } } inlet outlet p)) ∧
  (∀ s : State, exec .coolantAlarm s = .next
    (let s1 := if lastedFor s s.therm.inletOut 1000000000 = true ∧ s.therm.inletSaid = false then
       coolantAlarm { s with therm := { s.therm with inletSaid := true } } 0x0B06 else s
     if (lastedFor s1 s1.therm.flowLow 1000000000 = true ∧ s1.therm.flowSaid = false) ∧ isSet s1 R.THERM_CTRL.FLOW_EN 0 = true
     then coolantAlarm { s1 with therm := { s1.therm with flowSaid := true } } 0x0B07 else s1)) ∧
  (∀ s : State, s.timers.junction + 100000 ≤ s.tick → exec .junctionCheck s =
    .next (checkJunction { s with timers := { s.timers with junction := s.tick } })) ∧
  (∀ s : State, (s.therm.hot ≠ 0 ∧ s.therm.hot + 10000000 ≤ s.tick + 1) ∨
      (s.therm.inletHot ≠ 0 ∧ s.therm.inletHot + 100000000 ≤ s.tick + 1) → exec .thermalLimitExpiry s = .next
    (showTherm (environment { s with therm := { s.therm with shed := true } } 0x0B0A (rd s R.THERM_STATUS.SENSOR 0) 0 true))) ∧
  (∀ s : State, s.therm.shed = true → s.therm.cool ≠ 0 → s.therm.cool + 1000000000 ≤ s.tick + 1 → 0x0B0A ∉ s.flt.env →
    exec .shedRelease s = .next (showTherm { s with therm := { s.therm with shed := false } })) ∧
  (∀ s : State, exec .thermalTrip s = .next
    (let s1 := environment { s with therm := { s.therm with tripped := true } } 0x0B0B 0 0 true
     showTherm (pmbus { s1 with act := { s1.act with tripLow := true } } 1 0 0))) ∧
  (∀ (s : State) (w : Wr) (i : Nat), Takes s w R.THERM_CTRL.reg 0 i → exec (.thermCtrlWrite w) s = .next
    (if 120 < fval R.THERM_CTRL.OTHER_W w.val then hit s R.THERM_STATUS.CFG_REJECT 0 else putAll s R.THERM_CTRL.reg 0 0 w.val)) ∧
  (∀ (s : State) (r : Nat), r < 13 → r ≠ 6 → r ≠ 7 → r ≠ 8 →
    exec (.supplyRailOutOfRange r true) s = .next (showRails { s with rails := r :: s.rails.filter (· != r) } r) ∧
    (r ≠ 5 → exec (.supplyRailOutOfRange r false) s = .next (showRails { s with rails := s.rails.filter (· != r) } r)) ∧
    exec (.supplyRailOutOfRange 5 false) s = .next (showRails
      { s with rails := s.rails.filter (· != 5), act := { s.act with ioLow := false } } 5)) ∧
  (∀ s : State, (s.part.damson = true → exec .vddMetLoss s = .next (report (dmsPowerOff s) 0x0B10 0 0)) ∧
    (s.part.damson = false → exec .vddMetLoss s = .next (reportIf (isSet s (R.FIO_ENC_CTRL.EN.nth 0) 0)
      { s with dms := { s.dms with powered := false } } 0x0B10 0 0))) ∧
  (∀ (s : State) (hold good : Bool), exec (.pwrGoodDeassert hold good) s = .next
    (let s0 := wr (wr s R.SEC_ACCESS_STATUS.JTAG_OPEN 0 0) R.SEC_ACCESS_STATUS.DBGWIN_OPEN 0 0
     let s1 := environment { s0 with pwrGood := false } 0x0B0D 0 0 true
     if hold then saveLife s1 good else s1)) ∧
  (∀ (s : State) (b : BootIn), s.pwrGood = false → exec (.pwrGoodAssert b) s = .next (powerUp s b)) ∧
  (∀ (s : State) (step : Nat), exec (.bootStepOverrun step) s = .next (report s 0x0B0E step 0))

/-- R353 to R357, R360 to R365, R367: the Damson unit. A LINES frame that checks is integrated into the running
measurement, and one that does not, or a gap, is marked and reported; a TIME frame gives the calendar; encoder 0's
edges are counted once they have stood; a command's frame comes over MET_RX or the tap: START latches the pulses, STOP
issues the two records, REC_ACK frees them; IDENT, TRAIL_PAGE and TRAIL_ACK are answered; in ADJUST a signed SETPARAM
or FWUPDATE is recorded in the audit trail and made, else refused; the adjustment pin acts once it has stood for 10
ms; saving, start, oscillator and power loss have their effects. It rests on the model's choices of log entries 7, 11.
-/
def Obligations.DamsonActs : Prop :=
  (∀ s : State, s.timers.timeFrame + 100000000 ≤ s.tick → exec .tapTimeFrameSend s = .next
    (tapSend { s with timers := { s.timers with timeFrame := s.tick } }
      (tapFrame 3 0 0 0 (rd s R.RTC_SECONDS.SECONDS 0 + rd s R.RTC_STATUS.VALID 0 * 2 ^ 63) []))) ∧
  (∀ (s s1 : State) (flips : List Nat) (fr : List Byte) (met : Nat), dmsAwake s = true →
    let s0 := dmsAt s1 met
    (tapTake s flips (fun t => t != 2 && t != 3) = some (fr, s1) →
      exec (.dmsLinesFrame flips met) s = .next
        (if tapDigestOk fr = true ∧ tapFormOk fr 1 = true ∧ fieldLE fr 1 1 = dmsParam s.dms 6 then
          let s2 := dmsMap (measMap s0 fun m => integrateAll s0.dms m (fieldLE fr 2 2) (tapBody fr)) fun d =>
            { d with lastLines := some (fieldLE fr 4 4, fieldLE fr 8 2), lastLinesAt := d.metTime }
          if tapInSequence s0.dms (fieldLE fr 4 4) (fieldLE fr 8 2) = true ∨ measuring s0 = false then s2
          else dmsReport (tapGap s2) 0x0A02
        else dmsReport (tapGap s0) 0x0A01)) ∧
    (tapTake s flips (fun t => t == 3) = some (fr, s1) → exec (.dmsTimeFrame flips met) s = .next
      (if tapDigestOk fr = true ∧ tapFormOk fr 3 = true ∧ fieldLE fr 1 1 = 0 then
        if bit (fieldLE fr 16 8) 63 then
          wr (dmsMap s0 fun d => { d with cal := some (fieldLE fr 16 8 % 2 ^ 63, d.metTime) }) R.DMS_STATE.CAL_VALID 0 1
        else s0
      else dmsReport (tapGap s0) 0x0A01))) ∧
  (∀ (s : State) (met : Nat), dmsRuns s = true →
    let s0 := dmsAt s met
    (∀ m : Meas, s0.dms.meas = some m → max m.startTime s0.dms.lastLinesAt + 163840 ≤ s0.dms.metTime →
      exec (.dmsTapSilence met) s = .next (dmsReport (tapGap s0) 0x0A02)) ∧
    (s.dms.savedAt + 1638400 ≤ met → exec (.dmsStateSave met) s =
      .next (dmsMap s0 fun d => { d with saved := ⟨d.pulses, d.seq, d.meas⟩, savedAt := met })) ∧
    exec (.dmsOscFail met) s = .next
      (let s1 := endMeas (measMap (wr s0 R.DMS_STATE.OSC_OK 0 0) fun m => { m with notValid := true })
       dmsReport (if measuring s = true then wr s1 R.DMS_STATE.STATE 0 dmsIdle else s1) 0x0A09) ∧
    exec .dmsOscRecover s = .next (wr s R.DMS_STATE.OSC_OK 0 1)) ∧
  (∀ (s s1 : State) (met : Nat) (low : Bool), dmsAwake s = true →
    s1 = wr (if s.dms.adjLow = low then dmsAt s met
      else dmsMap (dmsAt s met) fun d => { d with adjLow := low, adjAt := d.metTime }) R.DMS_STATE.ADJ_PIN 0 (b2n low) →
    let held := s1.dms.adjAt + 163840 ≤ s1.dms.metTime
    (low = true → dmsRuns s1 = true → held → dmsState s1 ≠ dmsAdjust →
      exec (.dmsAdjustEnter met) s = .next (wr (endMeas s1) R.DMS_STATE.STATE 0 dmsAdjust)) ∧
    (low = true → ¬held → exec (.dmsAdjustEnter met) s = .next s1) ∧
    (low = false → held → dmsState s1 = dmsAdjust →
      exec (.dmsAdjustLeave met) s = .next (wr s1 R.DMS_STATE.STATE 0 dmsIdle)) ∧
    (low = false → ¬held → exec (.dmsAdjustLeave met) s = .next s1)) ∧
  (∀ (s s1 : State) (a b : Bool) (q : Quad × Option EncEv), s.part.damson = true → s.dms.powered = true →
    q = quadTake s.dms.enc s.dms.samples 2 a b →
    s1 = dmsMap s (fun d => { d with enc := q.1, samples := d.samples + 1 }) →
    let up : Int := if dmsParam s.dms 2 = 1 then -1 else 1
    (q.2 = none → exec (.dmsEncoderPulse a b) s = .next s1) ∧
    (q.2 = some .up → exec (.dmsEncoderPulse a b) s = .next (dmsMap s1 fun d => { d with pulses := d.pulses + up })) ∧
    (q.2 = some .down → exec (.dmsEncoderPulse a b) s = .next (dmsMap s1 fun d => { d with pulses := d.pulses - up })) ∧
    (q.2 = some .both →
      exec (.dmsEncoderPulse a b) s = .next (dmsReport (measMap s1 fun m => { m with encErr := true }) 0x0A03))) ∧
  (∀ s : State, s.part.damson = true →
    (∃ t, exec .dmsPowerLoss s = .next t ∧ t.dms.powered = false ∧ t.dms.meas = none ∧ t.dms.tap = [] ∧
      (∀ f, f ∈ dmsVolatile → rd t f 0 = 0) ∧ t.dms.pulses = s.dms.pulses ∧ t.dms.saved = s.dms.saved ∧
      t.dms.records = s.dms.records) ∧
    (∀ (okA okB : Bool) (met : Nat), exec (.dmsBoot okA okB true met) s = .next (dmsStart (dmsAt s met) okA okB) ∧
      exec (.dmsBoot okA okB false met) s = .next (dmsStart (dmsMap (dmsAt s met) fun d =>
        { d with params := d.paramsOld, paramCopy := 1 - d.paramCopy }) okA okB))) ∧
  (∀ (s s0 : State) (f : DmsFrame) (b : List Byte),
    (DmsTaken s f 1 b s0 → exec (.dmsStart f) s = .next
      (if dmsState s0 ≠ dmsIdle ∨ s0.dms.adjLow = true ∨ isSet s0 R.DMS_STATE.OSC_OK 0 = false then
         dmsRefuse s0 0x01 0x0A06
       else if 766 < s0.dms.records.length then dmsRefuse s0 0x01 0x0A08
       else dmsReply (wr (dmsMap s0 fun d => { d with meas := some ⟨fieldLE (dmsArgs b) 0 4, s0.dms.pulses,
         s0.dms.metTime, 0, 0, false, false, false, isSet s0 R.DMS_STATE.READING_INVALID 0, false⟩ })
         R.DMS_STATE.STATE 0 dmsMeasuring) 0x01 0 0)) ∧
    (DmsTaken s f 2 b s0 → (s0.dms.meas = none → exec (.dmsStop f) s = .next (dmsRefuse s0 0x02 0x0A06)) ∧
      ∀ m : Meas, s0.dms.meas = some m → exec (.dmsStop f) s = .next
        (let s1 := wr (issueRecords s0 m) R.DMS_STATE.STATE 0 dmsIdle
         dmsReply s1 0x02 0 s1.dms.seq)) ∧
    (DmsTaken s f 3 b s0 → exec (.dmsRecAck f) s = .next (dmsReply (dmsShow (dmsMap s0 fun d =>
      { d with records := d.records.filter fun r => decide (fieldLE (dmsArgs b) 0 4 < fieldLE r 4 4) }))
      0x03 0 (fieldLE (dmsArgs b) 0 4))) ∧
    (DmsTaken s f 4 b s0 → exec (.dmsIdent f) s = .next (dmsReply (metSend s0 (leBytes 4 (dmsRunning s0.dms).version ++
      slice (dmsRunning s0.dms).sha 0 32 ++ leBytes 4 (rd s0 R.DMS_EVENTS.COUNT 0) ++ slice s0.dms.recordKey 0 64))
      0x04 0 (rd s0 R.DMS_EVENTS.COUNT 0))) ∧
    (DmsTaken s f 5 b s0 → exec (.dmsTrailPage f) s =
      .next (dmsReply (dmsMap s0 fun d => { d with trailPage := fieldLE (dmsArgs b) 0 1 % 4 }) 0x05 0 0)) ∧
    (DmsTaken s f 0x12 b s0 → exec (.dmsTrailAck f) s = .next
      (if dmsSigned s0 b f.sigOk = true then
        dmsReply (wr s0 R.DMS_STATE.TRAIL_FILL 0 (min (rd s0 R.DMS_STATE.TRAIL_FILL 0)
          (rd s0 R.DMS_EVENTS.COUNT 0 - fieldLE (dmsArgs b) 0 4))) 0x12 0 (fieldLE (dmsArgs b) 0 4)
       else dmsRefuse s0 0x12 0x0A05)) ∧
    (DmsTaken s f 0x10 b s0 → (∀ code : Nat, changeRefusal s0 b f.sigOk = some code → ∀ cut : Bool,
        exec (.dmsSetparam f cut) s = .next (dmsRefuse s0 0x10 code)) ∧
      (changeRefusal s0 b f.sigOk = none → paramInRange (fieldLE (dmsArgs b) 0 1) (fieldLE (dmsArgs b) 4 8) = true →
        let ev := rd s0 R.DMS_EVENTS.COUNT 0 + 1
        let s1 := auditWrite s0 ⟨ev, 1, fieldLE (dmsArgs b) 0 1, fieldLE (dmsArgs b) 4 8, DmsImage.reset⟩
          (dmsParam s0.dms (fieldLE (dmsArgs b) 0 1)) s0.dms.adjustKey
        exec (.dmsSetparam f false) s = .next (dmsReply (finishChange s1) 0x10 0 ev) ∧
          exec (.dmsSetparam f true) s = .next (dmsPowerOff s1)) ∧
      (changeRefusal s0 b f.sigOk = none → paramInRange (fieldLE (dmsArgs b) 0 1) (fieldLE (dmsArgs b) 4 8) = false →
        ∀ cut : Bool, exec (.dmsSetparam f cut) s =
          .next (dmsRefuse (fresh s0).2 0x10 (if (fresh s0).1 % 2 = 0 then 0x0A05 else 0x0A06)))) ∧
    (DmsTaken s f 0x11 b s0 → ∀ (version : Nat) (sha : List Byte), (∀ code : Nat, changeRefusal s0 b f.sigOk = some code →
        ∀ cut : Bool, exec (.dmsFwupdate f version sha cut) s = .next (dmsRefuse s0 0x11 code)) ∧
      (changeRefusal s0 b f.sigOk = none →
        let ev := rd s0 R.DMS_EVENTS.COUNT 0 + 1
        let s1 := auditWrite s0 ⟨ev, 2, 0, 0, ⟨version % word32, slice sha 0 32, true⟩⟩
          (dmsRunning s0.dms).version s0.dms.firmwareKey
        exec (.dmsFwupdate f version sha false) s = .next (dmsStart (dmsMap (dmsReply (finishChange s1) 0x11 0 ev) fun d =>
          { d with saved := ⟨d.pulses, d.seq, none⟩ }) true true) ∧
          exec (.dmsFwupdate f version sha true) s = .next (dmsPowerOff s1))))

/-- R422 to R428: keys, the lifecycle and access in the field. A key command in order has its effect and is reported
with 0x0916, and one out of order is refused with its code; the vendor's commands move the lifecycle, and provisioning
makes a Damson's record key; a password or a challenge's response opens what it names or counts as a wrong try, a
nonce is drawn and expires, access closes; a lockout ends once its time has been served; JTAG answers BYPASS always
and the rest while it is open. It rests on the model's choices of log entries 7, 50. -/
def Obligations.KeysAndAccessAct : Prop :=
  (∀ (s : State) (c : KeyCmd), keyCode s c = 0 →
    let s1 := { s with sec := { s.sec with keySeq := c.seq } }
    (∀ h, c.op = .addKey h → exec (.keyAddKey c) s = .next
      (report (burnKey s1 ((firstSuch (fun n => !bit (rd s R.SEC_KEYS.VALID 0) n) 4).getD 0) h) 0x0916 0 c.seq)) ∧
    (∀ n, c.op = .revokeKey n → exec (.keyRevokeKey c) s = .next
      (report (wr s1 R.SEC_KEYS.REVOKED 0 (orBit (rd s R.SEC_KEYS.REVOKED 0) n)) 0x0916 0 c.seq)) ∧
    (∀ b, c.op = .setPassword b → exec (.keySetPassword c) s = .next
      (report (wr { s1 with sec := { s1.sec with pw := s.sec.pw ++ [b] } } R.SEC_KEYS.PW_SLOT 0 s.sec.pw.length)
        0x0916 0 c.seq)) ∧
    (∀ b, c.op = .setMgmtKey b → exec (.keySetMgmtKey c) s = .next (report
      (let s2 := wr { s1 with sec := { s1.sec with mgmtKeys := s.sec.mgmtKeys ++ [b] } } R.SEC_KEYS.MGMT_SLOT 0 s.sec.mgmtKeys.length
       { s2 with mgmt := { s2.mgmt with nextSeq := 1, lastIn := 0 } }) 0x0916 0 c.seq)) ∧
    (∀ cut : Bool, c.op = .provisionDone →
      exec (.keyProvisionDone c cut) s = .next (report (setLifecycle s1 2 cut) 0x0916 0 c.seq))) ∧
  (∀ (s : State) (c : KeyCmd) (cut : Bool), keyCode s c ≠ 0 →
    let refused : Host.Outcome State Fault Refusal := .next (report s (keyCode s c) 0 c.seq)
    (∀ h, c.op = .addKey h → exec (.keyAddKey c) s = refused) ∧
    (∀ n, c.op = .revokeKey n → exec (.keyRevokeKey c) s = refused) ∧
    (∀ b, c.op = .setPassword b → exec (.keySetPassword c) s = refused) ∧
    (∀ b, c.op = .setMgmtKey b → exec (.keySetMgmtKey c) s = refused) ∧
    (c.op = .provisionDone → exec (.keyProvisionDone c cut) s = refused)) ∧
  (∀ (s : State) (cr : List Byte) (key : Option (List Byte)) (cut : Bool),
    (lifecycle s = 0 → exec (.vendorProvision cr key cut) s = .next
      (let s1 := if cr = [] then s
         else wr { s with sec := { s.sec with crKey := slice cr 0 32 } } R.SEC_KEYS.CR_KEY 0 1
       setLifecycle (makeRecordKey (match key with
         | some h => burnKey s1 0 h
         | none => s1)) 1 cut)) ∧
    (lifecycle s ≠ 0 → exec (.vendorProvision cr key cut) s = .next (report s 0x0914 0 0))) ∧
  (∀ (s : State) (n : Nat) (sigOk cut : Bool), exec (.vendorReturn sigOk n cut) s = .next
    (if lifecycle s ≠ 3 ∧ sigOk = true ∧ (at? ([], true) s.sec.vendorTest n).2 = false ∧ s.sec.crSession = true then
      setLifecycle s 3 cut else report s 0x0914 0 0)) ∧
  (∀ (s : State) (w : Wr) (i : Nat), Takes s w R.SEC_ACCESS_CTRL.reg 0 i →
    let scope := fval R.SEC_ACCESS_CTRL.SCOPE w.val
    let s1 := putAll s R.SEC_ACCESS_CTRL.reg 0 i w.val
    (bits w.val 2 4 = 1 → exec (.secSubmitPw w) s = .next (submitPw s1 scope)) ∧
    (bits w.val 2 4 = 2 → exec (.secSubmitCr w) s = .next (submitCr s1 scope)) ∧
    (bits w.val 2 4 = 4 → exec (.secNonce w) s = .next (drawNonce s1)) ∧
    (bits w.val 2 4 = 8 → exec (.secClose w) s = .next (closeAccess s1))) ∧
  (∀ (s : State) (t : Nat), s.sec.nonceAt = some t → t + 6000000000 ≤ s.tick →
    exec .nonceExpiry s = .next { s with sec := { s.sec with nonceAt := none } }) ∧
  (∀ s : State, isSet s R.SEC_ACCESS_STATUS.LOCKED_OUT 0 = true →
    lockTicks (rd s R.SEC_ACCESS_STATUS.LOCKOUTS 0) ≤ lockServed s → exec .lockoutEnd s = .next
      (let s1 := wr s R.SEC_ACCESS_STATUS.LOCKED_OUT 0 0
       { s1 with sec := { s1.sec with served := 0, lockFrom := s.tick } })) ∧
  (∀ s : State, exec (.jtagAccess .bypass) s = .next (emit s (.answer 0 [])) ∧
    (jtagOpen s = true → (∀ a : Nat, busOk s a 32 = true →
        exec (.jtagAccess (.read a)) s = .next (emit s (.answer 2 (a :: (busRead s a 32).1.map (·.toNat))))) ∧
      (∀ c : Nat, exec (.jtagAccess (.halt c)) s =
        .next (if isSafe s then haltCore s c else report s 0x0921 0 0)) ∧
      (∀ l : List Nat, exec (.jtagAccess (.extest l)) s =
        .next (if isSafe s then emit s (.answer 4 l) else report s 0x0921 0 0)) ∧
      (∀ (a : Nat) (d : List Byte), exec (.jtagAccess (.write a d)) s = .next
        (if isSafe s = false then report s 0x0921 0 0
         else if busOk s a d.length then busWrite s a d false else emit s (.answer 3 [a])))) ∧
    (jtagOpen s = false → ∀ (a : Nat) (l : List Nat) (d : List Byte), exec (.jtagAccess (.read a)) s = .next s ∧
      exec (.jtagAccess (.write a d)) s = .next s ∧ exec (.jtagAccess (.extest l)) s = .next s ∧
      exec (.jtagAccess (.halt a)) s = .next s))

/-- R288, R430 to R438: the management protocol. A datagram that is accepted frees what it acknowledges and one that
is not is dropped and counted, and one for another node relayed; held datagrams are sent again, a silent peer is
reported, heartbeat and reports leave; MGMT_RATE is taken up to 2,000; Clapper's commands, over the port or the ring,
are answered with their result the way they came, in recovery all but two refused, and their transfers staged and
discarded when idle. It rests on the model's choices of log entries 60, 61, 62. -/
def Obligations.ManagementActs : Prop :=
  (∀ (s : State) (d : InDgram), isSet s R.MGMT_NET_CTRL.EN 0 = true →
    let s0 := wr s R.MGMT_STATUS.LINK 0 1
    (authentic s0 d = true → exec (.mgmtAckReceived d) s = .next (accept s0 d) ∧
      (forOther s d = false → exec (.mgmtDatagramReceived d) s = .next (accept s0 d))) ∧
    (dgField d 12 8 ≠ unique s0 ∨ dgSeq d ≤ s0.mgmt.lastIn ∨ tagRight s0 d = false →
      exec (.mgmtAckReceived d) s = .next (dropDatagram s0) ∧
      (forOther s d = false → exec (.mgmtDatagramReceived d) s = .next (dropDatagram s0))) ∧
    (forOther s d = true → exec (.mgmtDatagramReceived d) s = .next (relay s0 d))) ∧
  (∀ (s s1 : State) (d : InDgram) (back : State → State), CommandTaken s d s1 back →
    exec (.clapperGetSnapshot d) s = .next (back (answerTo s1 5 (leBytes 1 1 ++ leBytes 4 (rd s1 R.SSC_STATE.ENTRIES 0) ++ counterBytes s1 ++
      (upto s1.part.cores).flatMap (fun c => leBytes 4 (storedWord s1 R.CORE_EVENTS.reg c))))) ∧
    (∀ page, page < 0x380 → exec (.clapperGetLifePage d page) s = .next (back (obey 2 (fun s1 =>
      let p := lifePage s1 page
      (upto 4).foldl (fun s i => answerTo s 5 (leBytes 1 2 ++ leBytes 2 page ++ leBytes 2 (1024 * i) ++ slice p.1 (1024 * i) 1024)) p.2) s1))) ∧
    (∀ page, 0x380 ≤ page → exec (.clapperGetLifePage d page) s =
      .next (back (obey 2 (fun s1 => reply (report s1 0x0914 0 page) 2 0x0914 []) s1))) ∧
    (∀ (part : XferPart) (pack : ChimePack), exec (.clapperInstallChime d part pack) s = .next
      (back (obey 3 (fun s1 => transfer s1 3 0x0139 part fun t => installChime t pack (staged s1 3)) s1))) ∧
    (∀ part : XferPart, exec (.clapperWriteFirmware d part) s =
      .next (back (transfer s1 4 0x0903 part fun t => clapperFirmware t (staged s1 4)))) ∧
    exec (.clapperHandover d) s = .next (back (obey 5 (fun s1 => if (startHandover s1).2 = 0
      then { (startHandover s1).1 with mgmt := { (startHandover s1).1.mgmt with waiting := (startHandover s1).1.mgmt.waiting ++ [(5, (startHandover s1).1.mgmt.route)] } }
      else reply (startHandover s1).1 5 (startHandover s1).2 []) s1)) ∧
    (∀ safeIn, exec (.clapperRelease d safeIn) s =
      .next (back (obey 6 (fun s1 => reply (askRelease s1 safeIn).1 6 (askRelease s1 safeIn).2 []) s1))) ∧
    (∀ core, exec (.clapperHazardClear d core) s =
      .next (back (obey 7 (fun s1 => reply (clearHazards s1 core) 7 0 (leBytes 4 core)) s1))) ∧
    (∀ sec, exec (.clapperSetCalendar d sec) s = .next (back (obey 8 (fun s1 => reply (setCalendar s1 sec) 8 0 (leBytes 4 sec)) s1))) ∧
    (∀ (c : KeyCmd) (cut : Bool), exec (.clapperKeyCmd d c cut) s =
      .next (back (obey 9 (fun s1 => reply (applyKey s1 c cut).1 9 (applyKey s1 c cut).2 []) s1))) ∧
    exec (.clapperGetNonce d) s = .next (back (obey 10 (fun s1 =>
      reply (drawNonce s1) 10 0 (drawNonce s1).sec.nonce) s1)) ∧
    (∀ (scope : Nat) (l : List Byte), exec (.clapperReopen d (.response l) scope) s = .next (back (obey 11 (fun s1 =>
        let t := submitCr { s1 with sec := { s1.sec with response := slice l 0 32 } } scope
        reply t 11 (submitCode s1 t) (leBytes 4 scope)) s1)) ∧
      exec (.clapperReopen d (.password l) scope) s = .next (back (obey 11 (fun s1 =>
        let t := submitPw { s1 with sec := { s1.sec with password := slice l 0 64, pwLen := l.length } } scope
        reply t 11 (submitCode s1 t) (leBytes 4 scope)) s1)))) ∧
  (∀ s : State, isSet s R.MGMT_NET_CTRL.EN 0 = true →
    exec .mgmtResendTimer s = .next
      (let old := fun (g : Dgram) => decide (g.sentAt + 20000000 ≤ s.tick)
       let s1 := { s with mgmt := { s.mgmt with
         held := s.mgmt.held.map (fun g => if old g then { g with sentAt := s.tick } else g) } }
       (s.mgmt.held.filter old).foldl (fun s g => bump (putDatagram s g) R.MGMT_CNT_RESEND.COUNT 0) s1) ∧
    (s.mgmt.silent = false → s.mgmt.lastAck + 300000000 ≤ s.tick + 1 → exec .mgmtPeerSilent s = .next
      (report (wr { s with mgmt := { s.mgmt with silent := true } } R.MGMT_STATUS.PEER_OK 0 0) 0x0932 0 0)) ∧
    (s.mgmt.silent = false → exec .reportSend s = .next
      (let s0 := rateSecond s
       let room := min 32 (rd s0 R.MGMT_RATE.RECORDS_PER_S 0 - s0.mgmt.sentSec)
       let fs := s0.fatalQ.take room
       let os := (s0.ordQ.takeWhile (mayGo s0)).take (room - fs.length)
       let n := fs.length + os.length
       if n = 0 then s0
       else
         let s1 := { s0 with fatalQ := s0.fatalQ.drop fs.length, ordQ := s0.ordQ.drop os.length }
         let s2 := sendDatagram { s1 with mgmt := { s1.mgmt with sentSec := s1.mgmt.sentSec + n } } 1
           ((fs ++ os).flatMap Report.bytes)
         showQueue (noteDropped (bumpBy s2 R.MGMT_CNT_SENT.COUNT 0 n))))) ∧
  (∀ s : State, s.timers.heartbeat + 100000000 ≤ s.tick → exec .mgmtHeartbeat s =
    .next (sendDatagram { s with timers := { s.timers with heartbeat := s.tick } } 4
      (leBytes 1 (lifecycle s) ++ leBytes 4 (storedWord s R.SSC_STATE.reg 0) ++ leBytes 1 (rd s R.ZP_STATUS.ROLE 0) ++
        leBytes 4 (rd s R.SEC_FW_VERSION.VERSION 0) ++ fwDigest (fwSlot s (rd s R.SEC_BOOT.SLOT 0)) ++ counterBytes s))) ∧
  (∀ (s : State) (w : Wr) (i : Nat), Takes s w R.MGMT_RATE.reg 0 i → exec (.mgmtRateWrite w) s = .next
    (if 2000 < fval R.MGMT_RATE.RECORDS_PER_S w.val then hit s R.MGMT_STATUS.CFG_REJECT 0
     else putAll s R.MGMT_RATE.reg 0 0 w.val)) ∧
  (∀ (s : State) (code t : Nat) (l : List Byte), s.mgmt.xfers.find? (fun x => x.1 == code) = some (code, l, t) →
    t + 6000000000 ≤ s.tick → exec (.transferIdleTimeout code) s =
      .next { s with mgmt := { s.mgmt with xfers := s.mgmt.xfers.filter (fun x => x.1 != code) } })

/-- R15, R375, R407, R409, R420, R422, R456 to R460: the mailbox. A doorbell for a free slot makes it busy and its
command is carried out: a package is loaded or swapped in, a hand-over begun, firmware written, a key command applied,
hazards cleared, DRAM copied, a camera's control packet sent, a segment's copy ordered, a Damson frame sent; a busy
slot is an error, and a command that is unknown, malformed or not allowed is refused with 0x073C, a load on a pair's
listener with 0x0C0B; responses and events are posted while their ring has room, and tails are written by the reader.
R15: numbers stand little-endian, in memory and in records. It rests on the model's choices of log entries 7, 19. -/
def Obligations.MailboxActs : Prop :=
  (∀ (s s1 : State) (w : Wr) (i : Nat) (r : MbxReq),
    (∀ (img : Image) (ch : Nat), Requested s w 1 0 r s1 → 20 ≤ argLen (slotBytes (mbxOf s 0) r.slot) →
      w.who = .host → hostOk s1 (fieldLE r.args 0 8) (fieldLE r.args 8 8) = true → streamsOf (fieldLE r.args 16 4) ≠ [] →
      (∀ k, k ∈ streamsOf (fieldLE r.args 16 4) → running s1 k = false) →
      (isListener s1 = true → exec (.mbxLoad w img ch) s =
        .next (refuseReq s1 0 r 0x0C0B ((streamsOf (fieldLE r.args 16 4)).headD 0) 0)) ∧
      (isListener s1 = false → exec (.mbxLoad w img ch) s = .next
        (let ks := streamsOf (fieldLE r.args 16 4)
         let g := imageAt s1 r img
         withPackage s1 0 r g ks true 0 fun s =>
           let b := freeBank s
           let t := ks.foldl (fun s k => modStrm s k fun x =>
             { x with pkg := some g.pkg, place := placeFor g k, bank := b, height := g.pkg.height, swap := none })
             (install s b g)
           respond (progress (ks.foldl (fun s k => sendControl s k 0 0x401 []) t) r 3) 0 r 0 0 []))) ∧
    (∀ (img : Image) (ch : Nat), Requested s w 2 0 r s1 → 20 ≤ argLen (slotBytes (mbxOf s 0) r.slot) →
      hostOk s1 (fieldLE r.args 0 8) (fieldLE r.args 8 8) = true → streamsOf (fieldLE r.args 16 4) ≠ [] →
      (∀ k, k ∈ streamsOf (fieldLE r.args 16 4) → running s1 k = true) → isListener s1 = false →
      (∀ k, k ∈ withGroups s1 (streamsOf (fieldLE r.args 16 4)) →
        (strm s1 k).swap = none ∧ ∀ g, (strm s1 k).pkg = some g → g.lag = img.pkg.lag) →
      exec (.mbxSwap w img ch) s = .next
        (let ks := withGroups s1 (streamsOf (fieldLE r.args 16 4))
         let k := ks.headD 0
         let g := imageAt s1 r img
         withPackage s1 0 r g ks false 0 fun s =>
           let b := 1 - (strm s k).bank
           let t := retileSwap (ks.foldl (proposeSwap g b) (progress (install s b g) r 3)) ks
           keepE (noteChange t k (((strm t k).swap.map (·.prop)).getD 0)) 0 r (lowestE t ks))) ∧
    (Requested s w 3 i r s1 → exec (.mbxHandover w) s = .next (if (startHandover s1).2 = 0 then (startHandover s1).1
      else respond (startHandover s1).1 i r (startHandover s1).2 0 [])) ∧
    (∀ ch : Nat, Requested s w 4 0 r s1 → 16 ≤ argLen (slotBytes (mbxOf s 0) r.slot) →
      hostOk s1 (fieldLE r.args 0 8) (fieldLE r.args 8 8) = true → exec (.mbxWriteFirmware w ch) s = .next
        (let t := writeFirmware s1 (otherSlot s1) (hostRead s1 (fieldLE r.args 0 8) (fieldLE r.args 8 8))
         respond t.1 0 r t.2 (if t.2 = 0 then otherSlot s1 else 0) [])) ∧
    (∀ (c : KeyCmd) (ch : Nat), Requested s w 5 0 r s1 → 16 ≤ argLen (slotBytes (mbxOf s 0) r.slot) →
      hostOk s1 (fieldLE r.args 0 8) (fieldLE r.args 8 8) = true → exec (.mbxKeyCmd w c ch) s =
        .next (respond (applyKey s1 c false).1 0 r (applyKey s1 c false).2 0 [])) ∧
    (Requested s w 6 i r s1 → 1 ≤ argLen (slotBytes (mbxOf s i) r.slot) →
      exec (.mbxHazardClear w) s = .next (respond (clearHazards s1 (fieldLE r.args 0 1)) i r 0 0 [])) ∧
    (∀ ch : Nat, Requested s w 7 0 r s1 → 20 ≤ argLen (slotBytes (mbxOf s 0) r.slot) →
      (let d := fieldLE r.args 0 8
       let a := fieldLE r.args 8 8
       let n := fieldLE r.args 16 4
       dramRangeOk s1 d n = true → a % 64 = 0 → hostOk s1 a n = true →
       exec (.mbxDramRead w ch) s = .next (respond (dramToHost s1 d a n) 0 r 0 0 []))) ∧
    (∀ ch : Nat, Requested s w 8 0 r s1 → 20 ≤ argLen (slotBytes (mbxOf s 0) r.slot) →
      (let d := fieldLE r.args 0 8
       let a := fieldLE r.args 8 8
       let n := fieldLE r.args 16 4
       dramInUse s1 d n = false → dramRangeOk s1 d n = true → a % 64 = 0 → hostOk s1 a n = true →
       exec (.mbxDramWrite w ch) s = .next (respond (hostToDram s1 a d n) 0 r 0 0 []))) ∧
    (Requested s w 9 0 r s1 → 16 ≤ argLen (slotBytes (mbxOf s 0) r.slot) → fieldLE r.args 1 3 = 0 →
      4 ≤ fieldLE r.args 0 1 → fieldLE r.args 0 1 < 12 → 16 + fieldLE r.args 12 4 ≤ r.args.length →
      rd s1 R.PORT_STATUS.STATE (fieldLE r.args 0 1) = 2 → exec (.mbxCxpControl w) s =
        .next (emit s1 (.cxp (fieldLE r.args 0 1) 2 (slice r.args 16 (fieldLE r.args 12 4))))) ∧
    (∀ ch : Nat, Requested s w 10 0 r s1 → 16 ≤ argLen (slotBytes (mbxOf s 0) r.slot) → fieldLE r.args 4 4 = 0 →
      hostOk s1 (fieldLE r.args 8 8) (2 ^ 26) = true → fieldLE r.args 0 4 < 16384 →
      exec (.mbxSegment w ch) s = .next (startCopy s1 r.slot)) ∧
    (Requested s w 11 0 r s1 → s1.part.damson = true → exec (.mbxDamsonCmd w) s = .next
      (let body := slice (r.args ++ List.replicate 16 0) 0 (16 * cdiv r.args.length 16)
       respond (tapSend s1 (tapFrame 2 0 0 0 0 body)) 0 r 0 0 []))) ∧
  (∀ (s s1 : State) (w : Wr) (cmd : Nat) (r : MbxReq) (img : Image) (c : KeyCmd) (ch : Nat), Requested s w cmd 1 r s1 →
    let refused : Host.Outcome State Fault Refusal := .next (respond (report s1 0x073C 1 cmd) 1 r 0x073C 0 [])
    (cmd = 1 → w.who = .clapper → exec (.mbxLoad w img ch) s = refused) ∧ (cmd = 2 → exec (.mbxSwap w img ch) s = refused) ∧
    (cmd = 4 → exec (.mbxWriteFirmware w ch) s = refused) ∧ (cmd = 5 → exec (.mbxKeyCmd w c ch) s = refused) ∧
    (cmd = 7 → exec (.mbxDramRead w ch) s = refused) ∧ (cmd = 8 → exec (.mbxDramWrite w ch) s = refused) ∧
    (cmd = 9 → exec (.mbxCxpControl w) s = refused) ∧ (cmd = 10 → exec (.mbxSegment w ch) s = refused) ∧
    (cmd = 11 → exec (.mbxDamsonCmd w) s = refused)) ∧
  (∀ (s s1 : State) (w : Wr) (cmd : Nat) (r : MbxReq) (img : Image) (c : KeyCmd) (ch : Nat), Requested s w cmd 0 r s1 →
    let refused : Host.Outcome State Fault Refusal := .next (respond (report s1 0x073C 0 cmd) 0 r 0x073C 0 [])
    (argLen (slotBytes (mbxOf s 0) r.slot) < 20 → (cmd = 1 → w.who = .host → exec (.mbxLoad w img ch) s = refused) ∧
      (cmd = 2 → exec (.mbxSwap w img ch) s = refused) ∧ (cmd = 7 → exec (.mbxDramRead w ch) s = refused) ∧
      (cmd = 8 → exec (.mbxDramWrite w ch) s = refused)) ∧
    (argLen (slotBytes (mbxOf s 0) r.slot) < 16 → (cmd = 4 → exec (.mbxWriteFirmware w ch) s = refused) ∧
      (cmd = 5 → exec (.mbxKeyCmd w c ch) s = refused) ∧ (cmd = 9 → exec (.mbxCxpControl w) s = refused) ∧
      (cmd = 10 → exec (.mbxSegment w ch) s = refused)) ∧
    (argLen (slotBytes (mbxOf s 0) r.slot) < 1 → cmd = 6 → exec (.mbxHazardClear w) s = refused)) ∧
  (∀ (s : State) (w : Wr) (i : Nat), Takes s w R.MBX_DOORBELL.reg 0 i → bit (rd s R.MBX_STATUS.SLOT_BUSY i) (w.val % 8) = true →
    exec (.mbxHandover w) s = .next (hit s R.MBX_STATUS.ERR i)) ∧
  (∀ (s s1 : State) (w : Wr) (cmd i : Nat) (r : MbxReq) (img : Image) (ch : Nat), Requested s w cmd i r s1 →
    reqNo w.who = i → cmd = 0 ∨ 12 ≤ cmd →
    exec (.mbxLoad w img ch) s = .next (respond (report s1 0x073C i cmd) i r 0x073C 0 [])) ∧
  (∀ (s : State) (i at0 : Nat) (b : List Byte) (rest : List (Nat × List Byte)), i < 2 → (mbxOf s i).rspWait = (at0, b) :: rest →
    ringOpen s R.MBX_RSP_HEAD.SEQ R.MBX_RSP_TAIL.SEQ i = true → exec (.mbxResponsePost i) s = .next
      (let h := rd s R.MBX_RSP_HEAD.SEQ i
       raiseIntFor (wr (setMbx s i { mbxOf s i with rspWait := rest, rsp := tset [] (mbxOf s i).rsp (h % 16) b })
         R.MBX_RSP_HEAD.SEQ i (h + 1)) (mbxOwner i) 3)) ∧
  (∀ (s : State) (i kind : Nat) (b : List Byte) (rest : List (Nat × List Byte)), i < 2 → (mbxOf s i).evtWait = (kind, b) :: rest →
    ringOpen s R.MBX_EVT_HEAD.SEQ R.MBX_EVT_TAIL.SEQ i = true → exec (.mbxEventPost i) s = .next
      (let h := rd s R.MBX_EVT_HEAD.SEQ i
       let m := mbxOf s i
       let bytes := leBytes 2 kind ++ leBytes 2 0 ++ leBytes 4 m.evtSeq ++ slice b 0 56
       raiseIntFor (wr (setMbx s i { m with
         evtWait := rest, evt := tset [] m.evt (h % 16) bytes, evtSeq := (m.evtSeq + 1) % word32 })
         R.MBX_EVT_HEAD.SEQ i (h + 1)) (mbxOwner i) 4)) ∧
  (∀ (s : State) (w : Wr), exec (.mbxRspTailWrite w) s =
      .next (writeTail s w R.MBX_RSP_TAIL.reg R.MBX_RSP_HEAD.SEQ R.MBX_RSP_TAIL.SEQ) ∧
    exec (.mbxEvtTailWrite w) s = .next (writeTail s w R.MBX_EVT_TAIL.reg R.MBX_EVT_HEAD.SEQ R.MBX_EVT_TAIL.SEQ)) ∧
  (∀ n v i : Nat, i < n → (leBytes n v)[i]? = some (BitVec.ofNat 8 (v / 256 ^ i)) ∧
    fieldLE (leBytes n v) i 1 = v / 256 ^ i % 256) ∧
  (∀ (m : List Host.Cell) (a n i : Nat), i < n → memLE m a n / 256 ^ i % 256 = memLE m (a + i) 1)
end

