-- ==== Sys2Proof/Laws/Issue.lean ====
section
/-! SUPPORT. Laws/Issue.lean: what passing the conditions of a register write, and of an instruction's issue, comes to. -/

namespace Sys2Proof.Machine

open Sys2Proof

theorem noteRsv_clean {s : State} {who : Requester} {r : RegSpec} {off v : Nat} (h : rsvTouched r v = false) :
    noteRsv s who r off v = s := by simp [noteRsv, h]

/-- A write that reaches its register has the register's own effect. -/
theorem gate_takes {s : State} {w : Wr} {r : RegSpec} {n i : Nat} (h : Takes s w r n i) (k : State → Nat → State) :
    gate s w r n k = k s i := by
  obtain ⟨h1, h2, h3, h4, h5⟩ := h
  simp [gate, h1, h2, h3, h4, noteRsv_clean h5]

/-- An instruction that is fetched, is its row's and meets no fault has its body's effect. -/
theorem issue_fetches {s : State} {c w : Nat} (h : Fetches s c w) {mine : Nat → Bool} (hm : mine w = true)
    (body : State → Core → Nat → Eff) :
    issue s c quietRun mine body = applyEff s c (pcOf s c) (body s (coreAt s c) w) := by
  obtain ⟨h1, h2, h3, h0, h4, h5⟩ := h
  have hlt : decide (4095 < pcOf s c) = false := by simp; omega
  have hp : popcount 72 0 = 0 := by decide
  simp only [issue, h1, quietRun, strikeFetch, List.foldl_nil, h0, hp, h3, hm, h4, hlt]
  simp [h5]

/-- No alarm, no event. -/
@[simp] theorem alarmed_nil {s : State} {c pc seq : Nat} : alarmed s c pc seq [] = s := rfl

@[simp] theorem applyEff_go_quiet {s s1 : State} {c pc : Nat} : applyEff s c pc (.go s1 []) = completed s1 c pc := by
  simp [applyEff, alarmed]

@[simp] theorem applyEff_jump {s s1 : State} {c pc t : Nat} : applyEff s c pc (.jump s1 t) = transferred s1 c pc t := rfl

/-- Without an alarm no operands are captured. -/
@[simp] theorem keepOperands_nil {s : State} {c : Nat} {f : List (Nat × Nat)} {l : List Nat} : keepOperands s c [] f l = s := rfl

/-- A read without an alarm notes no row. -/
theorem noteRows_clean {s : State} {c w n : Nat} (h : readCodes s c w n = []) : noteRows s c w n = s := by
  unfold noteRows
  cases hb : spParity s c w n with
  | false => rfl
  | true => simp [readCodes, hb] at h

/-- Reads without an alarm note no row. -/
theorem noteFoot_clean {s : State} {c : Nat} {f : List (Nat × Nat)} (h : fpCodes s c f = []) : noteFoot s c f = s := by
  have hp : ∀ r ∈ f, spParity s c r.1 r.2 = false := by
    intro r hr
    cases hb : spParity s c r.1 r.2 with
    | false => rfl
    | true =>
      have ha : f.any (fun r => spParity s c r.1 r.2) = true := List.any_eq_true.2 ⟨r, hr, hb⟩
      simp [fpCodes, ha] at h
  clear h
  unfold noteFoot
  induction f with
  | nil => rfl
  | cons r f ih =>
    have h0 : noteRows s c r.1 r.2 = s := by
      unfold noteRows
      rw [hp r (List.mem_cons_self ..)]
      rfl
    rw [List.foldl_cons, h0]
    exact ih fun q hq => hp q (List.mem_cons_of_mem _ hq)

/-- An instruction of a DMA channel that is fetched whole and is its row's has its own effect. -/
theorem dmaIssue_fetches {s : State} {c w : Nat} {st : DmaStart} (h : DmaFetches s c st w) {mine : Nat → Bool}
    (hm : mine w = true) (f : State → DmaStart → Nat → State) : dmaIssue s c false mine f = f s st w := by
  obtain ⟨h1, h2, h3, h6, h7, h4, h5⟩ := h
  simp only [dmaIssue, h1, h2, h6, h7, h4, hm]
  rcases h5 with h5 | h5
  · simp [h5, Nat.not_le.2 h3]
  · simp [Nat.not_le.2 h3, Nat.not_le.2 h5]

end Sys2Proof.Machine
end

