-- ==== Sys2Proof/Laws/Store.lean ====
section
/-! SUPPORT. Laws/Store.lean: what reading a store gives after writing it, and that every store and memory operation
keeps the canonical form. -/

namespace Sys2Proof.Machine

/-! ### Reading after writing -/

theorem tget_tdel {α : Type} (d : α) (t : List (Nat × α)) (i j : Nat) :
    tget d (tdel t i) j = if j = i then d else tget d t j := by
  induction t with
  | nil => simp [tdel, tget]
  | cons e t ih =>
    obtain ⟨k, w⟩ := e
    simp only [tdel, tget]
    by_cases h : i = k
    · subst h; simp only [if_true, ih]; split <;> rfl
    · simp only [h, if_false, tget, ih]
      by_cases hj : j = i
      · subst hj; simp [h]
      · simp [hj]

theorem tget_tput {α : Type} (d : α) (t : List (Nat × α)) (i j : Nat) (v : α) :
    tget d (tput t i v) j = if j = i then v else tget d t j := by
  induction t with
  | nil => simp [tput, tget]
  | cons e t ih =>
    obtain ⟨k, w⟩ := e
    simp only [tput]
    by_cases h : i < k
    · simp [h, tget]
    · by_cases h2 : i = k
      · subst h2; simp only [lt_irrefl, if_false, if_true, tget]; split <;> rfl
      · simp only [h, h2, if_false, tget, ih]
        by_cases hj : j = k
        · subst hj; simp [Ne.symm h2]
        · simp [hj]

/-- What a store reads as after one write: the value there, and what it read as before everywhere else. -/
theorem tget_tset {α : Type} [DecidableEq α] (d : α) (t : List (Nat × α)) (i j : Nat) (v : α) :
    tget d (tset d t i v) j = if j = i then v else tget d t j := by
  unfold tset
  split
  next h => rw [tget_tdel, h]
  next => rw [tget_tput]

@[simp] theorem tget_tset_same {α : Type} [DecidableEq α] (d : α) (t : List (Nat × α)) (i : Nat) (v : α) :
    tget d (tset d t i v) i = v := by simp [tget_tset]

theorem tget_tdel_ne {α : Type} (e : α) (t : List (Nat × α)) {i j : Nat} (h : j ≠ i) :
    tget e (tdel t i) j = tget e t j := by rw [tget_tdel, if_neg h]

/-- A write leaves every other key alone, whatever an unlisted key is taken to read as. -/
theorem tget_tset_ne {α : Type} [DecidableEq α] (d e : α) (t : List (Nat × α)) {i j : Nat} (v : α) (h : j ≠ i) :
    tget e (tset d t i v) j = tget e t j := by
  unfold tset
  split
  · rw [tget_tdel_ne _ _ h]
  · rw [tget_tput, if_neg h]

@[simp] theorem tget_nil {α : Type} (d : α) (i : Nat) : tget d [] i = d := rfl

/-! ### The canonical form -/

theorem twfFrom_mono {α : Type} [DecidableEq α] {d : α} {b c : Nat} (h : c ≤ b) :
    ∀ {t : List (Nat × α)}, twfFrom d b t = true → twfFrom d c t = true
  | [], _ => rfl
  | (k, v) :: t, hw => by
    simp only [twfFrom, Bool.and_eq_true, decide_eq_true_eq] at hw ⊢
    exact ⟨⟨by omega, hw.1.2⟩, hw.2⟩

theorem twfFrom_tdel {α : Type} [DecidableEq α] {d : α} (i : Nat) :
    ∀ {t : List (Nat × α)} {b : Nat}, twfFrom d b t = true → twfFrom d b (tdel t i) = true
  | [], _, _ => rfl
  | (k, w) :: t, b, hw => by
    simp only [twfFrom, Bool.and_eq_true, decide_eq_true_eq] at hw
    simp only [tdel]
    split
    · exact twfFrom_tdel i (twfFrom_mono (by omega) hw.2)
    · simp only [twfFrom, Bool.and_eq_true, decide_eq_true_eq]
      exact ⟨hw.1, twfFrom_tdel i hw.2⟩

theorem twfFrom_tput {α : Type} [DecidableEq α] {d : α} {i : Nat} {v : α} (hv : v ≠ d) :
    ∀ {t : List (Nat × α)} {b : Nat}, b ≤ i → twfFrom d b t = true → twfFrom d b (tput t i v) = true
  | [], b, hb, _ => by simp [tput, twfFrom, hb, hv]
  | (k, w) :: t, b, hb, hw => by
    simp only [twfFrom, Bool.and_eq_true, decide_eq_true_eq] at hw
    simp only [tput]
    split
    next h =>
      simp only [twfFrom, Bool.and_eq_true, decide_eq_true_eq]
      exact ⟨⟨hb, hv⟩, ⟨by omega, hw.1.2⟩, hw.2⟩
    next h =>
      split
      next h2 =>
        subst h2
        simp only [twfFrom, Bool.and_eq_true, decide_eq_true_eq]
        exact ⟨⟨hb, hv⟩, hw.2⟩
      next h2 =>
        simp only [twfFrom, Bool.and_eq_true, decide_eq_true_eq]
        exact ⟨hw.1, twfFrom_tput hv (by omega) hw.2⟩

/-- Every write keeps a store's canonical form. -/
theorem twf_tset {α : Type} [DecidableEq α] {d : α} {t : List (Nat × α)} (i : Nat) (v : α)
    (h : twf d t = true) : twf d (tset d t i v) = true := by
  unfold tset
  split
  · exact twfFrom_tdel i h
  next hv => exact twfFrom_tput hv (Nat.zero_le _) h

theorem twfFrom_filter {α : Type} [DecidableEq α] {d : α} (p : Nat × α → Bool) :
    ∀ {t : List (Nat × α)} {b : Nat}, twfFrom d b t = true → twfFrom d b (t.filter p) = true
  | [], _, _ => rfl
  | (k, w) :: t, b, hw => by
    simp only [twfFrom, Bool.and_eq_true, decide_eq_true_eq] at hw
    simp only [List.filter]
    split
    · simp only [twfFrom, Bool.and_eq_true, decide_eq_true_eq]
      exact ⟨hw.1, twfFrom_filter p hw.2⟩
    · exact twfFrom_mono (by omega) (twfFrom_filter p hw.2)

/-! ### The order of the keys -/

theorem keysFrom_mono {α : Type} {b c : Nat} (h : c ≤ b) :
    ∀ {t : List (Nat × α)}, keysFrom b t = true → keysFrom c t = true
  | [], _ => rfl
  | (k, v) :: t, hw => by
    simp only [keysFrom, Bool.and_eq_true, decide_eq_true_eq] at hw ⊢
    exact ⟨by omega, hw.2⟩

theorem keysFrom_tdel {α : Type} (i : Nat) :
    ∀ {t : List (Nat × α)} {b : Nat}, keysFrom b t = true → keysFrom b (tdel t i) = true
  | [], _, _ => rfl
  | (k, w) :: t, b, hw => by
    simp only [keysFrom, Bool.and_eq_true, decide_eq_true_eq] at hw
    simp only [tdel]
    split
    · exact keysFrom_tdel i (keysFrom_mono (by omega) hw.2)
    · simp only [keysFrom, Bool.and_eq_true, decide_eq_true_eq]
      exact ⟨hw.1, keysFrom_tdel i hw.2⟩

theorem keysFrom_tput {α : Type} {i : Nat} {v : α} :
    ∀ {t : List (Nat × α)} {b : Nat}, b ≤ i → keysFrom b t = true → keysFrom b (tput t i v) = true
  | [], b, hb, _ => by simp [tput, keysFrom, hb]
  | (k, w) :: t, b, hb, hw => by
    simp only [keysFrom, Bool.and_eq_true, decide_eq_true_eq] at hw
    simp only [tput]
    split
    next h =>
      simp only [keysFrom, Bool.and_eq_true, decide_eq_true_eq]
      exact ⟨hb, by omega, hw.2⟩
    next h =>
      split
      next h2 =>
        subst h2
        simp only [keysFrom, Bool.and_eq_true, decide_eq_true_eq]
        exact ⟨hb, hw.2⟩
      next h2 =>
        simp only [keysFrom, Bool.and_eq_true, decide_eq_true_eq]
        exact ⟨hw.1, keysFrom_tput (by omega) hw.2⟩

/-- Every write keeps the order of a store's keys. -/
theorem keysRise_tset {α : Type} [DecidableEq α] {d : α} {t : List (Nat × α)} (i : Nat) (v : α)
    (h : keysRise t = true) : keysRise (tset d t i v) = true := by
  unfold tset
  split
  · exact keysFrom_tdel i h
  · exact keysFrom_tput (Nat.zero_le _) h

theorem keysFrom_filter {α : Type} (p : Nat × α → Bool) :
    ∀ {t : List (Nat × α)} {b : Nat}, keysFrom b t = true → keysFrom b (t.filter p) = true
  | [], _, _ => rfl
  | (k, w) :: t, b, hw => by
    simp only [keysFrom, Bool.and_eq_true, decide_eq_true_eq] at hw
    simp only [List.filter]
    split
    · simp only [keysFrom, Bool.and_eq_true, decide_eq_true_eq]
      exact ⟨hw.1, keysFrom_filter p hw.2⟩
    · exact keysFrom_mono (by omega) (keysFrom_filter p hw.2)

/-! ### Memories -/

@[simp] theorem memByte_memPut_same (m : List Host.Cell) (a : Nat) (v : Byte) : memByte (memPut m a v) a = v := by
  simp [memByte, memPut]

theorem memByte_memPut_ne (m : List Host.Cell) {a b : Nat} (v : Byte) (h : b ≠ a) :
    memByte (memPut m a v) b = memByte m b := tget_tset_ne _ _ _ _ h

/-- One byte after a list of bytes is written: the byte of the list that lies there, or what was there. -/
theorem memByte_memWrite (m : List Host.Cell) (a : Nat) (l : List Byte) (b : Nat) :
    memByte (memWrite m a l) b = if a ≤ b ∧ b < a + l.length then l.getD (b - a) 0 else memByte m b := by
  induction l generalizing m a with
  | nil => simp [memWrite]
  | cons v t ih =>
    simp only [memWrite, ih, List.length_cons]
    by_cases h : b = a
    · subst h; simp
    · rw [memByte_memPut_ne _ _ h]
      by_cases h1 : a + 1 ≤ b ∧ b < a + 1 + t.length
      · rw [if_pos h1, if_pos (by omega)]
        have : b - a = (b - (a + 1)) + 1 := by omega
        rw [this, List.getD_cons_succ]
      · rw [if_neg h1, if_neg (by omega)]

/-- Bytes outside the written ones read as before. -/
theorem memByte_memWrite_outside (m : List Host.Cell) (a : Nat) (l : List Byte) (b : Nat)
    (h : b < a ∨ a + l.length ≤ b) : memByte (memWrite m a l) b = memByte m b := by
  rw [memByte_memWrite, if_neg (by omega)]

theorem memory_wf_memPut {m : List Host.Cell} (a : Nat) (v : Byte) (h : Memory.wf m = true) :
    Memory.wf (memPut m a v) = true := twf_tset _ _ h

theorem memory_wf_memWrite : ∀ (l : List Byte) {m : List Host.Cell} (a : Nat),
    Memory.wf m = true → Memory.wf (memWrite m a l) = true
  | [], _, _, h => h
  | _ :: t, _, a, h => memory_wf_memWrite t (a + 1) (memory_wf_memPut a _ h)

theorem memory_wf_memWriteEn : ∀ (l : List (Bool × Byte)) {m : List Host.Cell} (a : Nat),
    Memory.wf m = true → Memory.wf (memWriteEn m a l) = true
  | [], _, _, h => h
  | (e, _) :: t, _, a, h => memory_wf_memWriteEn t (a + 1) (by
      cases e
      · exact h
      · exact memory_wf_memPut a _ h)

theorem memory_wf_memClear {m : List Host.Cell} (a n : Nat) (h : Memory.wf m = true) :
    Memory.wf (memClear m a n) = true := twfFrom_filter _ h

theorem memory_wf_nil : Memory.wf [] = true := rfl

end Sys2Proof.Machine
end

