-- ==== Sys2Proof/Laws/Moves.lean ====
section
/-! SUPPORT. Laws/Moves.lean: said once, what no operation of the model does: it leaves the queue and the part alone, keeps
the memories' and the registers' canonical form, draws free values forward, takes back nothing that has left the part,
and, but for a release, leaves a latched SAFE latched. -/

namespace Sys2Proof.Machine

open Sys2Proof

/-- From `r` to `s` by operations of the model; `k` says that none of them is a release of SAFE. -/
structure Moves (k : Prop) (r s : State) : Prop where
  pending : s.pending = r.pending
  part : s.part = r.part
  mem : Memory.wf r.mem = true → Memory.wf s.mem = true
  hostMem : Memory.wf r.hostMem = true → Memory.wf s.hostMem = true
  regs : keysRise r.regs = true → keysRise s.regs = true
  safe : k → isSafe r = true → isSafe s = true
  free : r.free ≤ s.free
  out : r.out <:+ s.out

/-- An outcome that is reached by operations of the model. -/
def MovesO (k : Prop) (r : State) : Host.Outcome State Fault Refusal → Prop
  | .next s => Moves k r s
  | _ => True

/-- What an instruction's body answers, reached by operations of the model. -/
def MovesE (k : Prop) (r : State) : Eff → Prop
  | .defer s | .wait s _ | .go s _ | .jump s _ => Moves k r s
  | _ => True

/-- What a Gong arrival answers, reached by operations of the model. -/
def MovesS (k : Prop) (r : State) : State ⊕ Nat → Prop
  | .inl s => Moves k r s
  | _ => True

variable {k : Prop} {r s : State}

theorem Moves.refl (k : Prop) (s : State) : Moves k s s :=
  ⟨rfl, rfl, id, id, id, fun _ h => h, Nat.le_refl _, List.suffix_refl _⟩

theorem Moves.trans {q : State} (h1 : Moves k q r) (h2 : Moves k r s) : Moves k q s :=
  ⟨h2.pending.trans h1.pending, h2.part.trans h1.part, h2.mem ∘ h1.mem, h2.hostMem ∘ h1.hostMem, h2.regs ∘ h1.regs,
   fun hk h => h2.safe hk (h1.safe hk h), h1.free.trans h2.free, h1.out.trans h2.out⟩

/-- A change of fields that no part of `Moves` speaks of. -/
theorem Moves.quiet {t : State} (e1 : t.pending = s.pending) (e2 : t.part = s.part) (e3 : t.mem = s.mem)
    (e4 : t.hostMem = s.hostMem) (e5 : t.regs = s.regs) (e6 : t.free = s.free) (e7 : t.out = s.out) (h : Moves k r s) :
    Moves k r t where
  pending := e1.trans h.pending
  part := e2.trans h.part
  mem := by rw [e3]; exact h.mem
  hostMem := by rw [e4]; exact h.hostMem
  regs := by rw [e5]; exact h.regs
  safe hk hs := by
    have := h.safe hk hs
    simp only [isSafe, isSet, rd, e5] at this ⊢
    exact this
  free := by rw [e6]; exact h.free
  out := by rw [e7]; exact h.out

/-- A change of the two memories that keeps their form. -/
theorem Moves.memory {t : State} (e1 : t.pending = s.pending) (e2 : t.part = s.part)
    (e5 : t.regs = s.regs) (e6 : t.free = s.free) (e7 : t.out = s.out)
    (e3 : Memory.wf s.mem = true → Memory.wf t.mem = true)
    (e4 : Memory.wf s.hostMem = true → Memory.wf t.hostMem = true) (h : Moves k r s) : Moves k r t where
  pending := e1.trans h.pending
  part := e2.trans h.part
  mem := e3 ∘ h.mem
  hostMem := e4 ∘ h.hostMem
  regs := by rw [e5]; exact h.regs
  safe hk hs := by
    have := h.safe hk hs
    simp only [isSafe, isSet, rd, e5] at this ⊢
    exact this
  free := by rw [e6]; exact h.free
  out := by rw [e7]; exact h.out

theorem Moves.ite {c : Prop} [Decidable c] {a b : State} (ha : Moves k r a) (hb : Moves k r b) :
    Moves k r (if c then a else b) := by split <;> assumption

theorem Moves.foldl {α : Type} {f : State → α → State} (hf : ∀ t x, Moves k r t → Moves k r (f t x)) (l : List α)
    (h : Moves k r s) : Moves k r (l.foldl f s) := by
  induction l generalizing s with
  | nil => exact h
  | cons a l ih => exact ih (hf _ _ h)

theorem ok_moves (h : Moves k r s) : MovesO k r (ok s) := h

theorem MovesO.ite {c : Prop} [Decidable c] {a b : Host.Outcome State Fault Refusal} (ha : MovesO k r a) (hb : MovesO k r b) :
    MovesO k r (if c then a else b) := by split <;> assumption

theorem MovesE.ite {c : Prop} [Decidable c] {a b : Eff} (ha : MovesE k r a) (hb : MovesE k r b) :
    MovesE k r (if c then a else b) := by split <;> assumption

theorem MovesS.ite {c : Prop} [Decidable c] {a b : State ⊕ Nat} (ha : MovesS k r a) (hb : MovesS k r b) :
    MovesS k r (if c then a else b) := by split <;> assumption

theorem MovesS.inl (h : Moves k r s) : MovesS k r (.inl s) := h

theorem Moves.ite1 {α : Type} {c : Prop} [Decidable c] {a b : State × α} (ha : Moves k r a.1) (hb : Moves k r b.1) :
    Moves k r (if c then a else b).1 := by split <;> assumption

theorem Moves.ite2 {α : Type} {c : Prop} [Decidable c] {a b : α × State} (ha : Moves k r a.2) (hb : Moves k r b.2) :
    Moves k r (if c then a else b).2 := by split <;> assumption

theorem Moves.mk1 {α : Type} {x : α} (h : Moves k r s) : Moves k r (s, x).1 := h

theorem Moves.mk2 {α : Type} {x : α} (h : Moves k r s) : Moves k r (x, s).2 := h

theorem MovesE.of_eq {a b : Eff} (e : a = b) (h : MovesE k r a) : MovesE k r b := e ▸ h

theorem MovesS.of_eq {a b : State ⊕ Nat} (e : a = b) (h : MovesS k r a) : MovesS k r b := e ▸ h

theorem Moves.of_eq1 {α : Type} {p q : State × α} (e : p = q) (h : Moves k r p.1) : Moves k r q.1 := e ▸ h

theorem Moves.of_eq2 {α : Type} {p q : α × State} (e : p = q) (h : Moves k r p.2) : Moves k r q.2 := e ▸ h

theorem MovesE.go {a : List Nat} (h : Moves k r s) : MovesE k r (.go s a) := h

theorem MovesE.defer (h : Moves k r s) : MovesE k r (.defer s) := h

theorem MovesE.jump {a : Nat} (h : Moves k r s) : MovesE k r (.jump s a) := h

theorem MovesE.wait {w : WaitFor} (h : Moves k r s) : MovesE k r (.wait s w) := h

theorem emit_moves (e : Emit) (h : Moves k r s) : Moves k r (emit s e) :=
  ⟨h.pending, h.part, h.mem, h.hostMem, h.regs, h.safe, h.free, h.out.trans (List.suffix_cons _ _)⟩

theorem fresh_moves (h : Moves k r s) : Moves k r (fresh s).2 :=
  ⟨h.pending, h.part, h.mem, h.hostMem, h.regs, h.safe, h.free.trans (Nat.le_succ _), h.out⟩

/-! ### Record updates -/

/-- A change of fields that no part of `Moves` speaks of, as a record update spells it. -/
theorem Moves.update {tick' fieldLost' sscCount' hiLatch' fatalQ' ordQ' hrep' repDropped' intLast' intHeld' pace'
    mesh' flitSeq' cores' banks' bankErr' poison' parErr' gongs' shareRecs' rowMaps' strms' cals' dmas' dmaRecs'
    segCopies' chains' segCache' cvus' flt' zlinks' pair' self' life' timers' sscPhase' rtcPhase' dms' act' ports'
    therm' rails' pwrGood' mgmt' sec' mbx' dbgData'} (h : Moves k r s) : Moves k r (State.mk s.part tick' fieldLost'
    sscCount' s.regs hiLatch' s.mem s.hostMem fatalQ' ordQ' hrep' repDropped' s.free s.out intLast' intHeld' pace'
    mesh' flitSeq' cores' banks' bankErr' poison' parErr' gongs' shareRecs' rowMaps' strms' cals' dmas' dmaRecs'
    segCopies' chains' segCache' cvus' flt' zlinks' pair' self' life' timers' sscPhase' rtcPhase' dms' act' ports'
    therm' rails' pwrGood' mgmt' sec' mbx' dbgData' s.pending) :=
  Moves.quiet (s := s) rfl rfl rfl rfl rfl rfl rfl h

/-- A change of the device memory that keeps its form. -/
theorem Moves.update_mem {tick' fieldLost' sscCount' hiLatch' mem' fatalQ' ordQ' hrep' repDropped' intLast' intHeld'
    pace' mesh' flitSeq' cores' banks' bankErr' poison' parErr' gongs' shareRecs' rowMaps' strms' cals' dmas'
    dmaRecs' segCopies' chains' segCache' cvus' flt' zlinks' pair' self' life' timers' sscPhase' rtcPhase' dms' act'
    ports' therm' rails' pwrGood' mgmt' sec' mbx' dbgData'} (hm : Memory.wf s.mem = true → Memory.wf mem' = true) (h
    : Moves k r s) : Moves k r (State.mk s.part tick' fieldLost' sscCount' s.regs hiLatch' mem' s.hostMem fatalQ'
    ordQ' hrep' repDropped' s.free s.out intLast' intHeld' pace' mesh' flitSeq' cores' banks' bankErr' poison'
    parErr' gongs' shareRecs' rowMaps' strms' cals' dmas' dmaRecs' segCopies' chains' segCache' cvus' flt' zlinks'
    pair' self' life' timers' sscPhase' rtcPhase' dms' act' ports' therm' rails' pwrGood' mgmt' sec' mbx' dbgData'
    s.pending) :=
  Moves.memory (s := s) rfl rfl rfl rfl rfl hm id h

/-- A change of the host's memory that keeps its form. -/
theorem Moves.update_hostMem {tick' fieldLost' sscCount' hiLatch' hostMem' fatalQ' ordQ' hrep' repDropped' intLast'
    intHeld' pace' mesh' flitSeq' cores' banks' bankErr' poison' parErr' gongs' shareRecs' rowMaps' strms' cals'
    dmas' dmaRecs' segCopies' chains' segCache' cvus' flt' zlinks' pair' self' life' timers' sscPhase' rtcPhase'
    dms' act' ports' therm' rails' pwrGood' mgmt' sec' mbx' dbgData'} (hm : Memory.wf s.hostMem = true → Memory.wf
    hostMem' = true) (h : Moves k r s) : Moves k r (State.mk s.part tick' fieldLost' sscCount' s.regs hiLatch' s.mem
    hostMem' fatalQ' ordQ' hrep' repDropped' s.free s.out intLast' intHeld' pace' mesh' flitSeq' cores' banks'
    bankErr' poison' parErr' gongs' shareRecs' rowMaps' strms' cals' dmas' dmaRecs' segCopies' chains' segCache'
    cvus' flt' zlinks' pair' self' life' timers' sscPhase' rtcPhase' dms' act' ports' therm' rails' pwrGood' mgmt'
    sec' mbx' dbgData' s.pending) :=
  Moves.memory (s := s) rfl rfl rfl rfl rfl id hm h

/-! ### Register fields -/

/-- A field that is not SSC_STATE.SAFE. -/
def Fld.notSafe (f : Fld) : Bool := f.off != R.SSC_STATE.SAFE.off || f.lo != R.SSC_STATE.SAFE.lo

theorem Fld.key_ne {f g : Fld} (i j : Nat) (hf : f.lo < 32) (hg : g.lo < 32) (h : f.off ≠ g.off ∨ f.lo ≠ g.lo) :
    f.key i ≠ g.key j := by
  unfold Fld.key
  omega

theorem rd_wr_same (s : State) (f : Fld) (i v : Nat) : rd (wr s f i v) f i = v % 2 ^ f.width := tget_tset_same _ _ _ _

theorem rd_wr_ne (s : State) {f g : Fld} (i j v : Nat) (h : g.key j ≠ f.key i) : rd (wr s f i v) g j = rd s g j :=
  tget_tset_ne _ _ _ _ h

/-- A field of a register's 32 bits that is not SSC_STATE.SAFE. -/
def Fld.apart (f : Fld) : Bool := f.notSafe && decide (f.lo < 32)

theorem wr_moves_of (f : Fld) (i v : Nat) (hs : k → isSafe s = true → isSafe (wr s f i v) = true) (h : Moves k r s) :
    Moves k r (wr s f i v) where
  pending := h.pending
  part := h.part
  mem := h.mem
  hostMem := h.hostMem
  regs hr := keysRise_tset _ _ (h.regs hr)
  safe hk hr := hs hk (h.safe hk hr)
  free := h.free
  out := h.out

theorem isSafe_wr {f : Fld} (hf : f.apart = true) (i v : Nat) : isSafe (wr s f i v) = isSafe s := by
  simp only [isSafe, isSet]
  rw [rd_wr_ne]
  simp only [Fld.apart, Fld.notSafe, Bool.and_eq_true, Bool.or_eq_true, bne_iff_ne, decide_eq_true_eq] at hf
  exact Fld.key_ne _ _ (by decide) hf.2 (hf.1.imp Ne.symm Ne.symm)

/-- A write of any other field. -/
theorem wr_moves {f : Fld} (hf : f.apart = true) (i v : Nat) (h : Moves k r s) : Moves k r (wr s f i v) :=
  wr_moves_of _ _ _ (fun _ hs => (isSafe_wr hf i v).trans hs) h

/-- A release is the one operation that clears SAFE. -/
theorem clearSafe_moves (h : Moves False r s) : Moves False r (wr s R.SSC_STATE.SAFE 0 0) :=
  wr_moves_of _ _ _ (fun h => h.elim) h

/-- Setting SAFE. -/
theorem setSafe_moves (h : Moves k r s) : Moves k r (wr s R.SSC_STATE.SAFE 0 1) :=
  wr_moves_of _ _ _ (fun _ _ => by simp only [isSafe, isSet, rd_wr_same]; rfl) h

theorem winFld_apart (b : Nat) : (winFld b).apart = true := by
  unfold winFld
  split <;> rfl

/-- Every field of a register that a write can change is apart from SSC_STATE.SAFE. -/
def RegSpec.apart (r : RegSpec) : Bool := r.flds.all (fun f => f.acc == .ro || f.apart)

theorem putField_moves' {f : Fld} (i v : Nat) (hf : (f.acc == .ro || f.apart) = true) (h : Moves k r s) :
    Moves k r (putField s f i v) := by
  unfold putField
  rcases Bool.or_eq_true_iff.mp hf with hf | hf
  · rw [beq_iff_eq.mp hf]; exact h
  · split
    · exact wr_moves hf _ _ h
    · exact wr_moves hf _ _ h
    · exact h
    · exact h

theorem putAll_moves {q : RegSpec} (n i v : Nat) (hq : q.apart = true) (h : Moves k r s) : Moves k r (putAll s q n i v) := by
  unfold putAll
  have hall := List.all_eq_true.mp hq
  generalize q.flds = l at hall
  induction l generalizing s with
  | nil => exact h
  | cons f l ih =>
    exact ih (putField_moves' _ _ (hall f (List.mem_cons_self ..)) h) (fun x hx => hall x (List.mem_cons_of_mem _ hx))

theorem putPlain_moves {q : RegSpec} (n i v : Nat) (hq : q.apart = true) (h : Moves k r s) : Moves k r (putPlain s q n i v) := by
  unfold putPlain
  have hall := List.all_eq_true.mp hq
  generalize q.flds = l at hall
  induction l generalizing s with
  | nil => exact h
  | cons f l ih =>
    refine ih ?_ (fun x hx => hall x (List.mem_cons_of_mem _ hx))
    dsimp only
    split
    · exact h
    · exact putField_moves' _ _ (hall f (List.mem_cons_self ..)) h

theorem map_apart : R.map.all RegSpec.apart = true := by decide +kernel

theorem regAt_apart {off n : Nat} {q : RegSpec} (h : regAt off = some (q, n)) : q.apart = true := by
  unfold regAt at h
  cases hf : R.map.find? _ with
  | none => rw [hf] at h; cases h
  | some x =>
    rw [hf] at h
    have : x = q := by
      simp only [Option.map_some, Option.some.injEq, Prod.mk.injEq] at h
      exact h.1
    exact this ▸ List.all_eq_true.mp map_apart x (List.mem_of_find?_eq_some hf)

theorem queueReg_apart (q : QueueReg) : (queueReg q).apart = true := by cases q <;> rfl

theorem memory_wf_copyCells (src : List Host.Cell) {dst : List Host.Cell} (a b n : Nat) (h : Memory.wf dst = true) :
    Memory.wf (copyCells src dst a b n) = true := by
  unfold copyCells
  generalize src.filter _ = l
  have : ∀ (l : List Host.Cell) (m : List Host.Cell), Memory.wf m = true →
      Memory.wf (l.foldl (fun m c => memPut m (c.1 - a + b) c.2) m) = true := by
    intro l
    induction l with
    | nil => exact fun _ h => h
    | cons c l ih => exact fun m h => ih _ (memory_wf_memPut _ _ h)
  exact this l _ (memory_wf_memClear _ _ h)

theorem memory_wf_markDropped {m : List Host.Cell} (recs : List Nat) (h : Memory.wf m = true) :
    Memory.wf (markDropped m recs) = true := by
  unfold markDropped
  induction recs generalizing m with
  | nil => exact h
  | cons a l ih => exact ih (memory_wf_memPut _ _ h)

theorem memory_wf_writeCodes {m : List Host.Cell} (p : Place) (w : WLine) (h : Memory.wf m = true) :
    Memory.wf (writeCodes m p w) = true := by
  unfold writeCodes
  generalize List.zip _ _ = l
  induction l generalizing m with
  | nil => exact h
  | cons a l ih => exact ih (memory_wf_memWrite _ _ h)

/-- After a power-up SAFE is latched: its field holds its reset value. -/
theorem tget_filter_none {d i : Nat} {t : List (Nat × Nat)} {p : Nat × Nat → Bool} (hp : ∀ v, p (i, v) = false) :
    tget d (t.filter p) i = d := by
  induction t with
  | nil => rfl
  | cons e t ih =>
    obtain ⟨k, v⟩ := e
    simp only [List.filter]
    split
    next h =>
      simp only [tget]
      split
      next hk => subst hk; rw [hp] at h; contradiction
      next => exact ih
    next => exact ih

theorem outlasts_safe (v : Nat) : outlasts (R.SSC_STATE.SAFE.key 0, v) = false := by
  unfold outlasts
  have e1 : R.SSC_STATE.SAFE.key 0 / 16777216 / 32 = 0x60100 := by decide
  have e2 : R.SSC_STATE.SAFE.key 0 / 16777216 % 32 = 0 := by decide
  have e3 : (lastingFields.any fun f => f.off == 0x60100 && f.lo == 0) = false := by decide
  simp only [e1, e2]
  rw [e3]
  rfl

theorem powerBase_safe (s : State) (b : BootIn) : isSafe (powerBase s b) = true := by
  have : tget R.SSC_STATE.SAFE.reset (s.regs.filter outlasts) (R.SSC_STATE.SAFE.key 0) = 1 :=
    tget_filter_none outlasts_safe
  simp only [isSafe, isSet, rd, powerBase, this]
  rfl

end Sys2Proof.Machine
end

