-- ==== Sys2Proof/Laws/MovesOps.lean ====
section
/-! SUPPORT. Laws/MovesOps.lean: every operation of the chapters, by the terms of `Moves`. -/

namespace Sys2Proof.Machine

open Sys2Proof

variable {k : Prop} {r s : State}

theorem wrIf_moves (a0 : Bool) {a2 : Fld} (a3 : Nat) (a4 : Nat) (ha2 : a2.apart = true) (h : Moves k r s) :
    Moves k r (wrIf a0 s a2 a3 a4) := by
  unfold wrIf
  exact (Moves.ite (wr_moves ha2 _ _ h) h)

theorem bumpBy_moves {a1 : Fld} (a2 : Nat) (a3 : Nat) (ha1 : a1.apart = true) (h : Moves k r s) :
    Moves k r (bumpBy s a1 a2 a3) := by
  unfold bumpBy
  exact (wr_moves ha1 _ _ h)

theorem bump_moves {a1 : Fld} (a2 : Nat) (ha1 : a1.apart = true) (h : Moves k r s) : Moves k r (bump s a1 a2) := by
  unfold bump
  exact (bumpBy_moves _ _ ha1 h)

theorem hit_moves {a1 : Fld} (a2 : Nat) (ha1 : a1.apart = true) (h : Moves k r s) : Moves k r (hit s a1 a2) := by
  unfold hit
  exact (wr_moves ha1 _ _ h)

theorem message_moves (a1 : Requester) (a2 : Nat) (h : Moves k r s) : Moves k r (message s a1 a2) := by
  unfold message
  exact (emit_moves _ h)

theorem raiseIntFor_moves (a1 : Requester) (a2 : Nat) (h : Moves k r s) : Moves k r (raiseIntFor s a1 a2) := by
  unfold raiseIntFor
  exact (by
 extract_lets t1 t2
 have h3 : Moves k r t2 := (wr_moves rfl _ _ h)
 exact (Moves.ite h3 (Moves.ite (message_moves _ _ h3) h3)))

theorem raiseInt_moves (a1 : Nat) (h : Moves k r s) : Moves k r (raiseInt s a1) := by
  unfold raiseInt
  exact (Moves.foldl (fun _ _ h1 => (raiseIntFor_moves _ _ h1)) _ h)

theorem sendStrm_moves (a1 : Requester) (a2 : Nat) (h : Moves k r s) : Moves k r (sendStrm s a1 a2) := by
  unfold sendStrm
  exact (by
 extract_lets t1 t2
 exact (Moves.ite (Moves.update h) (message_moves _ _ (Moves.update h))))

theorem raiseStrmFor_moves (a1 : Requester) (a2 : Nat) (h : Moves k r s) : Moves k r (raiseStrmFor s a1 a2) := by
  unfold raiseStrmFor
  exact (by
 extract_lets t1 t2
 have h3 : Moves k r t2 := (wr_moves rfl _ _ h)
 exact (Moves.ite h3 (Moves.ite (sendStrm_moves _ _ h3) h3)))

theorem raiseStrm_moves (a1 : Nat) (h : Moves k r s) : Moves k r (raiseStrm s a1) := by
  unfold raiseStrm
  exact (Moves.foldl (fun _ _ h1 => (raiseStrmFor_moves _ _ h1)) _ h)

theorem enterWindow_moves (a1 : Report) (h : Moves k r s) : Moves k r (enterWindow s a1) := by
  unfold enterWindow
  exact (by
 extract_lets t1 t2 t3 t5
 have h4 : Moves k r t3 := (wr_moves rfl _ _ (Moves.update h))
 have h6 : Moves k r t5 := (Moves.ite (bump_moves _ rfl h4) h4)
 exact (raiseInt_moves _ h6))

theorem showQueue_moves (h : Moves k r s) : Moves k r (showQueue s) := by
  unfold showQueue
  exact (wr_moves rfl _ _ (wr_moves rfl _ _ h))

theorem enqueue_moves (a1 : Nat) (a2 : Nat) (a3 : Side) (a4 : Nat) (h : Moves k r s) :
    Moves k r (enqueue s a1 a2 a3 a4) := by
  unfold enqueue
  exact (by
 extract_lets t1 t2
 exact (Moves.ite (bump_moves _ rfl (Moves.update h)) (Moves.ite (Moves.ite (showQueue_moves (enterWindow_moves _ (Moves.update h))) (bump_moves _ rfl (Moves.update h))) (Moves.ite (showQueue_moves (enterWindow_moves _ (Moves.update h))) (bump_moves _ rfl (Moves.update h))))))

theorem note_moves (a1 : Nat) (a2 : Nat) (a3 : Side) (a4 : Nat) (h : Moves k r s) : Moves k r (note s a1 a2 a3 a4) := by
  unfold note
  exact (enqueue_moves _ _ _ _ (wr_moves rfl _ _ (wr_moves rfl _ _ h)))

theorem driveSafe_moves (h : Moves k r s) : Moves k r (driveSafe s) := by
  unfold driveSafe
  exact (by
 extract_lets t1
 exact (Moves.update h))

theorem readingInvalid_moves (h : Moves k r s) : Moves k r (readingInvalid s) := by
  unfold readingInvalid
  exact (by
 extract_lets t1
 exact (wr_moves rfl _ _ (Moves.update h)))

theorem roleReg_moves (a1 : Nat) (a2 : Bool) (h : Moves k r s) : Moves k r (roleReg s a1 a2) := by
  unfold roleReg
  exact (by
 extract_lets t1
 have h2 : Moves k r t1 := (wr_moves rfl _ _ (wr_moves rfl _ _ h))
 exact (Moves.ite h2 (raiseInt_moves _ h2)))

theorem strmState_moves (a1 : Nat) (a2 : Nat) (h : Moves k r s) : Moves k r (strmState s a1 a2) := by
  unfold strmState
  exact (Moves.ite h (raiseStrm_moves _ (wr_moves rfl _ _ h)))

theorem setZl_moves (a1 : Nat) (a2 : ZLink) (h : Moves k r s) : Moves k r (setZl s a1 a2) := by
  unfold setZl
  exact (Moves.update h)

theorem putCell_moves (a0 : Nat) (a2 : SentCell) (h : Moves k r s) : Moves k r (putCell a0 s a2) := by
  unfold putCell
  exact (by
 extract_lets t1
 exact (emit_moves _ (setZl_moves _ _ h)))

theorem sendWaiting_moves (a1 : Nat) (h : Moves k r s) : Moves k r (sendWaiting s a1) := by
  unfold sendWaiting
  exact (by
 extract_lets t1 t2 t3 t4
 exact (Moves.foldl (fun _ _ h5 => (putCell_moves _ _ h5)) _ (setZl_moves _ _ h)))

theorem giveCell_moves (a1 : Nat) (a2 : CellHead) (a3 : Nat) (a4 : List Byte) (a5 : Bool) (h : Moves k r s) :
    Moves k r (giveCell s a1 a2 a3 a4 a5) := by
  unfold giveCell
  exact (by
 extract_lets t1
 exact (Moves.ite (sendWaiting_moves _ (setZl_moves _ _ h)) h))

theorem sendOn_moves (a1 : Nat) (a2 : Nat) (a3 : Nat) (a4 : Nat) (a5 : List Byte) (h : Moves k r s) :
    Moves k r (sendOn s a1 a2 a3 a4 a5) := by
  unfold sendOn
  exact (giveCell_moves _ _ _ _ _ h)

theorem sendPairOn_moves (a1 : Nat) (a2 : Nat) (a3 : Nat) (a4 : List Byte) (h : Moves k r s) :
    Moves k r (sendPairOn s a1 a2 a3 a4) := by
  unfold sendPairOn
  exact (by
 extract_lets t1
 exact (giveCell_moves _ _ _ _ _ (Moves.update h)))

theorem sendPair_moves (a1 : Nat) (a2 : Nat) (a3 : List Byte) (h : Moves k r s) : Moves k r (sendPair s a1 a2 a3) := by
  unfold sendPair
  exact (by
 extract_lets t1
 exact (Moves.ite (sendPairOn_moves _ _ _ _ h) (Moves.ite (sendPairOn_moves _ _ _ _ h) h)))

theorem sendRecord_moves (a1 : Nat) (a2 : Nat) (a3 : Nat) (a4 : Nat) (a5 : Nat) (a6 : Nat) (h : Moves k r s) :
    Moves k r (sendRecord s a1 a2 a3 a4 a5 a6) := by
  unfold sendRecord
  exact (sendPair_moves _ _ _ h)

theorem sendMark_moves (a1 : Bool) (a2 : Nat) (a3 : Nat) (h : Moves k r s) : Moves k r (sendMark s a1 a2 a3) := by
  unfold sendMark
  exact (sendPair_moves _ _ _ h)

theorem leavePair_moves (a1 : Nat) (h : Moves k r s) : Moves k r (leavePair s a1) := by
  unfold leavePair
  exact (by
 extract_lets t1
 have h2 : Moves k r t1 := (Moves.foldl (fun _ _ h3 => (Moves.ite (sendPairOn_moves _ _ _ _ h3) h3)) _ h)
 exact (Moves.ite h (roleReg_moves _ _ h2)))

theorem doubtWith_moves (a1 : Nat) (a2 : Nat) (h : Moves k r s) : Moves k r (doubtWith s a1 a2) := by
  unfold doubtWith
  exact (by
 extract_lets t1 t3 t5 t7
 have h2 : Moves k r t1 := (bump_moves _ rfl h)
 have h4 : Moves k r t3 := (setSafe_moves h2)
 have h6 : Moves k r t5 := (wr_moves rfl _ _ h4)
 have h8 : Moves k r t7 := (wr_moves rfl _ _ h6)
 exact (Moves.ite h2 (leavePair_moves _ (raiseInt_moves _ (note_moves _ _ _ _ (readingInvalid_moves (driveSafe_moves h8)))))))

theorem doubt_moves (a1 : Nat) (h : Moves k r s) : Moves k r (doubt s a1) := by
  unfold doubt
  exact (doubtWith_moves _ _ h)

theorem report_moves (a1 : Nat) (a2 : Nat) (a3 : Nat) (h : Moves k r s) : Moves k r (report s a1 a2 a3) := by
  unfold report
  exact (by
 extract_lets t1 t2
 have h3 : Moves k r t2 := (note_moves _ _ _ _ h)
 exact (Moves.ite (doubt_moves _ h3) h3))

theorem reportIf_moves (a0 : Bool) (a2 : Nat) (a3 : Nat) (a4 : Nat) (h : Moves k r s) :
    Moves k r (reportIf a0 s a2 a3 a4) := by
  unfold reportIf
  exact (Moves.ite (report_moves _ _ _ h) h)

theorem environment_moves (a1 : Nat) (a2 : Nat) (a3 : Nat) (a4 : Bool) (h : Moves k r s) :
    Moves k r (environment s a1 a2 a3 a4) := by
  unfold environment
  exact (by
 extract_lets t1
 exact (Moves.ite (Moves.ite h (report_moves _ _ _ (Moves.update h))) (Moves.update h)))

theorem setCore_moves (a1 : Nat) (a2 : Core) (h : Moves k r s) : Moves k r (setCore s a1 a2) := by
  unfold setCore
  exact (Moves.update h)

theorem modCore_moves (a1 : Nat) (a2 : Core → Core) (h : Moves k r s) : Moves k r (modCore s a1 a2) := by
  unfold modCore
  exact (setCore_moves _ _ h)

theorem setRingX_moves (a1 : Nat) (a2 : Nat) (a3 : RingX) (h : Moves k r s) : Moves k r (setRingX s a1 a2 a3) := by
  unfold setRingX
  exact (modCore_moves _ _ h)

theorem setGroup_moves (a1 : Nat) (a2 : Nat) (a3 : Nat) (h : Moves k r s) : Moves k r (setGroup s a1 a2 a3) := by
  unfold setGroup
  exact (wr_moves rfl _ _ h)

theorem setPoison_moves (a1 : Nat) (a2 : Nat) (a3 : Bool) (h : Moves k r s) : Moves k r (setPoison s a1 a2 a3) := by
  unfold setPoison
  exact (Moves.update h)

theorem devWrite_moves (a1 : Nat) (a2 : List Byte) (a3 : Bool) (h : Moves k r s) : Moves k r (devWrite s a1 a2 a3) := by
  unfold devWrite
  exact (setPoison_moves _ _ _ (Moves.update_mem (fun hm => (memory_wf_memWrite _ _ hm)) h))

theorem spPut_moves (a1 : Nat) (a2 : Nat) (a3 : Nat) (h : Moves k r s) : Moves k r (spPut s a1 a2 a3) := by
  unfold spPut
  exact (devWrite_moves _ _ _ h)

theorem noteRow_moves (a1 : Nat) (a2 : Nat) (h : Moves k r s) : Moves k r (noteRow s a1 a2) := by
  unfold noteRow
  exact (by
 extract_lets t1
 exact (modCore_moves _ _ h))

theorem noteRows_moves (a1 : Nat) (a2 : Nat) (a3 : Nat) (h : Moves k r s) : Moves k r (noteRows s a1 a2 a3) := by
  unfold noteRows
  exact (Moves.ite (Moves.foldl (fun _ _ h1 => (noteRow_moves _ _ h1)) _ h) h)

theorem flipWord_moves (a1 : Nat) (a2 : Nat) (a3 : Nat) (h : Moves k r s) : Moves k r (flipWord s a1 a2 a3) := by
  unfold flipWord
  exact (by
 extract_lets t1 t2
 exact (Moves.ite h (Moves.update_mem (fun hm => (memory_wf_memWrite _ _ hm)) h)))

theorem spoil_moves (a1 : Nat) (a2 : Nat) (h : Moves k r s) : Moves k r (spoil s a1 a2) := by
  unfold spoil
  exact (modCore_moves _ _ h)

theorem spoilWords_moves (a1 : Nat) (a2 : Nat) (a3 : Nat) (h : Moves k r s) : Moves k r (spoilWords s a1 a2 a3) := by
  unfold spoilWords
  exact (Moves.foldl (fun _ _ h1 => (spoil_moves _ _ h1)) _ h)

theorem spStore_moves (a1 : Nat) (a2 : Nat) (a3 : Nat) (h : Moves k r s) : Moves k r (spStore s a1 a2 a3) := by
  unfold spStore
  exact (spoil_moves _ _ (spPut_moves _ _ _ h))

theorem setStrm_moves (a1 : Nat) (a2 : Strm) (h : Moves k r s) : Moves k r (setStrm s a1 a2) := by
  unfold setStrm
  exact (Moves.update h)

theorem modStrm_moves (a1 : Nat) (a2 : Strm → Strm) (h : Moves k r s) : Moves k r (modStrm s a1 a2) := by
  unfold modStrm
  exact (setStrm_moves _ _ h)

theorem putDatagram_moves (a1 : Dgram) (h : Moves k r s) : Moves k r (putDatagram s a1) := by
  unfold putDatagram
  exact (Moves.ite (emit_moves _ h) h)

theorem sendDatagram_moves (a1 : Nat) (a2 : List Byte) (h : Moves k r s) : Moves k r (sendDatagram s a1 a2) := by
  unfold sendDatagram
  exact (by
 extract_lets t1 t2
 exact (putDatagram_moves _ (Moves.update h)))

theorem setMbx_moves (a1 : Nat) (a2 : Mbx) (h : Moves k r s) : Moves k r (setMbx s a1 a2) := by
  unfold setMbx
  exact (wr_moves rfl _ _ (Moves.update h))

theorem respond_moves (a1 : Nat) (a2 : MbxReq) (a3 : Nat) (a4 : Nat) (a5 : List Byte) (h : Moves k r s) :
    Moves k r (respond s a1 a2 a3 a4 a5) := by
  unfold respond
  exact (by
 extract_lets t1 t2
 exact (Moves.ite (bump_moves _ rfl (setMbx_moves _ _ h)) (setMbx_moves _ _ h)))

theorem respondAll_moves (a1 : Nat) (a2 : MbxReq → Bool) (a3 : MbxReq → Nat) (a4 : Nat) (h : Moves k r s) :
    Moves k r (respondAll s a1 a2 a3 a4) := by
  unfold respondAll
  exact (Moves.foldl (fun _ _ h1 => (respond_moves _ _ _ _ _ h1)) _ h)

theorem swapDone_moves (a1 : Nat) (h : Moves k r s) : Moves k r (swapDone s a1) := by
  unfold swapDone
  exact (respondAll_moves _ _ _ _ h)

theorem queueEvent_moves (a1 : Nat) (a2 : List Byte) (h : Moves k r s) : Moves k r (queueEvent s a1 a2) := by
  unfold queueEvent
  exact (by
 extract_lets t1 t2
 exact (Moves.ite (setMbx_moves _ _ h) (report_moves _ _ _ (bump_moves _ rfl (setMbx_moves _ _ h)))))

theorem sendMessage_moves (a1 : Nat) (a2 : Nat) (a3 : Nat) (a4 : List Byte) (h : Moves k r s) :
    Moves k r (sendMessage s a1 a2 a3 a4) := by
  unfold sendMessage
  exact (Moves.foldl (fun _ _ h1 => (sendOn_moves _ _ _ _ _ h1)) _ h)

theorem answerVia_moves (a1 : Option Nat) (a2 : Nat) (a3 : List Byte) (h : Moves k r s) :
    Moves k r (answerVia s a1 a2 a3) := by
  unfold answerVia
  exact (by
 split
 · exact (sendDatagram_moves _ _ h)
 · exact (by
 extract_lets t1 t2 t3
 have h4 : Moves k r t3 := (Moves.update h)
 exact (by
 split
 · exact h4
 · exact (sendMessage_moves _ _ _ _ h4))))

theorem answerWaiting_moves (a1 : Nat) (a2 : Nat) (a3 : List Byte) (h : Moves k r s) :
    Moves k r (answerWaiting s a1 a2 a3) := by
  unfold answerWaiting
  exact (by
 extract_lets t1
 exact (Moves.foldl (fun _ _ h2 => (answerVia_moves _ _ _ h2)) _ (Moves.update h)))

theorem sendControl_moves (a1 : Nat) (a2 : Nat) (a3 : Nat) (a4 : List Nat) (h : Moves k r s) :
    Moves k r (sendControl s a1 a2 a3 a4) := by
  unfold sendControl
  exact (Moves.ite (Moves.foldl (fun _ _ h1 => (sendPair_moves _ _ _ h1)) _ h) h)

theorem logChange_moves (a1 : List Nat) (h : Moves k r s) : Moves k r (logChange s a1) := by
  unfold logChange
  exact (by
 extract_lets t1 t2
 have h3 : Moves k r t2 := (Moves.update h)
 exact (wr_moves rfl _ _ (wr_moves rfl _ _ h3)))

theorem modRec_moves (a1 : Nat) (a2 : CoreRec → CoreRec) (h : Moves k r s) : Moves k r (modRec s a1 a2) := by
  unfold modRec
  exact (by
 extract_lets t1 t2
 exact (Moves.update h))

theorem setQuiet_moves (a1 : Nat) (a2 : Nat) (h : Moves k r s) : Moves k r (setQuiet s a1 a2) := by
  unfold setQuiet
  exact (by
 extract_lets t1 t3
 have h2 : Moves k r t1 := (modRec_moves _ _ h)
 exact (Moves.update h2))

theorem quietRestart_moves (a1 : Nat) (h : Moves k r s) : Moves k r (quietRestart s a1) := by
  unfold quietRestart
  exact (setQuiet_moves _ _ h)

theorem recordEvent_moves (a1 : Nat) (a2 : Nat) (a3 : Nat) (a4 : Nat) (h : Moves k r s) :
    Moves k r (recordEvent s a1 a2 a3 a4) := by
  unfold recordEvent
  exact (modRec_moves _ _ h)

theorem changeRecord_moves (a1 : Nat) (a2 : Nat) (a3 : ChangeKind) (h : Moves k r s) :
    Moves k r (changeRecord s a1 a2 a3) := by
  unfold changeRecord
  exact (by
 extract_lets t1 t2 t3
 exact (raiseInt_moves _ (logChange_moves _ (sendDatagram_moves _ _ h))))

theorem modStripe_moves (a1 : Nat) (a2 : Nat) (a3 : Stripe → Stripe) (h : Moves k r s) :
    Moves k r (modStripe s a1 a2 a3) := by
  unfold modStripe
  exact (modStrm_moves _ _ h)

theorem linkLine_moves (a1 : Nat) (a2 : List Nat) (a3 : Bool) (h : Moves k r s) : Moves k r (linkLine s a1 a2 a3) := by
  unfold linkLine
  exact (by
 extract_lets t1 t2 t3
 have h4 : Moves k r t3 := (modStrm_moves _ _ h)
 exact (Moves.ite h (Moves.ite (report_moves _ _ _ h4) (Moves.ite (hit_moves _ rfl (bump_moves _ rfl h4)) h4))))

theorem substLine_moves (a1 : Nat) (h : Moves k r s) : Moves k r (substLine s a1) := by
  unfold substLine
  exact (by
 extract_lets t1 t2
 exact (linkLine_moves _ _ _ h))

theorem substLines_moves (a1 a2 : Nat) (h : Moves k r s) : Moves k r (substLines s a1 a2) := by
  induction a2 with
  | zero => exact h
  | succ n ih => exact substLine_moves _ ih

theorem enterLine_moves (a1 : Nat) (a2 : Line) (h : Moves k r s) : Moves k r (enterLine s a1 a2) := by
  unfold enterLine
  exact (by
 extract_lets t1
 have h2 : Moves k r t1 := (modStrm_moves _ _ h)
 exact (strmState_moves _ _ (wr_moves rfl _ _ h2)))

theorem forwardLine_moves (a1 : Nat) (a2 : Nat) (a3 : Nat) (a4 : Nat) (a5 : List Nat) (h : Moves k r s) :
    Moves k r (forwardLine s a1 a2 a3 a4 a5) := by
  unfold forwardLine
  exact (Moves.ite (sendRecord_moves _ _ _ _ _ _ (Moves.foldl (fun _ _ h1 => (sendPair_moves _ _ _ h1)) _ h)) h)

theorem ringLine_moves (a1 : Nat) (a2 : Nat) (a3 : Nat) (a4 : Nat) (a5 : Nat) (a6 : List Nat) (h : Moves k r s) :
    Moves k r (ringLine s a1 a2 a3 a4 a5 a6) := by
  unfold ringLine
  exact (by
 split
 · exact (report_moves _ _ _ h)
 · exact (sendOn_moves _ _ _ _ _ (Moves.foldl (fun _ _ h1 => (sendOn_moves _ _ _ _ _ h1)) _ h)))

theorem compareOwn_moves (a1 : Nat) (a2 : Line) (h : Moves k r s) : Moves k r (compareOwn s a1 a2) := by
  unfold compareOwn
  exact (by
 extract_lets t1
 exact (by
 split
 · exact (reportIf_moves _ _ _ _ h)
 · exact (modStrm_moves _ _ h)))

theorem watchClose_moves (a1 : Nat) (a2 : Nat) (h : Moves k r s) : Moves k r (watchClose s a1 a2) := by
  unfold watchClose
  exact (by
 extract_lets t1
 exact (Moves.ite h (Moves.update h)))

theorem setCal_moves (a1 : Nat) (a2 : CalStrm) (h : Moves k r s) : Moves k r (setCal s a1 a2) := by
  unfold setCal
  exact (by
 extract_lets t1 t2
 exact (wr_moves rfl _ _ (Moves.update h)))

theorem failRun_moves (a1 : Nat) (h : Moves k r s) : Moves k r (failRun s a1) := by
  unfold failRun
  exact (by
 extract_lets t1
 exact (hit_moves _ rfl (report_moves _ _ _ (setCal_moves _ _ h))))

theorem failCapture_moves (a1 : Nat) (h : Moves k r s) : Moves k r (failCapture s a1) := by
  unfold failCapture
  exact (by
 split
 · exact (Moves.ite (failRun_moves _ h) h)
 · exact h)

theorem closePartial_moves (a1 : Nat) (a2 : Stripe) (h : Moves k r s) : Moves k r (closePartial s a1 a2) := by
  unfold closePartial
  exact (by
 extract_lets t1 t2 t3
 have h4 : Moves k r t3 := (modStrm_moves _ _ h)
 exact (failCapture_moves _ (hit_moves _ rfl h4)))

theorem winErr_moves (a1 : Requester) (a2 : Nat) (a3 : Nat) (h : Moves k r s) : Moves k r (winErr s a1 a2 a3) := by
  unfold winErr
  exact (by
 extract_lets t1 t2
 have h3 : Moves k r t2 := (Moves.ite (wr_moves rfl _ _ h) h)
 exact (hit_moves _ (winFld_apart _) h3))

theorem noteRsv_moves (a1 : Requester) (a2 : RegSpec) (a3 : Nat) (a4 : Nat) (h : Moves k r s) :
    Moves k r (noteRsv s a1 a2 a3 a4) := by
  unfold noteRsv
  exact (Moves.ite (by
 split
 · exact (wr_moves rfl _ _ h)
 · exact h) h)

theorem gate_moves (a1 : Wr) (a2 : RegSpec) (a3 : Nat) {a4 : State → Nat → State}
    (ha4 : ∀ x0 x1, Moves k r x0 → Moves k r (a4 x0 x1)) (h : Moves k r s) :
    Moves k r (gate s a1 a2 a3 a4) := by
  unfold gate
  exact (by
 extract_lets t1
 exact (by
 split
 · exact (winErr_moves _ _ _ h)
 · exact (Moves.ite (winErr_moves _ _ _ h) (Moves.ite (noteRsv_moves _ _ _ _ (ha4 _ _ h)) h))))

theorem putField_moves {a1 : Fld} (a2 a3 : Nat) (ha1 : a1.apart = true) (h : Moves k r s) :
    Moves k r (putField s a1 a2 a3) := putField_moves' _ _ (by rw [ha1, Bool.or_true]) h

theorem trimStep.hitRejected_moves (a1 : Nat) (h : Moves k r s) : Moves k r (trimStep.hitRejected s a1) := by
  unfold trimStep.hitRejected
  exact (wr_moves rfl _ _ h)

theorem fieldLoss_moves (a1 : Nat) (h : Moves k r s) : Moves k r (fieldLoss s a1) := by
  unfold fieldLoss
  exact (by
 extract_lets t1
 have h2 : Moves k r t1 := (note_moves _ _ _ _ (Moves.update h))
 exact (doubtWith_moves _ _ (Moves.update h2)))

theorem setPaceWin_moves (a1 : Nat) (a2 : PaceWin) (h : Moves k r s) : Moves k r (setPaceWin s a1 a2) := by
  unfold setPaceWin
  exact (by
 extract_lets t1
 exact (Moves.update h))

theorem showSlack_moves (h : Moves k r s) : Moves k r (showSlack s) := by
  unfold showSlack
  exact (by
 extract_lets t1
 exact (by
 clear_value t1
 split
 · exact h
 · exact (wr_moves rfl _ _ (wr_moves rfl _ _ h))))

theorem paceRecord_moves (a1 : Nat) (a2 : Int) (a3 : Nat) (h : Moves k r s) : Moves k r (paceRecord s a1 a2 a3) := by
  unfold paceRecord
  exact (by
 extract_lets t1
 exact (showSlack_moves (setPaceWin_moves _ _ h)))

theorem showIslands_moves (h : Moves k r s) : Moves k r (showIslands s) := by
  unfold showIslands
  exact (Moves.ite h (Moves.foldl (fun _ _ h1 => (wr_moves rfl _ _ h1)) _ h))

theorem paceIsland_moves (a0 : Nat) (a2 : Nat) (h : Moves k r s) : Moves k r (paceIsland a0 s a2) := by
  unfold paceIsland
  exact (by
 extract_lets t1 t2 t3 t4
 exact (Moves.ite (wr_moves rfl _ _ h) (Moves.ite h (wr_moves rfl _ _ (setPaceWin_moves _ _ h)))))

theorem pmbusFail_moves (a1 : Nat) (h : Moves k r s) : Moves k r (pmbusFail s a1) := by
  unfold pmbusFail
  exact (by
 extract_lets t1 t2
 have h3 : Moves k r t2 := (Moves.update h)
 exact (hit_moves _ rfl (report_moves _ _ _ (wr_moves rfl _ _ (showIslands_moves h3)))))

theorem pmbus_moves (a1 : Nat) (a2 : Nat) (a3 : Nat) (h : Moves k r s) : Moves k r (pmbus s a1 a2 a3) := by
  unfold pmbus
  exact (emit_moves _ h)

theorem vddCommand_moves (a1 : Nat) (h : Moves k r s) : Moves k r (vddCommand s a1) := by
  unfold vddCommand
  exact (by
 extract_lets t1 t3
 have h2 : Moves k r t1 := (wr_moves rfl _ _ h)
 exact (pmbus_moves _ _ _ (Moves.update h2)))

theorem paceVdd_moves (a0 : Bool) (h : Moves k r s) : Moves k r (paceVdd a0 s) := by
  unfold paceVdd
  exact (by
 extract_lets t1 t2 t3
 exact (Moves.ite h (Moves.ite (pmbusFail_moves _ h) (vddCommand_moves _ h))))

theorem paceState_moves (h : Moves k r s) : Moves k r (paceState s) := by
  unfold paceState
  exact (by
 extract_lets t1 t2 t3
 have h4 : Moves k r t3 := (wr_moves rfl _ _ h)
 exact (reportIf_moves _ _ _ _ h4))

theorem paceEval_moves (a1 : Nat) (a2 : Bool) (h : Moves k r s) : Moves k r (paceEval s a1 a2) := by
  unfold paceEval
  exact (Moves.ite (paceState_moves h) (paceState_moves (showIslands_moves (paceVdd_moves _ (Moves.foldl (fun _ _ h1 => (paceIsland_moves _ _ h1)) _ h)))))

theorem trimStep_moves (a1 : Nat) (a2 : Nat) (h : Moves k r s) : Moves k r (trimStep s a1 a2) := by
  unfold trimStep
  exact (by
 extract_lets t1 t2 t3 t4 t5
 exact (Moves.ite (trimStep.hitRejected_moves _ (report_moves _ _ _ h)) (Moves.update h)))

theorem writeTable_moves (a1 : Place) (a2 : Pkg) (a3 : Nat) (h : Moves k r s) : Moves k r (writeTable s a1 a2 a3) := by
  unfold writeTable
  exact (Moves.update_mem (fun hm => (memory_wf_memWrite _ _ (memory_wf_memWrite _ _ hm))) h)

theorem writeMap_moves (a1 : BandMap) (a2 : Nat) (h : Moves k r s) : Moves k r (writeMap s a1 a2) := by
  unfold writeMap
  exact (Moves.update_mem (fun hm => (memory_wf_memWrite _ _ hm)) h)

theorem showPool_moves (h : Moves k r s) : Moves k r (showPool s) := by
  unfold showPool
  exact (by
 extract_lets t1 t2 t3 t5
 have h4 : Moves k r t3 := (wr_moves rfl _ _ h)
 have h6 : Moves k r t5 := (wr_moves rfl _ _ h4)
 exact (wr_moves rfl _ _ h6))

theorem newMapFor_moves (a1 : Nat) (a2 : List Band) (h : Moves k r s) : Moves k r (newMapFor s a1 a2) := by
  unfold newMapFor
  exact (by
 extract_lets t1 t2 t3 t4 t5 t6 t7 t8
 exact (Moves.ite h (writeMap_moves _ _ (modStrm_moves _ _ h))))

theorem noteCost_moves (a1 : Nat) (a2 : List (Nat × Nat)) (h : Moves k r s) : Moves k r (noteCost s a1 a2) := by
  unfold noteCost
  exact (by
 split
 · exact h
 · exact (Moves.ite h (hit_moves _ rfl (note_moves _ _ _ _ h))))

theorem dropMaps_moves (a1 : List Nat) (h : Moves k r s) : Moves k r (dropMaps s a1) := by
  unfold dropMaps
  exact (Moves.foldl (fun _ _ h1 => (modStrm_moves _ _ h1)) _ h)

theorem noTiling_moves (h : Moves k r s) : Moves k r (noTiling s) := by
  unfold noTiling
  exact (Moves.ite (Moves.foldl (fun _ _ h1 => (modStrm_moves _ _ h1)) _ (note_moves _ _ _ _ h)) (report_moves _ _ _ h))

theorem retile_moves (h : Moves k r s) : Moves k r (retile s) := by
  unfold retile
  exact (by
 extract_lets t1
 exact (Moves.ite (showPool_moves (dropMaps_moves _ h)) (by
 split
 · exact (noTiling_moves (showPool_moves h))
 · exact (by
 extract_lets t2 t3
 have h4 : Moves k r t3 := (Moves.foldl (fun _ _ h5 => (newMapFor_moves _ _ h5)) _ (dropMaps_moves _ h))
 exact (Moves.ite (noTiling_moves (showPool_moves h)) (showPool_moves (Moves.foldl (fun _ _ h6 => (noteCost_moves _ _ h6)) _ h4)))))))

theorem countSat_moves (a1 : Nat) (a2 : Nat) (h : Moves k r s) : Moves k r (countSat s a1 a2) := by
  unfold countSat
  exact (modCore_moves _ _ (bumpBy_moves _ _ rfl h))

theorem countNan_moves (a1 : Nat) (a2 : Nat) (h : Moves k r s) : Moves k r (countNan s a1 a2) := by
  unfold countNan
  exact (modCore_moves _ _ (bumpBy_moves _ _ rfl h))

theorem countBoth_moves (a1 : Nat) (a2 : Nat) (a3 : Nat) (h : Moves k r s) : Moves k r (countBoth s a1 a2 a3) := by
  unfold countBoth
  exact (countNan_moves _ _ (countSat_moves _ _ h))

theorem countSteps_moves (a1 : Nat) (a2 : Nat) (h : Moves k r s) : Moves k r (countSteps s a1 a2) := by
  unfold countSteps
  exact (by
 extract_lets t1 t2
 have h3 : Moves k r t2 := (wr_moves rfl _ _ (wr_moves rfl _ _ h))
 exact (modCore_moves _ _ h3))

theorem coreSticky_moves (a1 : Nat) (a2 : Nat) (h : Moves k r s) : Moves k r (coreSticky s a1 a2) := by
  unfold coreSticky
  exact (by
 split
 · exact (bump_moves _ rfl (hit_moves _ rfl h))
 · exact (bump_moves _ rfl (hit_moves _ rfl h))
 · exact (bump_moves _ rfl (hit_moves _ rfl h))
 · exact (hit_moves _ rfl h)
 · exact (bump_moves _ rfl (hit_moves _ rfl h))
 · exact (bump_moves _ rfl (hit_moves _ rfl h))
 · exact (hit_moves _ rfl h)
 · exact (hit_moves _ rfl h)
 · exact (hit_moves _ rfl h)
 · exact (hit_moves _ rfl h)
 · exact (hit_moves _ rfl h)
 · exact (hit_moves _ rfl h)
 · exact (hit_moves _ rfl h)
 · exact (hit_moves _ rfl h)
 · exact (bump_moves _ rfl (hit_moves _ rfl h))
 · exact (hit_moves _ rfl h)
 · exact (hit_moves _ rfl h)
 · exact (hit_moves _ rfl h)
 · exact (hit_moves _ rfl h)
 · exact (hit_moves _ rfl h)
 · exact (hit_moves _ rfl h)
 · exact h)

theorem dropWaitBits_moves (a1 : Nat) (h : Moves k r s) : Moves k r (dropWaitBits s a1) := by
  unfold dropWaitBits
  exact (by
 extract_lets t1 t2
 exact (by
 split
 · exact (by
 split
 · exact (wr_moves rfl _ _ h)
 · exact h)
 · exact (by
 split
 · exact (by
 extract_lets t3
 exact (wr_moves rfl _ _ (setRingX_moves _ _ _ h)))
 · exact h)
 · exact h))

theorem coreFaultReg_moves (a1 : Nat) (a2 : Nat) (a3 : Nat) (a4 : Nat) (h : Moves k r s) :
    Moves k r (coreFaultReg s a1 a2 a3 a4) := by
  unfold coreFaultReg
  exact (wr_moves rfl _ _ (wr_moves rfl _ _ (wr_moves rfl _ _ (wr_moves rfl _ _ h))))

theorem coreReport_moves (a1 : Nat) (a2 : Nat) (h : Moves k r s) : Moves k r (coreReport s a1 a2) := by
  unfold coreReport
  exact (report_moves _ _ _ (coreSticky_moves _ _ h))

theorem coreRefuse_moves (a1 : Nat) (a2 : Nat) (a3 : Nat) (h : Moves k r s) : Moves k r (coreRefuse s a1 a2 a3) := by
  unfold coreRefuse
  exact (coreReport_moves _ _ (coreFaultReg_moves _ _ _ _ h))

theorem noteEvent_moves (a1 : Nat) (a2 : Nat) (h : Moves k r s) : Moves k r (noteEvent s a1 a2) := by
  unfold noteEvent
  exact (modCore_moves _ _ h)

theorem shareEvent_moves (a1 : Nat) (a2 : Nat) (a3 : Nat) (a4 : Nat) (h : Moves k r s) :
    Moves k r (shareEvent s a1 a2 a3 a4) := by
  unfold shareEvent
  exact (by
 extract_lets t1 t3
 have h2 : Moves k r t1 := (coreReport_moves _ _ (coreFaultReg_moves _ _ _ _ (dropWaitBits_moves _ h)))
 have h4 : Moves k r t3 := (wr_moves rfl _ _ h2)
 exact (modCore_moves _ _ h4))

theorem setPc_moves (a1 : Nat) (a2 : Nat) (h : Moves k r s) : Moves k r (setPc s a1 a2) := by
  unfold setPc
  exact (wr_moves rfl _ _ h)

theorem completed_moves (a1 : Nat) (a2 : Nat) (h : Moves k r s) : Moves k r (completed s a1 a2) := by
  unfold completed
  exact (by
 extract_lets t1 t2
 exact (setPc_moves _ _ (setCore_moves _ _ h)))

theorem transferred_moves (a1 : Nat) (a2 : Nat) (a3 : Nat) (h : Moves k r s) : Moves k r (transferred s a1 a2 a3) := by
  unfold transferred
  exact (setPc_moves _ _ (modCore_moves _ _ h))

theorem badFetch_moves (a1 : Nat) (a2 : Nat) (h : Moves k r s) : Moves k r (badFetch s a1 a2) := by
  unfold badFetch
  exact (by
 extract_lets t1
 have h2 : Moves k r t1 := (Moves.ite (wr_moves rfl _ _ h) (wr_moves rfl _ _ h))
 exact (shareEvent_moves _ _ _ _ h2))

theorem alarmed_moves (a1 : Nat) (a2 : Nat) (a3 : Nat) (a4 : List Nat) (h : Moves k r s) :
    Moves k r (alarmed s a1 a2 a3 a4) := by
  unfold alarmed
  exact (Moves.foldl (fun _ _ h1 => (shareEvent_moves _ _ _ _ h1)) _ h)

theorem applyEff_moves (a1 : Nat) (a2 : Nat) {a3 : Eff} (ha3 : MovesE k r a3) (h : Moves k r s) :
    Moves k r (applyEff s a1 a2 a3) := by
  unfold applyEff
  exact (by
 have h1 := ha3
 split
 · 
   rename_i v2
   exact (shareEvent_moves _ _ _ _ h)
 · 
   exact h
 · 
   rename_i v6
   exact h1
 · 
   rename_i v8 v9
   exact (wrIf_moves _ _ _ rfl (modCore_moves _ _ h1))
 · 
   rename_i v11 v12
   exact (alarmed_moves _ _ _ _ (completed_moves _ _ h1))
 · 
   rename_i v14 v15
   exact (transferred_moves _ _ _ h1))

theorem flipState_moves (a1 : Nat) (a2 : Nat) (a3 : Nat) (h : Moves k r s) : Moves k r (flipState s a1 a2 a3) := by
  unfold flipState
  exact (by
 split
 · exact (by
 extract_lets t1
 exact (Moves.ite (bump_moves _ rfl h) (Moves.ite (setRingX_moves _ _ _ h) h)))
 · exact (Moves.ite (bump_moves _ rfl h) (Moves.ite (modCore_moves _ _ h) h))
 · exact h)

theorem strike_moves (a1 : Nat) (a2 : Nat) (a3 : Upset) (h : Moves k r s) : Moves k r (strike s a1 a2 a3) := by
  unfold strike
  exact (by
 split
 · exact (flipWord_moves _ _ _ h)
 · exact (modCore_moves _ _ h)
 · exact (Moves.ite h (modCore_moves _ _ h))
 · exact (flipState_moves _ _ _ h)
 · exact h
 · exact h)

theorem strikeFetch_moves (a1 : Nat) (a2 : List Upset) (h : Moves k r s) : Moves k r (strikeFetch s a1 a2) := by
  unfold strikeFetch
  exact (Moves.foldl (fun _ _ h1 => (by
 split
 · exact (Moves.update h1)
 · exact h1)) _ h)

theorem corrected_moves (a1 : Nat) (a2 : Nat) (h : Moves k r s) : Moves k r (corrected s a1 a2) := by
  unfold corrected
  exact (noteEvent_moves _ _ (coreReport_moves _ _ (Moves.update h)))

theorem issue_moves (a1 : Nat) (a2 : Chk) (a3 : Nat → Bool) {a4 : State → Core → Nat → Eff}
    (ha4 : ∀ x0 x1 x2, Moves k r x0 → MovesE k r (a4 x0 x1 x2)) (h : Moves k r s) :
    Moves k r (issue s a1 a2 a3 a4) := by
  unfold issue
  exact (by
 extract_lets t1 t2 t3 t4 t6 t7 t8 t10
 have h5 : Moves k r t4 := (strikeFetch_moves _ _ h)
 have h9 : Moves k r t8 := (Moves.ite (corrected_moves _ _ h5) h5)
 have h11 : Moves k r t10 := (Moves.foldl (fun _ _ h12 => (strike_moves _ _ _ h12)) _ h9)
 exact (Moves.ite h (Moves.ite (badFetch_moves _ _ h5) (Moves.ite h (Moves.ite h (Moves.ite (shareEvent_moves _ _ _ _ h11) (applyEff_moves _ _ (ha4 _ _ _ h11) h11)))))))

theorem noteFoot_moves (a1 : Nat) (a2 : List (Nat × Nat)) (h : Moves k r s) : Moves k r (noteFoot s a1 a2) := by
  unfold noteFoot
  exact (Moves.foldl (fun _ _ h1 => (noteRows_moves _ _ _ h1)) _ h)

theorem keepOperands_moves (a1 : Nat) (a2 : List Nat) (a3 : List (Nat × Nat)) (a4 : List Nat) (h : Moves k r s) :
    Moves k r (keepOperands s a1 a2 a3 a4) := by
  unfold keepOperands
  exact (Moves.ite (modCore_moves _ _ h) h)

theorem queueMma_moves (a1 : Nat) (a2 : Nat) (h : Moves k r s) : Moves k r (queueMma s a1 a2) := by
  unfold queueMma
  exact (Moves.ite (modCore_moves _ _ h) (countSteps_moves _ _ (modCore_moves _ _ h)))

theorem mma_moves (a0 : Chk) (a2 : Nat) (a3 : Core) (a4 : Nat) (a5 : MmaArgs) (h : Moves k r s) :
    MovesE k r (mma a0 s a2 a3 a4 a5) := by
  unfold mma
  exact (by
 extract_lets t1 t2 t3 t4 t5 t6
 exact (MovesE.ite trivial (MovesE.ite trivial (by
 split
 · exact trivial
 · exact trivial
 · exact (by
 extract_lets t7 t8 t10 t12
 have h9 : Moves k r t8 := (modCore_moves _ _ (noteFoot_moves _ _ h))
 have h11 : Moves k r t10 := (queueMma_moves _ _ (countBoth_moves _ _ _ h9))
 exact (MovesE.ite trivial (MovesE.ite trivial (MovesE.ite trivial (MovesE.ite trivial (MovesE.go (keepOperands_moves _ _ _ _ h11)))))))))))

theorem spStores_moves (a1 a2 a3 a4 : Nat) (h : Moves k r s) : Moves k r (spStores s a1 a2 a3 a4) := by
  induction a4 with
  | zero => exact h
  | succ n ih => exact spStore_moves _ _ _ ih

theorem markOut_moves (a1 : Nat) (a2 : Bool) (a3 : VReg) (h : Moves k r s) : Moves k r (markOut s a1 a2 a3) := by
  unfold markOut
  exact (Moves.ite (modCore_moves _ _ h) h)

theorem sendWrite_moves (a1 : Nat) (a2 : Nat) (a3 : OutKind) (h : Moves k r s) : Moves k r (sendWrite s a1 a2 a3) := by
  unfold sendWrite
  exact (by
 extract_lets t1
 exact (modCore_moves _ _ h))

theorem spoilSpan_moves (a1 : Nat) (a2 : Nat) (a3 : Nat) (h : Moves k r s) : Moves k r (spoilSpan s a1 a2 a3) := by
  unfold spoilSpan
  exact (by
 split
 · exact (Moves.ite (Moves.foldl (fun _ _ h1 => (spoil_moves _ _ h1)) _ h) h)
 · exact h)

theorem setCnt_moves (a1 : Nat) (a2 : Nat) (a3 : Nat) (h : Moves k r s) : Moves k r (setCnt s a1 a2 a3) := by
  unfold setCnt
  exact (modCore_moves _ _ (wr_moves rfl _ _ h))

theorem addCnt_moves (a1 : Nat) (a2 : Nat) (a3 : Nat) (h : Moves k r s) : Moves k r (addCnt s a1 a2 a3) := by
  unfold addCnt
  exact (Moves.ite (coreReport_moves _ _ h) (wr_moves rfl _ _ h))

theorem reserve_moves (a1 : Nat) (a2 : Nat) (h : Moves k r s) : Moves k r (reserve s a1 a2) := by
  unfold reserve
  exact (by
 extract_lets t1 t2
 exact (wr_moves rfl _ _ (setRingX_moves _ _ _ h)))

theorem wantSlot_moves (a1 : Nat) (a2 : Nat) (h : Moves k r s) : Moves k r (wantSlot s a1 a2) := by
  unfold wantSlot
  exact (by
 extract_lets t1
 exact (wr_moves rfl _ _ (setRingX_moves _ _ _ h)))

theorem writeSlot_moves (a1 : Nat) (a2 : Nat) (a3 : Nat) (a4 : Nat) (a5 : Bool) (h : Moves k r s) :
    Moves k r (writeSlot s a1 a2 a3 a4 a5) := by
  unfold writeSlot
  exact (Moves.foldl (fun _ _ h1 => (devWrite_moves _ _ _ h1)) _ h)

theorem settleSlots_moves (a1 : Nat) (a2 : Nat) (h : Moves k r s) : Moves k r (settleSlots s a1 a2) := by
  unfold settleSlots
  exact (by
 extract_lets t1 t2
 exact (wr_moves rfl _ _ (setRingX_moves _ _ _ h)))

theorem produce_moves (a1 : Nat) (a2 : Nat) (a3 : Nat) (a4 : Bool) (h : Moves k r s) :
    Moves k r (produce s a1 a2 a3 a4) := by
  unfold produce
  exact (by
 extract_lets t1 t2
 have h3 : Moves k r t2 := (setRingX_moves _ _ _ h)
 exact (by
 split
 · exact h
 · exact (Moves.ite (settleSlots_moves _ _ (writeSlot_moves _ _ _ _ _ h3)) h3)))

theorem ackSlot_moves (a1 : Nat) (a2 : Nat) (a3 : Nat) (h : Moves k r s) : Moves k r (ackSlot s a1 a2 a3) := by
  unfold ackSlot
  exact (modCore_moves _ _ h)

theorem ringSpoilt_moves (a1 : Nat) (a2 : Nat) (a3 : Nat × Nat) (h : Moves k r s) :
    Moves k r (ringSpoilt s a1 a2 a3) := by
  unfold ringSpoilt
  exact (by
 split
 · exact (Moves.ite (shareEvent_moves _ _ _ _ h) (coreReport_moves _ _ h))
 · exact (coreReport_moves _ _ h))

theorem advanceHead_moves (a1 : Nat) (a2 : Nat) (a3 : Nat) (h : Moves k r s) : Moves k r (advanceHead s a1 a2 a3) := by
  unfold advanceHead
  exact (wr_moves rfl _ _ (wr_moves rfl _ _ h))

theorem waitRing_moves (a1 : Nat) (a2 : Nat) (h : Moves k r s) : MovesE k r (waitRing s a1 a2) := by
  unfold waitRing
  exact (MovesE.wait (wr_moves rfl _ _ h))

theorem land_moves (a1 : Nat) (a2 : OutWrite) (a3 : Bool) (h : Moves k r s) : Moves k r (land s a1 a2 a3) := by
  unfold land
  exact (by
 extract_lets t1
 have h2 : Moves k r t1 := by
  unfold t1
  exact (by
 split
 · exact (devWrite_moves _ _ _ h)
 · exact h)
 exact (by
 split
 · exact h2
 · exact (Moves.ite (shareEvent_moves _ _ _ _ h2) (wr_moves rfl _ _ h2))))

theorem endWait_moves (a1 : Nat) {a2 : State → Core → Nat → Eff} (ha2 : ∀ x0 x1 x2, Moves k r x0 → MovesE k r
    (a2 x0 x1 x2)) (h : Moves k r s) :
    Moves k r (endWait s a1 a2) := by
  unfold endWait
  exact (by
 extract_lets t1 t2
 have h3 : Moves k r t2 := (wr_moves rfl _ _ (modCore_moves _ _ h))
 exact (by
 split
 · 
   rename_i v5 v6 e7
   have h4 := MovesE.of_eq e7 (ha2 _ _ _ h3)
   exact h
 · 
   exact h
 · 
   rename_i v10 e11
   have h4 := MovesE.of_eq e11 (ha2 _ _ _ h3)
   exact h
 · 
   rename_i v12 e13
   have h4 := MovesE.of_eq e13 (ha2 _ _ _ h3)
   exact (shareEvent_moves _ _ _ _ h)
 · 
   rename_i v14 v15 e16
   have h4 := MovesE.of_eq e16 (ha2 _ _ _ h3)
   exact (alarmed_moves _ _ _ _ (completed_moves _ _ h4))
 · 
   rename_i v17 v18 e19
   have h4 := MovesE.of_eq e19 (ha2 _ _ _ h3)
   exact (transferred_moves _ _ _ h4)))

theorem setGong_moves (a1 : Gong) (h : Moves k r s) : Moves k r (setGong s a1) := by
  unfold setGong
  exact (Moves.update h)

theorem armGong_moves (a1 : Nat) (a2 : Nat) (a3 : Nat) (a4 : Nat × Nat) (h : Moves k r s) :
    Moves k r (armGong s a1 a2 a3 a4) := by
  unfold armGong
  exact (Moves.update h)

theorem arrive_moves (a1 : Nat) (a2 : Core) (a3 : Desc) (a4 : Nat) (h : Moves k r s) :
    MovesS k r (arrive s a1 a2 a3 a4) := by
  unfold arrive
  exact (by
 split
 · exact trivial
 · exact (by
 extract_lets t1 t2 t5
 have h3 : ∀ x0, Moves k r x0 → Moves k r (t2 x0) := by
  unfold t2
  exact (fun _ h4 => (modCore_moves _ _ h4))
 exact (MovesS.ite (MovesS.inl (h3 _ h)) (MovesS.ite trivial (MovesS.inl (h3 _ (setGong_moves _ h)))))))

theorem gongWait_moves (a1 : Core) (a2 : Desc) (a3 : Nat) (h : Moves k r s) : MovesE k r (gongWait s a1 a2 a3) := by
  unfold gongWait
  exact (by
 split
 · exact trivial
 · exact (by
 extract_lets t1 t2
 exact (MovesE.ite trivial (MovesE.ite (MovesE.go h) (MovesE.wait h)))))

theorem gong_moves (a1 : Core) (a2 : Nat) {a3 : Desc → Eff} (ha3 : ∀ x0, MovesE k r (a3 x0)) (h : Moves k r s) :
    MovesE k r (gong s a1 a2 a3) := by
  unfold gong
  exact (MovesE.ite trivial (by
 split
 · exact trivial
 · exact (MovesE.ite (MovesE.go h) (ha3 _))))

theorem startShare_moves (a1 : Nat) (a2 : Desc) (h : Moves k r s) : Moves k r (startShare s a1 a2) := by
  unfold startShare
  exact (by
 extract_lets t1 t3 t5 t7
 have h2 : Moves k r t1 := (setCore_moves _ _ h)
 have h4 : Moves k r t3 := (Moves.ite h2 (wr_moves rfl _ _ h2))
 have h6 : Moves k r t5 := (wr_moves rfl _ _ (wr_moves rfl _ _ h4))
 have h8 : Moves k r t7 := (wr_moves rfl _ _ (wr_moves rfl _ _ h6))
 exact (wr_moves rfl _ _ (wr_moves rfl _ _ (wr_moves rfl _ _ h8))))

theorem setBankValid_moves (a1 : Nat) (a2 : Nat) (a3 : Nat) (h : Moves k r s) :
    Moves k r (setBankValid s a1 a2 a3) := by
  unfold setBankValid
  exact (Moves.ite (wr_moves rfl _ _ h) (wr_moves rfl _ _ h))

theorem journalise_moves (a1 : Nat) (a2 : Desc) (a3 : Bool) (h : Moves k r s) : Moves k r (journalise s a1 a2 a3) := by
  unfold journalise
  exact (by
 extract_lets t1 t2
 exact (Moves.update h))

theorem takeDesc_moves (a1 : Nat) (a2 : Desc) (h : Moves k r s) : Moves k r (takeDesc s a1 a2) := by
  unfold takeDesc
  exact (Moves.ite (startShare_moves _ _ h) (wr_moves rfl _ _ (modCore_moves _ _ h)))

theorem offerDesc_moves (a1 : Nat) (a2 : Desc) (h : Moves k r s) : Moves k r (offerDesc s a1 a2) := by
  unfold offerDesc
  exact (takeDesc_moves _ _ (journalise_moves _ _ _ h))

theorem dropNext_moves (a1 : Nat) (h : Moves k r s) : Moves k r (dropNext s a1) := by
  unfold dropNext
  exact (by
 split
 · exact h
 · exact (journalise_moves _ _ _ (modCore_moves _ _ h)))

theorem resendJournal_moves (h : Moves k r s) : Moves k r (resendJournal s) := by
  unfold resendJournal
  exact (Moves.foldl (fun _ _ h1 => (by
 extract_lets t2
 exact (Moves.ite h1 (takeDesc_moves _ _ h1)))) _ h)

theorem putWord_moves (a1 : Nat) (a2 : Nat) (h : Moves k r s) : Moves k r (putWord s a1 a2) := by
  unfold putWord
  exact (Moves.update h)

theorem validated_moves (a1 : Nat) (a2 : Nat) (h : Moves k r s) : Moves k r (validated s a1 a2) := by
  unfold validated
  exact (by
 extract_lets t1
 exact (setBankValid_moves _ _ _ (Moves.ite (wr_moves rfl _ _ h) (wr_moves rfl _ _ h))))

theorem scrubWord_moves (a0 : Nat) (a2 : Nat × Nat) (h : Moves k r s) : Moves k r (scrubWord a0 s a2) := by
  unfold scrubWord
  exact (by
 split
 · exact (coreReport_moves _ _ (Moves.update h))
 · exact (coreReport_moves _ _ (coreFaultReg_moves _ _ _ _ (setBankValid_moves _ _ _ h)))
 · exact h)

theorem stopShare_moves (a1 : Nat) (h : Moves k r s) : Moves k r (stopShare s a1) := by
  unfold stopShare
  exact (by
 extract_lets t1 t2
 have h3 : Moves k r t2 := (dropWaitBits_moves _ h)
 exact (Moves.ite h (wr_moves rfl _ _ (modCore_moves _ _ h3))))

theorem clearCounts_moves (a1 : Nat) (h : Moves k r s) : Moves k r (clearCounts s a1) := by
  unfold clearCounts
  exact (wr_moves rfl _ _ (wr_moves rfl _ _ (wr_moves rfl _ _ (wr_moves rfl _ _ (wr_moves rfl _ _ (wr_moves rfl _ _ (wr_moves rfl _ _ (wr_moves rfl _ _ (wr_moves rfl _ _ (wr_moves rfl _ _ (wr_moves rfl _ _ (modCore_moves _ _ h))))))))))))

theorem settleRetired_moves (a1 : Nat) (h : Moves k r s) : Moves k r (settleRetired s a1) := by
  unfold settleRetired
  exact (Moves.ite (wr_moves rfl _ _ h) h)

theorem writeRole_moves (a1 : Nat) (a2 : Nat) (h : Moves k r s) : Moves k r (writeRole s a1 a2) := by
  unfold writeRole
  exact (by
 extract_lets t1
 have h2 : Moves k r t1 := (wr_moves rfl _ _ (wr_moves rfl _ _ h))
 exact (Moves.ite h (Moves.ite (settleRetired_moves _ (wr_moves rfl _ _ (dropNext_moves _ h2))) h2)))

theorem writeEn_moves (a1 : Nat) (a2 : Nat) (h : Moves k r s) : Moves k r (writeEn s a1 a2) := by
  unfold writeEn
  exact (by
 extract_lets t1 t3
 have h2 : Moves k r t1 := (wr_moves rfl _ _ h)
 exact (Moves.ite (Moves.ite h2 (modCore_moves _ _ (wr_moves rfl _ _ h2))) (Moves.ite (modCore_moves _ _ (wr_moves rfl _ _ h2)) h2)))

theorem startValidate_moves (a1 : Nat) (a2 : Nat) (h : Moves k r s) : Moves k r (startValidate s a1 a2) := by
  unfold startValidate
  exact (modCore_moves _ _ h)

theorem invalidate_moves (a1 : Nat) (a2 : Nat) (h : Moves k r s) : Moves k r (invalidate s a1 a2) := by
  unfold invalidate
  exact (Moves.ite (coreRefuse_moves _ _ _ h) (setBankValid_moves _ _ _ h))

theorem writeCoreCtrl_moves (a1 : Nat) (a2 : Nat) (h : Moves k r s) : Moves k r (writeCoreCtrl s a1 a2) := by
  unfold writeCoreCtrl
  exact (by
 extract_lets t1 t2 t4 t6 t8
 have h3 : Moves k r t2 := (wr_moves rfl _ _ h)
 have h5 : Moves k r t4 := (Moves.ite (clearCounts_moves _ h3) h3)
 have h7 : Moves k r t6 := (Moves.ite (invalidate_moves _ _ (Moves.ite (invalidate_moves _ _ h5) h5)) (Moves.ite (invalidate_moves _ _ h5) h5))
 have h9 : Moves k r t8 := (Moves.ite (startValidate_moves _ _ (Moves.ite (startValidate_moves _ _ h7) h7)) (Moves.ite (startValidate_moves _ _ h7) h7))
 exact (writeEn_moves _ _ (writeRole_moves _ _ (Moves.ite (stopShare_moves _ h9) h9))))

theorem clearBanks_moves (a1 : Nat) (h : Moves k r s) : Moves k r (clearBanks s a1) := by
  unfold clearBanks
  exact (by
 extract_lets t1
 exact (setBankValid_moves _ _ _ (setBankValid_moves _ _ _ (Moves.update h))))

theorem clearTests_moves (a1 : Nat) (h : Moves k r s) : Moves k r (clearTests s a1) := by
  unfold clearTests
  exact (by
 extract_lets t1
 exact (Moves.update h))

theorem showMargin_moves (a1 : Nat) (h : Moves k r s) : Moves k r (showMargin s a1) := by
  unfold showMargin
  exact (wr_moves rfl _ _ h)

theorem widenMargin_moves (a1 : Nat) (h : Moves k r s) : Moves k r (widenMargin s a1) := by
  unfold widenMargin
  exact (by
 extract_lets t1
 exact (Moves.ite (coreReport_moves _ _ (hit_moves _ rfl h)) (showMargin_moves _ (wr_moves rfl _ _ h))))

theorem showHazard_moves (h : Moves k r s) : Moves k r (showHazard s) := by
  unfold showHazard
  exact (by
 extract_lets t1 t2
 have h3 : Moves k r t2 := (wr_moves rfl _ _ h)
 exact (Moves.ite (hit_moves _ rfl h3) h3))

theorem spHazard_moves (a1 : Nat) (a2 : Nat) (a3 : Nat) (a4 : Nat) (a5 : Nat) (h : Moves k r s) :
    Moves k r (spHazard s a1 a2 a3 a4 a5) := by
  unfold spHazard
  exact (by
 extract_lets t1 t3 t5
 have h2 : Moves k r t1 := (showHazard_moves (bump_moves _ rfl h))
 have h4 : Moves k r t3 := (Moves.ite h2 (wr_moves rfl _ _ (wr_moves rfl _ _ (wr_moves rfl _ _ (wr_moves rfl _ _ (wr_moves rfl _ _ h2))))))
 exact (Moves.ite (Moves.ite h4 (noteEvent_moves _ _ (coreReport_moves _ _ (modCore_moves _ _ h4)))) (Moves.ite h4 (coreReport_moves _ _ (modCore_moves _ _ h4)))))

theorem readChecked_moves (a1 : Nat) (a2 : RotAcc) (h : Moves k r s) : Moves k r (readChecked s a1 a2) := by
  unfold readChecked
  exact (by
 extract_lets t1
 exact (Moves.ite (Moves.ite (alarmed_moves _ _ _ _ (noteRows_moves _ _ _ h)) h) (Moves.ite (coreReport_moves _ _ (noteRows_moves _ _ _ h)) h)))

theorem serve_moves (a1 : Nat) (a3 : RotAcc) (ha0 : Moves k r a0) (ha2 : Moves k r a2) :
    Moves k r (serve a0 a1 a2 a3) := by
  unfold serve
  exact (by
 extract_lets t1 t3
 have h2 : Moves k r t1 := (Moves.ite ha2 (flipWord_moves _ _ _ ha2))
 exact (by
 split
 · exact (devWrite_moves _ _ _ h2)
 · exact (emit_moves _ (readChecked_moves _ _ h2))))

theorem clearHazard_moves (a1 : Nat) (h : Moves k r s) : Moves k r (clearHazard s a1) := by
  unfold clearHazard
  exact (showHazard_moves (wr_moves rfl _ _ (wr_moves rfl _ _ (wr_moves rfl _ _ (wr_moves rfl _ _ (wr_moves rfl _ _ (wr_moves rfl _ _ h)))))))

theorem requestGroup_moves (a1 : Nat) (a2 : Nat) (a3 : Bool) (h : Moves k r s) :
    Moves k r (requestGroup s a1 a2 a3) := by
  unfold requestGroup
  exact (by
 extract_lets t1
 exact (by
 split
 · exact (Moves.ite (setGroup_moves _ _ _ h) h)
 · exact (Moves.ite h (setGroup_moves _ _ _ h))
 · exact (wr_moves rfl _ _ h)
 · exact h))

theorem zeroGroup_moves (a1 : Nat) (a2 : Nat) (h : Moves k r s) : Moves k r (zeroGroup s a1 a2) := by
  unfold zeroGroup
  exact (Moves.update_mem (fun hm => (memory_wf_memClear _ _ hm)) h)

theorem setDma_moves (a1 : Nat) (a2 : DmaCh) (h : Moves k r s) : Moves k r (setDma s a1 a2) := by
  unfold setDma
  exact (by
 extract_lets t1 t3
 have h2 : Moves k r t1 := (Moves.update h)
 have h4 : Moves k r t3 := (wr_moves rfl _ _ (wr_moves rfl _ _ h2))
 exact (wr_moves rfl _ _ (wr_moves rfl _ _ h4)))

theorem modDma_moves (a1 : Nat) (a2 : DmaCh → DmaCh) (h : Moves k r s) : Moves k r (modDma s a1 a2) := by
  unfold modDma
  exact (setDma_moves _ _ h)

theorem setChState_moves (a1 : Nat) (a2 : Nat) (h : Moves k r s) : Moves k r (setChState s a1 a2) := by
  unfold setChState
  exact (wr_moves rfl _ _ h)

theorem goCh_moves (a1 : Nat) (h : Moves k r s) : Moves k r (goCh s a1) := by
  unfold goCh
  exact (by
 extract_lets t1 t2
 exact (Moves.ite (report_moves _ _ _ h) (Moves.ite (modDma_moves _ _ h) (setChState_moves _ _ (setDma_moves _ _ h)))))

theorem modShare_moves (a1 : Nat) (a2 : Nat) (a3 : Bool) (a4 : Nat) (a5 : Share → Share) (h : Moves k r s) :
    Moves k r (modShare s a1 a2 a3 a4 a5) := by
  unfold modShare
  exact (modStripe_moves _ _ _ h)

theorem sendFragments_moves (a1 a2 : Nat) (a3 : List Byte) (a4 : Nat) (h : Moves k r s) :
    Moves k r (sendFragments s a1 a2 a3 a4) := by
  induction a4 generalizing s a2 a3 with
  | zero => exact h
  | succ n ih => exact ih _ _ (sendDatagram_moves _ _ h)

theorem capture_moves (a1 : Nat) (a2 : List Byte) (h : Moves k r s) : Moves k r (capture s a1 a2) := by
  unfold capture
  exact (by
 extract_lets t1 t2 t3
 have h4 : Moves k r t3 := (Moves.update h)
 exact (Moves.ite (bump_moves _ rfl h) (report_moves _ _ _ (sendFragments_moves _ _ _ _ h4))))

theorem dropShadowOn_moves (a1 : Nat) (h : Moves k r s) : Moves k r (dropShadowOn s a1) := by
  unfold dropShadowOn
  exact (by
 extract_lets t1 t2
 exact (Moves.ite (bump_moves _ rfl (Moves.update h)) h))

theorem dropSliceOn_moves (a1 : Nat) (h : Moves k r s) : Moves k r (dropSliceOn s a1) := by
  unfold dropSliceOn
  exact (by
 split
 · exact (by
 extract_lets t1
 exact (Moves.ite (Moves.update h) h))
 · exact h)

theorem openRings_moves (a1 : Nat) (a2 : Nat) (a3 : Pkg) (h : Moves k r s) : Moves k r (openRings s a1 a2 a3) := by
  unfold openRings
  exact Moves.foldl (fun _ _ h3 => by
    simp only [List.foldl]
    exact setRingX_moves _ _ _ (wr_moves rfl _ _ (wr_moves rfl _ _ (wr_moves rfl _ _ (wr_moves rfl _ _ (wr_moves rfl _ _
      (wr_moves rfl _ _ (wr_moves rfl _ _ (wr_moves rfl _ _ (wr_moves rfl _ _ h3)))))))))) _ h

theorem openCnts_moves (a1 : Nat) (a2 : Pkg) (h : Moves k r s) : Moves k r (openCnts s a1 a2) := by
  unfold openCnts
  exact (Moves.foldl (fun _ _ h1 => (setCnt_moves _ _ _ h1)) _ h)

theorem resetRings_moves (a1 : Nat) (a2 : Nat) (a3 : Pkg) (h : Moves k r s) : Moves k r (resetRings s a1 a2 a3) := by
  unfold resetRings
  exact (openCnts_moves _ _ (openRings_moves _ _ _ h))

theorem wrAll_moves (a1 : Nat) (l : List (Fld × Nat)) (hl : l.all (fun x => x.1.apart) = true) (h : Moves k r s) :
    Moves k r (l.foldl (fun (s : State) (x : Fld × Nat) => wr s x.1 a1 x.2) s) :=
  List.foldlRecOn (motive := fun t => Moves k r t) _ _ h (fun _ ht x hx => wr_moves (List.all_eq_true.1 hl x hx) _ _ ht)

theorem startFetch_moves (a1 : Stripe) (a2 : Pkg) (a3 : Bool) (a4 : Nat) (a5 : Nat) (h : Moves k r s) :
    Moves k r (startFetch s a1 a2 a3 a4 a5) := by
  unfold startFetch
  split
  · exact goCh_moves _ (wrAll_moves _ _ (by split <;> rfl) h)
  · exact h

theorem sendReplay_moves (a1 : Nat) (a2 : Stripe) (a3 : Share) (a4 : Pkg) (a5 : Nat) (a6 : Bool) (h : Moves k r s) :
    Moves k r (sendReplay s a1 a2 a3 a4 a5 a6) := by
  unfold sendReplay
  exact (by
 extract_lets t1 t2 t4 t6 t8
 have h3 : Moves k r t2 := (Moves.ite (dropSliceOn_moves _ (dropShadowOn_moves _ (stopShare_moves _ h))) h)
 have h5 : Moves k r t4 := (startFetch_moves _ _ _ _ _ (resetRings_moves _ _ _ h3))
 have h7 : Moves k r t6 := (bump_moves _ rfl (offerDesc_moves _ _ h5))
 have h9 : Moves k r t8 := (modShare_moves _ _ _ _ _ h7)
 exact (modStripe_moves _ _ _ h9))

theorem withdraw_moves (a1 : Nat) (a2 : Nat) (a3 : Pkg) (a4 : Bool) (a5 : Nat) (h : Moves k r s) :
    Moves k r (withdraw s a1 a2 a3 a4 a5) := by
  unfold withdraw
  exact (by
 split
 · exact h
 · exact (by
 extract_lets t1
 exact (Moves.ite h (Moves.foldl (fun _ _ h2 => (report_moves _ _ _ (sendRecord_moves _ _ _ _ _ _ h2))) _ (modStripe_moves _ _ _ h)))))

theorem replay_moves (a1 : Nat) (a2 : Nat) (a3 : Bool) (a4 : Nat) (h : Moves k r s) :
    Moves k r (replay s a1 a2 a3 a4) := by
  unfold replay
  exact (by
 split
 · exact h
 · exact (by
 extract_lets t1
 have h2 : Moves k r t1 := (withdraw_moves _ _ _ _ _ h)
 exact (Moves.ite (modShare_moves _ _ _ _ _ h2) (by
 split
 · exact (sendReplay_moves _ _ _ _ _ _ h2)
 · exact (Moves.ite h2 (bump_moves _ rfl (report_moves _ _ _ (modShare_moves _ _ _ _ _ h2))))))))

theorem noteWhy_moves (a1 : Nat) (a2 : Nat) (a3 : Nat) (h : Moves k r s) : Moves k r (noteWhy s a1 a2 a3) := by
  unfold noteWhy
  exact (modStripe_moves _ _ _ h)

theorem flagShare_moves (a1 : Writer) (h : Moves k r s) : Moves k r (flagShare s a1) := by
  unfold flagShare
  exact (modShare_moves _ _ _ _ _ h)

theorem mendShare_moves (a1 : Writer) (h : Moves k r s) : Moves k r (mendShare s a1) := by
  unfold mendShare
  exact (Moves.ite (flagShare_moves _ h) (replay_moves _ _ _ _ h))

theorem alarmShare_moves (a1 : Writer) (h : Moves k r s) : Moves k r (alarmShare s a1) := by
  unfold alarmShare
  exact (by
 split
 · exact (modCore_moves _ _ h)
 · exact (Moves.ite (mendShare_moves _ h) h))

theorem serveWaiting_moves (a0 : Nat) (h : Moves k r s) : Moves k r (serveWaiting a0 s) := by
  induction a0 generalizing s with
  | zero => exact h
  | succ n ih =>
    unfold serveWaiting
    split
    · exact h
    · exact Moves.ite h (ih (replay_moves _ _ _ _ h))

theorem remedy_moves (a1 : Nat) (h : Moves k r s) : Moves k r (remedy s a1) := by
  unfold remedy
  exact (by
 extract_lets t1 t2
 exact (Moves.ite (showIslands_moves (wr_moves rfl _ _ h)) (Moves.ite (widenMargin_moves _ h) (report_moves _ _ _ h))))

theorem replayDiscarded_moves (a1 : Option Desc) (h : Moves k r s) : Moves k r (replayDiscarded s a1) := by
  unfold replayDiscarded
  exact (by
 split
 · exact h
 · exact (Moves.ite (replay_moves _ _ _ _ h) h))

theorem retire_moves (a1 : Nat) (h : Moves k r s) : Moves k r (retire s a1) := by
  unfold retire
  exact (by
 extract_lets t1 t2
 have h3 : Moves k r t2 := (wr_moves rfl _ _ (modRec_moves _ _ h))
 exact (report_moves _ _ _ (retile_moves (replayDiscarded_moves _ (writeRole_moves _ _ h3)))))

theorem charge_moves (a1 : Nat) (a2 : Nat) (a3 : Nat) (a4 : Nat) (h : Moves k r s) :
    Moves k r (charge s a1 a2 a3 a4) := by
  unfold charge
  exact (by
 extract_lets t1 t2 t4 t6
 have h3 : Moves k r t2 := (bump_moves _ rfl (quietRestart_moves _ h))
 have h5 : Moves k r t4 := (wr_moves rfl _ _ (recordEvent_moves _ _ _ _ h3))
 have h7 : Moves k r t6 := (modRec_moves _ _ h5)
 exact (Moves.ite (wr_moves rfl _ _ h5) (Moves.ite (report_moves _ _ _ (remedy_moves _ (wr_moves rfl _ _ (wr_moves rfl _ _ h7)))) (Moves.ite h5 (retire_moves _ h5)))))

theorem settleSpares_moves (a1 : Nat) (h : Moves k r s) : Moves k r (settleSpares s a1) := by
  unfold settleSpares
  exact (by
 extract_lets t1
 have h2 : Moves k r t1 := (coreReport_moves _ _ (modCore_moves _ _ h))
 exact (Moves.ite (Moves.ite h2 (retire_moves _ h2)) h))

theorem settleSpareless_moves (h : Moves k r s) : Moves k r (settleSpareless s) := by
  unfold settleSpareless
  exact (Moves.foldl (fun _ _ h1 => (settleSpares_moves _ h1)) _ h)

theorem placeCarry_moves (a1 : Nat) (a2 : Nat) (a3 : Bool) (a4 : Pkg) (h : Moves k r s) :
    Moves k r (placeCarry s a1 a2 a3 a4) := by
  unfold placeCarry
  exact (Moves.foldl (fun _ _ h1 => (wr_moves rfl _ _ (wr_moves rfl _ _ (setRingX_moves _ _ _ h1)))) _ h)

theorem setCarry_moves (a1 : Nat) (a2 : Nat) (a3 : Pkg) (h : Moves k r s) : Moves k r (setCarry s a1 a2 a3) := by
  unfold setCarry
  exact (placeCarry_moves _ _ _ _ h)

theorem restoreHome_moves (a1 : Nat) (a2 : Nat) (a3 : Nat) (a4 : Pkg) (h : Moves k r s) :
    Moves k r (restoreHome s a1 a2 a3 a4) := by
  unfold restoreHome
  exact (modStrm_moves _ _ (setCarry_moves _ _ _ (resetRings_moves _ _ _ h)))

theorem applyReg_moves (a0 : Nat) (a2 : Nat × Nat × Change) (h : Moves k r s) : Moves k r (applyReg a0 s a2) := by
  obtain ⟨a, b, c⟩ := a2
  cases c with
  | reg off v =>
    unfold applyReg
    dsimp only
    cases e : regAt off with
    | none => exact h
    | some q => exact putAll_moves _ _ _ (regAt_apart (n := q.2) e) h
  | rejoin a b => unfold applyReg; exact modStrm_moves _ _ h
  | _ => exact h

theorem applyRegs_moves (a1 : Nat) (a2 : Nat) (a3 : Bool) (h : Moves k r s) : Moves k r (applyRegs s a1 a2 a3) := by
  unfold applyRegs
  exact (by
 extract_lets t1 t2
 exact (Moves.foldl (fun _ _ h3 => (applyReg_moves _ _ h3)) _ (Moves.update h)))

theorem coefErrors_moves (a1 : Nat) (a2 : EndChk) (h : Moves k r s) : Moves k r (coefErrors s a1 a2) := by
  unfold coefErrors
  exact (by
 extract_lets t1
 have h2 : Moves k r t1 := (Moves.foldl (fun _ _ h3 => (report_moves _ _ _ h3)) _ h)
 exact (reportIf_moves _ _ _ _ h2))

theorem checkLength_moves (a1 : Nat) (a2 : Nat) (a3 : Line) (a4 : Nat) (h : Moves k r s) :
    Moves k r (checkLength s a1 a2 a3 a4) := by
  unfold checkLength
  exact (by
 extract_lets t1
 have h2 : Moves k r t1 := (hit_moves _ rfl (bump_moves _ rfl h))
 exact (Moves.ite h (Moves.ite h2 (report_moves _ _ _ (modStrm_moves _ _ h2)))))

theorem noteShading_moves (a1 : Nat) (a2 : Nat) (a3 : Nat) (h : Moves k r s) : Moves k r (noteShading s a1 a2 a3) := by
  unfold noteShading
  exact (by
 extract_lets t1
 exact (Moves.ite h (setCal_moves _ _ h)))

theorem takeRf_moves (a1 : Nat) (a2 : Nat) (a3 : Bool) (h : Moves k r s) : Moves k r (takeRf s a1 a2 a3) := by
  unfold takeRf
  exact (by
 extract_lets t1 t2 t3 t4 t5
 have h6 : Moves k r t5 := (modStrm_moves _ _ (noteShading_moves _ _ _ h))
 exact (Moves.ite h (Moves.ite h6 (changeRecord_moves _ _ _ h6))))

theorem captureLine_moves (a1 : Nat) (a2 : Line) (a3 : Nat) (h : Moves k r s) : Moves k r (captureLine s a1 a2 a3) := by
  unfold captureLine
  exact (by
 extract_lets t1 t2 t3 t4
 exact (by
 split
 · exact h
 · exact (by
 extract_lets t5
 exact (Moves.ite h (setCal_moves _ _ h)))))

theorem showRfBlend_moves (a1 : Nat) (a2 : Nat) (h : Moves k r s) : Moves k r (showRfBlend s a1 a2) := by
  unfold showRfBlend
  exact (wr_moves rfl _ _ h)

theorem poisonWords_moves (a1 : Nat) (a2 : List Nat) (h : Moves k r s) : Moves k r (poisonWords s a1 a2) := by
  unfold poisonWords
  exact (Moves.ite h (Moves.update h))

theorem noteParity_moves (a1 : Nat) (a2 : Nat) (h : Moves k r s) : Moves k r (noteParity s a1 a2) := by
  unfold noteParity
  exact (by
 split
 · exact (Moves.ite (coreReport_moves _ _ (noteRows_moves _ _ _ h)) h)
 · exact h)

theorem busWrite_moves (a1 : Nat) (a2 : List Byte) (a3 : Bool) (h : Moves k r s) : Moves k r (busWrite s a1 a2 a3) := by
  unfold busWrite
  exact (Moves.ite (Moves.update_hostMem (fun hm => (memory_wf_memWrite _ _ hm)) h) (devWrite_moves _ _ _ h))

theorem dramCount_moves (a1 : Nat) (h : Moves k r s) : Moves k r (dramCount s a1) := by
  unfold dramCount
  exact (by
 extract_lets t1 t2 t3 t4 t6
 have h5 : Moves k r t4 := (Moves.update h)
 exact (Moves.ite (report_moves _ _ _ (Moves.update h5)) h5))

theorem dramError_moves (a1 : Nat) (a2 : Nat) (h : Moves k r s) : Moves k r (dramError s a1 a2) := by
  unfold dramError
  exact (dramCount_moves _ (report_moves _ _ _ h))

theorem replayWriters_moves (a1 : List Writer) (h : Moves k r s) : Moves k r (replayWriters s a1) := by
  unfold replayWriters
  exact (Moves.foldl (fun _ _ h1 => (by
 extract_lets t2
 exact (replay_moves _ _ _ _ (Moves.update h1)))) _ h)

theorem takeAnswer_moves (a1 : Nat) (a2 : Answer) (h : Moves k r s) : Moves k r (takeAnswer s a1 a2).1 := by
  induction a2 generalizing s with
  | good => exact h
  | poisoned l => exact h
  | error => exact h
  | refetched x ih => exact ih (report_moves _ _ _ h)
  | parity l ws => exact replayWriters_moves _ (dramError_moves _ _ h)
  | input l => exact dramError_moves _ _ h

theorem failRead_moves (a1 : Nat) (a2 : Nat) (h : Moves k r s) : Moves k r (failRead s a1 a2) := by
  unfold failRead
  exact (by
 split
 · exact h
 · exact (shareEvent_moves _ _ _ _ (modCore_moves _ _ h)))

theorem dmsMap_moves (a1 : Damson → Damson) (h : Moves k r s) : Moves k r (dmsMap s a1) := by
  unfold dmsMap
  exact (Moves.update h)

theorem measMap_moves (a1 : Meas → Meas) (h : Moves k r s) : Moves k r (measMap s a1) := by
  unfold measMap
  exact (dmsMap_moves _ h)

theorem dmsAt_moves (a1 : Nat) (h : Moves k r s) : Moves k r (dmsAt s a1) := by
  unfold dmsAt
  exact (dmsMap_moves _ h)

theorem dmsReport_moves (a1 : Nat) (h : Moves k r s) : Moves k r (dmsReport s a1) := by
  unfold dmsReport
  exact (report_moves _ _ _ (wr_moves rfl _ _ h))

theorem dmsShow_moves (h : Moves k r s) : Moves k r (dmsShow s) := by
  unfold dmsShow
  exact (wr_moves rfl _ _ (wr_moves rfl _ _ h))

theorem metSend_moves (a1 : List Byte) (h : Moves k r s) : Moves k r (metSend s a1) := by
  unfold metSend
  exact (emit_moves _ h)

theorem dmsReply_moves (a1 : Nat) (a2 : Nat) (a3 : Nat) (h : Moves k r s) : Moves k r (dmsReply s a1 a2 a3) := by
  unfold dmsReply
  exact (metSend_moves _ (wr_moves rfl _ _ (wr_moves rfl _ _ h)))

theorem dmsRefuse_moves (a1 : Nat) (a2 : Nat) (h : Moves k r s) : Moves k r (dmsRefuse s a1 a2) := by
  unfold dmsRefuse
  exact (dmsReply_moves _ _ _ (dmsReport_moves _ h))

theorem signRecord_moves (a1 : List Byte) (h : Moves k r s) : Moves k r (signRecord s a1).2 := by
  unfold signRecord
  exact (by
 split
 · 
   rename_i v2 v3 e4
   have h1 := Moves.of_eq2 e4 (fresh_moves h)
   exact (Moves.mk2 h1))

theorem makeRecordKey_moves (h : Moves k r s) : Moves k r (makeRecordKey s) := by
  unfold makeRecordKey
  exact (Moves.ite h (by
 split
 · 
   rename_i v2 v3 e4
   have h1 := Moves.of_eq2 e4 (fresh_moves h)
   exact (by
 extract_lets t5
 exact (dmsMap_moves _ h1))))

theorem issueRecords_moves (a1 : Meas) (h : Moves k r s) : Moves k r (issueRecords s a1) := by
  unfold issueRecords
  exact (by
 extract_lets t1 t2 t3 t4 t5 t6 t7
 exact (by
 split
 · 
   rename_i v9 v10 e11
   have h8 := Moves.of_eq2 e11 (signRecord_moves _ h)
   exact (by
 split
 · 
   rename_i v13 v14 e15
   have h12 := Moves.of_eq2 e15 (signRecord_moves _ h8)
   exact (by
 extract_lets t16 t18
 have h17 : Moves k r t16 := (dmsMap_moves _ h12)
 have h19 : Moves k r t18 := (metSend_moves _ (metSend_moves _ h17))
 exact (dmsShow_moves (Moves.ite (dmsReport_moves _ h19) h19))))))

theorem endMeas_moves (h : Moves k r s) : Moves k r (endMeas s) := by
  unfold endMeas
  exact (by
 split
 · exact h
 · exact (issueRecords_moves _ h))

theorem tapSend_moves (a1 : List Byte) (h : Moves k r s) : Moves k r (tapSend s a1) := by
  unfold tapSend
  exact (Moves.ite h (dmsMap_moves _ h))

theorem tapGap_moves (h : Moves k r s) : Moves k r (tapGap s) := by
  unfold tapGap
  exact (measMap_moves _ h)

theorem tapDiscard_moves (h : Moves k r s) : Moves k r (tapDiscard s) := by
  unfold tapDiscard
  exact (dmsReport_moves _ (tapGap_moves h))

theorem dmsPulse_moves (a1 : Bool) (h : Moves k r s) : Moves k r (dmsPulse s a1) := by
  unfold dmsPulse
  exact (by
 extract_lets t1
 exact (dmsMap_moves _ h))

theorem tapTake_moves {a1 : List Nat} {a2 : Nat → Bool} {p : List Byte × State} (e : tapTake s a1 a2 = some p)
    (h : Moves k r s) : Moves k r p.2 := by
  unfold tapTake at e
  split at e
  · cases e
  · dsimp only at e
    split at e
    · obtain rfl := Option.some.inj e
      dsimp only
      exact dmsMap_moves _ h
    · cases e

theorem dmsCmd_moves (a0 : DmsFrame) (a1 : Nat) {a3 : List Byte → State → State}
    (ha3 : ∀ x0 x1, Moves k r x1 → Moves k r (a3 x0 x1)) (h : Moves k r s) : MovesO k r (dmsCmd a0 a1 s a3) := by
  unfold dmsCmd
  extract_lets act
  have hact : ∀ b t, Moves k r t → MovesO k r (act b t s) := fun b t ht =>
    MovesO.ite (ok_moves (ha3 _ _ (dmsAt_moves _ ht))) (MovesO.ite (ok_moves h) (ok_moves (dmsRefuse_moves _ _ (dmsAt_moves _ ht))))
  clear_value act
  refine MovesO.ite (ok_moves h) ?_
  split
  · split
    · exact ok_moves h
    · exact hact _ _ h
  · split
    · exact ok_moves h
    · have h1 := tapTake_moves (by assumption) h
      exact MovesO.ite (ok_moves (tapDiscard_moves (dmsAt_moves _ h1))) (hact _ _ h1)

theorem auditWrite_moves (a1 : DmsChange) (a2 : Nat) (a3 : List Byte) (h : Moves k r s) :
    Moves k r (auditWrite s a1 a2 a3) := by
  unfold auditWrite
  exact (by
 extract_lets t1 t2
 have h3 : Moves k r t2 := (dmsMap_moves _ h)
 exact (wr_moves rfl _ _ h3))

theorem showDigest_moves (h : Moves k r s) : Moves k r (showDigest s) := by
  unfold showDigest
  exact (Moves.foldl (fun _ _ h1 => (by
 extract_lets t2 t3
 have h4 : Moves k r t3 := (wr_moves rfl _ _ h1)
 exact (Moves.ite (modStrm_moves _ _ h4) h4))) _ h)

theorem finishChange_moves (h : Moves k r s) : Moves k r (finishChange s) := by
  unfold finishChange
  exact (by
 split
 · exact h
 · exact (by
 extract_lets t1 t3
 have h2 : Moves k r t1 := (dmsMap_moves _ h)
 have h4 : Moves k r t3 := (Moves.ite (showDigest_moves h2) h2)
 exact (dmsReport_moves _ (wr_moves rfl _ _ h4))))

theorem dmsPowerOff_moves (h : Moves k r s) : Moves k r (dmsPowerOff s) :=
  List.foldlRecOn (motive := fun t => Moves k r t) _ _ (dmsMap_moves _ h) (fun _ ht x hx =>
    wr_moves (List.all_eq_true.1 (show dmsVolatile.all Fld.apart = true by decide) x hx) _ _ ht)

theorem dmsStart_moves (a1 : Bool) (a2 : Bool) (h : Moves k r s) : Moves k r (dmsStart s a1 a2) := by
  unfold dmsStart
  exact (by
 extract_lets t1 t2 t3 t4 t6 t8 t9 t11 t12 t14 t17
 have h5 : Moves k r t4 := (dmsMap_moves _ h)
 have h7 : Moves k r t6 := (Moves.ite h5 (dmsReport_moves _ h5))
 have h10 : Moves k r t9 := (dmsMap_moves _ h7)
 have h13 : Moves k r t12 := (wr_moves rfl _ _ (wr_moves rfl _ _ h10))
 have h15 : Moves k r t14 := (Moves.foldl (fun _ _ h16 => (wr_moves rfl _ _ h16)) _ h13)
 have h18 : Moves k r t17 := (finishChange_moves (wr_moves rfl _ _ (wr_moves rfl _ _ (wr_moves rfl _ _ h15))))
 exact (Moves.ite (wr_moves rfl _ _ h7) (by
 split
 · exact (dmsShow_moves h18)
 · exact (dmsReport_moves _ (issueRecords_moves _ h18)))))

theorem adjSeen_moves (a1 : Bool) (a2 : Nat) (h : Moves k r s) : Moves k r (adjSeen s a1 a2) := by
  unfold adjSeen
  exact (by
 extract_lets t1
 have h2 : Moves k r t1 := (dmsAt_moves _ h)
 exact (wr_moves rfl _ _ (Moves.ite h2 (dmsMap_moves _ h2))))

theorem secMap_moves (a1 : Sec → Sec) (h : Moves k r s) : Moves k r (secMap s a1) := by
  unfold secMap
  exact (Moves.update h)

theorem showFw_moves (a1 : Nat) (h : Moves k r s) : Moves k r (showFw s a1) := by
  unfold showFw
  exact (by
 extract_lets t1 t2
 have h3 : Moves k r t2 := (wr_moves rfl _ _ (wr_moves rfl _ _ (wr_moves rfl _ _ h)))
 exact (wr_moves rfl _ _ (wr_moves rfl _ _ h3)))

theorem writeFirmware_moves (a1 : Nat) (a2 : List Byte) (h : Moves k r s) : Moves k r (writeFirmware s a1 a2).1 := by
  unfold writeFirmware
  exact (by
 extract_lets t1 t2 t3 t5
 have h4 : Moves k r t3 := (secMap_moves _ h)
 have h6 : Moves k r t5 := (wr_moves rfl _ _ h4)
 exact (Moves.ite1 (Moves.mk1 (report_moves _ _ _ h)) (Moves.ite1 (Moves.mk1 h6) (Moves.mk1 (report_moves _ _ _ h6)))))

theorem raiseRollback_moves (a1 : Nat) (a2 : Bool) (h : Moves k r s) : Moves k r (raiseRollback s a1 a2) := by
  unfold raiseRollback
  exact (Moves.ite h (Moves.ite (report_moves _ _ _ (secMap_moves _ (wr_moves rfl _ _ h))) (report_moves _ _ _ (secMap_moves _ h))))

theorem noteUnsigned_moves (a1 : Image) (a2 : Nat) (h : Moves k r s) : Moves k r (noteUnsigned s a1 a2) := by
  unfold noteUnsigned
  exact (reportIf_moves _ _ _ _ h)

theorem setLifecycle_moves (a1 : Nat) (a2 : Bool) (h : Moves k r s) : Moves k r (setLifecycle s a1 a2) := by
  unfold setLifecycle
  exact (by
 extract_lets t1 t3 t5 t6
 have h2 : Moves k r t1 := (secMap_moves _ (wr_moves rfl _ _ h))
 have h4 : Moves k r t3 := (wr_moves rfl _ _ h2)
 have h7 : Moves k r t6 := (Moves.ite (Moves.update h4) h2)
 exact (Moves.ite (secMap_moves _ h) (report_moves _ _ _ (logChange_moves _ h7))))

theorem burnKey_moves (a1 : Nat) (a2 : List Byte) (h : Moves k r s) : Moves k r (burnKey s a1 a2) := by
  unfold burnKey
  exact (secMap_moves _ (wr_moves rfl _ _ h))

theorem doKey_moves (a1 : KeyOp) (a2 : Bool) (h : Moves k r s) : Moves k r (doKey s a1 a2) := by
  unfold doKey
  exact (by
 split
 · exact (burnKey_moves _ _ h)
 · exact (wr_moves rfl _ _ h)
 · exact (wr_moves rfl _ _ (secMap_moves _ h))
 · exact (by
 extract_lets t1 t3
 have h2 : Moves k r t1 := (wr_moves rfl _ _ (secMap_moves _ h))
 exact (Moves.update h2))
 · exact (setLifecycle_moves _ _ h))

theorem applyKey_moves (a1 : KeyCmd) (a2 : Bool) (h : Moves k r s) : Moves k r (applyKey s a1 a2).1 := by
  unfold applyKey
  exact (by
 split
 · exact (Moves.mk1 (report_moves _ _ _ (doKey_moves _ _ (secMap_moves _ h))))
 · exact (Moves.mk1 (report_moves _ _ _ h)))

theorem submitRefused_moves (h : Moves k r s) : Moves k r (submitRefused s) := by
  unfold submitRefused
  exact (report_moves _ _ _ h)

theorem wrongTry_moves (h : Moves k r s) : Moves k r (wrongTry s) := by
  unfold wrongTry
  exact (by
 extract_lets t1 t2 t4
 have h3 : Moves k r t2 := (report_moves _ _ _ h)
 have h5 : Moves k r t4 := (bump_moves _ rfl (wr_moves rfl _ _ h3))
 exact (Moves.ite (wr_moves rfl _ _ h3) (report_moves _ _ _ (secMap_moves _ (wr_moves rfl _ _ h5)))))

theorem reopen_moves (a1 : Nat) (h : Moves k r s) : Moves k r (reopen s a1) := by
  unfold reopen
  exact (by
 extract_lets t1 t3
 have h2 : Moves k r t1 := (wr_moves rfl _ _ (wr_moves rfl _ _ h))
 have h4 : Moves k r t3 := (wrIf_moves _ _ _ rfl h2)
 exact (report_moves _ _ _ (wrIf_moves _ _ _ rfl h4)))

theorem submitPw_moves (a1 : Nat) (h : Moves k r s) : Moves k r (submitPw s a1) := by
  unfold submitPw
  exact (by
 extract_lets t1
 have h2 : Moves k r t1 := (secMap_moves _ h)
 exact (Moves.ite h (Moves.ite (submitRefused_moves h) (Moves.ite (reopen_moves _ h2) (wrongTry_moves h2)))))

theorem submitCr_moves (a1 : Nat) (h : Moves k r s) : Moves k r (submitCr s a1) := by
  unfold submitCr
  exact (by
 extract_lets t1
 have h2 : Moves k r t1 := (secMap_moves _ h)
 exact (Moves.ite h (Moves.ite (submitRefused_moves h) (Moves.ite (secMap_moves _ (reopen_moves _ (wr_moves rfl _ _ h2))) (wrongTry_moves h2)))))

theorem entropy_moves (a1 : Nat) (h : Moves k r s) : Moves k r (entropy s a1).2 := by
  induction a1 generalizing s with
  | zero => exact h
  | succ n ih => exact ih (fresh_moves h)

theorem drawNonce_moves (h : Moves k r s) : Moves k r (drawNonce s) := by
  unfold drawNonce
  exact (by
 extract_lets t1
 have h2 : Moves k r t1.2 := (entropy_moves _ h)
 exact (secMap_moves _ h2))

theorem closeAccess_moves (h : Moves k r s) : Moves k r (closeAccess s) := by
  unfold closeAccess
  exact (Moves.ite (report_moves _ _ _ (wr_moves rfl _ _ (wr_moves rfl _ _ h))) h)

theorem writeAccess_moves (a0 : Wr) (a1 : Nat) (h : Moves k r s) : Moves k r (writeAccess a0 a1 s) := by
  unfold writeAccess
  exact (gate_moves _ _ _ (fun _ _ h1 => (by
 extract_lets t2 t3 t5 t7 t9
 have h4 : Moves k r t3 := (putAll_moves _ _ _ rfl h1)
 have h6 : Moves k r t5 := (Moves.ite (submitPw_moves _ h4) h4)
 have h8 : Moves k r t7 := (Moves.ite (submitCr_moves _ h6) h6)
 have h10 : Moves k r t9 := (Moves.ite (drawNonce_moves h8) h8)
 exact (Moves.ite h1 (Moves.ite (closeAccess_moves h10) h10)))) h)

theorem invasive_moves {a1 : State → State} (ha1 : ∀ x0, Moves k r x0 → Moves k r (a1 x0)) (h : Moves k r s) :
    Moves k r (invasive s a1) := by
  unfold invasive
  exact (Moves.ite (ha1 _ h) (submitRefused_moves h))

theorem haltCore_moves (a1 : Nat) (h : Moves k r s) : Moves k r (haltCore s a1) := by
  unfold haltCore
  exact (Moves.ite h (modCore_moves _ _ (stopShare_moves _ h)))

theorem postRecord_moves (a1 : Nat) (a2 : Nat) (h : Moves k r s) : Moves k r (postRecord s a1 a2) := by
  unfold postRecord
  exact (by
 extract_lets t1 t2 t3
 exact (emit_moves _ (Moves.update h)))

theorem savePos_moves (a1 : Nat) (h : Moves k r s) : Moves k r (savePos s a1) := by
  unfold savePos
  exact (by
 extract_lets t1 t2 t4
 have h3 : Moves k r t2 := (wr_moves rfl _ _ (wr_moves rfl _ _ h))
 have h5 : Moves k r t4 := (Moves.foldl (fun _ _ h6 => (wr_moves rfl _ _ h6)) _ h3)
 exact (wr_moves rfl _ _ h5))

theorem noteFault_moves (a1 : Nat) (a2 : Nat) (a3 : Nat) (a4 : Nat) (h : Moves k r s) :
    Moves k r (noteFault s a1 a2 a3 a4) := by
  unfold noteFault
  exact (by
 extract_lets t1 t3
 have h2 : Moves k r t1 := (modDma_moves _ _ h)
 have h4 : Moves k r t3 := (wr_moves rfl _ _ (wr_moves rfl _ _ h2))
 exact (wr_moves rfl _ _ (wr_moves rfl _ _ h4)))

theorem haltCh_moves (a1 : Nat) (a2 : Nat) (a3 : Nat) (a4 : Nat) (h : Moves k r s) :
    Moves k r (haltCh s a1 a2 a3 a4) := by
  unfold haltCh
  exact (by
 extract_lets t1 t3 t5
 have h2 : Moves k r t1 := (noteFault_moves _ _ _ _ h)
 have h4 : Moves k r t3 := (setChState_moves _ _ (modDma_moves _ _ h2))
 have h6 : Moves k r t5 := (savePos_moves _ (wr_moves rfl _ _ h4))
 exact (Moves.ite (report_moves _ _ _ (wr_moves rfl _ _ h2)) (Moves.ite (report_moves _ _ _ h2) (postRecord_moves _ _ (report_moves _ _ _ (bump_moves _ rfl h6))))))

theorem countStep_moves (a1 : Nat) (h : Moves k r s) : Moves k r (countStep s a1) := by
  unfold countStep
  exact (bump_moves _ rfl (modDma_moves _ _ h))

theorem dmaIssue_moves (a1 : Nat) (a2 : Bool) (a3 : Nat → Bool) {a4 : State → DmaStart → Nat → State}
    (ha4 : ∀ x0 x1 x2, Moves k r x0 → Moves k r (a4 x0 x1 x2)) (h : Moves k r s) :
    Moves k r (dmaIssue s a1 a2 a3 a4) := by
  unfold dmaIssue
  exact (by
 extract_lets t1
 exact (by
 split
 · exact h
 · exact (by
 extract_lets t2
 exact (Moves.ite h (Moves.ite (haltCh_moves _ _ _ _ h) (Moves.ite (haltCh_moves _ _ _ _ h) (Moves.ite (haltCh_moves _ _ _ _ (noteParity_moves _ _ h)) (Moves.ite h (Moves.ite (ha4 _ _ _ h) (Moves.ite (haltCh_moves _ _ _ _ h) (ha4 _ _ _ h)))))))))))

theorem beginStep_moves (a1 : Nat) (h : Moves k r s) : Moves k r (beginStep s a1) := by
  unfold beginStep
  exact (Moves.ite h (countStep_moves _ (modDma_moves _ _ h)))

theorem stepOn_moves (a1 : Nat) (a2 : DmaCh → DmaCh) (h : Moves k r s) : Moves k r (stepOn s a1 a2) := by
  unfold stepOn
  exact (modDma_moves _ _ (beginStep_moves _ h))

theorem waitOn_moves (a1 : Nat) (a2 : DmaWait) (h : Moves k r s) : Moves k r (waitOn s a1 a2) := by
  unfold waitOn
  exact (setChState_moves _ _ (modDma_moves _ _ (beginStep_moves _ h)))

theorem takeCredit_moves (a1 : Nat) (a2 : Nat) (a3 : Bool) (h : Moves k r s) : Moves k r (takeCredit s a1 a2 a3) := by
  unfold takeCredit
  exact (Moves.ite (wr_moves rfl _ _ h) h)

theorem signal_moves (a1 : Nat) (a2 : Option (Nat × Nat)) (a3 : Nat) (h : Moves k r s) :
    Moves k r (signal s a1 a2 a3) := by
  unfold signal
  exact (stepOn_moves _ _ h)

theorem takeNext_moves (a1 : Nat) (h : Moves k r s) : Moves k r (takeNext s a1) := by
  unfold takeNext
  exact (by
 extract_lets t1 t2
 exact (by
 split
 · exact (by
 extract_lets t3
 exact (setChState_moves _ _ (setDma_moves _ _ h)))
 · exact (setChState_moves _ _ (setDma_moves _ _ h))))

theorem dropWant_moves (a1 : Nat) (a2 : DmaCh) (h : Moves k r s) : Moves k r (dropWant s a1 a2) := by
  unfold dropWant
  exact (by
 split
 · exact h
 · exact (by
 extract_lets t1 t2
 exact (Moves.ite h (wr_moves rfl _ _ (setRingX_moves _ _ _ h)))))

theorem withdrawSlots_moves (a1 : Nat) (a2 : DmaCh) (h : Moves k r s) : Moves k r (withdrawSlots s a1 a2) := by
  unfold withdrawSlots
  exact (Moves.foldl (fun _ _ h1 => (by
 extract_lets t2
 exact (Moves.ite (wr_moves rfl _ _ (setRingX_moves _ _ _ h1)) h1))) _ h)

theorem stopChain_moves (a1 : Nat) (h : Moves k r s) : Moves k r (stopChain s a1) := by
  unfold stopChain
  exact (by
 extract_lets t1
 exact (Moves.update h))

theorem stopDependent_moves (a1 : Nat × Desc) (h : Moves k r s) : Moves k r (stopDependent s a1) := by
  unfold stopDependent
  exact (by
 extract_lets t1
 exact (Moves.ite (modCore_moves _ _ (stopShare_moves _ h)) (Moves.ite (mendShare_moves _ (dropNext_moves _ h)) h)))

theorem endCancel_moves (a1 : Nat) (h : Moves k r s) : Moves k r (endCancel s a1) := by
  unfold endCancel
  exact (setChState_moves _ _ (modDma_moves _ _ (wr_moves rfl _ _ (postRecord_moves _ _ h))))

theorem cancelCh_moves (a1 : Nat) (h : Moves k r s) : Moves k r (cancelCh s a1) := by
  unfold cancelCh
  exact (by
 extract_lets t1 t2 t3 t6 t8
 have h4 : Moves k r t3 := (Moves.ite (Moves.foldl (fun _ _ h5 => (stopDependent_moves _ h5)) _ h) h)
 have h7 : Moves k r t6 := (stopChain_moves _ (withdrawSlots_moves _ _ h4))
 have h9 : Moves k r t8 := (modDma_moves _ _ h7)
 exact (Moves.ite h (Moves.ite (endCancel_moves _ h9) (setChState_moves _ _ h9))))

theorem answerHalts_moves (h : Moves k r s) : Moves k r (answerHalts s) := by
  unfold answerHalts
  exact (Moves.foldl (fun _ _ h1 => (Moves.ite (cancelCh_moves _ h1) h1)) _ h)

theorem resumeCh_moves (a1 : Nat) (h : Moves k r s) : Moves k r (resumeCh s a1) := by
  unfold resumeCh
  exact (Moves.ite (setChState_moves _ _ (wr_moves rfl _ _ (modDma_moves _ _ h))) (report_moves _ _ _ h))

theorem writeDmaCtrl_moves (a1 : Nat) (a2 : Nat) (h : Moves k r s) : Moves k r (writeDmaCtrl s a1 a2) := by
  unfold writeDmaCtrl
  exact (by
 extract_lets t1 t3 t5
 have h2 : Moves k r t1 := (Moves.ite (wr_moves rfl _ _ (wr_moves rfl _ _ (wr_moves rfl _ _ (wr_moves rfl _ _ h)))) h)
 have h4 : Moves k r t3 := (Moves.ite (cancelCh_moves _ h2) h2)
 have h6 : Moves k r t5 := (Moves.ite (resumeCh_moves _ h4) h4)
 exact (Moves.ite (goCh_moves _ h6) h6))

theorem dmaCtrl_moves (a0 : Wr) (a1 : Nat) (h : Moves k r s) : Moves k r (dmaCtrl a0 a1 s) := by
  unfold dmaCtrl
  exact (gate_moves _ _ _ (fun _ _ h1 => (Moves.ite (writeDmaCtrl_moves _ _ h1) h1)) h)

theorem wake_moves (a1 : Nat) (a2 : Bool) (h : Moves k r s) : Moves k r (wake s a1 a2) := by
  unfold wake
  exact (setChState_moves _ _ (modDma_moves _ _ h))

theorem segEntry_moves (a1 : Nat) (a2 : Nat) (h : Moves k r s) : Moves k r (segEntry s a1 a2).2 := by
  unfold segEntry
  exact (by
 extract_lets t1 t2 t3
 exact (by
 split
 · exact (Moves.ite2 (Moves.mk2 (Moves.update h)) (Moves.mk2 h))
 · exact (Moves.mk2 h)))

theorem translate_moves (a1 : Nat) (a2 : Nat) (h : Moves k r s) : Moves k r (translate s a1 a2).2 := by
  unfold translate
  exact (by
 split
 · 
   rename_i v2 e3
   have h1 := Moves.of_eq2 e3 (segEntry_moves _ _ h)
   exact (Moves.mk2 h1)
 · 
   rename_i v4 v5 e6
   have h1 := Moves.of_eq2 e6 (segEntry_moves _ _ h)
   exact (Moves.mk2 h1))

theorem haltSeg_moves (a1 : Nat) (a2 : Nat) (h : Moves k r s) : Moves k r (haltSeg s a1 a2) := by
  unfold haltSeg
  exact (by
 extract_lets t1
 have h2 : Moves k r t1 := (bump_moves _ rfl (haltCh_moves _ _ _ _ h))
 exact (queueEvent_moves _ _ (wr_moves rfl _ _ h2)))

theorem issuePiece_moves (a1 : Nat) (a2 : DmaStart) (a3 : Nat) (a4 : Nat) (a5 : Nat) (a6 : Bool)
    (a7 : PieceKind) (a8 : Bool) (a9 : DmaCh → DmaCh) (h : Moves k r s) :
    Moves k r (issuePiece s a1 a2 a3 a4 a5 a6 a7 a8 a9) := by
  unfold issuePiece
  exact (by
 extract_lets t1
 exact (Moves.ite (haltCh_moves _ _ _ _ h) (Moves.ite (haltCh_moves _ _ _ _ h) (Moves.ite (haltCh_moves _ _ _ _ h) (Moves.ite h (modDma_moves _ _ (beginStep_moves _ h)))))))

theorem withSource_moves (a1 : Nat) (a2 : Nat) (a3 : Bool) {a4 : State → Nat → State}
    (ha4 : ∀ x0 x1, Moves k r x0 → Moves k r (a4 x0 x1)) (h : Moves k r s) :
    Moves k r (withSource s a1 a2 a3 a4) := by
  unfold withSource
  exact (Moves.ite (ha4 _ _ h) (by
 split
 · 
   rename_i v2 v3 e4
   have h1 := Moves.of_eq2 e4 (translate_moves _ _ h)
   exact (ha4 _ _ h1)
 · 
   rename_i v5 e6
   have h1 := Moves.of_eq2 e6 (translate_moves _ _ h)
   exact (haltSeg_moves _ _ h1)
 · 
   rename_i v7 e8
   have h1 := Moves.of_eq2 e8 (translate_moves _ _ h)
   exact (haltCh_moves _ _ _ _ h1)))

theorem movePlain_moves (a1 : Nat) (a2 : DmaStart) (a3 : Nat) (a4 : Nat) (a5 : Nat) (a6 : Bool) (h : Moves k r s) :
    Moves k r (movePlain s a1 a2 a3 a4 a5 a6) := by
  unfold movePlain
  exact (by
 extract_lets t1 t2 t3 t4
 exact (by
 split
 · exact (haltCh_moves _ _ _ _ h)
 · exact (withSource_moves _ _ _ (fun _ _ h5 => (issuePiece_moves _ _ _ _ _ _ _ _ _ h5)) h)))

theorem moveRing_moves (a1 : Nat) (a2 : DmaStart) (a3 : Nat) (a4 : Nat) (a5 : Nat) (a6 : Bool) (h : Moves k r s) :
    Moves k r (moveRing s a1 a2 a3 a4 a5 a6) := by
  unfold moveRing
  exact (by
 extract_lets t1 t2 t3 t4 t5 t8 t12
 have h6 : ∀ x0, Moves k r x0 → Moves k r (t5 x0) := by
  unfold t5
  exact (fun _ h7 => (modDma_moves _ _ h7))
 have h9 : ∀ x0 x1, Moves k r x0 → Moves k r (t8 x0 x1) := by
  unfold t8
  exact (fun _ _ h10 => (withSource_moves _ _ _ (fun _ _ h11 => (issuePiece_moves _ _ _ _ _ _ _ _ _ h11)) h10))
 have h13 : Moves k r t12 := (h6 _ (reserve_moves _ _ h))
 exact (Moves.ite (haltCh_moves _ _ _ _ h) (Moves.ite (haltCh_moves _ _ _ _ h) (Moves.ite (haltCh_moves _ _ _ _ h) (by
 split
 · exact (haltCh_moves _ _ _ _ h)
 · exact (Moves.ite (waitOn_moves _ _ (h6 _ (coreReport_moves _ _ h))) (by
 split
 · exact (h9 _ _ h)
 · exact (Moves.ite (by
 split
 · exact (h9 _ _ h13)
 · exact h13) (waitOn_moves _ _ (h6 _ (wantSlot_moves _ _ h)))))))))))

theorem moveChain_moves (a1 : Nat) (a2 : DmaStart) (a3 : Nat) (a4 : Nat) (a5 : Nat) (a6 : Bool) (h : Moves k r s) :
    Moves k r (moveChain s a1 a2 a3 a4 a5 a6) := by
  unfold moveChain
  exact (by
 extract_lets t1 t2 t3 t4 t5 t6 t7 t8
 exact (Moves.ite (haltCh_moves _ _ _ _ h) (Moves.ite (haltCh_moves _ _ _ _ h) (by
 split
 · exact (haltCh_moves _ _ _ _ h)
 · exact (Moves.ite (waitOn_moves _ _ h) (withSource_moves _ _ _ (fun _ _ h9 => (by
 extract_lets t10 t12
 have h11 : Moves k r t10 := (issuePiece_moves _ _ _ _ _ _ _ _ _ h9)
 have h13 : Moves k r t12 := (Moves.ite (Moves.update h11) h11)
 exact (Moves.ite h11 (Moves.update h13)))) h))))))

theorem fetchIndex_moves (a1 : Nat) (a2 : Nat) (h : Moves k r s) : Moves k r (fetchIndex s a1 a2) := by
  unfold fetchIndex
  exact (by
 extract_lets t1 t2 t3
 exact (Moves.ite h (modDma_moves _ _ (beginStep_moves _ h))))

theorem moveElem_moves (a1 : Nat) (a2 : DmaStart) (a3 : Nat) (a4 : Nat × Bool) (h : Moves k r s) :
    Moves k r (moveElem s a1 a2 a3 a4) := by
  unfold moveElem
  exact (by
 extract_lets t1 t2 t3 t4 t5
 have h6 : Moves k r t5 := (issuePiece_moves _ _ _ _ _ _ _ _ _ h)
 exact (Moves.ite (haltCh_moves _ _ _ _ (beginStep_moves _ h)) (Moves.ite h6 (countStep_moves _ h6))))

theorem retirePiece_moves (a1 : Nat) (a2 : Nat) (a3 : Piece) (a4 : List Byte) (a5 : Bool) (h : Moves k r s) :
    Moves k r (retirePiece s a1 a2 a3 a4 a5) := by
  unfold retirePiece
  exact (by
 extract_lets t1 t2
 have h3 : Moves k r t2 := (modDma_moves _ _ h)
 exact (bumpBy_moves _ _ rfl h3))

theorem landSlot_moves (a1 : Nat) (a2 : Nat) (a3 : Nat) (a4 : Piece) (a5 : Nat) (a6 : List Byte) (a7 : List Nat)
    (h : Moves k r s) :
    Moves k r (landSlot s a1 a2 a3 a4 a5 a6 a7) := by
  unfold landSlot
  exact (by
 extract_lets t1 t2 t5
 have h3 : Moves k r t2 := (Moves.foldl (fun _ _ h4 => (poisonWords_moves _ _ h4)) _ (writeSlot_moves _ _ _ _ _ h))
 have h6 : Moves k r t5 := (setRingX_moves _ _ _ h3)
 exact (Moves.ite (setRingX_moves _ _ _ h3) (Moves.ite (coreReport_moves _ _ h6) (settleSlots_moves _ _ h6))))

theorem leaveChain_moves (a1 : Nat) (h : Moves k r s) : Moves k r (leaveChain s a1) := by
  unfold leaveChain
  exact (Moves.update h)

theorem losePiece_moves (a1 : Nat) (a2 : Nat) (a3 : Piece) (h : Moves k r s) : Moves k r (losePiece s a1 a2 a3) := by
  unfold losePiece
  exact (leaveChain_moves _ (modDma_moves _ _ h))

theorem failPiece_moves (a1 : Nat) (a2 : Nat) (a3 : Nat) (a4 : Piece) (a5 : Bool) (h : Moves k r s) :
    Moves k r (failPiece s a1 a2 a3 a4 a5) := by
  unfold failPiece
  exact (by
 extract_lets t1 t2 t4
 have h3 : Moves k r t2 := (losePiece_moves _ _ _ h)
 have h5 : Moves k r t4 := (haltCh_moves _ _ _ _ h3)
 exact (Moves.ite (dramCount_moves _ h5) h5))

theorem landPiece_moves (a1 : Nat) (a2 : Piece) (a3 : List Byte) (a4 : List Nat) (h : Moves k r s) :
    Moves k r (landPiece s a1 a2 a3 a4) := by
  unfold landPiece
  exact (by
 split
 · exact (poisonWords_moves _ _ (busWrite_moves _ _ _ h))
 · exact (landSlot_moves _ _ _ _ _ _ _ h)
 · exact (by
 split
 · exact h
 · exact (by
 extract_lets t1
 exact (leaveChain_moves _ (Moves.foldl (fun _ _ h2 => (poisonWords_moves _ _ h2)) _ h))))
 · exact (Moves.ite h (modDma_moves _ _ h)))

theorem showMap_moves (a1 : Nat) (a2 : BandMap) (h : Moves k r s) : Moves k r (showMap s a1 a2) := by
  unfold showMap
  exact (by
 extract_lets t1 t2 t4
 have h3 : Moves k r t2 := (wr_moves rfl _ _ (wr_moves rfl _ _ h))
 have h5 : Moves k r t4 := (wr_moves rfl _ _ h3)
 exact (wr_moves rfl _ _ (wr_moves rfl _ _ h5)))

theorem handoverSwitch_moves (h : Moves k r s) : Moves k r (handoverSwitch s) := by
  unfold handoverSwitch
  exact (by
 extract_lets t1 t2
 have h3 : Moves k r t2 := (Moves.update h)
 exact (Moves.ite (resendJournal_moves (showFw_moves _ (wr_moves rfl _ _ (wr_moves rfl _ _ h3)))) h))

theorem boundaryRecords_moves (a1 : Nat) (a2 : Nat) (a3 : Bool) (a4 : Bool) (a5 : Bool) (h : Moves k r s) :
    Moves k r (boundaryRecords s a1 a2 a3 a4 a5) := by
  unfold boundaryRecords
  exact (by
 extract_lets t1 t2 t4 t6 t8 t10 t12
 have h3 : Moves k r t2 := (Moves.ite (changeRecord_moves _ _ _ h) h)
 have h5 : Moves k r t4 := (Moves.ite (changeRecord_moves _ _ _ h3) h3)
 have h7 : Moves k r t6 := (Moves.ite (changeRecord_moves _ _ _ h5) h5)
 have h9 : Moves k r t8 := (Moves.ite h7 (changeRecord_moves _ _ _ (modStrm_moves _ _ h7)))
 have h11 : Moves k r t10 := (modStrm_moves _ _ h9)
 exact (Moves.ite (changeRecord_moves _ _ _ (Moves.update h11)) h9))

theorem armGongs_moves (a1 : Nat) (a2 : Nat) (a3 : Nat) (a4 : List (Nat × Nat)) (h : Moves k r s) :
    Moves k r (armGongs s a1 a2 a3 a4) := by
  unfold armGongs
  exact (Moves.foldl (fun _ _ h1 => (armGong_moves _ _ _ _ h1)) _ h)

theorem announce_moves (a1 : Nat) (a2 : Nat) (a3 : Nat) (a4 : Bool) (h : Moves k r s) :
    Moves k r (announce s a1 a2 a3 a4) := by
  unfold announce
  exact (by
 extract_lets t1 t2
 have h3 : Moves k r t2 := (Moves.update h)
 exact (Moves.ite (sendControl_moves _ _ _ _ h3) h3))

theorem beginMember_moves (a0 : Nat) (a1 : Nat) (a3 : Nat) (h : Moves k r s) : Moves k r (beginMember a0 a1 s a3) := by
  unfold beginMember
  exact (by
 extract_lets t1 t3 t4 t5 t6 t8 t10
 have h2 : Moves k r t1 := (applyRegs_moves _ _ _ h)
 have h7 : Moves k r t6 := (setStrm_moves _ _ (Moves.ite (wr_moves rfl _ _ h2) h2))
 have h9 : Moves k r t8 := (modStripe_moves _ _ _ h7)
 have h11 : Moves k r t10 := by
  unfold t10
  exact (by
 split
 · exact (writeTable_moves _ _ _ h9)
 · exact h9)
 exact (boundaryRecords_moves _ _ _ _ _ h11))

theorem freeCredits_moves (a1 : BandMap) (a2 : Pkg) (h : Moves k r s) : Moves k r (freeCredits s a1 a2) := by
  unfold freeCredits
  exact (Moves.foldl (fun _ _ h1 => (Moves.ite (wr_moves rfl _ _ h1) h1)) _ (Moves.foldl (fun _ _ h2 => (openCnts_moves _ _ h2)) _ h))

theorem openCredits_moves (a1 : Nat) (a2 : Nat) (h : Moves k r s) : Moves k r (openCredits s a1 a2) := by
  unfold openCredits
  exact (by
 extract_lets t1
 exact (by
 split
 · exact (Moves.ite (modStripe_moves _ _ _ (freeCredits_moves _ _ h)) h)
 · exact h))

theorem beginStripe_moves (a1 : Nat) (a2 : Stripe) (h : Moves k r s) : Moves k r (beginStripe s a1 a2) := by
  unfold beginStripe
  exact (by
 extract_lets t1 t2 t4 t5 t6 t7 t8 t9 t10 t11 t12 t13 t14 t16 t17 t19 t21 t22 t23 t26 t34 t36
 have h3 : Moves k r t2 := (applyRegs_moves _ _ _ h)
 have h15 : Moves k r t14 := (setStrm_moves _ _ (Moves.ite (handoverSwitch_moves h3) h3))
 have h18 : Moves k r t17 := (Moves.ite (Moves.update h15) h15)
 have h20 : Moves k r t19 := (Moves.ite (wr_moves rfl _ _ h18) h18)
 have h24 : Moves k r t23 := (Moves.foldl (fun _ _ h25 => (beginMember_moves _ _ _ h25)) _ (setStrm_moves _ _ h20))
 have h27 : Moves k r t26 := by
  unfold t26
  exact (by
 split
 · exact (by
 extract_lets t28 t30 t32
 have h29 : Moves k r t28 := (Moves.ite (writeTable_moves _ _ _ h24) h24)
 have h31 : Moves k r t30 := (Moves.ite (writeMap_moves _ _ h29) h29)
 have h33 : Moves k r t32 := (Moves.ite (freeCredits_moves _ _ h31) h31)
 exact (armGongs_moves _ _ _ _ h33))
 · exact h24)
 have h35 : Moves k r t34 := (showMap_moves _ _ h27)
 have h37 : Moves k r t36 := (Moves.ite h35 (hit_moves _ rfl h35))
 exact (announce_moves _ _ _ _ (boundaryRecords_moves _ _ _ _ _ h37)))

theorem countBlock_moves (a1 : Nat) (a2 : Nat) (a3 : Nat) (a4 : Nat) (h : Moves k r s) :
    Moves k r (countBlock s a1 a2 a3 a4) := by
  unfold countBlock
  exact (by
 extract_lets t1 t2 t3
 exact (Moves.update h))

theorem prepareHome_moves (a1 : Nat) (a2 : Stripe) (a3 : Pkg) (a4 : Nat) (a5 : Nat) (h : Moves k r s) :
    Moves k r (prepareHome s a1 a2 a3 a4 a5) := by
  unfold prepareHome
  exact (Moves.ite (openRings_moves _ _ _ h) (Moves.ite (placeCarry_moves _ _ _ _ (Moves.ite h (resetRings_moves _ _ _ h))) h))

theorem sendBand_moves (a0 : Nat) (a2 : Stripe) (a3 : Pkg) (a4 : Nat × Band) (h : Moves k r s) :
    Moves k r (sendBand a0 s a2 a3 a4) := by
  unfold sendBand
  exact (by
 extract_lets t1 t2
 have h3 : Moves k r t2 := (countBlock_moves _ _ _ _ (offerDesc_moves _ _ (prepareHome_moves _ _ _ _ _ h)))
 exact (modStripe_moves _ _ _ h3))

theorem dispatchBand_moves (a0 : Nat) (a1 : Nat) (a3 : Nat × Band) (h : Moves k r s) :
    Moves k r (dispatchBand a0 a1 s a3) := by
  unfold dispatchBand
  exact (by
 split
 · exact h
 · exact (by
 split
 · exact h
 · exact (Moves.ite h (Moves.ite h (sendBand_moves _ _ _ _ h)))))

theorem cutCrops_moves (a1 : Nat) (a2 : Stripe) (a3 : Pkg) (h : Moves k r s) : Moves k r (cutCrops s a1 a2 a3) := by
  unfold cutCrops
  exact (by
 extract_lets t1 t2 t3 t5
 have h4 : Moves k r t3 := (Moves.update_mem (fun hm => (memory_wf_markDropped _ hm)) h)
 have h6 : Moves k r t5 := (Moves.ite h4 (hit_moves _ rfl (report_moves _ _ _ h4)))
 exact (modStripe_moves _ _ _ h6))

theorem dispatchCrop_moves (a0 : Nat) (a1 : Nat) (a3 : Share) (h : Moves k r s) :
    Moves k r (dispatchCrop a0 a1 s a3) := by
  unfold dispatchCrop
  exact (by
 split
 · exact h
 · exact (by
 extract_lets t1
 exact (Moves.ite h (modShare_moves _ _ _ _ _ (offerDesc_moves _ _ h)))))

theorem showWaits_moves (h : Moves k r s) : Moves k r (showWaits s) := by
  unfold showWaits
  exact (Moves.foldl (fun _ _ h1 => (wr_moves rfl _ _ h1)) _ h)

theorem fillBubble_moves (a1 : Nat) (h : Moves k r s) : Moves k r (fillBubble s a1) := by
  unfold fillBubble
  exact (Moves.ite h (by
 split
 · exact (sendBand_moves _ _ _ _ h)
 · exact (dispatchCrop_moves _ _ _ h)
 · exact h))

theorem fillBubbles_moves (h : Moves k r s) : Moves k r (fillBubbles s) := by
  unfold fillBubbles
  exact (Moves.foldl (fun _ _ h1 => (fillBubble_moves _ h1)) _ h)

theorem countEnd_moves (a1 : Nat) (a2 : Core) (a3 : Desc) (h : Moves k r s) : Moves k r (countEnd s a1 a2 a3) := by
  unfold countEnd
  exact (by
 extract_lets t1 t3
 have h2 : Moves k r t1 := (bump_moves _ rfl h)
 have h4 : Moves k r t3 := (Moves.ite (modRec_moves _ _ (bump_moves _ rfl h2)) h2)
 exact (Moves.ite (modRec_moves _ _ (bump_moves _ rfl h4)) h4))

theorem slackOf_moves (a1 : Nat) (a2 : Desc) (h : Moves k r s) : Moves k r (slackOf s a1 a2) := by
  unfold slackOf
  exact (Moves.ite h (by
 split
 · exact h
 · exact (by
 extract_lets t1 t2 t3
 have h4 : Moves k r t3 := (paceRecord_moves _ _ _ h)
 exact (Moves.ite (paceEval_moves _ _ h4) h4))))

theorem startNext_moves (a1 : Nat) (h : Moves k r s) : Moves k r (startNext s a1) := by
  unfold startNext
  exact (by
 extract_lets t1 t2 t3 t5
 have h4 : Moves k r t3 := (setCore_moves _ _ h)
 have h6 : Moves k r t5 := (Moves.ite (wr_moves rfl _ _ h4) h4)
 exact (by
 split
 · exact (startShare_moves _ _ (wr_moves rfl _ _ h4))
 · exact (settleRetired_moves _ h6)))

theorem repeatedFault_moves (a1 : Nat) (a2 : Nat) (h : Moves k r s) : Moves k r (repeatedFault s a1 a2) := by
  unfold repeatedFault
  exact (Moves.ite (wr_moves rfl _ _ (strmState_moves _ _ (note_moves _ _ _ _ h))) (report_moves _ _ _ h))

theorem endedWell_moves (a1 : Desc) (a2 : Stripe) (a3 : Share) (h : Moves k r s) :
    Moves k r (endedWell s a1 a2 a3) := by
  unfold endedWell
  exact (by
 extract_lets t1 t2
 have h3 : Moves k r t2 := by
  unfold t2
  exact (by
 split
 · exact (Moves.ite (modStrm_moves _ _ h) (restoreHome_moves _ _ _ _ h))
 · exact h)
 exact (Moves.ite h (Moves.foldl (fun _ _ h4 => (charge_moves _ _ _ _ h4)) _ h3)))

theorem endedBadly_moves (a1 : Nat) (a2 : Desc) (a3 : Nat) (a4 : Nat) (a5 : Stripe) (a6 : Share) (h : Moves k r s) :
    Moves k r (endedBadly s a1 a2 a3 a4 a5 a6) := by
  unfold endedBadly
  exact (by
 extract_lets t1 t2 t4 t5 t6
 have h3 : Moves k r t2 := (Moves.ite (modStrm_moves _ _ h) h)
 have h7 : Moves k r t6 := (Moves.ite (noteWhy_moves _ _ _ (report_moves _ _ _ h3)) h3)
 exact (Moves.ite (by
 split
 · exact (Moves.ite (restoreHome_moves _ _ _ _ h3) h3)
 · exact h3) (Moves.ite (repeatedFault_moves _ _ h7) (replay_moves _ _ _ _ h7))))

theorem takeRecord_moves (a1 : Nat) (a2 : Desc) (a3 : Nat) (a4 : Nat) (h : Moves k r s) :
    Moves k r (takeRecord s a1 a2 a3 a4) := by
  unfold takeRecord
  exact (by
 extract_lets t1
 exact (by
 split
 · exact h
 · exact (by
 extract_lets t2
 have h3 : Moves k r t2 := (modShare_moves _ _ _ _ _ h)
 exact (Moves.ite (endedWell_moves _ _ _ h3) (endedBadly_moves _ _ _ _ _ _ h3)))))

theorem shadowEnd_moves (a1 : Nat) (a2 : Nat) (h : Moves k r s) : Moves k r (shadowEnd s a1 a2) := by
  unfold shadowEnd
  exact (by
 extract_lets t1
 exact (Moves.update h))

theorem showKernels_moves (h : Moves k r s) : Moves k r (showKernels s) := by
  unfold showKernels
  exact (wr_moves rfl _ _ h)

theorem addSums_moves (a1 : Nat) (h : Moves k r s) : Moves k r (addSums s a1) := by
  unfold addSums
  exact (by
 extract_lets t1 t2
 exact (by
 split
 · exact h
 · exact (by
 extract_lets t3
 have h4 : Moves k r t3 := (Moves.foldl (fun _ _ h5 => (devWrite_moves _ _ _ h5)) _ h)
 exact (setCal_moves _ _ h4))))

theorem startRound_moves (h : Moves k r s) : Moves k r (startRound s) := by
  unfold startRound
  exact (by
 split
 · exact h
 · exact (by
 extract_lets t1
 exact (showKernels_moves (Moves.update h))))

theorem chargeFails_moves (a1 : Nat × List Nat) (h : Moves k r s) : Moves k r (chargeFails s a1) := by
  unfold chargeFails
  exact (Moves.ite h (Moves.foldl (fun _ _ h1 => (charge_moves _ _ _ _ h1)) _ h))

theorem closeRound_moves (h : Moves k r s) : Moves k r (closeRound s) := by
  unfold closeRound
  exact (by
 extract_lets t1 t4
 have h2 : Moves k r t1 := (Moves.foldl (fun _ _ h3 => (chargeFails_moves _ h3)) _ h)
 exact (Moves.ite (startRound_moves (wr_moves rfl _ _ (Moves.update h2))) h))

theorem testedCore_moves (a1 : Nat) (a2 : Nat) (h : Moves k r s) : Moves k r (testedCore s a1 a2) := by
  unfold testedCore
  exact (by
 extract_lets t1 t2 t4
 have h3 : Moves k r t2 := (Moves.update h)
 exact (closeRound_moves (Moves.ite (Moves.update h3) h3)))

theorem failSet_moves (a1 : Nat) (a2 : Nat) (h : Moves k r s) : Moves k r (failSet s a1 a2) := by
  unfold failSet
  exact (by
 extract_lets t1 t3
 have h2 : Moves k r t1 := (clearTests_moves _ (charge_moves _ _ _ _ h))
 exact (Moves.ite h2 (Moves.ite (Moves.update h2) (report_moves _ _ _ (wr_moves rfl _ _ (wr_moves rfl _ _ (Moves.update h2)))))))

theorem chimeFailed_moves (a1 : Nat) (a2 : Nat) (h : Moves k r s) : Moves k r (chimeFailed s a1 a2) := by
  unfold chimeFailed
  exact (by
 extract_lets t1 t2 t3 t5 t6 t8
 have h4 : Moves k r t3 := (capture_moves _ _ (report_moves _ _ _ h))
 have h7 : Moves k r t6 := (Moves.update h4)
 exact (Moves.ite (failSet_moves _ _ h4) (Moves.ite (hit_moves _ rfl (report_moves _ _ _ (showKernels_moves (Moves.update h7)))) h7)))

theorem rattled_moves (a1 : Slice) (a2 : Nat) (h : Moves k r s) : Moves k r (rattled s a1 a2) := by
  unfold rattled
  exact (by
 extract_lets t1
 exact (testedCore_moves _ _ (Moves.update h)))

theorem rattleResult_moves (a1 : Slice) (h : Moves k r s) : Moves k r (rattleResult s a1) := by
  unfold rattleResult
  exact (by
 extract_lets t1 t2
 exact (by
 split
 · exact (Moves.ite (rattled_moves _ _ h) (capture_moves _ _ (report_moves _ _ _ h)))
 · exact (by
 extract_lets t3
 have h4 : Moves k r t3 := (rattled_moves _ _ h)
 exact (Moves.ite (failSet_moves _ _ (Moves.update h)) (Moves.ite (charge_moves _ _ _ _ h4) (Moves.ite (charge_moves _ _ _ _ h4) (report_moves _ _ _ h4)))))
 · exact h))

theorem sliceEnd_moves (a1 : Nat) (a2 : Nat) (a3 : Nat) (h : Moves k r s) : Moves k r (sliceEnd s a1 a2 a3) := by
  unfold sliceEnd
  exact (by
 split
 · exact h
 · exact (by
 extract_lets t1 t2 t4 t5 t7
 have h3 : Moves k r t2 := (bump_moves _ rfl h)
 have h6 : Moves k r t5 := (Moves.update h3)
 exact (Moves.ite h (Moves.ite (Moves.update h) (Moves.ite (addSums_moves _ (Moves.update h)) (Moves.ite (Moves.ite (testedCore_moves _ _ h6) (Moves.ite (chimeFailed_moves _ _ h6) (testedCore_moves _ _ (chimeFailed_moves _ _ h6)))) (rattleResult_moves _ (Moves.update h3))))))))

theorem afterEnd_moves (a1 : Nat) (a2 : Desc) (a3 : Nat) (a4 : Nat) (a5 : Nat) (a6 : List Byte) (a7 : Nat)
    (h : Moves k r s) :
    Moves k r (afterEnd s a1 a2 a3 a4 a5 a6 a7) := by
  unfold afterEnd
  exact (by
 extract_lets t1 t2 t4
 have h3 : Moves k r t2 := (Moves.ite (capture_moves _ _ h) h)
 have h5 : Moves k r t4 := (Moves.ite (charge_moves _ _ _ _ h3) h3)
 exact (Moves.ite (takeRecord_moves _ _ _ _ h5) (Moves.ite (shadowEnd_moves _ _ h5) (sliceEnd_moves _ _ _ h5))))

theorem drive_moves (a1 : Nat) (a2 : Nat) (h : Moves k r s) : Moves k r (drive s a1 a2) := by
  unfold drive
  exact (by
 extract_lets t1
 exact (Moves.update h))

theorem decide'_moves (a1 : Nat) (a2 : Nat) (h : Moves k r s) : Moves k r (decide' s a1 a2) := by
  unfold decide'
  exact (Moves.ite h (drive_moves _ _ h))

theorem driveListener_moves (h : Moves k r s) : Moves k r (driveListener s) := by
  unfold driveListener
  exact (by
 extract_lets t1
 exact (Moves.foldl (fun _ _ h2 => (drive_moves _ _ h2)) _ (Moves.update h)))

theorem showFixed_moves (h : Moves k r s) : Moves k r (showFixed s) := by
  unfold showFixed
  exact (by
 extract_lets t1 t2
 have h3 : Moves k r t2 := (Moves.ite (drive_moves _ _ (drive_moves _ _ h)) h)
 exact (Moves.ite h (Moves.ite (drive_moves _ _ h3) h3)))

theorem runDecision_moves (a1 : Decision) (h : Moves k r s) : Moves k r (runDecision s a1) := by
  unfold runDecision
  exact (by
 extract_lets t1 t3 t4 t6 t7
 have h2 : Moves k r t1 := (Moves.ite (sendMark_moves _ _ _ h) h)
 have h5 : Moves k r t4 := (Moves.update h2)
 have h8 : Moves k r t7 := (Moves.update h2)
 exact (Moves.ite (decide'_moves _ _ h5) (Moves.ite (decide'_moves _ _ h8) h2)))

theorem releaseRecord_moves (a0 : Nat) (a1 : Nat) (a2 : Nat) (a3 : Bool) (a5 : Nat × DecRec) (h : Moves k r s) :
    Moves k r (releaseRecord a0 a1 a2 a3 s a5) := by
  unfold releaseRecord
  exact (by
 extract_lets t1 t2 t3 t4 t5 t6
 exact (Moves.ite (bump_moves _ rfl (report_moves _ _ _ h)) (Moves.ite h (Moves.ite (Moves.update h) (Moves.ite (runDecision_moves _ (bump_moves _ rfl (report_moves _ _ _ h))) (Moves.ite (report_moves _ _ _ h) (Moves.update h)))))))

theorem releaseDecisions_moves (a1 : Nat) (a2 : Nat) (a3 : Nat) (a4 : Nat) (a5 : Nat) (a6 : Bool) (h : Moves k r s) :
    Moves k r (releaseDecisions s a1 a2 a3 a4 a5 a6) := by
  unfold releaseDecisions
  exact (by
 extract_lets t1
 exact (Moves.foldl (fun _ _ h2 => (releaseRecord_moves _ _ _ _ _ h2)) _ h))

theorem sendTrigger_moves (a0 : List Nat) (a2 : Nat) (h : Moves k r s) : Moves k r (sendTrigger a0 s a2) := by
  unfold sendTrigger
  exact (Moves.ite (bump_moves _ rfl (report_moves _ _ _ h)) (emit_moves _ h))

theorem pulseTrigger_moves (a0 : List Nat) (a2 : Nat) (h : Moves k r s) : Moves k r (pulseTrigger a0 s a2) := by
  unfold pulseTrigger
  exact (by
 extract_lets t1 t2 t3 t4
 have h5 : Moves k r t4 := (Moves.update h)
 exact (Moves.ite (sendTrigger_moves _ _ h5) h5))

theorem encPulse_moves (a0 : Nat) (a1 : List Nat) (a3 : Bool) (h : Moves k r s) : Moves k r (encPulse a0 a1 s a3) := by
  unfold encPulse
  exact (by
 extract_lets t1 t2 t3
 have h4 : Moves k r t3 := (wr_moves rfl _ _ h)
 exact (Moves.ite (Moves.foldl (fun _ _ h5 => (pulseTrigger_moves _ _ h5)) _ h4) h4))

theorem qsTensor_moves (a0 : Nat) (a1 : Nat) (a2 : Stripe) (a3 : Nat) (a5 : Nat × DynTensor) (h : Moves k r s) :
    Moves k r (qsTensor a0 a1 a2 a3 s a5) := by
  unfold qsTensor
  exact (by
 extract_lets t1 t2 t3 t4 t5 t6 t7 t9 t11
 have h8 : Moves k r t7 := (Moves.ite (hit_moves _ rfl (report_moves _ _ _ h)) h)
 have h10 : Moves k r t9 := (Moves.ite (hit_moves _ rfl (bump_moves _ rfl (report_moves _ _ _ h8))) (hit_moves _ rfl (bump_moves _ rfl (report_moves _ _ _ h8))))
 have h12 : Moves k r t11 := (wr_moves rfl _ _ (wr_moves rfl _ _ h10))
 exact (Moves.ite h (wr_moves rfl _ _ (wr_moves rfl _ _ (wr_moves rfl _ _ h12)))))

theorem qsUpdate_moves (a1 : Nat) (a2 : Stripe) (a3 : Pkg) (h : Moves k r s) : Moves k r (qsUpdate s a1 a2 a3) := by
  unfold qsUpdate
  exact (Moves.foldl (fun _ _ h1 => (qsTensor_moves _ _ _ _ _ h1)) _ h)

theorem showFill_moves (a1 : Nat) (h : Moves k r s) : Moves k r (showFill s a1) := by
  unfold showFill
  exact (wr_moves rfl _ _ h)

theorem skipStripe_moves (a1 : Nat) (h : Moves k r s) : Moves k r (skipStripe s a1) := by
  unfold skipStripe
  exact (modStrm_moves _ _ h)

theorem validAgain_moves (a1 : Nat) (h : Moves k r s) : Moves k r (validAgain s a1) := by
  unfold validAgain
  exact (Moves.ite (report_moves _ _ _ (wr_moves rfl _ _ h)) h)

theorem markInvalid_moves (a1 : Nat) (a2 : Nat) (h : Moves k r s) : Moves k r (markInvalid s a1 a2) := by
  unfold markInvalid
  exact (report_moves _ _ _ (hit_moves _ rfl (wr_moves rfl _ _ h)))

theorem release_moves (a1 : Nat) (a2 : Stripe) (a3 : Pkg) (a4 : Bool) (h : Moves k r s) :
    Moves k r (release s a1 a2 a3 a4) := by
  unfold release
  exact (by
 extract_lets t1 t2 t4 t6 t8
 have h3 : Moves k r t2 := (modStrm_moves _ _ h)
 have h5 : Moves k r t4 := (validAgain_moves _ h3)
 have h7 : Moves k r t6 := (modStrm_moves _ _ h5)
 exact (Moves.ite h3 (Moves.ite (skipStripe_moves _ h3) (Moves.ite (skipStripe_moves _ h5) (Moves.ite (skipStripe_moves _ (markInvalid_moves _ _ h5)) (showFill_moves _ (Moves.update h7)))))))

theorem sendTap_moves (a0 : Stripe) (a1 : Pkg) (a3 : Nat) (h : Moves k r s) : Moves k r (sendTap a0 a1 s a3) := by
  unfold sendTap
  exact (Moves.ite (tapSend_moves _ h) h)

theorem showChange_moves (h : Moves k r s) : Moves k r (showChange s) := by
  unfold showChange
  exact (by
 extract_lets t1 t2
 have h3 : Moves k r t2 := (wr_moves rfl _ _ h)
 exact (wr_moves rfl _ _ h3))

theorem finishSwap_moves (a1 : Nat) (a2 : Nat) (h : Moves k r s) : Moves k r (finishSwap s a1 a2) := by
  unfold finishSwap
  exact (by
 extract_lets t1
 exact (by
 split
 · exact (Moves.ite (swapDone_moves _ (showChange_moves (report_moves _ _ _ (modStrm_moves _ _ h)))) h)
 · exact h))

theorem dropShadows_moves (a1 : Nat) (a2 : Nat) (h : Moves k r s) : Moves k r (dropShadows s a1 a2) := by
  unfold dropShadows
  exact (by
 extract_lets t1 t2 t3
 have h4 : Moves k r t3 := (Moves.update h)
 exact (Moves.foldl (fun _ _ h5 => (Moves.ite (report_moves _ _ _ h5) (bump_moves _ rfl h5))) _ h4))

theorem unwatch_moves (a1 : Nat) (a2 : Nat) (h : Moves k r s) : Moves k r (unwatch s a1 a2) := by
  unfold unwatch
  exact (by
 extract_lets t1
 exact (Moves.update h))

theorem commitMember_moves (a0 : Stripe) (a1 : Pkg) (a2 : Bool) (a4 : Nat) (h : Moves k r s) :
    Moves k r (commitMember a0 a1 a2 s a4) := by
  unfold commitMember
  exact (by
 extract_lets t1 t3
 have h2 : Moves k r t1 := (unwatch_moves _ _ (modStripe_moves _ _ _ h))
 have h4 : Moves k r t3 := (release_moves _ _ _ _ h2)
 exact (modStrm_moves _ _ h4))

theorem commitStripe_moves (a1 : Nat) (a2 : Stripe) (a3 : Pkg) (h : Moves k r s) :
    Moves k r (commitStripe s a1 a2 a3) := by
  unfold commitStripe
  exact (by
 extract_lets t1 t2 t4 t7 t9 t11 t14
 have h3 : Moves k r t2 := (qsUpdate_moves _ _ _ h)
 have h5 : Moves k r t4 := (Moves.foldl (fun _ _ h6 => (commitMember_moves _ _ _ _ h6)) _ h3)
 have h8 : Moves k r t7 := (Moves.ite (hit_moves _ rfl h5) h5)
 have h10 : Moves k r t9 := (releaseDecisions_moves _ _ _ _ _ _ h8)
 have h12 : Moves k r t11 := (Moves.foldl (fun _ _ h13 => (sendTap_moves _ _ _ h13)) _ h10)
 have h15 : Moves k r t14 := (dropShadows_moves _ _ (modStrm_moves _ _ h12))
 exact (Moves.foldl (fun _ _ h16 => (finishSwap_moves _ _ h16)) _ h15))

theorem setRole_moves (a1 : Nat) (a2 : Bool) (h : Moves k r s) : Moves k r (setRole s a1 a2) := by
  unfold setRole
  exact (by
 extract_lets t1
 have h2 : Moves k r t1 := (roleReg_moves _ _ h)
 exact (showDigest_moves (showFixed_moves (Moves.ite (driveListener_moves h2) h2))))

theorem lastChange_moves (a1 : Nat) (a2 : Nat) (h : Moves k r s) : Moves k r (lastChange s a1 a2) := by
  unfold lastChange
  exact (by
 extract_lets t1
 exact (wr_moves rfl _ _ h))

theorem giveUp_moves (a1 : Nat) (a2 : Nat) (h : Moves k r s) : Moves k r (giveUp s a1 a2) := by
  unfold giveUp
  exact (Moves.foldl (fun _ _ h1 => (unwatch_moves _ _ (modStrm_moves _ _ h1))) _ h)

theorem yieldPair_moves (a1 : Nat) (a2 : Nat) (a3 : Nat) (a4 : Nat) (h : Moves k r s) :
    Moves k r (yieldPair s a1 a2 a3 a4) := by
  unfold yieldPair
  exact (by
 extract_lets t1 t3
 have h2 : Moves k r t1 := (bump_moves _ rfl (report_moves _ _ _ (sendRecord_moves _ _ _ _ _ _ h)))
 have h4 : Moves k r t3 := (lastChange_moves _ _ h2)
 exact (Moves.ite (doubt_moves _ h4) (setRole_moves _ _ h4)))

theorem endFails_moves (a1 : Nat) (a2 : Nat) (a3 : Nat) (a4 : Nat) (h : Moves k r s) :
    Moves k r (endFails s a1 a2 a3 a4) := by
  unfold endFails
  exact (Moves.ite (yieldPair_moves _ _ _ _ (note_moves _ _ _ _ h)) (report_moves _ _ _ h))

theorem nameStripe_moves (a1 : Nat) (h : Moves k r s) : Moves k r (nameStripe s a1) := by
  unfold nameStripe
  exact (by
 extract_lets t1 t2 t3 t5
 have h4 : Moves k r t3 := (sendControl_moves _ _ _ _ h)
 exact (Moves.update h4))

theorem nameRejoin_moves (h : Moves k r s) : Moves k r (nameRejoin s) := by
  unfold nameRejoin
  exact (by
 extract_lets t1 t2
 have h3 : Moves k r t2 := (Moves.update h)
 exact (Moves.ite h (Moves.ite (lastChange_moves _ _ (setRole_moves _ _ (sendControl_moves _ _ _ _ h3))) (Moves.foldl (fun _ _ h4 => (nameStripe_moves _ h4)) _ h3))))

theorem ownLines_moves (a1 : Nat) (h : Moves k r s) : Moves k r (ownLines s a1) := by
  unfold ownLines
  exact (by
 extract_lets t1 t2
 exact (Moves.ite h (Moves.foldl (fun _ _ h3 => (forwardLine_moves _ _ _ _ _ (enterLine_moves _ _ h3))) _ (modStrm_moves _ _ h))))

theorem runDue_moves (h : Moves k r s) : Moves k r (runDue s) := by
  unfold runDue
  exact (by
 extract_lets t1 t2
 exact (Moves.foldl (fun _ _ h3 => (runDecision_moves _ h3)) _ (Moves.update h)))

theorem becomeSpeaker_moves (h : Moves k r s) : Moves k r (becomeSpeaker s) := by
  unfold becomeSpeaker
  exact (by
 extract_lets t1 t3 t4 t6
 have h2 : Moves k r t1 := (bump_moves _ rfl (setRole_moves _ _ h))
 have h5 : Moves k r t4 := (Moves.update h2)
 exact (runDue_moves (Moves.foldl (fun _ _ h7 => (ownLines_moves _ h7)) _ (Moves.foldl (fun _ _ h8 => (modStrm_moves _ _ h8)) _ h5))))

theorem dropPartner_moves (a1 : Nat) (a2 : Stripe) (h : Moves k r s) : Moves k r (dropPartner s a1 a2) := by
  unfold dropPartner
  exact (by
 extract_lets t1
 have h2 : Moves k r t1 := (report_moves _ _ _ h)
 exact (Moves.ite (nameRejoin_moves (setRole_moves _ _ (sendRecord_moves _ _ _ _ _ _ h2))) (setRole_moves _ _ h2)))

theorem swapRole_moves (a1 : Nat) (a2 : Stripe) (h : Moves k r s) : Moves k r (swapRole s a1 a2) := by
  unfold swapRole
  exact (by
 extract_lets t1
 exact (Moves.ite (yieldPair_moves _ _ _ _ (Moves.update h)) h))

theorem yieldCommit_moves (a1 : Nat) (a2 : Nat) (h : Moves k r s) : Moves k r (yieldCommit s a1 a2) := by
  unfold yieldCommit
  exact (by
 split
 · exact (Moves.ite (nameRejoin_moves (becomeSpeaker_moves h)) h)
 · exact h)

theorem sourceLost_moves (h : Moves k r s) : Moves k r (sourceLost s) := by
  unfold sourceLost
  exact (Moves.foldl (fun _ _ h1 => (ownLines_moves _ h1)) _ h)

theorem partnerLost_moves (h : Moves k r s) : Moves k r (partnerLost s) := by
  unfold partnerLost
  exact (by
 extract_lets t1 t2 t4
 have h3 : Moves k r t2 := (Moves.update h)
 exact (by
 split
 · exact (sourceLost_moves (setRole_moves _ _ h3))
 · exact (sourceLost_moves (report_moves _ _ _ (becomeSpeaker_moves (lastChange_moves _ _ h3))))
 · exact (sourceLost_moves h3)))

theorem moveCells_moves (a1 : Nat) (h : Moves k r s) : Moves k r (moveCells s a1) := by
  unfold moveCells
  exact (by
 extract_lets t1 t2 t3 t5 t7
 have h4 : Moves k r t3 := (setZl_moves _ _ h)
 have h6 : Moves k r t5 := (bumpBy_moves _ _ rfl h4)
 exact (Moves.ite (sendWaiting_moves _ (setZl_moves _ _ h6)) h4))

theorem showDown_moves (a1 : Nat) (a2 : Nat) (h : Moves k r s) : Moves k r (showDown s a1 a2) := by
  unfold showDown
  exact (wr_moves rfl _ _ (wr_moves rfl _ _ (wr_moves rfl _ _ (wr_moves rfl _ _ h))))

theorem dropLink_moves (a1 : Nat) (h : Moves k r s) : Moves k r (dropLink s a1) := by
  unfold dropLink
  exact (by
 extract_lets t1 t2 t4 t5 t7 t8
 have h3 : Moves k r t2 := (showDown_moves _ _ h)
 have h6 : Moves k r t5 := (moveCells_moves _ (setZl_moves _ _ h3))
 have h9 : Moves k r t8 := (setZl_moves _ _ h6)
 exact (Moves.ite (partnerLost_moves h9) h9))

theorem linkDown_moves (a1 : Nat) (h : Moves k r s) : Moves k r (linkDown s a1) := by
  unfold linkDown
  exact (dropLink_moves _ (report_moves _ _ _ h))

theorem sendShort_moves (a1 : Nat) (a2 : Bool) (h : Moves k r s) : Moves k r (sendShort s a1 a2) := by
  unfold sendShort
  exact (by
 extract_lets t1 t2
 exact (emit_moves _ (setZl_moves _ _ h)))

theorem askAgain_moves (a1 : Nat) (a2 : Bool) (h : Moves k r s) : Moves k r (askAgain s a1 a2) := by
  unfold askAgain
  exact (by
 extract_lets t1 t3
 have h2 : Moves k r t1 := (bump_moves _ rfl (report_moves _ _ _ h))
 exact (Moves.ite h2 (sendShort_moves _ _ (setZl_moves _ _ h2))))

theorem sendAgain_moves (a1 : Nat) (h : Moves k r s) : Moves k r (sendAgain s a1) := by
  unfold sendAgain
  exact (by
 extract_lets t1 t2 t3
 have h4 : Moves k r t3 := (Moves.foldl (fun _ _ h5 => (putCell_moves _ _ h5)) _ (bumpBy_moves _ _ rfl (setZl_moves _ _ h)))
 exact (Moves.ite (linkDown_moves _ (report_moves _ _ _ h4)) h4))

theorem takeAck_moves (a1 : Nat) (a2 : Nat) (a3 : Bool) (a4 : Option Nat) (h : Moves k r s) :
    Moves k r (takeAck s a1 a2 a3 a4) := by
  unfold takeAck
  exact (by
 extract_lets t1 t2
 have h3 : Moves k r t2 := (setZl_moves _ _ h)
 exact (sendWaiting_moves _ (Moves.ite (sendAgain_moves _ h3) h3)))

theorem countDrop_moves (a1 : Nat) (h : Moves k r s) : Moves k r (countDrop s a1) := by
  unfold countDrop
  exact (bump_moves _ rfl h)

theorem takeCell_moves (a1 : Rx) (h : Moves k r s) : Moves k r (takeCell s a1).1 := by
  unfold takeCell
  exact (by
 extract_lets t1 t2 t3 t5 t6 t8 t9
 have h4 : Moves k r t3 := (setZl_moves _ _ h)
 have h7 : Moves k r t6 := (setZl_moves _ _ h4)
 have h10 : Moves k r t9 := (takeAck_moves _ _ _ _ (setZl_moves _ _ h7))
 exact (Moves.ite1 (Moves.mk1 h) (Moves.ite1 (Moves.mk1 h) (Moves.ite1 (Moves.mk1 h4) (Moves.ite1 (Moves.mk1 (askAgain_moves _ _ h4)) (Moves.ite1 (Moves.mk1 (Moves.ite (askAgain_moves _ _ h7) (sendShort_moves _ _ h7))) (Moves.ite1 (Moves.mk1 (countDrop_moves _ (report_moves _ _ _ h10))) (Moves.mk1 h10))))))))

theorem sendHello_moves (a1 : Nat) (h : Moves k r s) : Moves k r (sendHello s a1) := by
  unfold sendHello
  exact (emit_moves _ h)

theorem formPair_moves (a1 : Hello) (h : Moves k r s) : Moves k r (formPair s a1) := by
  unfold formPair
  exact (by
 extract_lets t1 t2 t4 t5 t6
 have h3 : Moves k r t2 := (wr_moves rfl _ _ (Moves.update h))
 exact (Moves.ite (setRole_moves _ _ h3) (setRole_moves _ _ h3)))

theorem joinRing_moves (a1 : Nat) (a2 : Hello) (h : Moves k r s) : Moves k r (joinRing s a1 a2) := by
  unfold joinRing
  exact (by
 extract_lets t1 t2
 have h3 : Moves k r t2 := (wr_moves rfl _ _ h)
 exact (Moves.ite (hit_moves _ rfl (report_moves _ _ _ h3)) h3))

theorem bringUp_moves (a1 : Nat) (a2 : Hello) (a3 : Nat) (a4 : Nat) (h : Moves k r s) :
    Moves k r (bringUp s a1 a2 a3 a4) := by
  unfold bringUp
  exact (by
 extract_lets t1 t2 t4 t5 t7
 have h3 : Moves k r t2 := (wr_moves rfl _ _ (wr_moves rfl _ _ (wr_moves rfl _ _ h)))
 have h6 : Moves k r t5 := (setZl_moves _ _ h3)
 have h8 : Moves k r t7 := (nameRejoin_moves (formPair_moves _ h6))
 exact (Moves.ite (joinRing_moves _ _ h6) (Moves.ite h6 (Moves.ite (report_moves _ _ _ h8) h8))))

theorem refuseLink_moves (a1 : Nat) (h : Moves k r s) : Moves k r (refuseLink s a1) := by
  unfold refuseLink
  exact (dropLink_moves _ (report_moves _ _ _ h))

theorem refusePair_moves (a1 : Nat) (h : Moves k r s) : Moves k r (refusePair s a1) := by
  unfold refusePair
  exact (by
 extract_lets t1
 have h2 : Moves k r t1 := (setRole_moves _ _ (report_moves _ _ _ h))
 exact (dropLink_moves _ (dropLink_moves _ h2)))

theorem showPeer_moves (a1 : Nat) (a2 : Hello) (h : Moves k r s) : Moves k r (showPeer s a1 a2) := by
  unfold showPeer
  exact (wr_moves rfl _ _ (wr_moves rfl _ _ h))

theorem settle_moves (a1 : Nat) (a2 : Hello) (a3 : Nat) (h : Moves k r s) : Moves k r (settle s a1 a2 a3) := by
  unfold settle
  exact (by
 extract_lets t1 t3
 have h2 : Moves k r t1 := (showPeer_moves _ _ h)
 exact (Moves.ite (bringUp_moves _ _ _ _ h2) (setZl_moves _ _ (wr_moves rfl _ _ h2))))

theorem alignPair_moves (a1 : Nat) (a2 : Nat) (a3 : Hello) (h : Moves k r s) : Moves k r (alignPair s a1 a2 a3) := by
  unfold alignPair
  exact (by
 extract_lets t1 t2
 exact (Moves.ite (setZl_moves _ _ (wr_moves rfl _ _ h)) h))

theorem modOut_moves (a1 : Nat) (a2 : OutStripe) (a3 : OutStripe → OutStripe) (h : Moves k r s) :
    Moves k r (modOut s a1 a2 a3) := by
  unfold modOut
  exact (modStrm_moves _ _ h)

theorem sweepOut_moves (a1 : Nat) (h : Moves k r s) : Moves k r (sweepOut s a1) := by
  unfold sweepOut
  exact (by
 extract_lets t1 t2
 exact (showFill_moves _ (modStrm_moves _ _ h)))

theorem noteLatency_moves (a1 : OutStripe) (h : Moves k r s) : Moves k r (noteLatency s a1) := by
  unfold noteLatency
  exact (by
 extract_lets t1
 exact (Moves.ite (wr_moves rfl _ _ h) h))

theorem noteFlagged_moves (a1 : Nat) (a2 : OutStripe) (h : Moves k r s) : Moves k r (noteFlagged s a1 a2) := by
  unfold noteFlagged
  exact (Moves.ite (hit_moves _ rfl (hit_moves _ rfl (hit_moves _ rfl h))) h)

theorem markLine_moves (a1 : Nat) (a2 : Nat) (h : Moves k r s) : Moves k r (markLine s a1 a2) := by
  unfold markLine
  exact (Moves.ite (sendMark_moves _ _ _ h) h)

theorem underrun_moves (a1 : Nat) (h : Moves k r s) : Moves k r (underrun s a1) := by
  unfold underrun
  exact (by
 extract_lets t1
 exact (Moves.update h))

theorem sendGv_moves (a1 : Nat) (a2 : OutStripe) (a3 : List Byte) (h : Moves k r s) :
    Moves k r (sendGv s a1 a2 a3) := by
  unfold sendGv
  exact (by
 extract_lets t1 t2
 have h3 : Moves k r t2 := (Moves.ite (emit_moves _ h) h)
 exact (emit_moves _ h3))

theorem sendLine_moves (a1 : Nat) (a2 : Bool) (a3 : OutStripe) (a4 : Nat) (a5 : OutLine) (a6 : List Byte)
    (h : Moves k r s) :
    Moves k r (sendLine s a1 a2 a3 a4 a5 a6) := by
  unfold sendLine
  exact (by
 extract_lets t1 t3 t5 t7
 have h2 : Moves k r t1 := (noteFlagged_moves _ _ (markLine_moves _ _ h))
 have h4 : Moves k r t3 := (emit_moves _ h2)
 have h6 : Moves k r t5 := (Moves.ite (sendGv_moves _ _ _ h4) (Moves.update_hostMem (fun hm => (memory_wf_memWrite _ _ hm)) h4))
 have h8 : Moves k r t7 := (modOut_moves _ _ _ h6)
 exact (Moves.ite (noteLatency_moves _ h8) h8))

theorem finishEntry_moves (a1 : Nat) (a2 : OutStripe) (a3 : Bool) (h : Moves k r s) :
    Moves k r (finishEntry s a1 a2 a3) := by
  unfold finishEntry
  exact (by
 extract_lets t1 t3
 have h2 : Moves k r t1 := (Moves.update_hostMem (fun hm => (memory_wf_memWrite _ _ hm)) h)
 have h4 : Moves k r t3 := (wr_moves rfl _ _ h2)
 exact (sweepOut_moves _ (modOut_moves _ _ _ (raiseStrm_moves _ h4))))

theorem entryFails_moves (a1 : Nat) (a2 : OutStripe) (a3 : Nat) (h : Moves k r s) :
    Moves k r (entryFails s a1 a2 a3) := by
  unfold entryFails
  exact (by
 extract_lets t1
 have h2 : Moves k r t1 := (haltCh_moves _ _ _ _ h)
 exact (Moves.ite (modOut_moves _ _ _ h2) (sweepOut_moves _ (skipStripe_moves _ (modOut_moves _ _ _ (markInvalid_moves _ _ h2))))))

theorem setGv_moves (a1 : Nat) (a2 : GvPort) (h : Moves k r s) : Moves k r (setGv s a1 a2) := by
  unfold setGv
  exact (by
 extract_lets t1
 exact (Moves.update h))

theorem unsupported_moves (a1 : Nat) (h : Moves k r s) : Moves k r (unsupported s a1) := by
  unfold unsupported
  exact (report_moves _ _ _ (bump_moves _ rfl h))

theorem goodLine_moves (a1 : Nat) (a2 : List Nat) (h : Moves k r s) : Moves k r (goodLine s a1 a2) := by
  unfold goodLine
  exact (Moves.ite (reportIf_moves _ _ _ _ h) (linkLine_moves _ _ _ h))

theorem failedLine_moves (a1 : Nat) (a2 : List Nat) (h : Moves k r s) : Moves k r (failedLine s a1 a2) := by
  unfold failedLine
  exact (by
 extract_lets t1 t2
 have h3 : Moves k r t2 := (Moves.ite h (by
 split
 · exact (report_moves _ _ _ (ringLine_moves _ _ _ _ _ _ h))
 · exact (Moves.ite h (report_moves _ _ _ (forwardLine_moves _ _ _ _ _ h)))))
 exact (Moves.ite h3 (substLine_moves _ h3)))

theorem closeFrame_moves (a1 : Nat) (h : Moves k r s) : Moves k r (closeFrame s a1) := by
  unfold closeFrame
  exact (Moves.ite (report_moves _ _ _ (substLines_moves _ _ h)) h)

theorem openFrame_moves (a1 : Nat) (h : Moves k r s) : Moves k r (openFrame s a1) := by
  unfold openFrame
  exact (Moves.ite (modStrm_moves _ _ (closeFrame_moves _ h)) h)

theorem setVc_moves (a1 : Nat) (a2 : Nat) (a3 : VcState) (h : Moves k r s) : Moves k r (setVc s a1 a2 a3) := by
  unfold setVc
  exact (by
 extract_lets t1
 exact (Moves.update h))

theorem onStream_moves (a1 : Nat) (a2 : Nat) {a3 : State → Nat → State} (ha3 : ∀ x0 x1, Moves k r x0 → Moves k r
    (a3 x0 x1)) (h : Moves k r s) :
    Moves k r (onStream s a1 a2 a3) := by
  unfold onStream
  exact (by
 split
 · exact (ha3 _ _ h)
 · exact h)

theorem csiPacket_moves (a1 : Nat) (a2 : Nat) (a3 : Nat) (a4 : Bool) (a5 : List Nat) (h : Moves k r s) :
    Moves k r (csiPacket s a1 a2 a3 a4 a5) := by
  unfold csiPacket
  exact (by
 extract_lets t1 t2
 have h3 : Moves k r t2 := (setVc_moves _ _ _ h)
 exact (Moves.ite (unsupported_moves _ h3) (onStream_moves _ _ (fun _ _ h4 => (Moves.ite (unsupported_moves _ h4) (Moves.ite (goodLine_moves _ _ h4) (failedLine_moves _ _ (report_moves _ _ _ (bump_moves _ rfl h4)))))) h3)))

theorem cxpTurn_moves (a0 : Nat) (a1 : Nat) (a3 : CxpPacket) (h : Moves k r s) : Moves k r (cxpTurn a0 a1 s a3) := by
  unfold cxpTurn
  exact (by
 extract_lets t1 t2
 have h3 : Moves k r t2 := (Moves.update h)
 exact (Moves.ite (unsupported_moves _ h3) (Moves.ite (Moves.foldl (fun _ _ h4 => (goodLine_moves _ _ h4)) _ (Moves.ite (openFrame_moves _ h3) h3)) (Moves.foldl (fun _ _ h5 => (failedLine_moves _ _ h5)) _ (report_moves _ _ _ (bump_moves _ rfl h3))))))

theorem cxpGap_moves (a0 : Nat) (a1 : Nat) (a3 : CxpPacket) (h : Moves k r s) : Moves k r (cxpGap a0 a1 s a3) := by
  unfold cxpGap
  exact (cxpTurn_moves _ _ _ (substLines_moves _ _ (report_moves _ _ _ (bump_moves _ rfl h))))

theorem cxpDrain_moves (a0 : Nat) (a1 : Nat) (h : Moves k r s) : Moves k r (cxpDrain a0 a1 s) := by
  unfold cxpDrain
  exact (Moves.foldl (fun _ _ h1 => (by
 split
 · exact h1
 · exact (by
 extract_lets t2
 exact (cxpTurn_moves _ _ _ (Moves.update h1))))) _ h)

theorem cxpAhead_moves (a0 : Nat) (a1 : Nat) (a3 : CxpPacket) (h : Moves k r s) : Moves k r (cxpAhead a0 a1 s a3) := by
  unfold cxpAhead
  exact (by
 extract_lets t1 t2 t3 t5
 have h4 : Moves k r t3 := (Moves.update h)
 exact (Moves.ite (cxpGap_moves _ _ _ h) (Moves.ite h4 (by
 split
 · exact h4
 · exact (cxpDrain_moves _ _ (cxpGap_moves _ _ _ (Moves.update h4)))))))

theorem loseSource_moves (a1 : Nat) (h : Moves k r s) : Moves k r (loseSource s a1) := by
  unfold loseSource
  exact (by
 extract_lets t1 t3 t5 t6
 have h2 : Moves k r t1 := (wr_moves rfl _ _ (hit_moves _ rfl (wr_moves rfl _ _ h)))
 have h4 : Moves k r t3 := (report_moves _ _ _ (bump_moves _ rfl h2))
 have h7 : Moves k r t6 := (Moves.update h4)
 exact (Moves.ite h (Moves.foldl (fun _ _ h8 => (strmState_moves _ _ h8)) _ h7)))

theorem resume_moves (a1 : Nat) (h : Moves k r s) : Moves k r (resume s a1) := by
  unfold resume
  exact (by
 extract_lets t1
 have h2 : Moves k r t1 := by
  unfold t1
  exact (by
 split
 · exact (Moves.ite h (closePartial_moves _ _ h))
 · exact h)
 exact (Moves.ite h (strmState_moves _ _ (modStrm_moves _ _ h2))))

theorem lockPort_moves (a1 : Nat) (a2 : Nat) (a3 : Nat) (h : Moves k r s) : Moves k r (lockPort s a1 a2 a3) := by
  unfold lockPort
  exact (by
 extract_lets t1 t2
 have h3 : Moves k r t2 := (wr_moves rfl _ _ (wr_moves rfl _ _ (wr_moves rfl _ _ h)))
 exact (Moves.ite (Moves.foldl (fun _ _ h4 => (resume_moves _ h4)) _ (report_moves _ _ _ h3)) h3))

theorem portReject_moves (a1 : Nat) (h : Moves k r s) : Moves k r (portReject s a1) := by
  unfold portReject
  exact (report_moves _ _ _ (hit_moves _ rfl h))

theorem clearAtStart_moves (a1 : Nat) (h : Moves k r s) : Moves k r (clearAtStart s a1) := by
  unfold clearAtStart
  exact (wr_moves rfl _ _ (wr_moves rfl _ _ (wr_moves rfl _ _ (wr_moves rfl _ _ (wr_moves rfl _ _ (wr_moves rfl _ _ (wr_moves rfl _ _ (wr_moves rfl _ _ (wr_moves rfl _ _ (wr_moves rfl _ _ h))))))))))

theorem showCostOver_moves (a1 : Nat) (a2 : Nat) (h : Moves k r s) : Moves k r (showCostOver s a1 a2) := by
  unfold showCostOver
  exact (Moves.ite (hit_moves _ rfl h) h)

theorem rebaseCal_moves (a1 : Nat) (h : Moves k r s) : Moves k r (rebaseCal s a1) := by
  unfold rebaseCal
  exact (by
 extract_lets t1 t2 t3
 exact (setCal_moves _ _ h))

theorem startStream_moves (a1 : Nat) (h : Moves k r s) : Moves k r (startStream s a1) := by
  unfold startStream
  exact (by
 extract_lets t1 t3 t4 t6 t8
 have h2 : Moves k r t1 := (rebaseCal_moves _ h)
 have h5 : Moves k r t4 := (Moves.update h2)
 have h7 : Moves k r t6 := (clearAtStart_moves _ (setStrm_moves _ _ h5))
 have h9 : Moves k r t8 := (strmState_moves _ _ (wr_moves rfl _ _ h7))
 exact (sendControl_moves _ _ _ _ (retile_moves (showDigest_moves h9))))

theorem stopStream_moves (a1 : Nat) (h : Moves k r s) : Moves k r (stopStream s a1) := by
  unfold stopStream
  exact (by
 extract_lets t1
 have h2 : Moves k r t1 := (failCapture_moves _ (strmState_moves _ _ (wr_moves rfl _ _ h)))
 exact (sendControl_moves _ _ _ _ (showWaits_moves (retile_moves (showDigest_moves (modStrm_moves _ _ h2))))))

theorem doorbell_moves (a0 : Wr) (a1 : Nat → Bool) {a2 : State → Nat → MbxReq → State}
    (ha2 : ∀ x0 x1 x2, Moves k r x0 → Moves k r (a2 x0 x1 x2)) (h : Moves k r s) :
    Moves k r (doorbell a0 a1 a2 s) := by
  unfold doorbell
  exact (gate_moves _ _ _ (fun _ _ h1 => (by
 extract_lets t2 t3 t4
 exact (Moves.ite (hit_moves _ rfl h1) (Moves.ite (ha2 _ _ _ (setMbx_moves _ _ h1)) h1)))) h)

theorem refuseReq_moves (a1 : Nat) (a2 : MbxReq) (a3 : Nat) (a4 : Nat) (a5 : Nat) (h : Moves k r s) :
    Moves k r (refuseReq s a1 a2 a3 a4 a5) := by
  unfold refuseReq
  exact (respond_moves _ _ _ _ _ (report_moves _ _ _ h))

theorem malformed_moves (a1 : Nat) (a2 : MbxReq) (h : Moves k r s) : Moves k r (malformed s a1 a2) := by
  unfold malformed
  exact (refuseReq_moves _ _ _ _ _ h)

theorem command_moves (a0 : Wr) (a1 : Nat) (a2 : Nat) (a3 : Bool)
    (a4 : List Byte → Bool) {a5 : State → Nat → MbxReq → State} (ha5 : ∀ x0 x1 x2, Moves k r x0 → Moves k r
    (a5 x0 x1 x2)) (h : Moves k r s) :
    Moves k r (command a0 a1 a2 a3 a4 a5 s) := by
  unfold command
  exact (doorbell_moves _ _ (fun _ _ _ h1 => (by
 extract_lets t2
 exact (Moves.ite (malformed_moves _ _ h1) (ha5 _ _ _ h1)))) h)

theorem withHost_moves (a1 : Nat) (a2 : MbxReq) (a3 : Nat) (a4 : Nat) (a5 : Nat) {a6 : State → State}
    (ha6 : ∀ x0, Moves k r x0 → Moves k r (a6 x0)) (h : Moves k r s) :
    Moves k r (withHost s a1 a2 a3 a4 a5 a6) := by
  unfold withHost
  exact (Moves.ite (ha6 _ h) (respond_moves _ _ _ _ _ (haltCh_moves _ _ _ _ h)))

theorem hostToDram_moves (a1 : Nat) (a2 : Nat) (a3 : Nat) (h : Moves k r s) : Moves k r (hostToDram s a1 a2 a3) := by
  unfold hostToDram
  exact (Moves.foldl (fun _ _ h1 => (Moves.update_mem (fun hm => (memory_wf_copyCells _ _ _ _ hm)) h1)) _ h)

theorem dramToHost_moves (a1 : Nat) (a2 : Nat) (a3 : Nat) (h : Moves k r s) : Moves k r (dramToHost s a1 a2 a3) := by
  unfold dramToHost
  exact (Moves.foldl (fun _ _ h1 => (Moves.update_hostMem (fun hm => (memory_wf_copyCells _ _ _ _ hm)) h1)) _ h)

theorem supposed_moves (a0 : Image) (a1 : Nat) (a3 : Nat) (h : Moves k r s) : Moves k r (supposed a0 a1 s a3) := by
  unfold supposed
  exact (wr_moves rfl _ _ (modStrm_moves _ _ h))

theorem loadBank_moves (a0 : Nat) (a1 : Image) (a2 a3 : Nat) (h : Moves k r s) : Moves k r (loadBank a0 a1 a2 a3 s) := by
  induction a3 generalizing s with
  | zero => exact setBankValid_moves _ _ _ h
  | succ n ih =>
    have h1 := validated_moves a2 a0 (Moves.foldl (fun _ p h2 => putWord_moves (bankIx a2 a0 p.1) p.2 h2) a1.words
      (setBankValid_moves a2 a0 0 h))
    exact Moves.ite h1 (ih h1)

theorem installWords_moves (a1 : Nat) (a2 : Image) (h : Moves k r s) : Moves k r (installWords s a1 a2) := by
  unfold installWords
  exact (Moves.foldl (fun _ _ h1 => (Moves.ite (coreRefuse_moves _ _ _ h1) (loadBank_moves _ _ _ _ h1))) _ h)

theorem placeRotations_moves (a1 : Pkg) (h : Moves k r s) : Moves k r (placeRotations s a1) := by
  unfold placeRotations
  exact (Moves.foldl (fun _ _ h1 => (Moves.foldl (fun _ _ h2 => (by
 split
 · exact (busWrite_moves _ _ _ h2)
 · exact h2)) _ h1)) _ h)

theorem placeWeights_moves (a1 : Pkg) (h : Moves k r s) : Moves k r (placeWeights s a1) := by
  have h1 := wr_moves (f := R.DMA_SEG_CTRL.WINDOW_BASE) rfl 0 (windowAt s a1) h
  exact Moves.ite h (Moves.ite h1 (Moves.update_mem (fun hm =>
    List.foldlRecOn (motive := fun m => Memory.wf m = true) _ _ hm (fun _ hb _ _ => memory_wf_memWrite _ _ hb)) h1))

theorem installData_moves (a1 : List (Nat × List Byte)) (h : Moves k r s) : Moves k r (installData s a1) := by
  unfold installData
  exact (Moves.foldl (fun _ _ h1 => (busWrite_moves _ _ _ h1)) _ h)

theorem install_moves (a1 : Nat) (a2 : Image) (h : Moves k r s) : Moves k r (install s a1 a2) := by
  unfold install
  exact (placeWeights_moves _ (placeRotations_moves _ (installData_moves _ (installWords_moves _ _ h))))

theorem progress_moves (a1 : MbxReq) (a2 : Nat) (h : Moves k r s) : Moves k r (progress s a1 a2) := by
  unfold progress
  exact (queueEvent_moves _ _ h)

theorem warn_moves (a1 : List Nat) (a2 : Pkg) (h : Moves k r s) : Moves k r (warn s a1 a2) := by
  unfold warn
  exact (Moves.foldl (fun _ _ h1 => (Moves.foldl (fun _ _ h2 => (report_moves _ _ _ h2)) _ h1)) _ h)

theorem withPackage_moves (a1 : Nat) (a2 : MbxReq) (a3 : Image) (a4 : List Nat) (a5 : Bool)
    (a6 : Nat) {a7 : State → State} (ha7 : ∀ x0, Moves k r x0 → Moves k r (a7 x0)) (h : Moves k r s) :
    Moves k r (withPackage s a1 a2 a3 a4 a5 a6 a7) := by
  unfold withPackage
  exact (by
 extract_lets t1 t2 t3 t5
 have h4 : Moves k r t3 := (progress_moves _ _ (noteUnsigned_moves _ _ h))
 exact (Moves.ite (refuseReq_moves _ _ _ _ _ h) (Moves.ite (refuseReq_moves _ _ _ _ _ (showCostOver_moves _ _ (Moves.ite (hit_moves _ rfl h4) h4))) (ha7 _ (progress_moves _ _ (warn_moves _ _ h4))))))

theorem noteChange_moves (a1 : Nat) (a2 : Nat) (h : Moves k r s) : Moves k r (noteChange s a1 a2) := by
  unfold noteChange
  exact (wr_moves rfl _ _ (wr_moves rfl _ _ (showChange_moves h)))

theorem proposeSwap_moves (a0 : Image) (a1 : Nat) (a3 : Nat) (h : Moves k r s) :
    Moves k r (proposeSwap a0 a1 s a3) := by
  unfold proposeSwap
  exact (by
 extract_lets t1 t2
 exact (sendControl_moves _ _ _ _ (modStrm_moves _ _ h)))

theorem retileSwap_moves (a1 : List Nat) (h : Moves k r s) : Moves k r (retileSwap s a1) := by
  unfold retileSwap
  exact (Moves.ite (retile_moves h) h)

theorem keepE_moves (a1 : Nat) (a2 : MbxReq) (a3 : Nat) (h : Moves k r s) : Moves k r (keepE s a1 a2 a3) := by
  unfold keepE
  exact (by
 extract_lets t1
 exact (setMbx_moves _ _ h))

theorem startHandover_moves (h : Moves k r s) : Moves k r (startHandover s).1 := by
  unfold startHandover
  exact (by
 extract_lets t1
 exact (Moves.ite1 (Moves.mk1 (hit_moves _ rfl (report_moves _ _ _ h))) (Moves.ite1 (Moves.mk1 (hit_moves _ rfl (report_moves _ _ _ h))) (Moves.mk1 (showChange_moves (Moves.update h))))))

theorem clearHazards_moves (a1 : Nat) (h : Moves k r s) : Moves k r (clearHazards s a1) := by
  unfold clearHazards
  exact (Moves.foldl (fun _ _ h1 => (clearHazard_moves _ h1)) _ h)

theorem withAligned_moves (a1 : Nat) (a2 : MbxReq) (a3 : Nat) (a4 : Nat) {a5 : State → State}
    (ha5 : ∀ x0, Moves k r x0 → Moves k r (a5 x0)) (h : Moves k r s) :
    Moves k r (withAligned s a1 a2 a3 a4 a5) := by
  unfold withAligned
  exact (Moves.ite (ha5 _ h) (respond_moves _ _ _ _ _ (haltCh_moves _ _ _ _ h)))

theorem putSeg_moves (a1 : Nat) (a2 : Nat) (h : Moves k r s) : Moves k r (putSeg s a1 a2) := by
  unfold putSeg
  exact (Moves.update_mem (fun hm => (memory_wf_memWrite _ _ hm)) h)

theorem startCopy_moves (a1 : Nat) (h : Moves k r s) : Moves k r (startCopy s a1) := by
  unfold startCopy
  cases chooseSlot s with
  | none => exact h
  | some n =>
    have h1 : Moves k r { s with segCopies := s.segCopies ++ [(a1, n)] } := Moves.update h
    dsimp only
    generalize { s with segCopies := s.segCopies ++ [(a1, n)] } = t at h1 ⊢
    cases segIn s n with
    | none => exact h1
    | some g => exact putSeg_moves _ _ h1

theorem writeTail_moves (a1 : Wr) {a2 : RegSpec} {a3 : Fld} {a4 : Fld} (ha2 : a2.apart = true)
    (ha3 : a3.apart = true) (ha4 : a4.apart = true) (h : Moves k r s) :
    Moves k r (writeTail s a1 a2 a3 a4) := by
  unfold writeTail
  exact (gate_moves _ _ _ (fun _ _ h1 => (by
 extract_lets t2
 exact (Moves.ite (hit_moves _ rfl h1) (putAll_moves _ _ _ ha2 h1)))) h)

theorem contentRegs_apart : contentRegs.all (fun r => r.flds.all Fld.apart) = true := by decide

theorem flipReg_moves (a1 : RegFlip) (h : Moves k r s) : Moves k r (flipReg s a1) := by
  unfold flipReg
  cases e : contentRegs.find? (fun r => r.off == a1.off) with
  | none => exact h
  | some q =>
    have hq := List.all_eq_true.1 contentRegs_apart q (List.mem_of_find?_eq_some e)
    refine Moves.ite h (Moves.update ?_)
    exact List.foldlRecOn (motive := fun t => Moves k r t) _ _ h
      (fun t ht x hx => wr_moves (List.all_eq_true.1 hq x hx) _ _ ht)

theorem renewStream_moves (a1 : Nat) (h : Moves k r s) : Moves k r (renewStream s a1) := by
  unfold renewStream
  exact (modStrm_moves _ _ h)

theorem releaseSafe_moves (h : Moves False r s) : Moves False r (releaseSafe s) := by
  unfold releaseSafe
  exact (by
 extract_lets t1 t4
 have h2 : Moves False r t1 := (Moves.foldl (fun _ _ h3 => (Moves.ite (renewStream_moves _ h3) h3)) _ (wr_moves rfl _ _ (clearSafe_moves h)))
 have h5 : Moves False r t4 := (showFixed_moves (logChange_moves _ (report_moves _ _ _ h2)))
 exact (Moves.ite (sendPair_moves _ _ _ h5) h5))

theorem askRelease_moves (a1 : Bool) (h : Moves False r s) : Moves False r (askRelease s a1).1 := by
  unfold askRelease
  exact (by
 extract_lets t1
 have h2 : Moves False r t1 := (wr_moves rfl _ _ h)
 exact (Moves.ite1 (Moves.mk1 h2) (Moves.ite1 (Moves.mk1 (releaseSafe_moves h2)) (Moves.mk1 (report_moves _ _ _ h2)))))

theorem abandon_moves (h : Moves k r s) : Moves k r (abandon s) := by
  unfold abandon
  exact (by
 extract_lets t1 t2 t4 t7 t9
 have h3 : Moves k r t2 := (Moves.update h)
 have h5 : Moves k r t4 := (Moves.foldl (fun _ _ h6 => (modStrm_moves _ _ h6)) _ h3)
 have h8 : Moves k r t7 := (hit_moves _ rfl (showChange_moves (report_moves _ _ _ h5)))
 have h10 : Moves k r t9 := (respondAll_moves _ _ _ _ (respondAll_moves _ _ _ _ h8))
 exact (answerWaiting_moves _ _ _ h10))

theorem readyHandover_moves (h : Moves k r s) : Moves k r (readyHandover s) := by
  unfold readyHandover
  exact (by
 extract_lets t1 t2 t3 t4
 have h5 : Moves k r t4 := (Moves.foldl (fun _ _ h6 => (modStrm_moves _ _ h6)) _ (Moves.update h))
 exact (by
 clear_value t1
 split
 · exact (handoverSwitch_moves h5)
 · exact (noteChange_moves _ _ h5)))

theorem setStandby_moves (a1 : Bool) (h : Moves k r s) : Moves k r (setStandby s a1) := by
  unfold setStandby
  exact (wr_moves rfl _ _ (wr_moves rfl _ _ h))

theorem finishHandover_moves (a1 : Bool) (h : Moves k r s) : Moves k r (finishHandover s a1) := by
  unfold finishHandover
  exact (by
 extract_lets t1 t2 t3 t5 t7
 have h4 : Moves k r t3 := (logChange_moves _ (report_moves _ _ _ (showChange_moves (Moves.update h))))
 have h6 : Moves k r t5 := (respondAll_moves _ _ _ _ (respondAll_moves _ _ _ _ h4))
 have h8 : Moves k r t7 := (answerWaiting_moves _ _ _ h6)
 exact (report_moves _ _ _ (raiseRollback_moves _ _ h8)))

theorem modShadow_moves (a1 : Nat) (a2 : Nat) (a3 : Nat) (a4 : Shadow → Shadow) (h : Moves k r s) :
    Moves k r (modShadow s a1 a2 a3 a4) := by
  unfold modShadow
  exact (by
 extract_lets t1
 exact (Moves.update h))

theorem dropShadow_moves (a1 : Nat) (a2 : Nat) (a3 : Nat) (h : Moves k r s) : Moves k r (dropShadow s a1 a2 a3) := by
  unfold dropShadow
  exact (by
 extract_lets t1
 exact (Moves.update h))

theorem copyCombine_moves (a1 : Place) (a2 : Nat) (h : Moves k r s) : Moves k r (copyCombine s a1 a2) := by
  unfold copyCombine
  exact (by
 extract_lets t1 t2
 exact (Moves.update_mem (fun hm => (memory_wf_copyCells _ _ _ _ hm)) h))

theorem sendShadow_moves (a1 : Nat) (a2 : Nat) (a3 : Nat) (a4 : List Nat) (a5 : Nat → Shadow → Shadow)
    (h : Moves k r s) :
    Moves k r (sendShadow s a1 a2 a3 a4 a5) := by
  unfold sendShadow
  exact (by
 split
 · exact h
 · exact (by
 split
 · exact h
 · exact (by
 extract_lets t1 t2
 have h3 : Moves k r t2 := (copyCombine_moves _ _ (resetRings_moves _ _ _ h))
 exact (modShadow_moves _ _ _ _ (offerDesc_moves _ _ h3)))))

theorem shadowVote_moves (a1 : Shadow) (a2 : Nat) (a3 : Nat) (a4 : Nat) (a5 : List Byte) (h : Moves k r s) :
    Moves k r (shadowVote s a1 a2 a3 a4 a5) := by
  unfold shadowVote
  exact (by
 extract_lets t1 t3 t4
 have h2 : Moves k r t1 := (dropShadow_moves _ _ _ h)
 have h5 : Moves k r t4 := (report_moves _ _ _ h2)
 exact (Moves.ite (charge_moves _ _ _ _ (capture_moves _ _ h5)) (Moves.ite (charge_moves _ _ _ _ (report_moves _ _ _ h2)) (report_moves _ _ _ h2))))

theorem setCvu_moves (a1 : Nat) (a2 : Cvu) (h : Moves k r s) : Moves k r (setCvu s a1 a2) := by
  unfold setCvu
  exact (Moves.update h)

theorem compareWindow_moves (a1 : Nat) (a2 : Nat) (h : Moves k r s) : Moves k r (compareWindow s a1 a2) := by
  unfold compareWindow
  exact (by
 split
 · exact (Moves.ite h (Moves.foldl (fun _ _ h1 => (alarmShare_moves _ h1)) _ (hit_moves _ rfl (report_moves _ _ _ h))))
 · exact h)

theorem compareCvu_moves (a1 : Nat) (h : Moves k r s) : Moves k r (compareCvu s a1) := by
  unfold compareCvu
  exact (by
 extract_lets t1 t2 t3 t6
 have h4 : Moves k r t3 := (Moves.foldl (fun _ _ h5 => (compareWindow_moves _ _ h5)) _ h)
 exact (setCvu_moves _ _ h4))

theorem pruneCvu_moves (a1 : Nat) (h : Moves k r s) : Moves k r (pruneCvu s a1) := by
  unfold pruneCvu
  exact (by
 extract_lets t1 t2 t3
 exact (setCvu_moves _ _ h))

theorem checkAhead_moves (a1 : Nat) (h : Moves k r s) : Moves k r (checkAhead s a1) := by
  unfold checkAhead
  exact (Moves.ite (hit_moves _ rfl (report_moves _ _ _ h)) h)

theorem closeWindow_moves (a1 : Nat) (h : Moves k r s) : Moves k r (closeWindow s a1) := by
  unfold closeWindow
  exact (by
 extract_lets t1 t2 t4 t6 t8
 have h3 : Moves k r t2 := (wr_moves rfl _ _ (wr_moves rfl _ _ h))
 have h5 : Moves k r t4 := (wr_moves rfl _ _ (wr_moves rfl _ _ h3))
 have h7 : Moves k r t6 := (setCvu_moves _ _ h5)
 have h9 : Moves k r t8 := (Moves.ite (checkAhead_moves _ (compareCvu_moves _ h7)) h7)
 exact (Moves.foldl (fun _ _ h10 => (pruneCvu_moves _ h10)) _ (Moves.foldl (fun _ _ h11 => (compareCvu_moves _ h11)) _ h9)))

theorem takeFlit_moves (a0 : Flit) (a1 : Option Writer) (a3 : Nat) (h : Moves k r s) :
    Moves k r (takeFlit a0 a1 s a3) := by
  unfold takeFlit
  exact (by
 extract_lets t1 t3 t4 t5 t7
 have h2 : Moves k r t1 := (Moves.ite (closeWindow_moves _ h) h)
 have h6 : Moves k r t5 := (setCvu_moves _ _ h2)
 have h8 : Moves k r t7 := (wr_moves rfl _ _ h6)
 exact (Moves.ite (hit_moves _ rfl (report_moves _ _ _ h8)) h8))

theorem snoop_moves (a1 : Nat) (a2 : Bool) (a3 : Flit) (a4 : Option Writer) (h : Moves k r s) :
    Moves k r (snoop s a1 a2 a3 a4) := by
  unfold snoop
  exact (Moves.foldl (fun _ _ h1 => (takeFlit_moves _ _ _ h1)) _ h)

theorem sendFlit_moves (a1 : Flit) (a2 : Option Writer) (h : Moves k r s) : Moves k r (sendFlit s a1 a2) := by
  unfold sendFlit
  exact (by
 extract_lets t1
 exact (snoop_moves _ _ _ _ (Moves.update h)))

theorem takePoison_moves (a1 : Nat) (a2 : Flit) (a3 : Option Writer) (h : Moves k r s) :
    Moves k r (takePoison s a1 a2 a3) := by
  unfold takePoison
  exact (by
 extract_lets t1
 have h2 : Moves k r t1 := (Moves.ite (setPoison_moves _ _ _ h) h)
 exact (by
 split
 · exact (report_moves _ _ _ h2)
 · exact (by
 split
 · exact (shareEvent_moves _ _ _ _ h2)
 · exact (alarmShare_moves _ (report_moves _ _ _ h2)))))

theorem moveFlit_moves (a1 : MeshFlit) (a2 : Bool) (a3 : Option Writer) (h : Moves k r s) :
    Moves k r (moveFlit s a1 a2 a3) := by
  unfold moveFlit
  exact (by
 extract_lets t1 t2 t3 t4 t6
 have h5 : Moves k r t4 := (snoop_moves _ _ _ _ (Moves.update h))
 have h7 : Moves k r t6 := (reportIf_moves _ _ _ _ h5)
 exact (Moves.ite (takePoison_moves _ _ _ h7) h7))

theorem cvuWrite_moves (a1 : Wr) (a2 : RegSpec) (a3 : Nat) {a4 : State → State}
    (ha4 : ∀ x0, Moves k r x0 → Moves k r (a4 x0)) (h : Moves k r s) :
    Moves k r (cvuWrite s a1 a2 a3 a4) := by
  unfold cvuWrite
  exact (gate_moves _ _ _ (fun _ _ h1 => (Moves.ite (report_moves _ _ _ h1) (ha4 _ h1))) h)

theorem rejoined_moves (h : Moves k r s) : Moves k r (rejoined s) := by
  unfold rejoined
  exact (by
 extract_lets t1 t2 t4 t5
 have h3 : Moves k r t2 := (Moves.update h)
 exact (report_moves _ _ _ (lastChange_moves _ _ (setRole_moves _ _ h3))))

theorem streamMatched_moves (a1 : Nat) (h : Moves k r s) : Moves k r (streamMatched s a1) := by
  unfold streamMatched
  exact (by
 extract_lets t1 t2
 have h3 : Moves k r t2 := (Moves.update h)
 exact (Moves.ite (rejoined_moves h3) h3))

theorem sendDigest_moves (a1 : Nat) (a2 : Nat) (a3 : Nat) (a4 : Nat) (a5 : List Nat) (h : Moves k r s) :
    Moves k r (sendDigest s a1 a2 a3 a4 a5) := by
  unfold sendDigest
  exact (by
 extract_lets t1
 exact (sendPair_moves _ _ _ h))

theorem showVoting_moves (h : Moves k r s) : Moves k r (showVoting s) := by
  unfold showVoting
  exact (wr_moves rfl _ _ h)

theorem openVote_moves (a0 : Pkg) (a1 : Nat) (a2 : Nat) (a4 : SegVote) (h : Moves k r s) :
    Moves k r (openVote a0 a1 a2 s a4) := by
  unfold openVote
  exact (by
 split
 · exact h
 · exact (by
 extract_lets t1 t3
 have h2 : Moves k r t1 := (bump_moves _ rfl (report_moves _ _ _ h))
 have h4 : Moves k r t3 := (modStripe_moves _ _ _ h2)
 exact (Moves.foldl (fun _ _ h5 => (Moves.ite (replay_moves _ _ _ _ h5) h5)) _ h4)))

theorem compareDigests_moves (a1 : Nat) (a2 : Nat) (h : Moves k r s) : Moves k r (compareDigests s a1 a2) := by
  unfold compareDigests
  exact (by
 split
 · exact h
 · exact (by
 split
 · exact h
 · exact (by
 extract_lets t1 t2
 exact (Moves.ite h (Moves.ite (Moves.ite (streamMatched_moves _ h) h) (Moves.ite (reportIf_moves _ _ _ _ h) (showVoting_moves (Moves.foldl (fun _ _ h3 => (openVote_moves _ _ _ _ h3)) _ h))))))))

theorem settleStripe_moves (a1 : Nat) (a2 : Nat) (h : Moves k r s) : Moves k r (settleStripe s a1 a2) := by
  unfold settleStripe
  exact (by
 split
 · exact h
 · exact (by
 split
 · exact h
 · exact (by
 extract_lets t1 t3
 have h2 : Moves k r t1 := (modStripe_moves _ _ _ h)
 have h4 : Moves k r t3 := (sendDigest_moves _ _ _ _ _ h2)
 exact (Moves.ite h (compareDigests_moves _ _ (sendRecord_moves _ _ _ _ _ _ h4))))))

theorem settleAll_moves (h : Moves k r s) : Moves k r (settleAll s) := by
  unfold settleAll
  exact (Moves.ite h (Moves.foldl (fun _ _ h1 => (Moves.foldl (fun _ _ h2 => (settleStripe_moves _ _ h2)) _ h1)) _ h))

theorem resolveVote_moves (a1 : Nat) (a2 : Nat) (a3 : Nat) (a4 : Stripe) (a5 : Pkg) (a6 : SegVote) (h : Moves k r s) :
    Moves k r (resolveVote s a1 a2 a3 a4 a5 a6) := by
  unfold resolveVote
  exact (by
 extract_lets t1
 have h2 : Moves k r t1 := (showVoting_moves (modStripe_moves _ _ _ h))
 exact (Moves.ite (report_moves _ _ _ h2) (Moves.ite (Moves.foldl (fun _ _ h3 => (charge_moves _ _ _ _ h3)) _ (bump_moves _ rfl (report_moves _ _ _ h2))) (report_moves _ _ _ h2))))

theorem takeLine_moves (a1 : Nat) (a2 : Nat) (a3 : Nat) (a4 : Nat) (a5 : List Nat) (h : Moves k r s) :
    Moves k r (takeLine s a1 a2 a3 a4 a5) := by
  unfold takeLine
  exact (by
 extract_lets t1
 exact (Moves.ite h (modStrm_moves _ _ h)))

theorem takeLineCell_moves (a1 : Nat) (a2 : Nat) (a3 : Nat) (a4 : List Byte) (h : Moves k r s) :
    Moves k r (takeLineCell s a1 a2 a3 a4) := by
  unfold takeLineCell
  exact (by
 extract_lets t1 t2
 exact (Moves.ite (modStrm_moves _ _ h) (takeLine_moves _ _ _ _ _ (modStrm_moves _ _ h))))

theorem stray_moves (a1 : Nat) (h : Moves k r s) : Moves k r (stray s a1) := by
  unfold stray
  exact (report_moves _ _ _ h)

theorem freeLine_moves (a1 : Nat) (a2 : Line) (h : Moves k r s) : Moves k r (freeLine s a1 a2) := by
  unfold freeLine
  exact (by
 extract_lets t1 t2 t3
 have h4 : Moves k r t3 := (modStrm_moves _ _ h)
 exact (Moves.ite h4 (enterLine_moves _ _ (reportIf_moves _ _ _ _ h4))))

theorem freeLines_moves (a0 a1 : Nat) (h : Moves k r s) : Moves k r (freeLines a0 a1 s) := by
  induction a1 generalizing s with
  | zero => exact h
  | succ n ih =>
    unfold freeLines
    split
    · exact h
    · exact ih (freeLine_moves _ _ h)

theorem commitLine_moves (a1 : Nat) (a2 : Nat) (a3 : Nat) (h : Moves k r s) : Moves k r (commitLine s a1 a2 a3) := by
  unfold commitLine
  exact (Moves.ite (freeLines_moves _ _ (modStrm_moves _ _ h)) (stray_moves _ h))

theorem retractLine_moves (a1 : Nat) (a2 : Nat) (a3 : Nat) (h : Moves k r s) : Moves k r (retractLine s a1 a2 a3) := by
  unfold retractLine
  exact (by
 extract_lets t1
 exact (Moves.ite (freeLines_moves _ _ (report_moves _ _ _ (bump_moves _ rfl (modStrm_moves _ _ h)))) (stray_moves _ h)))

theorem withStripe_moves (a1 : Nat) (a2 : Nat) (a3 : Nat) (a4 : Nat) {a5 : State → State}
    (ha5 : ∀ x0, Moves k r x0 → Moves k r (a5 x0)) (h : Moves k r s) :
    Moves k r (withStripe s a1 a2 a3 a4 a5) := by
  unfold withStripe
  exact (by
 split
 · exact (Moves.ite (stray_moves _ h) (ha5 _ h))
 · exact (stray_moves _ h))

theorem retractSeg_moves (a1 : Nat) (a2 : Nat) (a3 : Nat) (h : Moves k r s) : Moves k r (retractSeg s a1 a2 a3) := by
  unfold retractSeg
  exact (report_moves _ _ _ (bump_moves _ rfl (modStripe_moves _ _ _ h)))

theorem takeLeave_moves (a1 : Nat) (h : Moves k r s) : Moves k r (takeLeave s a1) := by
  unfold takeLeave
  exact (by
 extract_lets t1 t2 t4 t5
 have h3 : Moves k r t2 := (Moves.update h)
 have h6 : Moves k r t5 := (Moves.ite (report_moves _ _ _ h3) h3)
 exact (Moves.ite h (partnerLost_moves h6)))

theorem takeYield_moves (a1 : Nat) (a2 : Nat) (a3 : Nat) (h : Moves k r s) : Moves k r (takeYield s a1 a2 a3) := by
  unfold takeYield
  exact (Moves.ite (stray_moves _ h) (by
 split
 · exact (by
 extract_lets t1 t3 t5
 have h2 : Moves k r t1 := (lastChange_moves _ _ h)
 have h4 : Moves k r t3 := (setRole_moves _ _ h2)
 exact (Moves.ite (nameRejoin_moves (becomeSpeaker_moves h2)) (Moves.update h4)))
 · exact (nameRejoin_moves (setRole_moves _ _ (lastChange_moves _ _ h)))
 · exact h))

theorem takeDigests_moves (a1 : Nat) (a2 : Nat) (a3 : Nat) (a4 : Nat) (a5 : Nat) (a6 : Nat) (a7 : List Nat)
    (h : Moves k r s) :
    Moves k r (takeDigests s a1 a2 a3 a4 a5 a6 a7) := by
  unfold takeDigests
  exact (withStripe_moves _ _ _ _ (fun _ h1 => (modStripe_moves _ _ _ h1)) h)

theorem dropMarked_moves (a1 : Nat) (a2 : Nat) (h : Moves k r s) : Moves k r (dropMarked s a1 a2) := by
  unfold dropMarked
  exact (by
 extract_lets t1 t2
 have h3 : Moves k r t2 := (modStrm_moves _ _ h)
 exact (showFill_moves _ (Moves.ite (wr_moves rfl _ _ h3) h3)))

theorem markLines_moves (a1 : Nat) (a2 : Nat) (h : Moves k r s) : Moves k r (markLines s a1 a2) := by
  unfold markLines
  exact (by
 extract_lets t1 t2
 have h3 : Moves k r t2 := (Moves.update h)
 exact (Moves.ite h (dropMarked_moves _ _ (modStrm_moves _ _ h3))))

theorem markDecision_moves (a1 : Nat) (h : Moves k r s) : Moves k r (markDecision s a1) := by
  unfold markDecision
  exact (by
 extract_lets t1 t2
 exact (Moves.ite h (Moves.ite (Moves.update h) (Moves.update h))))

theorem takePackage_moves (a1 : Nat) (a2 : Image) (a3 : Nat) (h : Moves k r s) :
    Moves k r (takePackage s a1 a2 a3) := by
  unfold takePackage
  exact (modStrm_moves _ _ (install_moves _ _ h))

theorem takeSwap_moves (a1 : Nat) (a2 : Nat) (a3 : Image) (h : Moves k r s) : Moves k r (takeSwap s a1 a2 a3) := by
  unfold takeSwap
  exact (by
 extract_lets t1 t2 t4
 have h3 : Moves k r t2 := (install_moves _ _ h)
 have h5 : Moves k r t4 := (modStrm_moves _ _ h3)
 exact (Moves.ite h (sendPair_moves _ _ _ (noteChange_moves _ _ (retileSwap_moves _ h5)))))

theorem confirmSwap_moves (a1 : Nat) (a2 : Nat) (h : Moves k r s) : Moves k r (confirmSwap s a1 a2) := by
  unfold confirmSwap
  exact (retileSwap_moves _ (modStrm_moves _ _ h))

theorem startAtRejoin_moves (a1 : Nat) (a2 : Nat) (a3 : Nat) (h : Moves k r s) :
    Moves k r (startAtRejoin s a1 a2 a3) := by
  unfold startAtRejoin
  exact (Moves.ite (modStrm_moves _ _ h) (Moves.ite h (modStrm_moves _ _ (startStream_moves _ (wr_moves rfl _ _ h)))))

theorem takeRejoin_moves (a1 : Nat) (a2 : Nat) (a3 : Nat) (a4 : Nat) (h : Moves k r s) :
    Moves k r (takeRejoin s a1 a2 a3 a4) := by
  unfold takeRejoin
  exact (by
 extract_lets t1 t3
 have h2 : Moves k r t1 := (startAtRejoin_moves _ _ _ h)
 exact (Moves.ite h (Moves.ite (rejoined_moves h) (Moves.update h2))))

theorem schedule_moves (a1 : Nat) (a2 : Nat) (a3 : Change) (h : Moves k r s) : Moves k r (schedule s a1 a2 a3) := by
  unfold schedule
  exact (by
 extract_lets t1
 exact (Moves.update h))

theorem takeChange_moves (a1 : Nat) (a2 : Nat) (a3 : Change) (h : Moves k r s) : Moves k r (takeChange s a1 a2 a3) := by
  unfold takeChange
  exact (by
 split
 · exact (confirmSwap_moves _ _ h)
 · exact (by
 extract_lets t1
 exact (nameRejoin_moves (Moves.update h)))
 · exact (Moves.ite h (by
 split
 · exact (Moves.ite (applyReg_moves _ _ h) (schedule_moves _ _ _ (modStrm_moves _ _ h)))
 · exact (Moves.ite h (startStream_moves _ (wr_moves rfl _ _ h)))
 · exact (Moves.ite (stopStream_moves _ h) h)
 · exact (Moves.ite h (takePackage_moves _ _ _ h))
 · exact (takeSwap_moves _ _ _ h)
 · exact (by
 extract_lets t2
 exact (setCal_moves _ _ h))
 · exact (by
 extract_lets t3
 exact (Moves.update h))
 · exact (takeRejoin_moves _ _ _ _ h)
 · exact h
 · exact h)))

theorem deliver_moves (a0 : Nat) (a1 : Nat) (a3 : PairMsg) (h : Moves k r s) : Moves k r (deliver a0 a1 s a3) := by
  unfold deliver
  exact (by
 split
 · exact (takeLineCell_moves _ _ _ _ h)
 · exact (commitLine_moves _ _ _ h)
 · exact (retractLine_moves _ _ _ h)
 · exact (withStripe_moves _ _ _ _ (fun _ h1 => (compareDigests_moves _ _ (modStripe_moves _ _ _ h1))) h)
 · exact (withStripe_moves _ _ _ _ (fun _ h2 => (retractSeg_moves _ _ _ h2)) h)
 · exact (takeLeave_moves _ h)
 · exact (takeYield_moves _ _ _ h)
 · exact (Moves.ite (stray_moves _ h) (Moves.ite (setRole_moves _ _ h) h))
 · exact (takeDigests_moves _ _ _ _ _ _ _ h)
 · exact h
 · exact (markDecision_moves _ h)
 · exact (markLines_moves _ _ h)
 · exact (takeChange_moves _ _ _ h)
 · exact (stray_moves _ h))

theorem drainAhead_moves (a1 : Nat) (h : Moves k r s) : Moves k r (drainAhead s a1) := by
  induction a1 generalizing s with
  | zero => exact h
  | succ n ih =>
    unfold drainAhead
    exact Moves.ite h (ih (Moves.foldl (fun _ _ h1 => deliver_moves _ _ _ h1) _ (Moves.update h)))

theorem endRecords_moves (a1 : Nat) (h : Moves k r s) : Moves k r (endRecords s a1) := by
  unfold endRecords
  exact (by
 extract_lets t1
 exact (setZl_moves _ _ h))

theorem keepAhead_moves (a1 : Rx) (a2 : PairMsg) (h : Moves k r s) : Moves k r (keepAhead s a1 a2) := by
  unfold keepAhead
  exact (by
 extract_lets t1
 exact (Moves.ite (endRecords_moves _ h) (Moves.ite (endRecords_moves _ (report_moves _ _ _ h)) (Moves.update h))))

theorem inTurn_moves (a1 : Rx) (a2 : PairMsg) (h : Moves k r s) : Moves k r (inTurn s a1 a2) := by
  unfold inTurn
  exact (by
 extract_lets t1
 exact (Moves.ite (drainAhead_moves _ (deliver_moves _ _ _ (Moves.update h))) (Moves.ite (keepAhead_moves _ _ h) (Moves.ite (deliver_moves _ _ _ h) (endRecords_moves _ h)))))

theorem arriveCell_moves (a1 : Rx) (a2 : PairMsg) (h : Moves k r s) : Moves k r (arriveCell s a1 a2) := by
  unfold arriveCell
  exact (by
 extract_lets t1 t3
 have h2 : Moves k r t1.1 := (takeCell_moves _ h)
 have h4 : ∀ x0 x1, Moves k r x0 → Moves k r (t3 x0 x1) := by
  unfold t3
  exact (fun _ _ h5 => (Moves.ite (deliver_moves _ _ _ h5) (inTurn_moves _ _ h5)))
 exact (by
 split
 · exact (Moves.ite (countDrop_moves _ h2) h2)
 · exact (h4 _ _ h2)
 · exact (h4 _ _ h2)))

theorem undeliverable_moves (a1 : Nat) (h : Moves k r s) : Moves k r (undeliverable s a1) := by
  unfold undeliverable
  exact (countDrop_moves _ (report_moves _ _ _ h))

theorem ringCell_moves (a1 : Rx) (a2 : CellHead) {a3 : State → State} (ha3 : ∀ x0, Moves k r x0 → Moves k r
    (a3 x0)) (h : Moves k r s) :
    Moves k r (ringCell s a1 a2 a3) := by
  unfold ringCell
  exact (by
 extract_lets t1 t3 t4
 have h2 : Moves k r t1.1 := (takeCell_moves _ h)
 have h5 : Moves k r t4 := (wr_moves rfl _ _ h2)
 exact (Moves.ite h (by
 split
 · exact (Moves.ite (countDrop_moves _ h2) h2)
 · exact h2
 · exact (Moves.ite (undeliverable_moves _ h5) (Moves.ite (ha3 _ h5) h5)))))

theorem takeCommand_moves (a1 : Nat) (a2 : List Byte) (h : Moves k r s) : Moves k r (takeCommand s a1 a2) := by
  unfold takeCommand
  exact (by
 extract_lets t1 t2
 exact (Moves.update h))

theorem takeMessage_moves (a1 : Nat) (a2 : Nat) (a3 : List Byte) (h : Moves k r s) :
    Moves k r (takeMessage s a1 a2 a3) := by
  unfold takeMessage
  exact (Moves.ite (takeCommand_moves _ _ h) (Moves.ite (Moves.ite (emit_moves _ h) h) (emit_moves _ h)))

theorem takeMessageCell_moves (a1 : Nat) (a2 : List Byte) (h : Moves k r s) : Moves k r (takeMessageCell s a1 a2) := by
  unfold takeMessageCell
  exact (by
 extract_lets t1 t2 t3
 have h4 : ∀ x0, Moves k r (t3 x0) := by
  unfold t3
  exact (fun _ => (Moves.update h))
 exact (Moves.ite (h4 _) (takeMessage_moves _ _ _ (h4 _))))

theorem passOn_moves (a1 : Nat) (a2 : CellHead) (a3 : List Byte) (h : Moves k r s) : Moves k r (passOn s a1 a2 a3) := by
  unfold passOn
  exact (by
 extract_lets t1 t2 t3 t5
 have h4 : Moves k r t3 := (Moves.ite (bump_moves _ rfl h) h)
 have h6 : Moves k r t5 := (Moves.ite (underrun_moves _ h4) h4)
 exact (Moves.ite (report_moves _ _ _ h) (giveCell_moves _ _ _ _ _ h6)))

theorem stompOn_moves (a1 : Nat) (a2 : CellHead) (a3 : List Byte) (h : Moves k r s) :
    Moves k r (stompOn s a1 a2 a3) := by
  unfold stompOn
  exact (by
 extract_lets t1
 exact (Moves.ite h (emit_moves _ (bump_moves _ rfl h))))

theorem calReject_moves (a1 : Nat) (h : Moves k r s) : Moves k r (calReject s a1) := by
  unfold calReject
  exact (hit_moves _ rfl h)

theorem commitSet_moves (a1 : Nat) (h : Moves k r s) : Moves k r (commitSet s a1) := by
  unfold commitSet
  exact (by
 extract_lets t1 t2 t3 t4
 have h5 : Moves k r t4 := (wr_moves rfl _ _ (setCal_moves _ _ h))
 exact (by
 split
 · exact (by
 extract_lets t6
 have h7 : Moves k r t6 := (wr_moves rfl _ _ (wr_moves rfl _ _ (wr_moves rfl _ _ h)))
 exact (report_moves _ _ _ (hit_moves _ rfl h7)))
 · exact (sendControl_moves _ _ _ _ h5)))

theorem clearSums_moves (a1 : Nat) (h : Moves k r s) : Moves k r (clearSums s a1) := by
  unfold clearSums
  exact (Moves.update_mem (fun hm => (memory_wf_memClear _ _ hm)) h)

theorem persist_moves (a1 : Nat) (h : Moves k r s) : Moves k r (persist s a1) := by
  unfold persist
  exact (by
 split
 · exact h
 · exact (by
 extract_lets t1 t2 t3 t4
 exact (Moves.update h)))

theorem selfRejected_moves (a1 : Nat) (h : Moves k r s) : Moves k r (selfRejected s a1) := by
  unfold selfRejected
  exact (wr_moves rfl _ _ h)

theorem showUnknown_moves (h : Moves k r s) : Moves k r (showUnknown s) := by
  unfold showUnknown
  exact (environment_moves _ _ _ _ h)

theorem trackSensor_moves (a1 : Nat) (h : Moves k r s) : Moves k r (trackSensor s a1) := by
  unfold trackSensor
  exact (by
 extract_lets t1 t2 t3
 exact (Moves.update h))

theorem notePeak_moves (h : Moves k r s) : Moves k r (notePeak s) := by
  unfold notePeak
  exact (by
 extract_lets t1 t2 t3 t4
 have h5 : Moves k r t4 := (Moves.update h)
 exact (Moves.ite (wr_moves rfl _ _ (wr_moves rfl _ _ h5)) h))

theorem moveTrims_moves (h : Moves k r s) : Moves k r (moveTrims s) := by
  unfold moveTrims
  exact (by
 extract_lets t1 t2 t3 t4
 exact (Moves.foldl (fun _ _ h5 => (by
 extract_lets t6
 exact (wr_moves rfl _ _ h5))) _ (Moves.update h)))

theorem moveBase_moves (a1 : Nat) (a2 : Option Nat) (h : Moves k r s) : Moves k r (moveBase s a1 a2) := by
  unfold moveBase
  exact (by
 extract_lets t1 t2 t6
 have h3 : ∀ x0 x1, Moves k r x0 → Moves k r (t2 x0 x1) := by
  unfold t2
  exact (fun _ _ h4 => (by
 extract_lets t5
 exact (Moves.update h4)))
 exact (by
 split
 · exact (showMargin_moves _ (wr_moves rfl _ _ (report_moves _ _ _ (h3 _ _ h))))
 · exact (Moves.ite (showMargin_moves _ (wr_moves rfl _ _ (h3 _ _ h))) (Moves.ite (h3 _ _ h) (Moves.ite (h3 _ _ h) (showMargin_moves _ (wr_moves rfl _ _ (h3 _ _ h))))))))

theorem canary_moves (a1 : Nat × List Nat) (h : Moves k r s) : Moves k r (canary s a1) := by
  unfold canary
  exact (by
 extract_lets t1 t2 t3 t4 t5 t6 t8 t9
 have h7 : Moves k r t6 := (wr_moves rfl _ _ (wr_moves rfl _ _ h))
 exact (Moves.ite (selfRejected_moves _ (report_moves _ _ _ h)) (moveBase_moves _ _ (Moves.update h7))))

theorem stepDrift_moves (h : Moves k r s) : Moves k r (stepDrift s) := by
  unfold stepDrift
  exact (by
 extract_lets t1
 exact (Moves.ite h (Moves.update h)))

theorem retrain_moves (a1 : Nat) (h : Moves k r s) : Moves k r (retrain s a1) := by
  unfold retrain
  exact (by
 split
 · exact (Moves.ite (wr_moves rfl _ _ (dropLink_moves _ h)) h)
 · exact (emit_moves _ h))

theorem showLife_moves (h : Moves k r s) : Moves k r (showLife s) := by
  unfold showLife
  exact (by
 extract_lets t1 t2 t4
 have h3 : Moves k r t2 := (wr_moves rfl _ _ (wr_moves rfl _ _ h))
 have h5 : Moves k r t4 := (wr_moves rfl _ _ (wr_moves rfl _ _ h3))
 exact (wr_moves rfl _ _ (wr_moves rfl _ _ (wr_moves rfl _ _ h5))))

theorem growWear_moves (h : Moves k r s) : Moves k r (growWear s) := by
  unfold growWear
  exact (by
 extract_lets t1 t2 t3 t4
 exact (Moves.update h))

theorem writeQuiet_moves (h : Moves k r s) : Moves k r (writeQuiet s) := by
  unfold writeQuiet
  exact (Moves.foldl (fun _ _ h1 => (setQuiet_moves _ _ h1)) _ h)

theorem saveLife_moves (a1 : Bool) (h : Moves k r s) : Moves k r (saveLife s a1) := by
  unfold saveLife
  exact (by
 extract_lets t1
 exact (Moves.ite (writeQuiet_moves (Moves.update h)) (report_moves _ _ _ h)))

theorem cycleStep_moves (a1 : Int) (h : Moves k r s) : Moves k r (cycleStep s a1) := by
  unfold cycleStep
  exact (by
 extract_lets t1 t2
 exact (Moves.ite (Moves.ite (Moves.update h) (Moves.ite (Moves.update h) h)) (Moves.ite (Moves.update h) (Moves.ite (Moves.update h) h))))

theorem wearSecond_moves (a1 : Nat) (h : Moves k r s) : Moves k r (wearSecond s a1) := by
  unfold wearSecond
  exact (by
 split
 · exact h
 · exact (by
 extract_lets t1 t2 t3 t4
 exact (Moves.update h)))

theorem setCalendar_moves (a1 : Nat) (h : Moves k r s) : Moves k r (setCalendar s a1) := by
  unfold setCalendar
  exact (wr_moves rfl _ _ (wr_moves rfl _ _ (Moves.update h)))

theorem noteCalendar_moves (h : Moves k r s) : Moves k r (noteCalendar s) := by
  unfold noteCalendar
  exact (by
 extract_lets t1
 exact (Moves.ite h (report_moves _ _ _ (Moves.update h))))

theorem sscTick_moves (h : Moves k r s) : Moves k r (sscTick s) := by
  unfold sscTick
  exact (Moves.ite (Moves.update h) (Moves.update h))

theorem rtcTick_moves (h : Moves k r s) : Moves k r (rtcTick s) := by
  unfold rtcTick
  exact (by
 extract_lets t1
 have h2 : Moves k r t1 := (Moves.update h)
 exact (Moves.ite (Moves.update h) (Moves.ite (wr_moves rfl _ _ h2) h2)))

theorem idle_moves (h : Moves k r s) : Moves k r (idle s) := by
  unfold idle
  exact (by
 extract_lets t1
 have h2 : Moves k r t1 := (stepDrift_moves (settleAll_moves (settleSpareless_moves (answerHalts_moves (rtcTick_moves (sscTick_moves h))))))
 exact (Moves.ite h2 (Moves.update h2)))

theorem thermMap_moves (a1 : Therm → Therm) (h : Moves k r s) : Moves k r (thermMap s a1) := by
  unfold thermMap
  exact (Moves.update h)

theorem showNtc_moves {a1 : Fld} (a2 : Option Int) (ha1 : a1.apart = true) (h : Moves k r s) :
    Moves k r (showNtc s a1 a2) := by
  unfold showNtc
  exact (by
 split
 · exact (wr_moves ha1 _ _ h)
 · exact (by
 extract_lets t1
 have h2 : Moves k r t1.2 := (fresh_moves h)
 exact (wr_moves ha1 _ _ h2)))

theorem showFlow_moves (a1 : Nat) (h : Moves k r s) : Moves k r (showFlow s a1).1 := by
  unfold showFlow
  exact (by
 extract_lets t1 t2 t4
 have h3 : Moves k r t2.2 := (fresh_moves h)
 exact (Moves.ite1 (Moves.mk1 (wr_moves rfl _ _ h)) (Moves.ite1 (Moves.mk1 (wr_moves rfl _ _ h)) (Moves.mk1 (wr_moves rfl _ _ h3)))))

theorem ntcFault_moves (a1 : Nat) (a2 : Option Int) (a3 : Option Int) (h : Moves k r s) :
    Moves k r (ntcFault s a1 a2 a3) := by
  unfold ntcFault
  exact (Moves.ite h (hit_moves _ rfl (reportIf_moves _ _ _ _ h)))

theorem limitOver_moves (h : Moves k r s) : Moves k r (limitOver s) := by
  unfold limitOver
  exact (Moves.ite (environment_moves _ _ _ _ h) h)

theorem showTherm_moves (h : Moves k r s) : Moves k r (showTherm s) := by
  unfold showTherm
  exact (by
 extract_lets t1
 exact (Moves.ite h (raiseInt_moves _ (wr_moves rfl _ _ h))))

theorem readCoolant_moves (a1 : Ntc) (a2 : Ntc) (a3 : Nat) (h : Moves k r s) : Moves k r (readCoolant s a1 a2 a3) := by
  unfold readCoolant
  exact (by
 extract_lets t1 t2 t3 t5 t7 t9 t10
 have h4 : Moves k r t3 := (ntcFault_moves _ _ _ (ntcFault_moves _ _ _ h))
 have h6 : Moves k r t5 := (showNtc_moves _ rfl (showNtc_moves _ rfl (thermMap_moves _ h4)))
 have h8 : Moves k r t7.1 := (showFlow_moves _ h6)
 have h11 : Moves k r t10 := (thermMap_moves _ h8)
 exact (showTherm_moves (limitOver_moves h11)))

theorem coolantAlarm_moves (a1 : Nat) (h : Moves k r s) : Moves k r (coolantAlarm s a1) := by
  unfold coolantAlarm
  exact (by
 extract_lets t1 t3 t4
 have h2 : Moves k r t1 := (hit_moves _ rfl (report_moves _ _ _ h))
 exact (Moves.update h2))

theorem checkJunction_moves (h : Moves k r s) : Moves k r (checkJunction s) := by
  unfold checkJunction
  exact (by
 extract_lets t1 t2 t4 t6
 have h3 : Moves k r t2 := (wr_moves rfl _ _ (wr_moves rfl _ _ h))
 have h5 : Moves k r t4 := (thermMap_moves _ h3)
 have h7 : Moves k r t6 := (Moves.ite (report_moves _ _ _ (thermMap_moves _ h5)) h5)
 exact (showTherm_moves (limitOver_moves (environment_moves _ _ _ _ h7))))

theorem showRails_moves (a1 : Nat) (h : Moves k r s) : Moves k r (showRails s a1) := by
  unfold showRails
  exact (Moves.ite (environment_moves _ _ _ _ h) h)

theorem powerBase_moves (a1 : BootIn) (h : Moves k r s) : Moves k r (powerBase s a1) where
  pending := h.pending
  part := h.part
  mem _ := rfl
  hostMem := h.hostMem
  regs hr := keysFrom_filter _ (h.regs hr)
  safe _ _ := powerBase_safe _ _
  free := h.free
  out := h.out

theorem bootSsc_moves (h : Moves k r s) : Moves k r (bootSsc s) := by
  unfold bootSsc
  exact (showRails_moves _ (readingInvalid_moves h))

theorem bootFw_moves (a1 : List Nat) (a2 : Nat) (h : Moves k r s) : Moves k r (bootFw s a1 a2) := by
  unfold bootFw
  exact (by
 extract_lets t1
 exact (wr_moves rfl _ _ (reportIf_moves _ _ _ _ (showFw_moves _ h))))

theorem bootHalt_moves (h : Moves k r s) : Moves k r (bootHalt s) := by
  unfold bootHalt
  exact (wr_moves rfl _ _ (wr_moves rfl _ _ (report_moves _ _ _ h)))

theorem repeatBurns_moves (a1 : Bool) (h : Moves k r s) : Moves k r (repeatBurns s a1) := by
  unfold repeatBurns
  exact (by
 extract_lets t1
 have h2 : Moves k r t1 := by
  unfold t1
  exact (by
 split
 · exact (setLifecycle_moves _ _ h)
 · exact h)
 exact (by
 split
 · exact (raiseRollback_moves _ _ h2)
 · exact h2))

theorem restoreTrims_moves (h : Moves k r s) : Moves k r (restoreTrims s) := by
  unfold restoreTrims
  exact (showIslands_moves (Moves.foldl (fun _ _ h1 => (by
 extract_lets t2
 exact (showMargin_moves _ (wr_moves rfl _ _ (wr_moves rfl _ _ (wr_moves rfl _ _ h1)))))) _ h))

theorem restoreSet_moves (a0 : List (Nat × Nat)) (a2 : Nat × Nat) (h : Moves k r s) :
    Moves k r (restoreSet a0 s a2) := by
  unfold restoreSet
  exact (by
 extract_lets t1 t2
 exact (Moves.ite h (by
 split
 · exact (report_moves _ _ _ h)
 · exact (wr_moves rfl _ _ (Moves.update h)))))

theorem bootSensors_moves (a1 : List Int) (h : Moves k r s) : Moves k r (bootSensors s a1) := by
  unfold bootSensors
  exact (by
 extract_lets t1 t4
 have h2 : Moves k r t1 := (Moves.foldl (fun _ _ h3 => (wr_moves rfl _ _ h3)) _ h)
 exact (by
 split
 · exact h2
 · exact (Moves.ite (Moves.update h2) h2)))

theorem bootLife_moves (a1 : BootIn) (h : Moves k r s) : Moves k r (bootLife s a1) := by
  unfold bootLife
  exact (by
 extract_lets t1 t2 t4 t7 t10
 have h3 : Moves k r t2 := (reportIf_moves _ _ _ _ (reportIf_moves _ _ _ _ h))
 have h5 : Moves k r t4 := (Moves.foldl (fun _ _ h6 => (report_moves _ _ _ (wr_moves rfl _ _ h6))) _ h3)
 have h8 : Moves k r t7 := (Moves.foldl (fun _ _ h9 => (restoreSet_moves _ _ h9)) _ (showLife_moves (restoreTrims_moves h5)))
 have h11 : Moves k r t10 := (checkJunction_moves (notePeak_moves (bootSensors_moves _ (readCoolant_moves _ _ _ h8))))
 exact (noteCalendar_moves h11))

theorem bootMemory_moves (a1 : BootIn) (h : Moves k r s) : Moves k r (bootMemory s a1) := by
  unfold bootMemory
  exact (by
 split
 · exact (pmbusFail_moves _ h)
 · exact (by
 extract_lets t1
 exact (hit_moves _ rfl (report_moves _ _ _ (Moves.update h))))
 · exact (Moves.ite (pmbusFail_moves _ h) h))

theorem bootRow_moves (a1 : Nat × Nat) (h : Moves k r s) : Moves k r (bootRow s a1) := by
  unfold bootRow
  exact (by
 extract_lets t1 t2
 exact (wr_moves rfl _ _ (wr_moves rfl _ _ (wr_moves rfl _ _ h))))

theorem bootCore_moves (a1 : Nat) (h : Moves k r s) : Moves k r (bootCore s a1) := by
  unfold bootCore
  exact (by
 extract_lets t1 t3
 have h2 : Moves k r t1 := (wr_moves rfl _ _ (wr_moves rfl _ _ h))
 have h4 : Moves k r t3 := (wr_moves rfl _ _ h2)
 exact (Moves.ite (wr_moves rfl _ _ (wr_moves rfl _ _ h)) (Moves.foldl (fun _ _ h5 => (setGroup_moves _ _ _ h5)) _ h4)))

theorem bootFail_moves (a1 : BootFail) (h : Moves k r s) : Moves k r (bootFail s a1) := by
  unfold bootFail
  exact (by
 extract_lets t1 t2 t6 t8 t10
 have h3 : ∀ x0, Moves k r x0 → Moves k r (t2 x0) := by
  unfold t2
  exact (fun _ h4 => (by
 extract_lets t5
 exact (Moves.ite h4 (charge_moves _ _ _ _ (capture_moves _ _ (report_moves _ _ _ h4))))))
 have h7 : Moves k r t6 := (h3 _ h)
 have h9 : Moves k r t8 := (h3 _ h7)
 have h11 : Moves k r t10 := (Moves.foldl (fun _ _ h12 => (setGroup_moves _ _ _ h12)) _ (wr_moves rfl _ _ h9))
 exact (Moves.ite h (Moves.ite h7 (Moves.ite h9 (report_moves _ _ _ (wr_moves rfl _ _ h11))))))

theorem bootChime_moves (h : Moves k r s) : Moves k r (bootChime s) := by
  unfold bootChime
  exact (Moves.ite h (showKernels_moves h))

theorem bootCores_moves (a1 : BootIn) (h : Moves k r s) : Moves k r (bootCores s a1) := by
  unfold bootCores
  exact (by
 extract_lets t1 t5 t8 t9 t10 t13 t14 t17
 have h2 : Moves k r t1 := (Moves.foldl (fun _ _ h3 => (bootCore_moves _ h3)) _ (Moves.foldl (fun _ _ h4 => (bootRow_moves _ h4)) _ (bootChime_moves h)))
 have h6 : Moves k r t5 := (Moves.foldl (fun _ _ h7 => (wr_moves rfl _ _ h7)) _ h2)
 have h11 : Moves k r t10 := (Moves.foldl (fun _ _ h12 => (hit_moves _ rfl (report_moves _ _ _ h12))) _ (Moves.update h6))
 have h15 : Moves k r t14 := (Moves.foldl (fun _ _ h16 => (bootFail_moves _ h16)) _ h11)
 exact (Moves.update h15))

theorem bootCycles_moves (h : Moves k r s) : Moves k r (bootCycles s) := by
  unfold bootCycles
  exact (by
 split
 · exact h
 · exact (by
 extract_lets t1
 exact (Moves.update h)))

theorem bootReady_moves (a1 : BootIn) (h : Moves k r s) : Moves k r (bootReady s a1) := by
  unfold bootReady
  exact (by
 extract_lets t1 t2 t4 t5 t7 t9
 have h3 : Moves k r t2 := (Moves.update h)
 have h6 : Moves k r t5 := (Moves.update h3)
 have h8 : Moves k r t7 := (wr_moves rfl _ _ (wr_moves rfl _ _ h6))
 have h10 : Moves k r t9 := (Moves.ite h8 (fieldLoss_moves _ h8))
 exact (raiseInt_moves _ (showPool_moves (wr_moves rfl _ _ h10))))

theorem powerUp_moves (a1 : BootIn) (h : Moves k r s) : Moves k r (powerUp s a1) := by
  unfold powerUp
  exact (by
 extract_lets t1
 have h2 : Moves k r t1 := (bootSsc_moves (powerBase_moves _ h))
 exact (by
 split
 · exact (bootHalt_moves h2)
 · exact (by
 extract_lets t3
 have h4 : Moves k r t3 := (repeatBurns_moves _ (setStandby_moves _ (bootFw_moves _ _ h2)))
 exact (bootReady_moves _ (bootCycles_moves (bootCores_moves _ (bootMemory_moves _ (bootLife_moves _ h4))))))))

theorem mgmtMap_moves (a1 : Mgmt → Mgmt) (h : Moves k r s) : Moves k r (mgmtMap s a1) := by
  unfold mgmtMap
  exact (Moves.update h)

theorem coverAck_moves (a1 : Nat) (h : Moves k r s) : Moves k r (coverAck s a1) := by
  unfold coverAck
  exact (by
 extract_lets t1 t2 t4 t5
 have h3 : Moves k r t2 := (mgmtMap_moves _ h)
 exact (wr_moves rfl _ _ (Moves.update h3)))

theorem dropDatagram_moves (h : Moves k r s) : Moves k r (dropDatagram s) := by
  unfold dropDatagram
  exact (by
 extract_lets t1
 have h2 : Moves k r t1 := (bump_moves _ rfl h)
 exact (Moves.ite h2 (report_moves _ _ _ (mgmtMap_moves _ h2))))

theorem accept_moves (a1 : InDgram) (h : Moves k r s) : Moves k r (accept s a1) := by
  unfold accept
  exact (coverAck_moves _ (mgmtMap_moves _ h))

theorem inbound_moves (a1 : InDgram) {a2 : State → State} (ha2 : ∀ x0, Moves k r x0 → Moves k r (a2 x0))
    (h : Moves k r s) :
    Moves k r (inbound s a1 a2) := by
  unfold inbound
  exact (by
 extract_lets t1
 have h2 : Moves k r t1 := (wr_moves rfl _ _ h)
 exact (Moves.ite h (Moves.ite (ha2 _ (accept_moves _ h2)) (dropDatagram_moves h2))))

theorem answerTo_moves (a1 : Nat) (a2 : List Byte) (h : Moves k r s) : Moves k r (answerTo s a1 a2) := by
  unfold answerTo
  exact (answerVia_moves _ _ _ h)

theorem reply_moves (a1 : Nat) (a2 : Nat) (a3 : List Byte) (h : Moves k r s) : Moves k r (reply s a1 a2 a3) := by
  unfold reply
  exact (answerTo_moves _ _ h)

theorem relay_moves (a1 : InDgram) (h : Moves k r s) : Moves k r (relay s a1) := by
  unfold relay
  exact (by
 extract_lets t1
 exact (by
 split
 · exact (sendMessage_moves _ _ _ _ h)
 · exact (reply_moves _ _ _ (report_moves _ _ _ h))))

theorem execMgmtDatagramReceived_moves (a0 : InDgram) (h : Moves k r s) : MovesO k r (execMgmtDatagramReceived a0 s) := by
  unfold execMgmtDatagramReceived
  exact MovesO.ite (ok_moves (relay_moves _ (wr_moves rfl _ _ h))) (ok_moves (inbound_moves _ (fun _ h6 => h6) h))

theorem resend_moves (a1 : Dgram) (h : Moves k r s) : Moves k r (resend s a1) := by
  unfold resend
  exact (bump_moves _ rfl (putDatagram_moves _ h))

theorem freeBytes_moves (a1 : Nat) (h : Moves k r s) : Moves k r (freeBytes s a1).2 :=
  ⟨h.pending, h.part, h.mem, h.hostMem, h.regs, h.safe, h.free.trans (Nat.le_add_right _ _), h.out⟩

theorem lifePage_moves (a1 : Nat) (h : Moves k r s) : Moves k r (lifePage s a1).2 := by
  unfold lifePage
  exact (by
 extract_lets t1
 have h2 : Moves k r t1.2 := (freeBytes_moves _ h)
 exact (Moves.mk2 h2))

theorem rateSecond_moves (h : Moves k r s) : Moves k r (rateSecond s) := by
  unfold rateSecond
  exact (Moves.ite h (mgmtMap_moves _ h))

theorem noteDropped_moves (h : Moves k r s) : Moves k r (noteDropped s) := by
  unfold noteDropped
  exact (by
 extract_lets t1 t2
 exact (Moves.ite h (enterWindow_moves _ (Moves.update h))))

theorem obey_moves (a0 : Nat) {a1 : State → State} (ha1 : ∀ x0, Moves k r x0 → Moves k r (a1 x0)) (h : Moves k r s) :
    Moves k r (obey a0 a1 s) := by
  unfold obey
  exact (Moves.ite (reply_moves _ _ _ (report_moves _ _ _ h)) (ha1 _ h))

theorem clapper_moves (a0 : InDgram) (a1 : Nat) {a2 : State → State} (ha2 : ∀ x0, Moves k r x0 → Moves k r
    (a2 x0)) (h : Moves k r s) :
    MovesO k r (clapper a0 a1 a2 s) := by
  unfold clapper
  exact (by
 split
 · exact (by
 extract_lets t1 t3
 have h2 : Moves k r t1 := (mgmtMap_moves _ h)
 have h4 : Moves k r t3 := (Moves.ite (obey_moves _ (fun _ h5 => (ha2 _ h5)) (accept_moves _ h2)) (dropDatagram_moves h2))
 exact (ok_moves (mgmtMap_moves _ h4)))
 · exact (MovesO.ite (execMgmtDatagramReceived_moves _ h) (ok_moves (inbound_moves _ (fun _ h6 => (obey_moves _ (fun _ h7 => (ha2 _ h7)) h6)) h))))

theorem setStaged_moves (a1 : Nat) (a2 : List Byte) (h : Moves k r s) : Moves k r (setStaged s a1 a2) := by
  unfold setStaged
  exact (mgmtMap_moves _ h)

theorem transfer_moves (a1 : Nat) (a2 : Nat) (a3 : XferPart) {a4 : State → State × Nat}
    (ha4 : ∀ x0, Moves k r x0 → Moves k r (a4 x0).1) (h : Moves k r s) :
    Moves k r (transfer s a1 a2 a3 a4) := by
  unfold transfer
  exact (by
 split
 · exact (by
 extract_lets t1 t2
 exact (reply_moves _ _ _ (setStaged_moves _ _ h)))
 · exact (by
 extract_lets t3 t4 t6
 have h5 : Moves k r t4 := (setStaged_moves _ _ h)
 have h7 : Moves k r t6.1 := (Moves.ite1 (ha4 _ h5) (Moves.mk1 (report_moves _ _ _ h5)))
 exact (reply_moves _ _ _ h7)))

theorem installChime_moves (a1 : ChimePack) (a2 : List Byte) (h : Moves k r s) :
    Moves k r (installChime s a1 a2).1 := by
  unfold installChime
  exact (by
 extract_lets t1 t2 t3 t4
 have h5 : Moves k r t4 := (wr_moves rfl _ _ (Moves.update h))
 exact (Moves.ite1 (Moves.mk1 (report_moves _ _ _ h)) (Moves.mk1 (logChange_moves _ (report_moves _ _ _ h5)))))

theorem clapperFirmware_moves (a1 : List Byte) (h : Moves k r s) : Moves k r (clapperFirmware s a1).1 := by
  unfold clapperFirmware
  exact (by
 extract_lets t1 t3
 have h2 : Moves k r t1.1 := (writeFirmware_moves _ _ h)
 have h4 : Moves k r t3 := h2
 exact (Moves.ite1 (Moves.mk1 (Moves.ite (Moves.update h4) h2)) (writeFirmware_moves _ _ h)))

theorem emptyMbx_moves (h : Moves k r s) : Moves k r (emptyMbx s) := by
  unfold emptyMbx
  exact (by
 extract_lets t1 t2 t4 t5
 have h3 : Moves k r t2 := (bumpBy_moves _ _ rfl h)
 have h6 : Moves k r t5 := (setMbx_moves _ _ h3)
 exact (wr_moves rfl _ _ (wr_moves rfl _ _ (wr_moves rfl _ _ (wr_moves rfl _ _ (wr_moves rfl _ _ h6))))))

theorem restartCursor_moves (h : Moves k r s) : Moves k r (restartCursor s) := by
  unfold restartCursor
  exact (wr_moves rfl _ _ h)

theorem disableRings_moves (h : Moves k r s) : Moves k r (disableRings s) := by
  unfold disableRings
  exact (Moves.foldl (fun _ _ h1 => (wr_moves rfl _ _ (wr_moves rfl _ _ h1))) _ h)

theorem clearXlat_moves (h : Moves k r s) : Moves k r (clearXlat s) := by
  unfold clearXlat
  exact (Moves.foldl (fun _ _ h1 => (wr_moves rfl _ _ (wr_moves rfl _ _ (wr_moves rfl _ _ h1)))) _ h)

theorem answerRead_moves (a1 : Requester) (a2 : Nat) (a3 : Nat) (h : Moves k r s) :
    Moves k r (answerRead s a1 a2 a3) := by
  unfold answerRead
  exact (emit_moves _ h)

theorem badAccess_moves (a1 : Acc) (a2 : Nat) (h : Moves k r s) : Moves k r (badAccess s a1 a2) := by
  unfold badAccess
  exact (by
 extract_lets t1
 have h2 : Moves k r t1 := (winErr_moves _ _ _ h)
 exact (Moves.ite (answerRead_moves _ _ _ h2) h2))

theorem latch_moves (a1 : Requester) (a2 : Nat) (a3 : Nat) (h : Moves k r s) : Moves k r (latch s a1 a2 a3) := by
  unfold latch
  exact (Moves.update h)

theorem writeReqSlot_moves (a1 : Wr) (a2 : Nat) (h : Moves k r s) : Moves k r (writeReqSlot s a1 a2) := by
  unfold writeReqSlot
  exact (by
 extract_lets t1 t2
 exact (Moves.ite h (Moves.ite (hit_moves _ rfl h) (Moves.update h))))

theorem writeSecret_moves (a1 : Wr) (a2 : Nat) (h : Moves k r s) : Moves k r (writeSecret s a1 a2) := by
  unfold writeSecret
  exact (Moves.ite (winErr_moves _ _ _ h) (Moves.ite h (Moves.ite (secMap_moves _ h) (secMap_moves _ h))))

theorem writeDbgData_moves (a1 : Wr) (a2 : Nat) (h : Moves k r s) : Moves k r (writeDbgData s a1 a2) := by
  unfold writeDbgData
  exact (Moves.ite h (Moves.update h))

theorem writeWindow_moves (a1 : Wr) (a2 : Nat) (h : Moves k r s) : Moves k r (writeWindow s a1 a2) := by
  unfold writeWindow
  exact (Moves.ite (writeReqSlot_moves _ _ h) (Moves.ite (writeSecret_moves _ _ h) (Moves.ite (writeDbgData_moves _ _ h) h)))

theorem writeZpCtrl_moves (a1 : Nat) (h : Moves k r s) : Moves k r (writeZpCtrl s a1) := by
  unfold writeZpCtrl
  exact (by
 extract_lets t1 t2
 have h3 : Moves k r t2 := (showFixed_moves (putField_moves _ _ rfl h))
 exact (Moves.ite (putField_moves _ _ rfl h3) (Moves.ite h3 (Moves.foldl (fun _ _ h4 => (hit_moves _ rfl h4)) _ h3))))

theorem keepVoid_moves (h : Moves k r s) : Moves k r (keepVoid s) := by
  unfold keepVoid
  exact (Moves.ite (hit_moves _ rfl h) h)

theorem writeFields_moves (a1 : Wr) {a2 : RegSpec} (a3 : Nat) (a4 : Nat) (ha2 : a2.apart = true) (h : Moves k r s) :
    Moves k r (writeFields s a1 a2 a3 a4) := by
  unfold writeFields
  exact (by
 extract_lets t1
 have h2 : Moves k r t1 := (putPlain_moves _ _ _ ha2 h)
 exact (Moves.ite (showMargin_moves _ h2) (Moves.ite (keepVoid_moves h2) (Moves.ite (showFixed_moves h2) (Moves.ite (writeZpCtrl_moves _ h) (Moves.ite (secMap_moves _ h2) (Moves.ite (Moves.ite h h2) (Moves.ite (Moves.ite (report_moves _ _ _ h) (sendControl_moves _ _ _ _ h2)) (Moves.ite (Moves.ite h2 h) h2)))))))))

theorem notifyAgain_moves (a1 : Requester) (h : Moves k r s) : Moves k r (notifyAgain s a1) := by
  unfold notifyAgain
  exact (by
 extract_lets t1 t2
 exact (Moves.foldl (fun _ _ h3 => (message_moves _ _ h3)) _ h))

theorem notifyStrms_moves (a1 : Requester) (h : Moves k r s) : Moves k r (notifyStrms s a1) := by
  unfold notifyStrms
  exact (by
 extract_lets t1 t2
 exact (Moves.foldl (fun _ _ h3 => (sendStrm_moves _ _ h3)) _ h))

theorem dbgErr_moves (h : Moves k r s) : Moves k r (dbgErr s) := by
  unfold dbgErr
  exact (hit_moves _ rfl h)

theorem dbgInvasive_moves {a1 : State → State} (ha1 : ∀ x0, Moves k r x0 → Moves k r (a1 x0)) (h : Moves k r s) :
    Moves k r (dbgInvasive s a1) := by
  unfold dbgInvasive
  exact (Moves.ite (ha1 _ h) (dbgErr_moves (submitRefused_moves h)))

theorem dbgRead_moves (h : Moves k r s) : Moves k r (dbgRead s) := by
  unfold dbgRead
  exact (Moves.ite (Moves.update h) (dbgErr_moves h))

theorem dbgWrite_moves (h : Moves k r s) : Moves k r (dbgWrite s) := by
  unfold dbgWrite
  exact (dbgInvasive_moves (fun _ h1 => (Moves.ite (busWrite_moves _ _ _ h1) (dbgErr_moves h1))) h)

theorem dbgResume_moves (a1 : Nat) (h : Moves k r s) : Moves k r (dbgResume s a1) := by
  unfold dbgResume
  exact (Moves.ite h (modCore_moves _ _ h))

theorem writeDbg_moves (a0 : Wr) (a1 : Nat) (h : Moves k r s) : Moves k r (writeDbg a0 a1 s) := by
  unfold writeDbg
  exact (gate_moves _ _ _ (fun _ _ h1 => (by
 extract_lets t2 t3 t5 t7
 have h4 : Moves k r t3 := (Moves.ite (dbgRead_moves h1) h1)
 have h6 : Moves k r t5 := (Moves.ite (dbgWrite_moves h4) h4)
 have h8 : Moves k r t7 := (Moves.ite (dbgInvasive_moves (fun _ h9 => (haltCore_moves _ h9)) h6) h6)
 exact (Moves.ite h1 (Moves.ite (dbgResume_moves _ h8) h8)))) h)

theorem putV_moves (a1 : Nat) (a2 : Nat) (a3 : Nat) (a4 : List VReg) (a5 : Bool) (a6 : Nat) (a7 : Nat)
    (h : Moves k r s) :
    Moves k r (putV s a1 a2 a3 a4 a5 a6 a7) := by
  unfold putV
  exact (by
 extract_lets t1
 exact (modCore_moves _ _ (countBoth_moves _ _ _ h)))

theorem putLanes_moves (a1 : Nat) (a2 : Nat) (a3 : Nat) (a4 : Nat) (a5 : List VReg) (a6 : Nat → Res)
    (h : Moves k r s) :
    Moves k r (putLanes s a1 a2 a3 a4 a5 a6) := by
  unfold putLanes
  exact (by
 extract_lets t1 t2 t3
 exact (putV_moves _ _ _ _ _ _ _ h))

theorem putSegment_moves (a1 : Nat) (a2 : Nat) (a3 : Nat) (a4 : Nat) (a5 : Nat) (a6 : Nat) (a7 : List VReg)
    (a8 : Nat → Res) (h : Moves k r s) :
    Moves k r (putSegment s a1 a2 a3 a4 a5 a6 a7 a8) := by
  unfold putSegment
  exact (by
 extract_lets t1 t2 t3
 exact (putV_moves _ _ _ _ _ _ _ h))

end Sys2Proof.Machine
end

