-- ==== Sys2Proof/Laws/MovesExec.lean ====
section
/-! SUPPORT. Laws/MovesExec.lean: the meaning of every command, by the terms of `Moves`. -/

namespace Sys2Proof.Machine

open Sys2Proof

variable {k : Prop} {r s : State}

theorem execLineReceived_moves (a0 : Nat) (a1 : LineRoute) (h : Moves k r s) :
    MovesO k r (execLineReceived a0 a1 s) := by
  unfold execLineReceived
  exact (by
 split
 · exact (ok_moves h)
 · exact (by
 extract_lets t1
 have h2 : Moves k r t1 := (modStrm_moves _ _ h)
 exact (by
 split
 · exact (ok_moves (ringLine_moves _ _ _ _ _ _ h2))
 · exact (MovesO.ite (ok_moves (compareOwn_moves _ _ h2)) (ok_moves (forwardLine_moves _ _ _ _ _ (enterLine_moves _ _ h2)))))))

theorem execLineWriteToDram_moves (a0 : Nat) (h : Moves k r s) : MovesO k r (execLineWriteToDram a0 s) := by
  unfold execLineWriteToDram
  exact (by
 extract_lets t1
 exact (by
 split
 · exact (ok_moves h)
 · exact (ok_moves (setStrm_moves _ _ (Moves.update_mem (fun hm => (memory_wf_writeCodes _ _ hm)) h)))))

theorem execPartialStripeTimeout_moves (a0 : Nat) (h : Moves k r s) : MovesO k r (execPartialStripeTimeout a0 s) := by
  unfold execPartialStripeTimeout
  exact (by
 extract_lets t1
 exact (by
 split
 · exact (ok_moves h)
 · exact (MovesO.ite (ok_moves h) (ok_moves (closePartial_moves _ _ h)))))

theorem execFieldTickLoss_moves (a0 : Nat) (h : Moves k r s) : MovesO k r (execFieldTickLoss a0 s) := by
  unfold execFieldTickLoss
  exact (ok_moves (fieldLoss_moves _ h))

theorem execFieldFrequencyWindowEnd_moves (a0 : Nat) (a1 : Nat) (h : Moves k r s) :
    MovesO k r (execFieldFrequencyWindowEnd a0 a1 s) := by
  unfold execFieldFrequencyWindowEnd
  exact (MovesO.ite (ok_moves (Moves.update h)) (ok_moves (fieldLoss_moves _ h)))

theorem execSysRefclkLoss_moves (a0 : Nat) (h : Moves k r s) : MovesO k r (execSysRefclkLoss a0 s) := by
  unfold execSysRefclkLoss
  exact (ok_moves (fieldLoss_moves _ h))

theorem execPaceEvaluation_moves (a0 : Bool) (a1 : List Nat) (h : Moves k r s) :
    MovesO k r (execPaceEvaluation a0 a1 s) := by
  unfold execPaceEvaluation
  exact (by
 extract_lets t1 t2
 have h3 : Moves k r t2 := (paceEval_moves _ _ (Moves.update h))
 exact (MovesO.ite (ok_moves h) (ok_moves (Moves.foldl (fun _ _ h4 => (trimStep_moves _ _ h4)) _ h3))))

theorem execPmbusReadbackCheck_moves (a0 : Nat) (a1 : Bool) (a2 : Bool) (h : Moves k r s) :
    MovesO k r (execPmbusReadbackCheck a0 a1 a2 s) := by
  unfold execPmbusReadbackCheck
  exact (by
 extract_lets t1 t2 t3 t5
 have h4 : Moves k r t3 := (pmbus_moves _ _ _ (pmbus_moves _ _ _ (Moves.update h)))
 exact (MovesO.ite (ok_moves h) (MovesO.ite (ok_moves (pmbusFail_moves _ h4)) (MovesO.ite (ok_moves (pmbusFail_moves _ h4)) (ok_moves (showIslands_moves (Moves.update h4)))))))

theorem execVoutModeRecheck_moves (a0 : Bool) (a1 : Bool) (h : Moves k r s) :
    MovesO k r (execVoutModeRecheck a0 a1 s) := by
  unfold execVoutModeRecheck
  exact (by
 extract_lets t1 t2
 have h3 : Moves k r t2 := (pmbus_moves _ _ _ (Moves.update h))
 exact (MovesO.ite (ok_moves h) (MovesO.ite (ok_moves (pmbusFail_moves _ h3)) (MovesO.ite (ok_moves h3) (ok_moves (pmbusFail_moves _ h3))))))

theorem execPipePaceCtrlWrite_moves (a0 : Wr) (h : Moves k r s) : MovesO k r (execPipePaceCtrlWrite a0 s) := by
  unfold execPipePaceCtrlWrite
  exact (ok_moves (gate_moves _ _ _ (fun _ _ h1 => (Moves.ite (paceState_moves (showSlack_moves (putAll_moves _ _ _ rfl h1))) (hit_moves _ rfl h1))) h))

theorem execLatencyMaxClear_moves (a0 : Wr) (h : Moves k r s) : MovesO k r (execLatencyMaxClear a0 s) := by
  unfold execLatencyMaxClear
  exact (ok_moves (gate_moves _ _ _ (fun _ _ h1 => (Moves.ite (wr_moves rfl _ _ h1) h1)) h))

theorem execRetiling_moves (h : Moves k r s) : MovesO k r (execRetiling s) := by
  unfold execRetiling
  exact (ok_moves (retile_moves h))

theorem execTset_moves (a0 : Nat) (a1 : Chk) (h : Moves k r s) : MovesO k r (execTset a0 a1 s) := by
  unfold execTset
  exact (ok_moves (issue_moves _ _ _ (fun _ _ _ h1 => (MovesE.ite trivial (MovesE.go (modCore_moves _ _ h1)))) h))

theorem execTadv_moves (a0 : Nat) (a1 : Chk) (h : Moves k r s) : MovesO k r (execTadv a0 a1 s) := by
  unfold execTadv
  exact (ok_moves (issue_moves _ _ _ (fun _ _ _ h1 => (by
 extract_lets t2
 exact (MovesE.ite trivial (MovesE.go (modCore_moves _ _ h1))))) h))

theorem execTedge_moves (a0 : Nat) (a1 : Chk) (h : Moves k r s) : MovesO k r (execTedge a0 a1 s) := by
  unfold execTedge
  exact (ok_moves (issue_moves _ _ _ (fun _ _ _ h1 => (MovesE.ite trivial (MovesE.go (modCore_moves _ _ h1)))) h))

theorem execMma_moves (a0 : Nat) (a1 : Chk) (h : Moves k r s) : MovesO k r (execMma a0 a1 s) := by
  unfold execMma
  exact (ok_moves (issue_moves _ _ _ (fun _ _ _ h1 => (by
 extract_lets t2 t3
 exact (MovesE.ite trivial (mma_moves _ _ _ _ _ h1)))) h))

theorem execMmaw_moves (a0 : Nat) (a1 : Chk) (h : Moves k r s) : MovesO k r (execMmaw a0 a1 s) := by
  unfold execMmaw
  exact (ok_moves (issue_moves _ _ _ (fun _ _ _ h1 => (by
 extract_lets t2 t3 t4 t5
 exact (MovesE.ite trivial (mma_moves _ _ _ _ _ h1)))) h))

theorem execMmad_moves (a0 : Nat) (a1 : Chk) (h : Moves k r s) : MovesO k r (execMmad a0 a1 s) := by
  unfold execMmad
  exact (ok_moves (issue_moves _ _ _ (fun _ _ _ h1 => (by
 extract_lets t2 t3 t4 t5 t6 t7 t8 t9 t10 t11 t12 t13 t14
 exact (MovesE.ite trivial (mma_moves _ _ _ _ _ h1)))) h))

theorem execMmac_moves (a0 : Nat) (a1 : Chk) (h : Moves k r s) : MovesO k r (execMmac a0 a1 s) := by
  unfold execMmac
  exact (ok_moves (issue_moves _ _ _ (fun _ _ _ h1 => (by
 extract_lets t2 t3 t4
 exact (MovesE.ite trivial (mma_moves _ _ _ _ _ h1)))) h))

theorem execMmaFamilyStart_moves (a0 : Nat) (h : Moves k r s) : MovesO k r (execMmaFamilyStart a0 s) := by
  unfold execMmaFamilyStart
  exact (by
 split
 · exact (ok_moves h)
 · exact (ok_moves (countSteps_moves _ _ (modCore_moves _ _ h))))

theorem execOacc_moves (a0 : Nat) (a1 : Chk) (h : Moves k r s) : MovesO k r (execOacc a0 a1 s) := by
  unfold execOacc
  exact (ok_moves (issue_moves _ _ _ (fun _ _ _ h1 => (by
 extract_lets t2 t3 t4 t5 t6 t7 t8 t9 t10 t11 t12 t13
 have h14 : Moves k r t13 := (countBoth_moves _ _ _ (modCore_moves _ _ (noteFoot_moves _ _ h1)))
 exact (MovesE.ite (MovesE.defer (modCore_moves _ _ h1)) (by
 split
 · exact trivial
 · exact (MovesE.ite trivial (MovesE.ite trivial (MovesE.ite trivial (MovesE.ite trivial (MovesE.go (keepOperands_moves _ _ _ _ h14)))))))))) h))

theorem execRput.putSlot_moves (a1 : Nat) (a2 : Nat) (a3 : Handle) (h : Moves k r s) :
    MovesE k r (execRput.putSlot s a1 a2 a3) := by
  unfold execRput.putSlot
  exact (by
 extract_lets t1 t2 t3 t5 t6 t7 t9
 have h4 : Moves k r t3 := (Moves.ite h (reserve_moves _ _ h))
 have h8 : Moves k r t7 := (produce_moves _ _ _ _ h4)
 have h10 : Moves k r t9 := (Moves.ite (Moves.foldl (fun _ _ h11 => (spoilWords_moves _ _ _ h11)) _ h8) (sendWrite_moves _ _ _ h8))
 exact (MovesE.go (markOut_moves _ _ _ h10)))

theorem execVld_moves (a0 : Nat) (a1 : Chk) (h : Moves k r s) : MovesO k r (execVld a0 a1 s) := by
  unfold execVld
  exact (ok_moves (issue_moves _ _ _ (fun _ _ _ h1 => (by
 extract_lets t2 t3
 exact (MovesE.ite trivial (MovesE.ite trivial (MovesE.go (modCore_moves _ _ (noteRows_moves _ _ _ h1))))))) h))

theorem execVst_moves (a0 : Nat) (a1 : Chk) (h : Moves k r s) : MovesO k r (execVst a0 a1 s) := by
  unfold execVst
  exact (ok_moves (issue_moves _ _ _ (fun _ _ _ h1 => (by
 extract_lets t2 t3 t4
 exact (MovesE.ite trivial (MovesE.ite trivial (MovesE.go (markOut_moves _ _ _ (spStores_moves _ _ _ _ h1))))))) h))

theorem execSlsLoad_moves (a0 : Nat) (a1 : Chk) (h : Moves k r s) : MovesO k r (execSlsLoad a0 a1 s) := by
  unfold execSlsLoad
  exact (ok_moves (issue_moves _ _ _ (fun _ _ _ h1 => (by
 extract_lets t2
 exact (MovesE.ite trivial (MovesE.ite trivial (MovesE.go (modCore_moves _ _ (noteRows_moves _ _ _ h1))))))) h))

theorem execSlsStore_moves (a0 : Nat) (a1 : Chk) (h : Moves k r s) : MovesO k r (execSlsStore a0 a1 s) := by
  unfold execSlsStore
  exact (ok_moves (issue_moves _ _ _ (fun _ _ _ h1 => (by
 extract_lets t2 t3
 exact (MovesE.ite trivial (MovesE.ite trivial (MovesE.go (spStore_moves _ _ _ h1)))))) h))

theorem execXferWrite_moves (a0 : Nat) (a1 : Chk) (h : Moves k r s) : MovesO k r (execXferWrite a0 a1 s) := by
  unfold execXferWrite
  exact (ok_moves (issue_moves _ _ _ (fun _ _ _ h1 => (by
 extract_lets t2 t3 t4 t5 t6 t7
 exact (MovesE.ite trivial (MovesE.ite trivial (MovesE.ite trivial (MovesE.ite trivial (MovesE.ite trivial (MovesE.go (markOut_moves _ _ _ (spoilSpan_moves _ _ _ (sendWrite_moves _ _ _ h1))))))))))) h))

theorem execXferRead_moves (a0 : Nat) (a1 : Chk) (h : Moves k r s) : MovesO k r (execXferRead a0 a1 s) := by
  unfold execXferRead
  exact (ok_moves (issue_moves _ _ _ (fun _ _ _ h1 => (by
 extract_lets t2 t3
 exact (MovesE.ite trivial (MovesE.ite trivial (MovesE.ite trivial (MovesE.go (modCore_moves _ _ h1))))))) h))

theorem execRput_moves (a0 : Nat) (a1 : Chk) (h : Moves k r s) : MovesO k r (execRput a0 a1 s) := by
  unfold execRput
  exact (ok_moves (issue_moves _ _ _ (fun _ _ _ h1 => (MovesE.ite trivial (by
 split
 · exact trivial
 · exact (MovesE.ite trivial (MovesE.ite trivial (MovesE.ite (execRput.putSlot_moves _ _ _ h1) (MovesE.wait (wantSlot_moves _ _ h1)))))))) h))

theorem execRingReservationGrant_moves (a0 : Nat) (a1 : Nat) (h : Moves k r s) :
    MovesO k r (execRingReservationGrant a0 a1 s) := by
  unfold execRingReservationGrant
  exact (by
 extract_lets t1
 exact (MovesO.ite (ok_moves h) (MovesO.ite (by
 split
 · exact (ok_moves (ringSpoilt_moves _ _ _ h))
 · exact (ok_moves (wr_moves rfl _ _ (setRingX_moves _ _ _ (ringSpoilt_moves _ _ _ h))))) (MovesO.ite (ok_moves (reserve_moves _ _ h)) (ok_moves h)))))

theorem execRingSlotLanded_moves (a0 : Nat) (a1 : Nat) (a2 : Nat) (a3 : Bool) (h : Moves k r s) :
    MovesO k r (execRingSlotLanded a0 a1 a2 a3 s) := by
  unfold execRingSlotLanded
  exact (by
 extract_lets t1
 exact (by
 split
 · exact (ok_moves h)
 · exact (by
 split
 · exact (ok_moves h)
 · exact (by
 extract_lets t2 t4
 have h3 : Moves k r t2 := (writeSlot_moves _ _ _ _ _ h)
 have h5 : Moves k r t4 := (Moves.ite (setRingX_moves _ _ _ h3) (settleSlots_moves _ _ (setRingX_moves _ _ _ h3)))
 exact (MovesO.ite (ok_moves h) (by
 split
 · exact (by
 extract_lets t6
 have h7 : Moves k r t6 := (ackSlot_moves _ _ _ h5)
 exact (ok_moves (Moves.ite (ringSpoilt_moves _ _ _ h7) h7)))
 · exact (ok_moves (Moves.ite (ringSpoilt_moves _ _ _ h5) h5))))))))

theorem execRget_moves (a0 : Nat) (a1 : Chk) (h : Moves k r s) : MovesO k r (execRget a0 a1 s) := by
  unfold execRget
  exact (ok_moves (issue_moves _ _ _ (fun _ _ _ h1 => (MovesE.ite trivial (by
 split
 · exact trivial
 · exact (by
 extract_lets t2 t3
 exact (MovesE.ite trivial (MovesE.ite (waitRing_moves _ _ h1) (MovesE.go (advanceHead_moves _ _ _ (modCore_moves _ _ (noteRows_moves _ _ _ h1)))))))))) h))

theorem execRwinAcquire_moves (a0 : Nat) (a1 : Chk) (h : Moves k r s) : MovesO k r (execRwinAcquire a0 a1 s) := by
  unfold execRwinAcquire
  exact (ok_moves (issue_moves _ _ _ (fun _ _ _ h1 => (by
 extract_lets t2
 exact (MovesE.ite trivial (by
 split
 · exact trivial
 · exact (MovesE.ite trivial (MovesE.ite trivial (MovesE.ite (waitRing_moves _ _ h1) (MovesE.go (modCore_moves _ _ h1))))))))) h))

theorem execRwinRelease_moves (a0 : Nat) (a1 : Chk) (h : Moves k r s) : MovesO k r (execRwinRelease a0 a1 s) := by
  unfold execRwinRelease
  exact (ok_moves (issue_moves _ _ _ (fun _ _ _ h1 => (by
 extract_lets t2
 exact (MovesE.ite trivial (by
 split
 · exact trivial
 · exact (MovesE.ite trivial (MovesE.ite trivial (MovesE.ite trivial (MovesE.go (advanceHead_moves _ _ _ h1))))))))) h))

theorem execBindRing_moves (a0 : Nat) (a1 : Chk) (h : Moves k r s) : MovesO k r (execBindRing a0 a1 s) := by
  unfold execBindRing
  exact (ok_moves (issue_moves _ _ _ (fun _ _ _ h1 => (by
 extract_lets t2 t3 t4
 exact (MovesE.ite trivial (MovesE.ite trivial (MovesE.go (modCore_moves _ _ h1)))))) h))

theorem execBindCounter_moves (a0 : Nat) (a1 : Chk) (h : Moves k r s) : MovesO k r (execBindCounter a0 a1 s) := by
  unfold execBindCounter
  exact (ok_moves (issue_moves _ _ _ (fun _ _ _ h1 => (by
 extract_lets t2
 exact (MovesE.ite trivial (MovesE.ite trivial (MovesE.go (modCore_moves _ _ h1)))))) h))

theorem execRemoteWriteAck_moves (a0 : Nat) (a1 : Nat) (a2 : Bool) (a3 : Bool) (h : Moves k r s) :
    MovesO k r (execRemoteWriteAck a0 a1 a2 a3 s) := by
  unfold execRemoteWriteAck
  exact (by
 extract_lets t1 t2
 have h3 : Moves k r t2 := (setCore_moves _ _ h)
 exact (by
 split
 · exact (ok_moves h)
 · exact (MovesO.ite (ok_moves h) (by
 split
 · exact (ok_moves h)
 · exact (ok_moves (Moves.ite (shareEvent_moves _ _ _ _ h3) (land_moves _ _ _ h3)))
 · exact (ok_moves (Moves.ite (shareEvent_moves _ _ _ _ h3) (land_moves _ _ _ h3)))))))

theorem execCwait_moves (a0 : Nat) (a1 : Chk) (h : Moves k r s) : MovesO k r (execCwait a0 a1 s) := by
  unfold execCwait
  exact (ok_moves (issue_moves _ _ _ (fun _ _ _ h1 => (MovesE.ite trivial (by
 split
 · exact trivial
 · exact (MovesE.ite trivial (MovesE.ite trivial (MovesE.ite (MovesE.go h1) (MovesE.wait h1))))))) h))

theorem execCsetAdd_moves (a0 : Nat) (a1 : Chk) (h : Moves k r s) : MovesO k r (execCsetAdd a0 a1 s) := by
  unfold execCsetAdd
  exact (ok_moves (issue_moves _ _ _ (fun _ _ _ h1 => (by
 extract_lets t2
 exact (MovesE.ite trivial (by
 split
 · exact trivial
 · exact (MovesE.ite (MovesE.ite trivial (MovesE.ite trivial (MovesE.go (addCnt_moves _ _ _ h1)))) (MovesE.go (sendWrite_moves _ _ _ h1))))))) h))

theorem execFence_moves (a0 : Nat) (a1 : Chk) (h : Moves k r s) : MovesO k r (execFence a0 a1 s) := by
  unfold execFence
  exact (ok_moves (issue_moves _ _ _ (fun _ _ _ h1 => (MovesE.ite trivial (MovesE.ite (MovesE.go h1) (MovesE.wait h1)))) h))

theorem execFenceComplete_moves (a0 : Nat) (h : Moves k r s) : MovesO k r (execFenceComplete a0 s) := by
  unfold execFenceComplete
  exact (by
 split
 · exact (MovesO.ite (ok_moves (endWait_moves _ (fun _ _ _ h1 => (MovesE.go h1)) h)) (ok_moves h))
 · exact (ok_moves h))

theorem execCounterWaitSatisfied_moves (a0 : Nat) (h : Moves k r s) : MovesO k r (execCounterWaitSatisfied a0 s) := by
  unfold execCounterWaitSatisfied
  exact (by
 split
 · exact (ok_moves (endWait_moves _ (fun _ _ _ h1 => (by
 split
 · exact trivial
 · exact (MovesE.ite trivial (MovesE.ite (MovesE.go h1) trivial)))) h))
 · exact (ok_moves h))

theorem execRingWaitSatisfied_moves (a0 : Nat) (h : Moves k r s) : MovesO k r (execRingWaitSatisfied a0 s) := by
  unfold execRingWaitSatisfied
  exact (by
 split
 · exact (ok_moves (endWait_moves _ (fun _ _ _ h1 => (by
 split
 · exact trivial
 · exact (MovesE.ite trivial (MovesE.ite (execRput.putSlot_moves _ _ _ h1) trivial)))) h))
 · exact (ok_moves (endWait_moves _ (fun _ _ _ h2 => (by
 split
 · exact trivial
 · exact (by
 extract_lets t3 t4 t6 t7
 have h5 : Moves k r t4 := (wr_moves rfl _ _ h2)
 exact (MovesE.ite trivial (MovesE.ite (MovesE.ite trivial (MovesE.go (advanceHead_moves _ _ _ (modCore_moves _ _ (noteRows_moves _ _ _ h5))))) (MovesE.ite trivial (MovesE.go (modCore_moves _ _ h5)))))))) h))
 · exact (ok_moves h))

theorem execStallWatchdogExpiry_moves (a0 : Nat) (h : Moves k r s) : MovesO k r (execStallWatchdogExpiry a0 s) := by
  unfold execStallWatchdogExpiry
  exact (by
 extract_lets t1
 exact (by
 split
 · exact (by
 extract_lets t2
 exact (MovesO.ite (ok_moves h) (ok_moves (shareEvent_moves _ _ _ _ h))))
 · exact (ok_moves h)))

theorem execNop_moves (a0 : Nat) (a1 : Chk) (h : Moves k r s) : MovesO k r (execNop a0 a1 s) := by
  unfold execNop
  exact (MovesO.ite (ok_moves (shareEvent_moves _ _ _ _ h)) (ok_moves (issue_moves _ _ _ (fun _ _ _ h1 => (MovesE.ite (MovesE.go h1) trivial)) h)))

theorem execLi_moves (a0 : Nat) (a1 : Chk) (h : Moves k r s) : MovesO k r (execLi a0 a1 s) := by
  unfold execLi
  exact (ok_moves (issue_moves _ _ _ (fun _ _ _ h1 => (MovesE.ite trivial (MovesE.go (modCore_moves _ _ h1)))) h))

theorem execAlu_moves (a0 : Nat) (a1 : Chk) (h : Moves k r s) : MovesO k r (execAlu a0 a1 s) := by
  unfold execAlu
  exact (ok_moves (issue_moves _ _ _ (fun _ _ _ h1 => (MovesE.ite trivial (MovesE.go (modCore_moves _ _ h1)))) h))

theorem execAlui_moves (a0 : Nat) (a1 : Chk) (h : Moves k r s) : MovesO k r (execAlui a0 a1 s) := by
  unfold execAlui
  exact (ok_moves (issue_moves _ _ _ (fun _ _ _ h1 => (by
 extract_lets t2 t3
 exact (MovesE.ite trivial (MovesE.go (modCore_moves _ _ h1))))) h))

theorem execMfsr_moves (a0 : Nat) (a1 : Chk) (h : Moves k r s) : MovesO k r (execMfsr a0 a1 s) := by
  unfold execMfsr
  exact (ok_moves (issue_moves _ _ _ (fun _ _ _ h1 => (by
 extract_lets t2
 exact (MovesE.ite trivial (by
 split
 · exact trivial
 · exact (MovesE.go (modCore_moves _ _ h1)))))) h))

theorem execBr_moves (a0 : Nat) (a1 : Chk) (h : Moves k r s) : MovesO k r (execBr a0 a1 s) := by
  unfold execBr
  exact (ok_moves (issue_moves _ _ _ (fun _ _ _ h1 => (by
 extract_lets t2
 exact (MovesE.ite trivial (MovesE.ite (MovesE.jump (modCore_moves _ _ h1)) (MovesE.go h1))))) h))

theorem execJmp_moves (a0 : Nat) (a1 : Chk) (h : Moves k r s) : MovesO k r (execJmp a0 a1 s) := by
  unfold execJmp
  exact (ok_moves (issue_moves _ _ _ (fun _ _ _ h1 => (by
 extract_lets t2
 exact (MovesE.ite trivial (MovesE.jump (modCore_moves _ _ h1))))) h))

theorem execCall_moves (a0 : Nat) (a1 : Chk) (h : Moves k r s) : MovesO k r (execCall a0 a1 s) := by
  unfold execCall
  exact (ok_moves (issue_moves _ _ _ (fun _ _ _ h1 => (by
 extract_lets t2
 exact (MovesE.ite trivial (MovesE.ite trivial (MovesE.jump (modCore_moves _ _ h1)))))) h))

theorem execRet_moves (a0 : Nat) (a1 : Chk) (h : Moves k r s) : MovesO k r (execRet a0 a1 s) := by
  unfold execRet
  exact (ok_moves (issue_moves _ _ _ (fun _ _ _ h1 => (MovesE.ite trivial (by
 split
 · exact trivial
 · exact (MovesE.jump (modCore_moves _ _ h1))))) h))

theorem execLoopOpen_moves (a0 : Nat) (a1 : Chk) (h : Moves k r s) : MovesO k r (execLoopOpen a0 a1 s) := by
  unfold execLoopOpen
  exact (ok_moves (issue_moves _ _ _ (fun _ _ _ h1 => (by
 extract_lets t2 t3 t4
 exact (MovesE.ite trivial (MovesE.ite (MovesE.jump h1) (MovesE.ite trivial (MovesE.go (modCore_moves _ _ h1))))))) h))

theorem execGongArrive_moves (a0 : Nat) (a1 : Chk) (h : Moves k r s) : MovesO k r (execGongArrive a0 a1 s) := by
  unfold execGongArrive
  exact (ok_moves (issue_moves _ _ _ (fun _ _ _ h1 => (gong_moves _ _ (fun _ => (by
 split
 · 
   rename_i v4 e5
   have h3 := MovesS.of_eq e5 (arrive_moves _ _ _ _ h1)
   exact trivial
 · 
   rename_i v6 e7
   have h3 := MovesS.of_eq e7 (arrive_moves _ _ _ _ h1)
   exact (MovesE.go h3))) h1)) h))

theorem execGongWait_moves (a0 : Nat) (a1 : Chk) (h : Moves k r s) : MovesO k r (execGongWait a0 a1 s) := by
  unfold execGongWait
  exact (ok_moves (issue_moves _ _ _ (fun _ _ _ h1 => (gong_moves _ _ (fun _ => (gongWait_moves _ _ _ h1)) h1)) h))

theorem execGongSync_moves (a0 : Nat) (a1 : Chk) (h : Moves k r s) : MovesO k r (execGongSync a0 a1 s) := by
  unfold execGongSync
  exact (ok_moves (issue_moves _ _ _ (fun _ _ _ h1 => (gong_moves _ _ (fun _ => (by
 split
 · 
   rename_i v4 e5
   have h3 := MovesS.of_eq e5 (arrive_moves _ _ _ _ h1)
   exact trivial
 · 
   rename_i v6 e7
   have h3 := MovesS.of_eq e7 (arrive_moves _ _ _ _ h1)
   exact (gongWait_moves _ _ _ h3))) h1)) h))

theorem execGongGenerationComplete_moves (a0 : Nat) (a1 : Nat) (a2 : Nat) (h : Moves k r s) :
    MovesO k r (execGongGenerationComplete a0 a1 a2 s) := by
  unfold execGongGenerationComplete
  exact (by
 split
 · exact (ok_moves h)
 · exact (ok_moves (Moves.foldl (fun _ _ h1 => (endWait_moves _ (fun _ _ _ h2 => (MovesE.go h2)) h1)) _ h)))

theorem execGongWaitLimitExpiry_moves (a0 : Nat) (h : Moves k r s) : MovesO k r (execGongWaitLimitExpiry a0 s) := by
  unfold execGongWaitLimitExpiry
  exact (by
 extract_lets t1
 exact (by
 split
 · exact (MovesO.ite (ok_moves h) (ok_moves (shareEvent_moves _ _ _ _ h)))
 · exact (ok_moves h)))

theorem execEndShare_moves (a0 : Nat) (a1 : Chk) (h : Moves k r s) : MovesO k r (execEndShare a0 a1 s) := by
  unfold execEndShare
  exact (ok_moves (issue_moves _ _ _ (fun _ _ _ h1 => (MovesE.ite trivial (MovesE.ite trivial (MovesE.jump (modCore_moves _ _ h1))))) h))

theorem execChk_moves (a0 : Nat) (a1 : Chk) (h : Moves k r s) : MovesO k r (execChk a0 a1 s) := by
  unfold execChk
  exact (ok_moves (issue_moves _ _ _ (fun _ _ _ h1 => (MovesE.ite trivial (MovesE.ite (MovesE.go h1) trivial))) h))

theorem execShareDescriptorWrite_moves (a0 : Nat) (a1 : List Nat) (h : Moves k r s) :
    MovesO k r (execShareDescriptorWrite a0 a1 s) := by
  unfold execShareDescriptorWrite
  exact (by
 extract_lets t1
 exact (MovesO.ite (ok_moves h) (MovesO.ite (ok_moves (coreRefuse_moves _ _ _ h)) (ok_moves (offerDesc_moves _ _ h)))))

theorem execBankWrite_moves (a0 : Nat) (a1 : Nat) (a2 : Nat) (a3 : Nat) (h : Moves k r s) :
    MovesO k r (execBankWrite a0 a1 a2 a3 s) := by
  unfold execBankWrite
  exact (MovesO.ite (ok_moves h) (MovesO.ite (ok_moves (coreRefuse_moves _ _ _ h)) (ok_moves (setBankValid_moves _ _ _ (putWord_moves _ _ h)))))

theorem execValidateComplete_moves (a0 : Nat) (a1 : Nat) (h : Moves k r s) :
    MovesO k r (execValidateComplete a0 a1 s) := by
  unfold execValidateComplete
  exact (MovesO.ite (ok_moves h) (ok_moves (validated_moves _ _ (modCore_moves _ _ h))))

theorem execInstructionScrubPass_moves (a0 : Nat) (a1 : List (Nat × Nat × Nat)) (h : Moves k r s) :
    MovesO k r (execInstructionScrubPass a0 a1 s) := by
  unfold execInstructionScrubPass
  exact (by
 extract_lets t1 t3
 have h2 : Moves k r t1 := (modCore_moves _ _ h)
 have h4 : Moves k r t3 := (Moves.foldl (fun _ _ h5 => (strikeFetch_moves _ _ h5)) _ h2)
 exact (MovesO.ite (ok_moves h) (ok_moves (Moves.foldl (fun _ _ h6 => (scrubWord_moves _ _ h6)) _ h4))))

theorem execValidateBank_moves (a0 : Wr) (h : Moves k r s) : MovesO k r (execValidateBank a0 s) := by
  unfold execValidateBank
  exact (ok_moves (gate_moves _ _ _ (fun _ _ h1 => (Moves.ite h1 (writeCoreCtrl_moves _ _ h1))) h))

theorem execInvalidateBank_moves (a0 : Wr) (h : Moves k r s) : MovesO k r (execInvalidateBank a0 s) := by
  unfold execInvalidateBank
  exact (ok_moves (gate_moves _ _ _ (fun _ _ h1 => (Moves.ite h1 (writeCoreCtrl_moves _ _ h1))) h))

theorem execCoreEnWrite_moves (a0 : Wr) (h : Moves k r s) : MovesO k r (execCoreEnWrite a0 s) := by
  unfold execCoreEnWrite
  exact (ok_moves (gate_moves _ _ _ (fun _ _ h1 => (writeCoreCtrl_moves _ _ h1)) h))

theorem execCoreStop_moves (a0 : Wr) (h : Moves k r s) : MovesO k r (execCoreStop a0 s) := by
  unfold execCoreStop
  exact (ok_moves (gate_moves _ _ _ (fun _ _ h1 => (Moves.ite (writeCoreCtrl_moves _ _ h1) h1)) h))

theorem execCoreCntClear_moves (a0 : Wr) (h : Moves k r s) : MovesO k r (execCoreCntClear a0 s) := by
  unfold execCoreCntClear
  exact (ok_moves (gate_moves _ _ _ (fun _ _ h1 => (Moves.ite (writeCoreCtrl_moves _ _ h1) h1)) h))

theorem execCoreStartDone_moves (a0 : Nat) (h : Moves k r s) : MovesO k r (execCoreStartDone a0 s) := by
  unfold execCoreStartDone
  exact (by
 extract_lets t1 t2 t4 t5 t6
 have h3 : Moves k r t2 := (clearTests_moves _ (clearBanks_moves _ h))
 have h7 : Moves k r t6 := (setCore_moves _ _ (Moves.update h3))
 exact (MovesO.ite (ok_moves h) (ok_moves (wr_moves rfl _ _ h7))))

theorem execCoreDrainDone_moves (a0 : Nat) (h : Moves k r s) : MovesO k r (execCoreDrainDone a0 s) := by
  unfold execCoreDrainDone
  exact (by
 extract_lets t1
 exact (MovesO.ite (ok_moves h) (ok_moves (modCore_moves _ _ (wr_moves rfl _ _ h)))))

theorem execCoreDrainTimeout_moves (a0 : Nat) (h : Moves k r s) : MovesO k r (execCoreDrainTimeout a0 s) := by
  unfold execCoreDrainTimeout
  exact (by
 extract_lets t1
 exact (MovesO.ite (ok_moves h) (ok_moves (stopShare_moves _ h))))

theorem execMarginWiden_moves (a0 : Nat) (h : Moves k r s) : MovesO k r (execMarginWiden a0 s) := by
  unfold execMarginWiden
  exact (MovesO.ite (ok_moves (widenMargin_moves _ h)) (ok_moves h))

theorem execRatchetRotation_moves (a0 : Nat) (a1 : Nat) (a2 : List RotAcc) (h : Moves k r s) :
    MovesO k r (execRatchetRotation a0 a1 a2 s) := by
  unfold execRatchetRotation
  exact (by
 extract_lets t1 t2
 have h3 : Moves k r t2 := (Moves.foldl (fun _ _ h4 => (serve_moves _ _ h h4)) _ h)
 exact (MovesO.ite (ok_moves h) (ok_moves (Moves.foldl (fun _ _ h5 => (spHazard_moves _ _ _ _ _ h5)) _ h3))))

theorem execSpadHazardClear_moves (a0 : Wr) (h : Moves k r s) : MovesO k r (execSpadHazardClear a0 s) := by
  unfold execSpadHazardClear
  exact (ok_moves (gate_moves _ _ _ (fun _ _ h1 => (Moves.ite (clearHazard_moves _ h1) h1)) h))

theorem execSpadCfgWrite_moves (a0 : Wr) (h : Moves k r s) : MovesO k r (execSpadCfgWrite a0 s) := by
  unfold execSpadCfgWrite
  exact (ok_moves (gate_moves _ _ _ (fun _ _ h1 => (by
 extract_lets t2
 have h3 : Moves k r t2 := (putAll_moves _ _ _ rfl h1)
 exact (Moves.ite (coreRefuse_moves _ _ _ h1) (Moves.foldl (fun _ _ h4 => (requestGroup_moves _ _ _ h4)) _ h3)))) h))

theorem execBankGroupStartDone_moves (a0 : Nat) (a1 : Nat) (h : Moves k r s) :
    MovesO k r (execBankGroupStartDone a0 a1 s) := by
  unfold execBankGroupStartDone
  exact (MovesO.ite (ok_moves h) (ok_moves (setGroup_moves _ _ _ (zeroGroup_moves _ _ h))))

theorem execBankGroupDrainDone_moves (a0 : Nat) (a1 : Nat) (h : Moves k r s) :
    MovesO k r (execBankGroupDrainDone a0 a1 s) := by
  unfold execBankGroupDrainDone
  exact (by
 extract_lets t1 t2
 have h3 : Moves k r t2 := (wr_moves rfl _ _ h)
 exact (MovesO.ite (ok_moves h) (ok_moves (setGroup_moves _ _ _ h3))))

theorem execRemapCopyDone_moves (a0 : Nat) (h : Moves k r s) : MovesO k r (execRemapCopyDone a0 s) := by
  unfold execRemapCopyDone
  exact (by
 split
 · exact (ok_moves h)
 · exact (by
 extract_lets t1 t5 t6
 have h2 : Moves k r t1 := (Moves.foldl (fun _ _ h3 => (by
 extract_lets t4
 exact (Moves.ite (wr_moves rfl _ _ h3) h3))) _ h)
 have h7 : Moves k r t6 := (wr_moves rfl _ _ (wr_moves rfl _ _ (wr_moves rfl _ _ h2)))
 exact (MovesO.ite (ok_moves h) (ok_moves (modCore_moves _ _ h7)))))

theorem execRemapRecorded_moves (a0 : Nat) (h : Moves k r s) : MovesO k r (execRemapRecorded a0 s) := by
  unfold execRemapRecorded
  exact (by
 split
 · exact (ok_moves h)
 · exact (by
 extract_lets t1 t3
 have h2 : Moves k r t1 := (modCore_moves _ _ (wr_moves rfl _ _ h))
 have h4 : Moves k r t3 := (modRec_moves _ _ h2)
 exact (MovesO.ite (ok_moves h) (ok_moves (coreReport_moves _ _ (Moves.update h4))))))

theorem execSpadRowmapWrite_moves (a0 : Wr) (a1 : Nat) (h : Moves k r s) :
    MovesO k r (execSpadRowmapWrite a0 a1 s) := by
  unfold execSpadRowmapWrite
  exact (MovesO.ite (ok_moves h) (ok_moves (gate_moves _ _ _ (fun _ _ h1 => (by
 extract_lets t2
 exact (Moves.ite (coreRefuse_moves _ _ _ h1) (putAll_moves _ _ _ rfl h1)))) h)))

theorem execSpadRingCfg0Write_moves (a0 : Wr) (a1 : Nat) (h : Moves k r s) :
    MovesO k r (execSpadRingCfg0Write a0 a1 s) := by
  unfold execSpadRingCfg0Write
  exact (MovesO.ite (ok_moves h) (ok_moves (gate_moves _ _ _ (fun _ _ h1 => (by
 extract_lets t2
 have h3 : Moves k r t2 := (putAll_moves _ _ _ rfl h1)
 exact (Moves.ite (coreRefuse_moves _ _ _ h1) h3))) h)))

theorem execSpadRingCfg1Write_moves (a0 : Wr) (a1 : Nat) (h : Moves k r s) :
    MovesO k r (execSpadRingCfg1Write a0 a1 s) := by
  unfold execSpadRingCfg1Write
  exact (MovesO.ite (ok_moves h) (ok_moves (gate_moves _ _ _ (fun _ _ h1 => (Moves.ite (coreRefuse_moves _ _ _ h1) (putAll_moves _ _ _ rfl h1))) h)))

theorem execSpadRingStateWrite_moves (a0 : Wr) (a1 : Nat) (h : Moves k r s) :
    MovesO k r (execSpadRingStateWrite a0 a1 s) := by
  unfold execSpadRingStateWrite
  exact (MovesO.ite (ok_moves h) (ok_moves (gate_moves _ _ _ (fun _ _ h1 => (by
 extract_lets t2
 exact (Moves.ite (coreRefuse_moves _ _ _ h1) (setRingX_moves _ _ _ (putAll_moves _ _ _ rfl h1))))) h)))

theorem execSpadCntWrite_moves (a0 : Wr) (a1 : Nat) (a2 : Bool) (h : Moves k r s) :
    MovesO k r (execSpadCntWrite a0 a1 a2 s) := by
  unfold execSpadCntWrite
  exact (MovesO.ite (ok_moves h) (ok_moves (gate_moves _ _ _ (fun _ _ h1 => (by
 extract_lets t2
 have h3 : Moves k r t2 := (setCnt_moves _ _ _ h1)
 exact (Moves.ite (spHazard_moves _ _ _ _ _ h3) h3))) h)))

theorem execCsetSet_moves (a0 : Nat) (a1 : Chk) (h : Moves k r s) : MovesO k r (execCsetSet a0 a1 s) := by
  unfold execCsetSet
  exact (ok_moves (issue_moves _ _ _ (fun _ _ _ h1 => (MovesE.ite trivial (by
 split
 · exact trivial
 · exact (by
 extract_lets t2
 have h3 : Moves k r t2 := (wr_moves rfl _ _ h1)
 exact (MovesE.ite trivial (MovesE.ite trivial (MovesE.ite trivial (MovesE.go (Moves.ite (spHazard_moves _ _ _ _ _ h3) h3))))))))) h))

theorem execSpadRemap_moves (a0 : Wr) (h : Moves k r s) : MovesO k r (execSpadRemap a0 s) := by
  unfold execSpadRemap
  exact (ok_moves (gate_moves _ _ _ (fun _ _ h1 => (by
 extract_lets t2 t3 t4 t5
 exact (Moves.ite h1 (Moves.ite (coreRefuse_moves _ _ _ h1) (modCore_moves _ _ (wr_moves rfl _ _ h1)))))) h))

theorem execStrmRfCtrlWrite_moves (a0 : Wr) (h : Moves k r s) : MovesO k r (execStrmRfCtrlWrite a0 s) := by
  unfold execStrmRfCtrlWrite
  exact (ok_moves (gate_moves _ _ _ (fun _ _ h1 => (Moves.ite (report_moves _ _ _ h1) (Moves.ite (hit_moves _ rfl h1) (Moves.ite (report_moves _ _ _ h1) (sendControl_moves _ _ _ _ (putAll_moves _ _ _ rfl h1)))))) h))

theorem execXferReadResponse_moves (a0 : Nat) (a1 : Nat) (a2 : Answer) (h : Moves k r s) :
    MovesO k r (execXferReadResponse a0 a1 a2 s) := by
  unfold execXferReadResponse
  exact (by
 split
 · exact (ok_moves h)
 · exact (by
 extract_lets t1 t2 t4 t6
 have h3 : Moves k r t2 := (modCore_moves _ _ (noteParity_moves _ _ h))
 have h5 : Moves k r t4.1 := (takeAnswer_moves _ _ h3)
 have h7 : Moves k r t6 := by
  unfold t6
  exact (by
 split
 · exact (Moves.ite (noteWhy_moves _ _ _ h5) h5)
 · exact h5)
 exact (MovesO.ite (ok_moves (failRead_moves _ _ (takeAnswer_moves _ _ h))) (ok_moves (Moves.ite (shareEvent_moves _ _ _ _ h7) h7)))))

theorem execTapTimeFrameSend_moves (h : Moves k r s) : MovesO k r (execTapTimeFrameSend s) := by
  unfold execTapTimeFrameSend
  exact (by
 extract_lets t1
 exact (MovesO.ite (ok_moves h) (ok_moves (tapSend_moves _ (Moves.update h)))))

theorem execDmsLinesFrame_moves (a0 : List Nat) (a1 : Nat) (h : Moves k r s) : MovesO k r (execDmsLinesFrame a0 a1 s) := by
  unfold execDmsLinesFrame
  refine MovesO.ite (ok_moves h) ?_
  split
  · exact ok_moves h
  · have h1 := dmsAt_moves a1 (tapTake_moves (by assumption) h)
    have h2 := fun f => measMap_moves (k := k) (r := r) f h1
    exact MovesO.ite (ok_moves (tapDiscard_moves h1)) (ok_moves (Moves.ite (dmsMap_moves _ (h2 _))
      (dmsReport_moves _ (tapGap_moves (dmsMap_moves _ (h2 _))))))

theorem execDmsTimeFrame_moves (a0 : List Nat) (a1 : Nat) (h : Moves k r s) : MovesO k r (execDmsTimeFrame a0 a1 s) := by
  unfold execDmsTimeFrame
  refine MovesO.ite (ok_moves h) ?_
  split
  · exact ok_moves h
  · have h1 := dmsAt_moves a1 (tapTake_moves (by assumption) h)
    exact MovesO.ite (ok_moves (tapDiscard_moves h1)) (MovesO.ite (ok_moves (wr_moves rfl _ _ (dmsMap_moves _ h1)))
      (ok_moves h1))

theorem execDmsTapSilence_moves (a0 : Nat) (h : Moves k r s) : MovesO k r (execDmsTapSilence a0 s) := by
  unfold execDmsTapSilence
  exact (by
 extract_lets t1
 have h2 : Moves k r t1 := (dmsAt_moves _ h)
 exact (MovesO.ite (ok_moves h) (by
 split
 · exact (ok_moves h2)
 · exact (MovesO.ite (ok_moves (dmsReport_moves _ (tapGap_moves h2))) (ok_moves h2)))))

theorem execDmsEncoderPulse_moves (a0 : Bool) (a1 : Bool) (h : Moves k r s) :
    MovesO k r (execDmsEncoderPulse a0 a1 s) := by
  unfold execDmsEncoderPulse
  exact (by
 extract_lets t1 t2
 have h3 : Moves k r t2 := (dmsMap_moves _ h)
 exact (MovesO.ite (ok_moves h) (by
 split
 · exact (ok_moves h3)
 · exact (ok_moves (dmsPulse_moves _ h3))
 · exact (ok_moves (dmsPulse_moves _ h3))
 · exact (ok_moves (dmsReport_moves _ (measMap_moves _ h3))))))

theorem execDmsStart_moves (a0 : DmsFrame) (h : Moves k r s) : MovesO k r (execDmsStart a0 s) := by
  unfold execDmsStart
  exact (dmsCmd_moves _ _ (fun _ _ h1 => (by
 extract_lets t2
 exact (Moves.ite (dmsRefuse_moves _ _ h1) (Moves.ite (dmsRefuse_moves _ _ h1) (dmsReply_moves _ _ _ (wr_moves rfl _ _ (dmsMap_moves _ h1))))))) h)

theorem execDmsStop_moves (a0 : DmsFrame) (h : Moves k r s) : MovesO k r (execDmsStop a0 s) := by
  unfold execDmsStop
  exact (dmsCmd_moves _ _ (fun _ _ h1 => (by
 split
 · exact (dmsRefuse_moves _ _ h1)
 · exact (by
 extract_lets t2
 have h3 : Moves k r t2 := (wr_moves rfl _ _ (issueRecords_moves _ h1))
 exact (dmsReply_moves _ _ _ h3)))) h)

theorem execDmsRecAck_moves (a0 : DmsFrame) (h : Moves k r s) : MovesO k r (execDmsRecAck a0 s) := by
  unfold execDmsRecAck
  exact (dmsCmd_moves _ _ (fun _ _ h1 => (by
 extract_lets t2
 exact (dmsReply_moves _ _ _ (dmsShow_moves (dmsMap_moves _ h1))))) h)

theorem execDmsIdent_moves (a0 : DmsFrame) (h : Moves k r s) : MovesO k r (execDmsIdent a0 s) := by
  unfold execDmsIdent
  exact (dmsCmd_moves _ _ (fun _ _ h1 => (by
 extract_lets t2 t3
 exact (dmsReply_moves _ _ _ (metSend_moves _ h1)))) h)

theorem execDmsTrailPage_moves (a0 : DmsFrame) (h : Moves k r s) : MovesO k r (execDmsTrailPage a0 s) := by
  unfold execDmsTrailPage
  exact (dmsCmd_moves _ _ (fun _ _ h1 => (dmsReply_moves _ _ _ (dmsMap_moves _ h1))) h)

theorem execDmsSetparam_moves (a0 : DmsFrame) (a1 : Bool) (h : Moves k r s) : MovesO k r (execDmsSetparam a0 a1 s) := by
  unfold execDmsSetparam
  exact (dmsCmd_moves _ _ (fun _ _ h1 => (by
 split
 · exact (dmsRefuse_moves _ _ h1)
 · exact (by
 extract_lets t2 t3 t4 t5
 have h6 : Moves k r t5 := (auditWrite_moves _ _ _ h1)
 exact (Moves.ite (by
 split
 · 
   rename_i v8 v9 e10
   have h7 := Moves.of_eq2 e10 (fresh_moves h1)
   exact (dmsRefuse_moves _ _ h7)) (Moves.ite (dmsPowerOff_moves h6) (dmsReply_moves _ _ _ (finishChange_moves h6))))))) h)

theorem execDmsFwupdate_moves (a0 : DmsFrame) (a1 : Nat) (a2 : List Byte) (a3 : Bool) (h : Moves k r s) :
    MovesO k r (execDmsFwupdate a0 a1 a2 a3 s) := by
  unfold execDmsFwupdate
  exact (dmsCmd_moves _ _ (fun _ _ h1 => (by
 split
 · exact (dmsRefuse_moves _ _ h1)
 · exact (by
 extract_lets t2 t3 t5
 have h4 : Moves k r t3 := (auditWrite_moves _ _ _ h1)
 have h6 : Moves k r t5 := (dmsReply_moves _ _ _ (finishChange_moves h4))
 exact (Moves.ite (dmsPowerOff_moves h4) (dmsStart_moves _ _ (dmsMap_moves _ h6)))))) h)

theorem execDmsTrailAck_moves (a0 : DmsFrame) (h : Moves k r s) : MovesO k r (execDmsTrailAck a0 s) := by
  unfold execDmsTrailAck
  exact (dmsCmd_moves _ _ (fun _ _ h1 => (by
 extract_lets t2 t3
 exact (Moves.ite (dmsRefuse_moves _ _ h1) (dmsReply_moves _ _ _ (wr_moves rfl _ _ h1))))) h)

theorem execDmsAdjustEnter_moves (a0 : Nat) (h : Moves k r s) : MovesO k r (execDmsAdjustEnter a0 s) := by
  unfold execDmsAdjustEnter
  exact (by
 extract_lets t1
 have h2 : Moves k r t1 := (adjSeen_moves _ _ h)
 exact (MovesO.ite (ok_moves h) (ok_moves (Moves.ite (wr_moves rfl _ _ (endMeas_moves h2)) h2))))

theorem execDmsAdjustLeave_moves (a0 : Nat) (h : Moves k r s) : MovesO k r (execDmsAdjustLeave a0 s) := by
  unfold execDmsAdjustLeave
  exact (by
 extract_lets t1
 have h2 : Moves k r t1 := (adjSeen_moves _ _ h)
 exact (MovesO.ite (ok_moves h) (ok_moves (Moves.ite (wr_moves rfl _ _ h2) h2))))

theorem execDmsStateSave_moves (a0 : Nat) (h : Moves k r s) : MovesO k r (execDmsStateSave a0 s) := by
  unfold execDmsStateSave
  exact (MovesO.ite (ok_moves h) (ok_moves (dmsMap_moves _ (dmsAt_moves _ h))))

theorem execDmsBoot_moves (a0 : Bool) (a1 : Bool) (a2 : Bool) (a3 : Nat) (h : Moves k r s) :
    MovesO k r (execDmsBoot a0 a1 a2 a3 s) := by
  unfold execDmsBoot
  exact (MovesO.ite (ok_moves (dmsStart_moves _ _ (dmsMap_moves _ (dmsAt_moves _ h)))) (ok_moves (dmsMap_moves _ h)))

theorem execDmsOscFail_moves (a0 : Nat) (h : Moves k r s) : MovesO k r (execDmsOscFail a0 s) := by
  unfold execDmsOscFail
  exact (by
 extract_lets t1 t3 t5
 have h2 : Moves k r t1 := (wr_moves rfl _ _ (dmsAt_moves _ h))
 have h4 : Moves k r t3 := (endMeas_moves (measMap_moves _ h2))
 have h6 : Moves k r t5 := (Moves.ite (wr_moves rfl _ _ h4) h4)
 exact (MovesO.ite (ok_moves h) (ok_moves (dmsReport_moves _ h6))))

theorem execDmsOscRecover_moves (h : Moves k r s) : MovesO k r (execDmsOscRecover s) := by
  unfold execDmsOscRecover
  exact (MovesO.ite (ok_moves (wr_moves rfl _ _ h)) (ok_moves h))

theorem execDmsPowerLoss_moves (h : Moves k r s) : MovesO k r (execDmsPowerLoss s) := by
  unfold execDmsPowerLoss
  exact (MovesO.ite (ok_moves (dmsPowerOff_moves h)) (ok_moves (dmsMap_moves _ h)))

theorem execKeyAddKey_moves (a0 : KeyCmd) (h : Moves k r s) : MovesO k r (execKeyAddKey a0 s) := by
  unfold execKeyAddKey
  exact (by
 split
 · exact (ok_moves (applyKey_moves _ _ h))
 · exact (ok_moves h))

theorem execKeyRevokeKey_moves (a0 : KeyCmd) (h : Moves k r s) : MovesO k r (execKeyRevokeKey a0 s) := by
  unfold execKeyRevokeKey
  exact (by
 split
 · exact (ok_moves (applyKey_moves _ _ h))
 · exact (ok_moves h))

theorem execKeySetPassword_moves (a0 : KeyCmd) (h : Moves k r s) : MovesO k r (execKeySetPassword a0 s) := by
  unfold execKeySetPassword
  exact (by
 split
 · exact (ok_moves (applyKey_moves _ _ h))
 · exact (ok_moves h))

theorem execKeySetMgmtKey_moves (a0 : KeyCmd) (h : Moves k r s) : MovesO k r (execKeySetMgmtKey a0 s) := by
  unfold execKeySetMgmtKey
  exact (by
 split
 · exact (ok_moves (applyKey_moves _ _ h))
 · exact (ok_moves h))

theorem execKeyProvisionDone_moves (a0 : KeyCmd) (a1 : Bool) (h : Moves k r s) :
    MovesO k r (execKeyProvisionDone a0 a1 s) := by
  unfold execKeyProvisionDone
  exact (by
 split
 · exact (ok_moves (applyKey_moves _ _ h))
 · exact (ok_moves h))

theorem execVendorProvision_moves (a0 : List Byte) (a1 : Option (List Byte)) (a2 : Bool) (h : Moves k r s) :
    MovesO k r (execVendorProvision a0 a1 a2 s) := by
  unfold execVendorProvision
  exact (by
 extract_lets t1 t3
 have h2 : Moves k r t1 := (Moves.ite h (wr_moves rfl _ _ (secMap_moves _ h)))
 have h4 : Moves k r t3 := by
  unfold t3
  exact (by
 split
 · exact (burnKey_moves _ _ h2)
 · exact h2)
 exact (MovesO.ite (ok_moves (report_moves _ _ _ h)) (ok_moves (setLifecycle_moves _ _ (makeRecordKey_moves h4)))))

theorem execVendorReturn_moves (a0 : Bool) (a1 : Nat) (a2 : Bool) (h : Moves k r s) :
    MovesO k r (execVendorReturn a0 a1 a2 s) := by
  unfold execVendorReturn
  exact (by
 extract_lets t1
 exact (MovesO.ite (ok_moves (report_moves _ _ _ h)) (ok_moves (setLifecycle_moves _ _ h))))

theorem execSecSubmitPw_moves (a0 : Wr) (h : Moves k r s) : MovesO k r (execSecSubmitPw a0 s) := by
  unfold execSecSubmitPw
  exact (ok_moves (writeAccess_moves _ _ h))

theorem execSecSubmitCr_moves (a0 : Wr) (h : Moves k r s) : MovesO k r (execSecSubmitCr a0 s) := by
  unfold execSecSubmitCr
  exact (ok_moves (writeAccess_moves _ _ h))

theorem execSecNonce_moves (a0 : Wr) (h : Moves k r s) : MovesO k r (execSecNonce a0 s) := by
  unfold execSecNonce
  exact (ok_moves (writeAccess_moves _ _ h))

theorem execSecClose_moves (a0 : Wr) (h : Moves k r s) : MovesO k r (execSecClose a0 s) := by
  unfold execSecClose
  exact (ok_moves (writeAccess_moves _ _ h))

theorem execNonceExpiry_moves (h : Moves k r s) : MovesO k r (execNonceExpiry s) := by
  unfold execNonceExpiry
  exact (by
 split
 · exact (MovesO.ite (ok_moves h) (ok_moves (secMap_moves _ h)))
 · exact (ok_moves h))

theorem execLockoutEnd_moves (h : Moves k r s) : MovesO k r (execLockoutEnd s) := by
  unfold execLockoutEnd
  exact (MovesO.ite (ok_moves h) (ok_moves (secMap_moves _ (wr_moves rfl _ _ h))))

theorem execJtagAccess_moves (a0 : JtagOp) (h : Moves k r s) : MovesO k r (execJtagAccess a0 s) := by
  unfold execJtagAccess
  exact (by
 split
 · exact (ok_moves (emit_moves _ h))
 · exact (by
 extract_lets t1
 have h2 : Moves k r t1.2 := (fresh_moves h)
 exact (ok_moves (emit_moves _ h2)))
 · exact (MovesO.ite (ok_moves h) (MovesO.ite (ok_moves (emit_moves _ h)) (ok_moves (emit_moves _ h))))
 · exact (ok_moves (Moves.ite (invasive_moves (fun _ h3 => (emit_moves _ h3)) h) h))
 · exact (ok_moves (Moves.ite (invasive_moves (fun _ h4 => (haltCore_moves _ h4)) h) h))
 · exact (ok_moves (Moves.ite (invasive_moves (fun _ h5 => (Moves.ite (busWrite_moves _ _ _ h5) (emit_moves _ h5))) h) h)))

theorem execDmaLoop_moves (a0 : Nat) (a1 : Bool) (h : Moves k r s) : MovesO k r (execDmaLoop a0 a1 s) := by
  unfold execDmaLoop
  exact (ok_moves (dmaIssue_moves _ _ _ (fun _ _ _ h1 => (by
 extract_lets t2
 exact (Moves.ite (haltCh_moves _ _ _ _ h1) (stepOn_moves _ _ h1)))) h))

theorem execDmaEndloop_moves (a0 : Nat) (a1 : Bool) (h : Moves k r s) : MovesO k r (execDmaEndloop a0 a1 s) := by
  unfold execDmaEndloop
  exact (ok_moves (dmaIssue_moves _ _ _ (fun _ _ _ h1 => (by
 split
 · exact (haltCh_moves _ _ _ _ h1)
 · exact (Moves.ite (haltCh_moves _ _ _ _ h1) (Moves.ite (stepOn_moves _ _ h1) (stepOn_moves _ _ h1))))) h))

theorem execDmaWaitDrain_moves (a0 : Nat) (a1 : Bool) (h : Moves k r s) : MovesO k r (execDmaWaitDrain a0 a1 s) := by
  unfold execDmaWaitDrain
  exact (ok_moves (dmaIssue_moves _ _ _ (fun _ _ _ h1 => (Moves.ite (haltCh_moves _ _ _ _ h1) (Moves.ite (stepOn_moves _ _ h1) (waitOn_moves _ _ h1)))) h))

theorem execDmaWaitCounter_moves (a0 : Nat) (a1 : Bool) (h : Moves k r s) :
    MovesO k r (execDmaWaitCounter a0 a1 s) := by
  unfold execDmaWaitCounter
  exact (ok_moves (dmaIssue_moves _ _ _ (fun _ _ _ h1 => (by
 extract_lets t2 t3 t4 t5
 exact (Moves.ite (haltCh_moves _ _ _ _ h1) (Moves.ite (haltCh_moves _ _ _ _ h1) (Moves.ite (waitOn_moves _ _ (coreReport_moves _ _ h1)) (Moves.ite (takeCredit_moves _ _ _ (stepOn_moves _ _ h1)) (waitOn_moves _ _ h1))))))) h))

theorem execDmaSignalCounter_moves (a0 : Nat) (a1 : Bool) (h : Moves k r s) :
    MovesO k r (execDmaSignalCounter a0 a1 s) := by
  unfold execDmaSignalCounter
  exact (ok_moves (dmaIssue_moves _ _ _ (fun _ _ _ h1 => (Moves.ite (haltCh_moves _ _ _ _ h1) (Moves.ite (haltCh_moves _ _ _ _ h1) (signal_moves _ _ _ h1)))) h))

theorem execDmaSignalEvent_moves (a0 : Nat) (a1 : Bool) (h : Moves k r s) :
    MovesO k r (execDmaSignalEvent a0 a1 s) := by
  unfold execDmaSignalEvent
  exact (ok_moves (dmaIssue_moves _ _ _ (fun _ _ _ h1 => (Moves.ite (haltCh_moves _ _ _ _ h1) (signal_moves _ _ _ h1))) h))

theorem execDmaSignalSend_moves (a0 : Nat) (a1 : Nat) (a2 : Bool) (h : Moves k r s) :
    MovesO k r (execDmaSignalSend a0 a1 a2 s) := by
  unfold execDmaSignalSend
  exact (by
 extract_lets t1 t2
 have h3 : Moves k r t2 := (modDma_moves _ _ h)
 exact (by
 split
 · exact (ok_moves h)
 · exact (MovesO.ite (ok_moves h) (by
 split
 · exact (ok_moves (emit_moves _ h3))
 · exact (by
 extract_lets t4
 have h5 : Moves k r t4 := (addCnt_moves _ _ _ h3)
 exact (ok_moves (Moves.ite (spHazard_moves _ _ _ _ _ h5) h5)))))))

theorem execDmaSumStart_moves (a0 : Nat) (a1 : Bool) (h : Moves k r s) : MovesO k r (execDmaSumStart a0 a1 s) := by
  unfold execDmaSumStart
  exact (ok_moves (dmaIssue_moves _ _ _ (fun _ _ _ h1 => (Moves.ite (haltCh_moves _ _ _ _ h1) (stepOn_moves _ _ h1))) h))

theorem execDmaSumStop_moves (a0 : Nat) (a1 : Bool) (h : Moves k r s) : MovesO k r (execDmaSumStop a0 a1 s) := by
  unfold execDmaSumStop
  exact (ok_moves (dmaIssue_moves _ _ _ (fun _ _ _ h1 => (by
 extract_lets t2
 exact (by
 split
 · exact (haltCh_moves _ _ _ _ h1)
 · exact (Moves.ite (haltCh_moves _ _ _ _ h1) (Moves.ite (haltCh_moves _ _ _ _ h1) (Moves.ite (haltCh_moves _ _ _ _ h1) (stepOn_moves _ _ h1))))))) h))

theorem execDmaSumResultStore_moves (a0 : Nat) (h : Moves k r s) : MovesO k r (execDmaSumResultStore a0 s) := by
  unfold execDmaSumResultStore
  exact (by
 split
 · exact (ok_moves h)
 · exact (by
 split
 · exact (ok_moves h)
 · exact (by
 extract_lets t1
 have h2 : Moves k r t1 := (modDma_moves _ _ h)
 exact (MovesO.ite (ok_moves h) (ok_moves (busWrite_moves _ _ _ h2))))))

theorem execDmaEnd_moves (a0 : Nat) (a1 : Bool) (h : Moves k r s) : MovesO k r (execDmaEnd a0 a1 s) := by
  unfold execDmaEnd
  exact (ok_moves (dmaIssue_moves _ _ _ (fun _ _ _ h1 => (by
 extract_lets t2
 exact (Moves.ite (haltCh_moves _ _ _ _ h1) (Moves.ite (waitOn_moves _ _ (modDma_moves _ _ h1)) (takeNext_moves _ (postRecord_moves _ _ (beginStep_moves _ (modDma_moves _ _ h1)))))))) h))

theorem execDmaGo_moves (a0 : Wr) (h : Moves k r s) : MovesO k r (execDmaGo a0 s) := by
  unfold execDmaGo
  exact (ok_moves (dmaCtrl_moves _ _ h))

theorem execDmaCancel_moves (a0 : Wr) (h : Moves k r s) : MovesO k r (execDmaCancel a0 s) := by
  unfold execDmaCancel
  exact (ok_moves (dmaCtrl_moves _ _ h))

theorem execDmaResume_moves (a0 : Wr) (h : Moves k r s) : MovesO k r (execDmaResume a0 s) := by
  unfold execDmaResume
  exact (ok_moves (dmaCtrl_moves _ _ h))

theorem execDmaCntClear_moves (a0 : Wr) (h : Moves k r s) : MovesO k r (execDmaCntClear a0 s) := by
  unfold execDmaCntClear
  exact (ok_moves (dmaCtrl_moves _ _ h))

theorem execDmaCancelComplete_moves (a0 : Nat) (h : Moves k r s) : MovesO k r (execDmaCancelComplete a0 s) := by
  unfold execDmaCancelComplete
  exact (MovesO.ite (ok_moves (endCancel_moves _ h)) (ok_moves h))

theorem execDmaWaitSatisfied_moves (a0 : Nat) (h : Moves k r s) : MovesO k r (execDmaWaitSatisfied a0 s) := by
  unfold execDmaWaitSatisfied
  exact (by
 extract_lets t1
 exact (by
 split
 · exact (MovesO.ite (ok_moves (wake_moves _ _ h)) (ok_moves h))
 · exact (MovesO.ite (ok_moves (wake_moves _ _ h)) (ok_moves h))
 · exact (MovesO.ite (ok_moves (takeCredit_moves _ _ _ (wake_moves _ _ h))) (ok_moves h))
 · exact (MovesO.ite (ok_moves (wake_moves _ _ h)) (ok_moves h))
 · exact (ok_moves h)
 · exact (ok_moves h)))

theorem execDmaWaitLimitExpiry_moves (a0 : Nat) (h : Moves k r s) : MovesO k r (execDmaWaitLimitExpiry a0 s) := by
  unfold execDmaWaitLimitExpiry
  exact (by
 extract_lets t1 t2
 exact (by
 split
 · exact (MovesO.ite (ok_moves h) (by
 split
 · exact (ok_moves (haltCh_moves _ _ _ _ (dropWant_moves _ _ h)))
 · exact (ok_moves (haltCh_moves _ _ _ _ h))
 · exact (ok_moves (haltCh_moves _ _ _ _ h))
 · exact (ok_moves h)
 · exact (ok_moves h)))
 · exact (ok_moves h)))

theorem execDmaSegInval_moves (a0 : Wr) (h : Moves k r s) : MovesO k r (execDmaSegInval a0 s) := by
  unfold execDmaSegInval
  exact (ok_moves (gate_moves _ _ _ (fun _ _ h1 => (Moves.ite (Moves.update h1) h1)) h))

theorem execDmaMove_moves (a0 : Nat) (a1 : Bool) (h : Moves k r s) : MovesO k r (execDmaMove a0 a1 s) := by
  unfold execDmaMove
  exact (ok_moves (dmaIssue_moves _ _ _ (fun _ _ _ h1 => (by
 extract_lets t2 t3 t4 t5
 exact (Moves.ite (haltCh_moves _ _ _ _ h1) (by
 clear_value t2
 split
 · exact (movePlain_moves _ _ _ _ _ _ h1)
 · exact (moveRing_moves _ _ _ _ _ _ h1)
 · exact (moveChain_moves _ _ _ _ _ _ h1))))) h))

theorem execDmaMovex_moves (a0 : Nat) (a1 : Bool) (h : Moves k r s) : MovesO k r (execDmaMovex a0 a1 s) := by
  unfold execDmaMovex
  exact (ok_moves (dmaIssue_moves _ _ _ (fun _ _ _ h1 => (by
 extract_lets t2 t3 t4
 exact (Moves.ite (haltCh_moves _ _ _ _ h1) (Moves.ite (haltCh_moves _ _ _ _ h1) (by
 split
 · exact (haltCh_moves _ _ _ _ h1)
 · exact (by
 split
 · exact (fetchIndex_moves _ _ h1)
 · exact (haltCh_moves _ _ _ _ h1)
 · exact (by
 split
 · exact (moveElem_moves _ _ _ _ h1)
 · exact (fetchIndex_moves _ _ h1)))))))) h))

theorem execDmaPieceAck_moves (a0 : Nat) (a1 : Nat) (a2 : PieceAnswer) (h : Moves k r s) :
    MovesO k r (execDmaPieceAck a0 a1 a2 s) := by
  unfold execDmaPieceAck
  exact (by
 extract_lets t1
 exact (by
 split
 · exact (ok_moves h)
 · exact (by
 split
 · exact (ok_moves (haltCh_moves _ _ _ _ (losePiece_moves _ _ _ h)))
 · exact (ok_moves (failPiece_moves _ _ _ _ _ h))
 · exact (by
 extract_lets t2 t4 t7 t8 t9
 have h3 : Moves k r t2.1 := (takeAnswer_moves _ _ h)
 have h5 : Moves k r t4.1 := (Moves.mk1 (Moves.ite (Moves.foldl (fun _ _ h6 => (noteWhy_moves _ _ _ h6)) _ h3) h3))
 exact (MovesO.ite (ok_moves (failPiece_moves _ _ _ _ _ h5)) (MovesO.ite (ok_moves h) (ok_moves (landPiece_moves _ _ _ _ (retirePiece_moves _ _ _ _ _ (noteParity_moves _ _ h5))))))))))

theorem execDmaTagTimeout_moves (a0 : Nat) (a1 : Nat) (h : Moves k r s) : MovesO k r (execDmaTagTimeout a0 a1 s) := by
  unfold execDmaTagTimeout
  exact (by
 split
 · exact (ok_moves h)
 · exact (by
 extract_lets t1
 exact (MovesO.ite (ok_moves h) (ok_moves (failPiece_moves _ _ _ _ _ h)))))

theorem execDramRequestTimeout_moves (a0 : Asker) (h : Moves k r s) : MovesO k r (execDramRequestTimeout a0 s) := by
  unfold execDramRequestTimeout
  exact (by
 split
 · exact (by
 split
 · exact (ok_moves h)
 · exact (MovesO.ite (ok_moves h) (ok_moves (failPiece_moves _ _ _ _ _ h))))
 · exact (by
 split
 · exact (ok_moves h)
 · exact (MovesO.ite (ok_moves h) (ok_moves (failRead_moves _ _ h)))))

theorem execPcieCompletionTimeout_moves (a0 : Nat) (a1 : Nat) (h : Moves k r s) :
    MovesO k r (execPcieCompletionTimeout a0 a1 s) := by
  unfold execPcieCompletionTimeout
  exact (by
 split
 · exact (ok_moves h)
 · exact (MovesO.ite (ok_moves h) (ok_moves (failPiece_moves _ _ _ _ _ h))))

theorem execStripeClose_moves (a0 : Nat) (h : Moves k r s) : MovesO k r (execStripeClose a0 s) := by
  unfold execStripeClose
  exact (by
 split
 · exact (ok_moves h)
 · exact (by
 extract_lets t1 t3
 have h2 : Moves k r t1 := (watchClose_moves _ _ (modStripe_moves _ _ _ h))
 have h4 : Moves k r t3 := (Moves.ite (hit_moves _ rfl (report_moves _ _ _ h2)) h2)
 exact (ok_moves (Moves.ite (openCredits_moves _ _ h4) h4))))

theorem execCropBatchDispatch_moves (a0 : Nat) (h : Moves k r s) : MovesO k r (execCropBatchDispatch a0 s) := by
  unfold execCropBatchDispatch
  exact (by
 extract_lets t1
 exact (by
 clear_value t1
 split
 · exact (ok_moves h)
 · exact (by
 split
 · exact (ok_moves h)
 · exact (by
 extract_lets t2
 have h3 : Moves k r t2 := (Moves.ite h (cutCrops_moves _ _ _ h))
 exact (MovesO.ite (ok_moves h) (ok_moves (showWaits_moves (Moves.foldl (fun _ _ h4 => (dispatchCrop_moves _ _ _ h4)) _ h3))))))))

theorem execShareDispatch_moves (a0 : Nat) (h : Moves k r s) : MovesO k r (execShareDispatch a0 s) := by
  unfold execShareDispatch
  exact (by
 extract_lets t1
 have h2 : Moves k r t1 := (showWaits_moves (fillBubbles_moves h))
 exact (MovesO.ite (ok_moves h2) (by
 split
 · exact (ok_moves h2)
 · exact (by
 extract_lets t3
 have h4 : Moves k r t3 := (Moves.ite h2 (beginStripe_moves _ _ h2))
 exact (MovesO.ite (ok_moves h2) (by
 split
 · exact (ok_moves (showWaits_moves h4))
 · exact (ok_moves (showWaits_moves (Moves.foldl (fun _ _ h5 => (dispatchBand_moves _ _ _ h5)) _ h4)))))))))

theorem execShareEnd_moves (a0 : Nat) (a1 : Nat) (h : Moves k r s) : MovesO k r (execShareEnd a0 a1 s) := by
  unfold execShareEnd
  exact (by
 extract_lets t1 t2
 exact (by
 split
 · exact (ok_moves h)
 · exact (by
 extract_lets t3 t5 t7
 have h4 : Moves k r t3 := (countEnd_moves _ _ _ (Moves.update h))
 have h6 : Moves k r t5 := (slackOf_moves _ _ (journalise_moves _ _ _ h4))
 exact (MovesO.ite (ok_moves h) (ok_moves (showWaits_moves (serveWaiting_moves _ (settleSpares_moves _ (afterEnd_moves _ _ _ _ _ _ _ (startNext_moves _ h6))))))))))

theorem execComputeDeadlineExpiry_moves (a0 : Nat) (a1 : Nat) (a2 : Bool) (a3 : Nat) (h : Moves k r s) :
    MovesO k r (execComputeDeadlineExpiry a0 a1 a2 a3 s) := by
  unfold execComputeDeadlineExpiry
  exact (by
 extract_lets t1 t2 t4
 have h3 : Moves k r t2 := (modStripe_moves _ _ _ h)
 have h5 : Moves k r t4 := (bump_moves _ rfl (hit_moves _ rfl (report_moves _ _ _ h3)))
 exact (by
 split
 · exact (ok_moves h)
 · exact (by
 extract_lets t6 t7
 exact (MovesO.ite (ok_moves h) (ok_moves (paceEval_moves _ _ h5))))))

theorem execDecisionDue_moves (h : Moves k r s) : MovesO k r (execDecisionDue s) := by
  unfold execDecisionDue
  exact (by
 extract_lets t1 t2
 exact (MovesO.ite (ok_moves h) (ok_moves (Moves.foldl (fun _ _ h3 => (runDecision_moves _ h3)) _ (Moves.update h)))))

theorem execPulseEnd_moves (h : Moves k r s) : MovesO k r (execPulseEnd s) := by
  unfold execPulseEnd
  exact (by
 extract_lets t1 t2
 exact (ok_moves (Moves.foldl (fun _ _ h3 => (decide'_moves _ _ h3)) _ (Moves.update h))))

theorem execEncoderPulse_moves (a0 : Nat) (a1 : Bool) (a2 : Bool) (a3 : List Nat) (h : Moves k r s) :
    MovesO k r (execEncoderPulse a0 a1 a2 a3 s) := by
  unfold execEncoderPulse
  exact (by
 extract_lets t1 t2 t3
 have h4 : Moves k r t3 := (Moves.update h)
 exact (MovesO.ite (ok_moves h) (by
 split
 · exact (ok_moves h4)
 · exact (ok_moves (bump_moves _ rfl (report_moves _ _ _ h4)))
 · exact (ok_moves (encPulse_moves _ _ _ h4))
 · exact (ok_moves (encPulse_moves _ _ _ h4)))))

theorem execTriggerEdge_moves (a0 : Nat) (a1 : Bool) (a2 : List Nat) (h : Moves k r s) :
    MovesO k r (execTriggerEdge a0 a1 a2 s) := by
  unfold execTriggerEdge
  exact (by
 extract_lets t1 t2 t3 t5 t6 t8 t9
 have h4 : Moves k r t3 := (Moves.update h)
 have h7 : Moves k r t6 := (Moves.update h4)
 have h10 : Moves k r t9 := (Moves.foldl (fun _ _ h11 => (modStrm_moves _ _ h11)) _ h7)
 exact (MovesO.ite (ok_moves h) (MovesO.ite (ok_moves h4) (ok_moves (Moves.foldl (fun _ _ h12 => (sendTrigger_moves _ _ h12)) _ h10)))))

theorem execFioTrigCtrlWrite_moves (a0 : Wr) (a1 : Nat) (h : Moves k r s) :
    MovesO k r (execFioTrigCtrlWrite a0 a1 s) := by
  unfold execFioTrigCtrlWrite
  exact (ok_moves (gate_moves _ _ _ (fun _ _ h1 => (by
 extract_lets t2 t3 t4 t5 t6
 exact (putAll_moves _ _ _ rfl (Moves.update h1)))) h))

theorem execAliveToggle_moves (h : Moves k r s) : MovesO k r (execAliveToggle s) := by
  unfold execAliveToggle
  exact (by
 extract_lets t1
 exact (MovesO.ite (ok_moves h) (ok_moves (Moves.update h))))

theorem execFioActForceWrite_moves (a0 : Wr) (h : Moves k r s) : MovesO k r (execFioActForceWrite a0 s) := by
  unfold execFioActForceWrite
  exact (ok_moves (gate_moves _ _ _ (fun _ _ h1 => (by
 extract_lets t2
 have h3 : Moves k r t2 := (putAll_moves _ _ _ rfl h1)
 exact (Moves.ite (report_moves _ _ _ h1) (Moves.foldl (fun _ _ h4 => (drive_moves _ _ h4)) _ h3)))) h))

theorem execVddIo33Below2v7_moves (h : Moves k r s) : MovesO k r (execVddIo33Below2v7 s) := by
  unfold execVddIo33Below2v7
  exact (by
 extract_lets t1 t2
 have h3 : Moves k r t2 := (Moves.update h)
 exact (ok_moves (Moves.ite (environment_moves _ _ _ _ h3) h3)))

theorem execCommitDeadlineExpiry_moves (a0 : Nat) (a1 : Nat) (h : Moves k r s) :
    MovesO k r (execCommitDeadlineExpiry a0 a1 s) := by
  unfold execCommitDeadlineExpiry
  exact (by
 split
 · exact (ok_moves h)
 · exact (MovesO.ite (ok_moves (report_moves _ _ _ h)) (MovesO.ite (ok_moves h) (MovesO.ite (ok_moves (giveUp_moves _ _ h)) (MovesO.ite (ok_moves (report_moves _ _ _ h)) (MovesO.ite (ok_moves (dropPartner_moves _ _ h)) (ok_moves (yieldPair_moves _ _ _ _ h))))))))

theorem execCommit_moves (a0 : Nat) (h : Moves k r s) : MovesO k r (execCommit a0 s) := by
  unfold execCommit
  exact (by
 split
 · exact (ok_moves h)
 · exact (by
 split
 · exact (ok_moves h)
 · exact (MovesO.ite (ok_moves (yieldCommit_moves _ _ (swapRole_moves _ _ (commitStripe_moves _ _ _ h)))) (ok_moves h))))

theorem execZlShortCellReceived_moves (a0 : Rx) (a1 : Option Nat) (h : Moves k r s) :
    MovesO k r (execZlShortCellReceived a0 a1 s) := by
  unfold execZlShortCellReceived
  exact (by
 extract_lets t1 t2 t3
 have h4 : Moves k r t3 := (takeAck_moves _ _ _ _ (setZl_moves _ _ h))
 exact (MovesO.ite (ok_moves h) (MovesO.ite (ok_moves (bump_moves _ rfl (report_moves _ _ _ h))) (MovesO.ite (ok_moves (countDrop_moves _ (report_moves _ _ _ h4))) (MovesO.ite (ok_moves (askAgain_moves _ _ h4)) (ok_moves h4))))))

theorem execZlIdleCellTimer_moves (a0 : Nat) (h : Moves k r s) : MovesO k r (execZlIdleCellTimer a0 s) := by
  unfold execZlIdleCellTimer
  exact (MovesO.ite (ok_moves h) (ok_moves (sendShort_moves _ _ h)))

theorem execZlLinkSilence_moves (a0 : Nat) (h : Moves k r s) : MovesO k r (execZlLinkSilence a0 s) := by
  unfold execZlLinkSilence
  exact (MovesO.ite (ok_moves h) (ok_moves (linkDown_moves _ h)))

theorem execZlRetrainTimer_moves (a0 : Nat) (h : Moves k r s) : MovesO k r (execZlRetrainTimer a0 s) := by
  unfold execZlRetrainTimer
  exact (MovesO.ite (ok_moves h) (ok_moves (wr_moves rfl _ _ h)))

theorem execZlTrained_moves (a0 : Nat) (a1 : Nat) (a2 : Nat) (h : Moves k r s) :
    MovesO k r (execZlTrained a0 a1 a2 s) := by
  unfold execZlTrained
  exact (by
 extract_lets t1 t2 t4 t6
 have h3 : Moves k r t2 := (wr_moves rfl _ _ (wr_moves rfl _ _ (reportIf_moves _ _ _ _ h)))
 have h5 : Moves k r t4 := (wr_moves rfl _ _ (wr_moves rfl _ _ h3))
 exact (MovesO.ite (ok_moves h) (MovesO.ite (ok_moves (linkDown_moves _ h)) (by
 split
 · exact (ok_moves (bringUp_moves _ _ _ _ h3))
 · exact (ok_moves (sendHello_moves _ (setZl_moves _ _ h5)))))))

theorem execZlHelloReceived_moves (a0 : Nat) (a1 : Hello) (h : Moves k r s) :
    MovesO k r (execZlHelloReceived a0 a1 s) := by
  unfold execZlHelloReceived
  exact (by
 extract_lets t1 t2 t3 t4
 exact (MovesO.ite (ok_moves h) (MovesO.ite (ok_moves (refuseLink_moves _ h)) (MovesO.ite (ok_moves (settle_moves _ _ _ h)) (MovesO.ite (ok_moves (refusePair_moves _ h)) (ok_moves (alignPair_moves _ _ _ (settle_moves _ _ _ h))))))))

theorem execZlHelloTimeout_moves (a0 : Nat) (h : Moves k r s) : MovesO k r (execZlHelloTimeout a0 s) := by
  unfold execZlHelloTimeout
  exact (by
 extract_lets t1 t2 t4 t6
 have h3 : Moves k r t2 := (reportIf_moves _ _ _ _ h)
 have h5 : Moves k r t4 := (reportIf_moves _ _ _ _ h3)
 exact (MovesO.ite (ok_moves h) (ok_moves (dropLink_moves _ (setZl_moves _ _ h5)))))

theorem execZlCtrlWrite_moves (a0 : Wr) (h : Moves k r s) : MovesO k r (execZlCtrlWrite a0 s) := by
  unfold execZlCtrlWrite
  exact (ok_moves (gate_moves _ _ _ (fun _ _ h1 => (by
 extract_lets t2
 have h3 : Moves k r t2 := (putAll_moves _ _ _ rfl h1)
 exact (Moves.ite (hit_moves _ rfl h1) (Moves.ite (showDown_moves _ _ h3) (Moves.ite h3 (wr_moves rfl _ _ h3)))))) h))

theorem execZrCtrlWrite_moves (a0 : Wr) (h : Moves k r s) : MovesO k r (execZrCtrlWrite a0 s) := by
  unfold execZrCtrlWrite
  exact (ok_moves (gate_moves _ _ _ (fun _ _ h1 => (by
 extract_lets t2
 exact (Moves.ite (putAll_moves _ _ _ rfl h1) (Moves.foldl (fun _ _ h3 => (hit_moves _ rfl h3)) _ h1)))) h))

theorem execPictureBackLine_moves (a0 : Nat) (a1 : EndChk) (h : Moves k r s) :
    MovesO k r (execPictureBackLine a0 a1 s) := by
  unfold execPictureBackLine
  exact (by
 split
 · exact (ok_moves h)
 · exact (by
 extract_lets t1 t3
 have h2 : Moves k r t1 := (coefErrors_moves _ _ h)
 have h4 : Moves k r t3 := (Moves.ite h2 (hit_moves _ rfl (bump_moves _ rfl (report_moves _ _ _ h2))))
 exact (MovesO.ite (ok_moves h) (MovesO.ite (ok_moves (endFails_moves _ _ _ _ h4)) (by
 split
 · exact (ok_moves h4)
 · exact (by
 extract_lets t5 t6 t7 t9
 have h8 : Moves k r t7 := (bumpBy_moves _ _ rfl (bumpBy_moves _ _ rfl h4))
 have h10 : Moves k r t9 := (modOut_moves _ _ _ h8)
 exact (ok_moves (wr_moves rfl _ _ h10))))))))

theorem execRawFrontLine_moves (a0 : Nat) (a1 : EndChk) (h : Moves k r s) : MovesO k r (execRawFrontLine a0 a1 s) := by
  unfold execRawFrontLine
  exact (by
 extract_lets t1
 exact (by
 split
 · exact (ok_moves h)
 · exact (by
 extract_lets t2 t3 t5 t6 t8 t10 t11 t13
 have h4 : Moves k r t3 := (takeRf_moves _ _ _ (applyRegs_moves _ _ _ (coefErrors_moves _ _ h)))
 have h7 : Moves k r t6 := (checkLength_moves _ _ _ _ h4)
 have h9 : Moves k r t8 := (Moves.ite h7 (hit_moves _ rfl (bump_moves _ rfl (report_moves _ _ _ h7))))
 have h12 : Moves k r t11 := (bumpBy_moves _ _ rfl (bumpBy_moves _ _ rfl (bumpBy_moves _ _ rfl h9)))
 have h14 : Moves k r t13 := (modStrm_moves _ _ h12)
 exact (MovesO.ite (ok_moves h) (MovesO.ite (ok_moves (endFails_moves _ _ _ _ h9)) (ok_moves (showRfBlend_moves _ _ (captureLine_moves _ _ _ h14))))))))

theorem execStrmPbCtrlWrite_moves (a0 : Wr) (h : Moves k r s) : MovesO k r (execStrmPbCtrlWrite a0 s) := by
  unfold execStrmPbCtrlWrite
  exact (ok_moves (gate_moves _ _ _ (fun _ _ h1 => (by
 extract_lets t2 t3 t4
 have h5 : Moves k r t4 := (putAll_moves _ _ _ rfl h1)
 exact (Moves.ite (report_moves _ _ _ h1) (Moves.ite (hit_moves _ rfl h1) (Moves.ite (report_moves _ _ _ h1) (Moves.ite h5 (Moves.ite (sendControl_moves _ _ _ _ (modStrm_moves _ _ h5)) (sendControl_moves _ _ _ _ h5)))))))) h))

theorem execOutputLineSend_moves (a0 : Nat) (a1 : Bool) (a2 : Bool) (h : Moves k r s) :
    MovesO k r (execOutputLineSend a0 a1 a2 s) := by
  unfold execOutputLineSend
  exact (MovesO.ite (ok_moves h) (by
 split
 · exact (ok_moves h)
 · exact (by
 extract_lets t1
 exact (MovesO.ite (ok_moves h) (by
 split
 · exact (ok_moves h)
 · exact (by
 split
 · exact (ok_moves h)
 · exact (by
 extract_lets t2
 have h3 : Moves k r t2 := (sendLine_moves _ _ _ _ _ _ h)
 exact (ok_moves (Moves.ite (underrun_moves _ h3) h3)))))))))

theorem execHqEntryWrite_moves (a0 : Nat) (a1 : Option Nat) (h : Moves k r s) :
    MovesO k r (execHqEntryWrite a0 a1 s) := by
  unfold execHqEntryWrite
  exact (MovesO.ite (ok_moves h) (by
 split
 · exact (ok_moves h)
 · exact (MovesO.ite (ok_moves (Moves.ite h (finishEntry_moves _ _ _ h))) (by
 split
 · exact (ok_moves (entryFails_moves _ _ _ h))
 · exact (MovesO.ite (ok_moves h) (ok_moves (finishEntry_moves _ _ _ h)))))))

theorem execStrmHqTailWrite_moves (a0 : Wr) (h : Moves k r s) : MovesO k r (execStrmHqTailWrite a0 s) := by
  unfold execStrmHqTailWrite
  exact (ok_moves (gate_moves _ _ _ (fun _ _ h1 => (putAll_moves _ _ _ rfl h1)) h))

theorem execStrmHinHeadWrite_moves (a0 : Wr) (h : Moves k r s) : MovesO k r (execStrmHinHeadWrite a0 s) := by
  unfold execStrmHinHeadWrite
  exact (ok_moves (gate_moves _ _ _ (fun _ _ h1 => (putAll_moves _ _ _ rfl h1)) h))

theorem execStrmQueueConfigWrite_moves (a0 : Wr) (a1 : QueueReg) (h : Moves k r s) :
    MovesO k r (execStrmQueueConfigWrite a0 a1 s) := by
  unfold execStrmQueueConfigWrite
  exact (ok_moves (gate_moves _ _ _ (fun _ _ h1 => (Moves.ite (hit_moves _ rfl h1) (putAll_moves _ _ _ (queueReg_apart _) h1))) h))

theorem execHinEntryRead_moves (a0 : Nat) (h : Moves k r s) : MovesO k r (execHinEntryRead a0 s) := by
  unfold execHinEntryRead
  exact (by
 extract_lets t1 t2 t3 t4 t5 t6 t7 t8
 have h9 : Moves k r t8 := (Moves.foldl (fun _ _ h10 => (linkLine_moves _ _ _ h10)) _ h)
 exact (MovesO.ite (ok_moves h) (ok_moves (raiseStrm_moves _ (wr_moves rfl _ _ h9)))))

theorem execGvspBlockSend_moves (a0 : Nat) (h : Moves k r s) : MovesO k r (execGvspBlockSend a0 s) := by
  unfold execGvspBlockSend
  exact (MovesO.ite (ok_moves h) (by
 split
 · exact (ok_moves h)
 · exact (by
 extract_lets t1 t2 t3 t6 t8
 have h4 : ∀ x0, Moves k r x0 → Moves k r (t3 x0) := by
  unfold t3
  exact (fun _ h5 => (sweepOut_moves _ (modOut_moves _ _ _ h5)))
 have h7 : Moves k r t6 := (Moves.ite (emit_moves _ h) h)
 have h9 : Moves k r t8 := (emit_moves _ h7)
 exact (MovesO.ite (ok_moves (Moves.ite h (h4 _ (emit_moves _ h)))) (MovesO.ite (ok_moves h) (ok_moves (h4 _ (emit_moves _ h9))))))))

theorem execGvcpDiscovery_moves (a0 : Nat) (h : Moves k r s) : MovesO k r (execGvcpDiscovery a0 s) := by
  unfold execGvcpDiscovery
  exact (MovesO.ite (ok_moves h) (ok_moves (emit_moves _ h)))

theorem execGvcpRegisterAccess_moves (a0 : Nat) (a1 : Nat) (a2 : Option Nat) (a3 : Bool) (h : Moves k r s) :
    MovesO k r (execGvcpRegisterAccess a0 a1 a2 a3 s) := by
  unfold execGvcpRegisterAccess
  exact (by
 extract_lets t1 t2 t5
 have h3 : ∀ x0 x1, Moves k r x0 → Moves k r (t2 x0 x1) := by
  unfold t2
  exact (fun _ _ h4 => (Moves.ite h4 (emit_moves _ h4)))
 have h6 : Moves k r t5.2 := (fresh_moves h)
 exact (MovesO.ite (ok_moves h) (MovesO.ite (ok_moves (h3 _ _ (report_moves _ _ _ h))) (by
 split
 · exact (ok_moves (h3 _ _ (setGv_moves _ _ h)))
 · exact (by
 split
 · exact (ok_moves (h3 _ _ h6))
 · exact (ok_moves (h3 _ _ h)))))))

theorem execGvcpMemoryAccess_moves (a0 : Nat) (a1 : Nat) (a2 : List Nat) (a3 : Nat) (h : Moves k r s) :
    MovesO k r (execGvcpMemoryAccess a0 a1 a2 a3 s) := by
  unfold execGvcpMemoryAccess
  have h1 : Moves k r ({ s with free := s.free + cdiv a3 4 } : State) :=
    ⟨h.pending, h.part, h.mem, h.hostMem, h.regs, h.safe, h.free.trans (Nat.le_add_right _ _), h.out⟩
  exact MovesO.ite (ok_moves h) (MovesO.ite (ok_moves (Moves.ite h (emit_moves _ h1)))
    (ok_moves (Moves.ite (setGv_moves _ _ h) (emit_moves _ (setGv_moves _ _ h)))))

theorem execGvcpAddressAssignment_moves (a0 : Nat) (a1 : Nat) (h : Moves k r s) :
    MovesO k r (execGvcpAddressAssignment a0 a1 s) := by
  unfold execGvcpAddressAssignment
  exact (by
 extract_lets t1
 exact (MovesO.ite (ok_moves h) (ok_moves (setGv_moves _ _ h))))

theorem execGvcpPacketresend_moves (a0 : Nat) (a1 : Nat) (a2 : Nat) (a3 : Nat) (a4 : Nat) (h : Moves k r s) :
    MovesO k r (execGvcpPacketresend a0 a1 a2 a3 a4 s) := by
  unfold execGvcpPacketresend
  exact (by
 extract_lets t1
 exact (by
 split
 · exact (ok_moves (report_moves _ _ _ h))
 · exact (by
 split
 · exact (ok_moves (report_moves _ _ _ h))
 · exact (MovesO.ite (ok_moves h) (ok_moves (Moves.foldl (fun _ _ h2 => (emit_moves _ h2)) _ h))))))

theorem execPcieLinkTrained_moves (a0 : Nat) (a1 : Nat) (h : Moves k r s) :
    MovesO k r (execPcieLinkTrained a0 a1 s) := by
  unfold execPcieLinkTrained
  exact (by
 extract_lets t1
 have h2 : Moves k r t1 := (wr_moves rfl _ _ (wr_moves rfl _ _ (wr_moves rfl _ _ h)))
 exact (ok_moves (Moves.ite (report_moves _ _ _ h2) h2)))

theorem execCsi2FrameStart_moves (a0 : Nat) (a1 : Nat) (a2 : Nat) (h : Moves k r s) :
    MovesO k r (execCsi2FrameStart a0 a1 a2 s) := by
  unfold execCsi2FrameStart
  exact (by
 extract_lets t1 t2 t4 t7 t8
 have h3 : Moves k r t2 := (Moves.ite (report_moves _ _ _ h) h)
 have h5 : Moves k r t4 := (onStream_moves _ _ (fun _ _ h6 => (openFrame_moves _ h6)) h3)
 have h9 : Moves k r t8 := (reportIf_moves _ _ _ _ h5)
 exact (MovesO.ite (ok_moves h) (ok_moves (setVc_moves _ _ _ h9))))

theorem execCsi2FrameEnd_moves (a0 : Nat) (a1 : Nat) (h : Moves k r s) : MovesO k r (execCsi2FrameEnd a0 a1 s) := by
  unfold execCsi2FrameEnd
  exact (by
 extract_lets t1
 exact (MovesO.ite (ok_moves h) (ok_moves (setVc_moves _ _ _ (onStream_moves _ _ (fun _ _ h2 => (closeFrame_moves _ h2)) h)))))

theorem execCsi2LineStart_moves (a0 : Nat) (a1 : Nat) (h : Moves k r s) : MovesO k r (execCsi2LineStart a0 a1 s) := by
  unfold execCsi2LineStart
  exact (by
 extract_lets t1
 exact (MovesO.ite (ok_moves h) (ok_moves (setVc_moves _ _ _ h))))

theorem execCsi2LineEnd_moves (a0 : Nat) (a1 : Nat) (h : Moves k r s) : MovesO k r (execCsi2LineEnd a0 a1 s) := by
  unfold execCsi2LineEnd
  exact (by
 extract_lets t1 t2
 have h3 : Moves k r t2 := (setVc_moves _ _ _ h)
 exact (MovesO.ite (ok_moves h) (ok_moves (Moves.ite h3 (onStream_moves _ _ (fun _ _ h4 => (Moves.ite h4 (substLine_moves _ h4))) h3)))))

theorem execCsi2LongPacket_moves (a0 : Nat) (a1 : Nat) (a2 : Nat) (a3 : Receipt) (a4 : List Nat) (h : Moves k r s) :
    MovesO k r (execCsi2LongPacket a0 a1 a2 a3 a4 s) := by
  unfold execCsi2LongPacket
  exact (MovesO.ite (ok_moves h) (by
 split
 · exact (ok_moves (csiPacket_moves _ _ _ _ _ h))
 · exact (by
 extract_lets t1
 have h2 : Moves k r t1 := (Moves.ite h (bump_moves _ rfl h))
 exact (ok_moves (csiPacket_moves _ _ _ _ _ (report_moves _ _ _ h2))))
 · exact (ok_moves (csiPacket_moves _ _ _ _ _ h))
 · exact (ok_moves (report_moves _ _ _ (bump_moves _ rfl h)))
 · exact (ok_moves (report_moves _ _ _ (bump_moves _ rfl (bump_moves _ rfl h))))))

theorem execCsi2GenericShortPacket_moves (a0 : Nat) (a1 : Nat) (a2 : Nat) (h : Moves k r s) :
    MovesO k r (execCsi2GenericShortPacket a0 a1 a2 s) := by
  unfold execCsi2GenericShortPacket
  exact (ok_moves h)

theorem execCxpStreamPacket_moves (a0 : Nat) (a1 : Nat) (a2 : CxpPacket) (h : Moves k r s) :
    MovesO k r (execCxpStreamPacket a0 a1 a2 s) := by
  unfold execCxpStreamPacket
  exact (by
 extract_lets t1
 have h2 : Moves k r t1 := (bumpBy_moves _ _ rfl h)
 exact (MovesO.ite (ok_moves h) (ok_moves (onStream_moves _ _ (fun _ _ h3 => (Moves.ite (cxpDrain_moves _ _ (cxpTurn_moves _ _ _ h3)) (Moves.ite (cxpAhead_moves _ _ _ h3) (report_moves _ _ _ h3)))) h2))))

theorem execSlvdsLine_moves (a0 : Nat) (a1 : Nat) (a2 : List Nat) (h : Moves k r s) :
    MovesO k r (execSlvdsLine a0 a1 a2 s) := by
  unfold execSlvdsLine
  exact (by
 extract_lets t1 t2 t3 t4
 have h5 : Moves k r t4 := (Moves.ite h (report_moves _ _ _ (bump_moves _ rfl h)))
 exact (MovesO.ite (ok_moves h) (ok_moves (onStream_moves _ _ (fun _ _ h6 => (by
 extract_lets t7 t9
 have h8 : Moves k r t7 := (Moves.ite (openFrame_moves _ h6) h6)
 have h10 : Moves k r t9 := (Moves.ite (goodLine_moves _ _ h8) (failedLine_moves _ _ h8))
 exact (Moves.ite (closeFrame_moves _ h10) h10))) h5))))

theorem execSourceLoss_moves (a0 : Nat) (h : Moves k r s) : MovesO k r (execSourceLoss a0 s) := by
  unfold execSourceLoss
  exact (MovesO.ite (ok_moves h) (ok_moves (loseSource_moves _ h)))

theorem execSourceRegained_moves (a0 : Nat) (a1 : Nat) (h : Moves k r s) : MovesO k r (execSourceRegained a0 a1 s) := by
  unfold execSourceRegained
  exact (by
 extract_lets t1
 exact (MovesO.ite (ok_moves h) (ok_moves (lockPort_moves _ _ _ h))))

theorem execCxpLockLoss_moves (a0 : Nat) (h : Moves k r s) : MovesO k r (execCxpLockLoss a0 s) := by
  unfold execCxpLockLoss
  exact (MovesO.ite (ok_moves h) (ok_moves (loseSource_moves _ (report_moves _ _ _ h))))

theorem execCxpDiscoveryDone_moves (a0 : Nat) (a1 : Nat) (a2 : Nat) (h : Moves k r s) :
    MovesO k r (execCxpDiscoveryDone a0 a1 a2 s) := by
  unfold execCxpDiscoveryDone
  exact (by
 extract_lets t1
 have h2 : Moves k r t1 := (wr_moves rfl _ _ (wr_moves rfl _ _ (wr_moves rfl _ _ h)))
 exact (MovesO.ite (ok_moves h) (MovesO.ite (ok_moves (lockPort_moves _ _ _ h)) (ok_moves (report_moves _ _ _ h2)))))

theorem execPortCfgWrite_moves (a0 : Wr) (h : Moves k r s) : MovesO k r (execPortCfgWrite a0 s) := by
  unfold execPortCfgWrite
  exact (ok_moves (gate_moves _ _ _ (fun _ _ h1 => (by
 extract_lets t2 t3 t5
 have h4 : Moves k r t3 := (putAll_moves _ _ _ rfl h1)
 have h6 : Moves k r t5 := (Moves.ite (wr_moves rfl _ _ (wr_moves rfl _ _ (wr_moves rfl _ _ h4))) (Moves.ite h4 (wr_moves rfl _ _ h4)))
 exact (Moves.ite (portReject_moves _ h1) (showFixed_moves h6)))) h))

theorem execPortCxpTrigWrite_moves (a0 : Wr) (h : Moves k r s) : MovesO k r (execPortCxpTrigWrite a0 s) := by
  unfold execPortCxpTrigWrite
  exact (ok_moves (gate_moves _ _ _ (fun _ _ h1 => (by
 extract_lets t2 t3
 exact (Moves.ite (portReject_moves _ h1) (Moves.ite (putAll_moves _ _ _ rfl h1) h1)))) h))

theorem execPortSlvdsSyncWrite_moves (a0 : Wr) (a1 : Bool) (h : Moves k r s) :
    MovesO k r (execPortSlvdsSyncWrite a0 a1 s) := by
  unfold execPortSlvdsSyncWrite
  cases a1
  all_goals exact ok_moves (gate_moves _ _ _ (fun _ _ h1 => Moves.ite (portReject_moves _ h1)
    (Moves.ite (putAll_moves _ _ _ rfl h1) h1)) h)

theorem execStreamStart_moves (a0 : Wr) (h : Moves k r s) : MovesO k r (execStreamStart a0 s) := by
  unfold execStreamStart
  exact (ok_moves (gate_moves _ _ _ (fun _ _ h1 => (by
 extract_lets t2 t4
 have h3 : Moves k r t2 := (putAll_moves _ _ _ rfl h1)
 exact (Moves.ite h1 (Moves.ite (report_moves _ _ _ h1) (Moves.ite (startStream_moves _ h3) (report_moves _ _ _ (showCostOver_moves _ _ (hit_moves _ rfl (wr_moves rfl _ _ h3))))))))) h))

theorem execStreamStop_moves (a0 : Wr) (h : Moves k r s) : MovesO k r (execStreamStop a0 s) := by
  unfold execStreamStop
  exact (ok_moves (gate_moves _ _ _ (fun _ _ h1 => (Moves.ite h1 (Moves.ite (report_moves _ _ _ h1) (Moves.ite (report_moves _ _ _ h1) (stopStream_moves _ h1))))) h))

theorem sourceReg_apart {off : Nat} {q : RegSpec} (h : sourceReg off = some q) : q.apart = true := by
  unfold sourceReg at h
  split at h
  all_goals first
    | (obtain rfl := Option.some.inj h; rfl)
    | cases h

theorem execStreamConfigWrite_moves (a0 : Wr) (a1 : Nat) (h : Moves k r s) :
    MovesO k r (execStreamConfigWrite a0 a1 s) := by
  unfold execStreamConfigWrite
  cases e : sourceReg a1 with
  | none => exact ok_moves h
  | some q =>
    exact ok_moves (gate_moves _ _ _ (fun _ _ h1 => Moves.ite h1 (Moves.ite (report_moves _ _ _ h1)
      (Moves.ite (Moves.ite (report_moves _ _ _ h1) h1) (Moves.ite (report_moves _ _ _ h1) (sendControl_moves _ _ _ _ (putAll_moves _ _ _ (sourceReg_apart e) h1)))))) h)

theorem execMbxLoad_moves (a0 : Wr) (a1 : Image) (a2 : Nat) (h : Moves k r s) :
    MovesO k r (execMbxLoad a0 a1 a2 s) := by
  unfold execMbxLoad
  exact (by
 extract_lets t1
 have h2 : ∀ x0 x1 x2, Moves k r x0 → Moves k r (t1 x0 x1 x2) := by
  unfold t1
  exact (fun _ _ _ h3 => (by
 extract_lets t4
 exact (withHost_moves _ _ _ _ _ (fun _ h5 => (by
 extract_lets t6
 exact (Moves.ite (malformed_moves _ _ h5) (Moves.ite (refuseReq_moves _ _ _ _ _ h5) (withPackage_moves _ _ _ _ _ _ (fun _ h7 => (by
 extract_lets t8 t9 t11
 have h10 : Moves k r t9 := (install_moves _ _ h7)
 have h12 : Moves k r t11 := (Moves.foldl (fun _ _ h13 => (modStrm_moves _ _ h13)) _ h10)
 exact (respond_moves _ _ _ _ _ (progress_moves _ _ (Moves.foldl (fun _ _ h14 => (sendControl_moves _ _ _ _ h14)) _ h12))))) h5))))) h3)))
 exact (MovesO.ite (ok_moves (command_moves _ _ _ _ _ (fun _ _ _ h15 => (h2 _ _ _ h15)) h)) (ok_moves (doorbell_moves _ _ (fun _ _ _ h16 => (malformed_moves _ _ h16)) h))))

theorem execMbxSwap_moves (a0 : Wr) (a1 : Image) (a2 : Nat) (h : Moves k r s) :
    MovesO k r (execMbxSwap a0 a1 a2 s) := by
  unfold execMbxSwap
  exact (ok_moves (command_moves _ _ _ _ _ (fun _ _ _ h1 => (by
 extract_lets t2 t3
 exact (withHost_moves _ _ _ _ _ (fun _ h4 => (by
 extract_lets t5 t6
 exact (Moves.ite (malformed_moves _ _ h4) (Moves.ite (refuseReq_moves _ _ _ _ _ h4) (withPackage_moves _ _ _ _ _ _ (fun _ h7 => (by
 extract_lets t8 t9 t11
 have h10 : Moves k r t9 := (install_moves _ _ h7)
 have h12 : Moves k r t11 := (retileSwap_moves _ (Moves.foldl (fun _ _ h13 => (proposeSwap_moves _ _ _ h13)) _ (progress_moves _ _ h10)))
 exact (keepE_moves _ _ _ (noteChange_moves _ _ h12)))) h4))))) h1))) h))

theorem execMbxHandover_moves (a0 : Wr) (h : Moves k r s) : MovesO k r (execMbxHandover a0 s) := by
  unfold execMbxHandover
  exact (ok_moves (command_moves _ _ _ _ _ (fun _ _ _ h1 => (by
 extract_lets t2
 have h3 : Moves k r t2.1 := (startHandover_moves h1)
 exact (Moves.ite h3 (respond_moves _ _ _ _ _ h3)))) h))

theorem execMbxWriteFirmware_moves (a0 : Wr) (a1 : Nat) (h : Moves k r s) :
    MovesO k r (execMbxWriteFirmware a0 a1 s) := by
  unfold execMbxWriteFirmware
  exact (ok_moves (command_moves _ _ _ _ _ (fun _ _ _ h1 => (withHost_moves _ _ _ _ _ (fun _ h2 => (by
 extract_lets t3 t4
 have h5 : Moves k r t4.1 := (writeFirmware_moves _ _ h2)
 exact (respond_moves _ _ _ _ _ h5))) h1)) h))

theorem execMbxKeyCmd_moves (a0 : Wr) (a1 : KeyCmd) (a2 : Nat) (h : Moves k r s) :
    MovesO k r (execMbxKeyCmd a0 a1 a2 s) := by
  unfold execMbxKeyCmd
  exact (ok_moves (command_moves _ _ _ _ _ (fun _ _ _ h1 => (withHost_moves _ _ _ _ _ (fun _ h2 => (by
 extract_lets t3
 have h4 : Moves k r t3.1 := (applyKey_moves _ _ h2)
 exact (respond_moves _ _ _ _ _ h4))) h1)) h))

theorem execMbxHazardClear_moves (a0 : Wr) (h : Moves k r s) : MovesO k r (execMbxHazardClear a0 s) := by
  unfold execMbxHazardClear
  exact (ok_moves (command_moves _ _ _ _ _ (fun _ _ _ h1 => (respond_moves _ _ _ _ _ (clearHazards_moves _ h1))) h))

theorem execMbxDramRead_moves (a0 : Wr) (a1 : Nat) (h : Moves k r s) : MovesO k r (execMbxDramRead a0 a1 s) := by
  unfold execMbxDramRead
  exact (ok_moves (command_moves _ _ _ _ _ (fun _ _ _ h1 => (by
 extract_lets t2 t3 t4
 exact (Moves.ite (refuseReq_moves _ _ _ _ _ h1) (withAligned_moves _ _ _ _ (fun _ h5 => (withHost_moves _ _ _ _ _ (fun _ h6 => (respond_moves _ _ _ _ _ (dramToHost_moves _ _ _ h6))) h5)) h1)))) h))

theorem execMbxDramWrite_moves (a0 : Wr) (a1 : Nat) (h : Moves k r s) : MovesO k r (execMbxDramWrite a0 a1 s) := by
  unfold execMbxDramWrite
  exact (ok_moves (command_moves _ _ _ _ _ (fun _ _ _ h1 => (by
 extract_lets t2 t3 t4
 exact (Moves.ite (refuseReq_moves _ _ _ _ _ h1) (withAligned_moves _ _ _ _ (fun _ h5 => (withHost_moves _ _ _ _ _ (fun _ h6 => (respond_moves _ _ _ _ _ (hostToDram_moves _ _ _ h6))) h5)) h1)))) h))

theorem execMbxCxpControl_moves (a0 : Wr) (h : Moves k r s) : MovesO k r (execMbxCxpControl a0 s) := by
  unfold execMbxCxpControl
  exact (ok_moves (command_moves _ _ _ _ _ (fun _ _ _ h1 => (by
 extract_lets t2 t3
 exact (Moves.ite (malformed_moves _ _ h1) (Moves.ite (refuseReq_moves _ _ _ _ _ h1) (emit_moves _ h1))))) h))

theorem execMbxDamsonCmd_moves (a0 : Wr) (h : Moves k r s) : MovesO k r (execMbxDamsonCmd a0 s) := by
  unfold execMbxDamsonCmd
  exact (ok_moves (command_moves _ _ _ _ _ (fun _ _ _ h1 => (by
 extract_lets t2
 exact (Moves.ite (malformed_moves _ _ h1) (respond_moves _ _ _ _ _ (tapSend_moves _ h1))))) h))

theorem execMbxSegment_moves (a0 : Wr) (a1 : Nat) (h : Moves k r s) : MovesO k r (execMbxSegment a0 a1 s) := by
  unfold execMbxSegment
  exact (ok_moves (command_moves _ _ _ _ _ (fun _ _ _ h1 => (withHost_moves _ _ _ _ _ (fun _ h2 => (Moves.ite (malformed_moves _ _ h2) (startCopy_moves _ h2))) h1)) h))

theorem execSegmentCopyDone_moves (a0 : Nat) (h : Moves k r s) : MovesO k r (execSegmentCopyDone a0 s) := by
  unfold execSegmentCopyDone
  exact (by
 split
 · exact (ok_moves h)
 · exact (by
 split
 · exact (ok_moves (startCopy_moves _ h))
 · exact (by
 extract_lets t1 t2 t4 t6
 have h3 : Moves k r t2 := (Moves.update h)
 have h5 : Moves k r t4 := (putSeg_moves _ _ (hostToDram_moves _ _ _ h3))
 have h7 : Moves k r t6 := (Moves.foldl (fun _ _ h8 => (Moves.ite (resumeCh_moves _ h8) h8)) _ h5)
 exact (ok_moves (respond_moves _ _ _ _ _ h7)))))

theorem execMbxResponsePost_moves (a0 : Nat) (h : Moves k r s) : MovesO k r (execMbxResponsePost a0 s) := by
  unfold execMbxResponsePost
  exact (by
 extract_lets t1 t2
 exact (by
 split
 · exact (ok_moves h)
 · exact (by
 extract_lets t3
 have h4 : Moves k r t3 := (setMbx_moves _ _ h)
 exact (MovesO.ite (ok_moves h) (ok_moves (raiseIntFor_moves _ _ (wr_moves rfl _ _ h4)))))))

theorem execMbxEventPost_moves (a0 : Nat) (h : Moves k r s) : MovesO k r (execMbxEventPost a0 s) := by
  unfold execMbxEventPost
  exact (by
 extract_lets t1 t2
 exact (by
 split
 · exact (ok_moves h)
 · exact (by
 extract_lets t3 t4
 have h5 : Moves k r t4 := (setMbx_moves _ _ h)
 exact (MovesO.ite (ok_moves h) (ok_moves (raiseIntFor_moves _ _ (wr_moves rfl _ _ h5)))))))

theorem execMbxRspTailWrite_moves (a0 : Wr) (h : Moves k r s) : MovesO k r (execMbxRspTailWrite a0 s) := by
  unfold execMbxRspTailWrite
  exact (ok_moves (writeTail_moves _ rfl rfl rfl h))

theorem execMbxEvtTailWrite_moves (a0 : Wr) (h : Moves k r s) : MovesO k r (execMbxEvtTailWrite a0 s) := by
  unfold execMbxEvtTailWrite
  exact (ok_moves (writeTail_moves _ rfl rfl rfl h))

theorem execDoubt_moves (a0 : Nat) (h : Moves k r s) : MovesO k r (execDoubt a0 s) := by
  unfold execDoubt
  exact (ok_moves (doubt_moves _ h))

theorem execSscDoubtWrite_moves (a0 : Wr) (h : Moves k r s) : MovesO k r (execSscDoubtWrite a0 s) := by
  unfold execSscDoubtWrite
  exact (ok_moves (gate_moves _ _ _ (fun _ _ h1 => (by
 extract_lets t2
 exact (Moves.ite (report_moves _ _ _ h1) (doubt_moves _ h1)))) h))

theorem execConfigCrcRecheck_moves (a0 : List RegFlip) (h : Moves k r s) : MovesO k r (execConfigCrcRecheck a0 s) := by
  unfold execConfigCrcRecheck
  exact (by
 extract_lets t1 t4 t5
 have h2 : Moves k r t1 := (Moves.foldl (fun _ _ h3 => (flipReg_moves _ h3)) _ h)
 have h6 : Moves k r t5 := (Moves.update h2)
 exact (MovesO.ite (ok_moves h2) (ok_moves (reportIf_moves _ _ _ _ h6))))

theorem execSscWdogKick_moves (a0 : Wr) (h : Moves k r s) : MovesO k r (execSscWdogKick a0 s) := by
  unfold execSscWdogKick
  exact (ok_moves (gate_moves _ _ _ (fun _ _ h1 => (by
 extract_lets t2 t3
 exact (Moves.ite (Moves.update h1) h1))) h))

theorem execSscWatchdogExpiry_moves (h : Moves k r s) : MovesO k r (execSscWatchdogExpiry s) := by
  unfold execSscWatchdogExpiry
  exact (ok_moves (reportIf_moves _ _ _ _ h))

theorem execCommitWatchdogExpiry_moves (a0 : Nat) (a1 : Nat) (h : Moves k r s) :
    MovesO k r (execCommitWatchdogExpiry a0 a1 s) := by
  unfold execCommitWatchdogExpiry
  exact (by
 split
 · exact (ok_moves h)
 · exact (MovesO.ite (ok_moves h) (ok_moves (report_moves _ _ _ (unwatch_moves _ _ h)))))

theorem execSafeInAssert_moves (a0 : Bool) (h : Moves k r s) : MovesO k r (execSafeInAssert a0 s) := by
  unfold execSafeInAssert
  exact (ok_moves (reportIf_moves _ _ _ _ (wr_moves rfl _ _ h)))

theorem execSscCopyDisagree_moves (h : Moves k r s) : MovesO k r (execSscCopyDisagree s) := by
  unfold execSscCopyDisagree
  exact (ok_moves (report_moves _ _ _ (driveSafe_moves h)))

theorem execSscSafeLevelWrite_moves (a0 : Wr) (h : Moves k r s) : MovesO k r (execSscSafeLevelWrite a0 s) := by
  unfold execSscSafeLevelWrite
  exact (ok_moves (gate_moves _ _ _ (fun _ _ h1 => (Moves.ite h1 (putAll_moves _ _ _ rfl h1))) h))

theorem execSscLockWrite_moves (a0 : Wr) (h : Moves k r s) : MovesO k r (execSscLockWrite a0 s) := by
  unfold execSscLockWrite
  exact (ok_moves (gate_moves _ _ _ (fun _ _ h1 => (by
 extract_lets t2 t4
 have h3 : Moves k r t2 := (wr_moves rfl _ _ (wr_moves rfl _ _ h1))
 exact (Moves.ite h1 (Moves.ite (Moves.update h3) h3)))) h))

theorem execSscRelease_moves (a0 : Wr) (a1 : Bool) (h : Moves False r s) : MovesO False r (execSscRelease a0 a1 s) := by
  unfold execSscRelease
  exact (ok_moves (gate_moves _ _ _ (fun _ _ h1 => (Moves.ite h1 (askRelease_moves _ h1))) h))

theorem execHandoverAbandon_moves (h : Moves k r s) : MovesO k r (execHandoverAbandon s) := by
  unfold execHandoverAbandon
  exact (MovesO.ite (ok_moves (abandon_moves h)) (ok_moves h))

theorem execControlPairSelfTestDone_moves (a0 : Bool) (a1 : Bool) (h : Moves k r s) :
    MovesO k r (execControlPairSelfTestDone a0 a1 s) := by
  unfold execControlPairSelfTestDone
  exact (by
 extract_lets t1 t2
 have h3 : Moves k r t2 := (setStandby_moves _ (Moves.update h))
 exact (MovesO.ite (ok_moves (Moves.ite (readyHandover_moves h) (abandon_moves h))) (MovesO.ite (ok_moves h) (ok_moves (Moves.ite (finishHandover_moves _ h3) h3)))))

theorem execLockstepMismatch_moves (a0 : ControlCheck) (h : Moves k r s) : MovesO k r (execLockstepMismatch a0 s) := by
  unfold execLockstepMismatch
  exact (by
 split
 · exact (by
 extract_lets t1
 exact (MovesO.ite (ok_moves (report_moves _ _ _ h)) (ok_moves (report_moves _ _ _ (resendJournal_moves (setStandby_moves _ (Moves.update h)))))))
 · exact (ok_moves (report_moves _ _ _ h))
 · exact (ok_moves (report_moves _ _ _ h)))

theorem execStrmFltCtrlWrite_moves (a0 : Wr) (h : Moves k r s) : MovesO k r (execStrmFltCtrlWrite a0 s) := by
  unfold execStrmFltCtrlWrite
  exact (ok_moves (gate_moves _ _ _ (fun _ _ h1 => (by
 extract_lets t2 t3
 have h4 : Moves k r t3 := (putAll_moves _ _ _ rfl h1)
 exact (Moves.ite h1 (Moves.ite (report_moves _ _ _ h1) (Moves.ite (report_moves _ _ _ h1) (sendControl_moves _ _ _ _ (modStrm_moves _ _ h4))))))) h))

theorem execCoreForgiveness_moves (a0 : Nat) (h : Moves k r s) : MovesO k r (execCoreForgiveness a0 s) := by
  unfold execCoreForgiveness
  exact (by
 extract_lets t1 t2
 have h3 : Moves k r t2 := (wr_moves rfl _ _ (quietRestart_moves _ h))
 exact (MovesO.ite (ok_moves h) (ok_moves (wr_moves rfl _ _ h3))))

theorem execShadowDispatch_moves (a0 : Nat) (a1 : Nat) (a2 : Nat) (h : Moves k r s) :
    MovesO k r (execShadowDispatch a0 a1 a2 s) := by
  unfold execShadowDispatch
  exact (by
 split
 · exact (ok_moves h)
 · exact (MovesO.ite (ok_moves h) (MovesO.ite (ok_moves (sendShadow_moves _ _ _ _ _ h)) (MovesO.ite (ok_moves (sendShadow_moves _ _ _ _ _ h)) (ok_moves h)))))

theorem execShadowCompareDone_moves (a0 : Nat) (a1 : Nat) (a2 : Nat) (h : Moves k r s) :
    MovesO k r (execShadowCompareDone a0 a1 a2 s) := by
  unfold execShadowCompareDone
  exact (by
 split
 · exact (by
 extract_lets t1 t2 t3
 have h4 : Moves k r t3 := (bump_moves _ rfl h)
 exact (MovesO.ite (MovesO.ite (ok_moves (shadowVote_moves _ _ _ _ _ h)) (ok_moves h)) (MovesO.ite (ok_moves h) (MovesO.ite (ok_moves (dropShadow_moves _ _ _ h4)) (ok_moves (sendShadow_moves _ _ _ _ _ (modShadow_moves _ _ _ _ h4)))))))
 · exact (ok_moves h))

theorem execTestSliceStart_moves (a0 : Nat) (a1 : Bool) (a2 : Nat) (a3 : Nat) (a4 : List Nat) (h : Moves k r s) :
    MovesO k r (execTestSliceStart a0 a1 a2 a3 a4 s) := by
  unfold execTestSliceStart
  exact (by
 extract_lets t1 t2 t3
 exact (MovesO.ite (ok_moves h) (by
 split
 · exact (ok_moves h)
 · exact (by
 extract_lets t4 t5 t6
 exact (MovesO.ite (ok_moves h) (ok_moves (offerDesc_moves _ _ (wr_moves rfl _ _ (Moves.update h)))))))))

theorem execTestRoundOverdue_moves (h : Moves k r s) : MovesO k r (execTestRoundOverdue s) := by
  unfold execTestRoundOverdue
  exact (by
 extract_lets t1
 exact (MovesO.ite (ok_moves h) (ok_moves (hit_moves _ rfl (report_moves _ _ _ (Moves.update h))))))

theorem execBrambleFlitHop_moves (a0 : Nat) (a1 : Bool) (a2 : Flit) (a3 : Bool) (a4 : Option Writer)
    (h : Moves k r s) :
    MovesO k r (execBrambleFlitHop a0 a1 a2 a3 a4 s) := by
  unfold execBrambleFlitHop
  exact (MovesO.ite (MovesO.ite (ok_moves (sendFlit_moves _ _ h)) (ok_moves h)) (by
 split
 · exact (ok_moves h)
 · exact (ok_moves (moveFlit_moves _ _ _ h))))

theorem execCvuWindowClose_moves (a0 : Nat) (h : Moves k r s) : MovesO k r (execCvuWindowClose a0 s) := by
  unfold execCvuWindowClose
  exact (MovesO.ite (ok_moves (closeWindow_moves _ h)) (ok_moves h))

theorem execCvuCtrlWrite_moves (a0 : Wr) (a1 : Nat) (h : Moves k r s) : MovesO k r (execCvuCtrlWrite a0 a1 s) := by
  unfold execCvuCtrlWrite
  exact (ok_moves (gate_moves _ _ _ (fun _ _ h1 => (by
 extract_lets t2
 have h3 : Moves k r t2 := (putAll_moves _ _ _ rfl h1)
 exact (Moves.ite (report_moves _ _ _ h1) (Moves.ite (report_moves _ _ _ (putAll_moves _ _ _ rfl h1)) (Moves.ite (wr_moves rfl _ _ (setCvu_moves _ _ h3)) h3))))) h))

theorem execCvuCfgWrite_moves (a0 : Wr) (a1 : Nat) (h : Moves k r s) : MovesO k r (execCvuCfgWrite a0 a1 s) := by
  unfold execCvuCfgWrite
  exact (ok_moves (Moves.ite h (cvuWrite_moves _ _ _ (fun _ h1 => (putAll_moves _ _ _ rfl h1)) h)))

theorem execCvuWindowWrite_moves (a0 : Wr) (a1 : Nat) (h : Moves k r s) : MovesO k r (execCvuWindowWrite a0 a1 s) := by
  unfold execCvuWindowWrite
  exact (ok_moves (cvuWrite_moves _ _ _ (fun _ h1 => (putAll_moves _ _ _ rfl h1)) h))

theorem execCvuClose_moves (a0 : Wr) (a1 : Nat) (h : Moves k r s) : MovesO k r (execCvuClose a0 a1 s) := by
  unfold execCvuClose
  exact (ok_moves (Moves.ite h (gate_moves _ _ _ (fun _ _ h1 => (Moves.ite (Moves.ite (closeWindow_moves _ h1) h1) (putAll_moves _ _ _ rfl h1))) h)))

theorem execSegmentDigestCompute_moves (a0 : Nat) (a1 : Nat) (a2 : Nat) (h : Moves k r s) :
    MovesO k r (execSegmentDigestCompute a0 a1 a2 s) := by
  unfold execSegmentDigestCompute
  exact (by
 split
 · exact (ok_moves h)
 · exact (by
 extract_lets t1 t2 t3 t4 t5
 have h6 : Moves k r t5 := (modStripe_moves _ _ _ h)
 exact (MovesO.ite (ok_moves h) (by
 split
 · exact (ok_moves (settleStripe_moves _ _ (resolveVote_moves _ _ _ _ _ _ h)))
 · exact (MovesO.ite (ok_moves (settleStripe_moves _ _ h)) (ok_moves (settleStripe_moves _ _ (sendDigest_moves _ _ _ _ _ h6))))))))

theorem execLineTokenTimeout_moves (a0 : Nat) (a1 : Nat) (h : Moves k r s) :
    MovesO k r (execLineTokenTimeout a0 a1 s) := by
  unfold execLineTokenTimeout
  exact (by
 extract_lets t1
 exact (by
 split
 · exact (ok_moves h)
 · exact (by
 extract_lets t2
 have h3 : Moves k r t2 := (modStrm_moves _ _ h)
 exact (MovesO.ite (ok_moves h) (ok_moves (freeLines_moves _ _ (report_moves _ _ _ h3)))))))

theorem execZlLineCellReceived_moves (a0 : Rx) (a1 : Nat) (a2 : List Byte) (h : Moves k r s) :
    MovesO k r (execZlLineCellReceived a0 a1 a2 s) := by
  unfold execZlLineCellReceived
  exact (ok_moves (arriveCell_moves _ _ h))

theorem execTokenCommitReceived_moves (a0 : Rx) (a1 : Nat) (a2 : Nat) (a3 : Nat) (a4 : Bool) (h : Moves k r s) :
    MovesO k r (execTokenCommitReceived a0 a1 a2 a3 a4 s) := by
  unfold execTokenCommitReceived
  exact (ok_moves (arriveCell_moves _ _ h))

theorem execTokenRetractLineReceived_moves (a0 : Rx) (a1 : Nat) (a2 : Nat) (a3 : Nat) (a4 : Bool) (h : Moves k r s) :
    MovesO k r (execTokenRetractLineReceived a0 a1 a2 a3 a4 s) := by
  unfold execTokenRetractLineReceived
  exact (ok_moves (arriveCell_moves _ _ h))

theorem execTokenReadyReceived_moves (a0 : Rx) (a1 : Nat) (a2 : Nat) (a3 : Nat) (a4 : Bool) (h : Moves k r s) :
    MovesO k r (execTokenReadyReceived a0 a1 a2 a3 a4 s) := by
  unfold execTokenReadyReceived
  exact (ok_moves (arriveCell_moves _ _ h))

theorem execTokenRetractSegmentReceived_moves (a0 : Rx) (a1 : Nat) (a2 : Nat) (a3 : Nat) (a4 : Nat) (a5 : Bool)
    (h : Moves k r s) :
    MovesO k r (execTokenRetractSegmentReceived a0 a1 a2 a3 a4 a5 s) := by
  unfold execTokenRetractSegmentReceived
  exact (ok_moves (arriveCell_moves _ _ h))

theorem execTokenLeaveReceived_moves (a0 : Rx) (a1 : Nat) (a2 : Bool) (h : Moves k r s) :
    MovesO k r (execTokenLeaveReceived a0 a1 a2 s) := by
  unfold execTokenLeaveReceived
  exact (ok_moves (arriveCell_moves _ _ h))

theorem execTokenYieldReceived_moves (a0 : Rx) (a1 : Nat) (a2 : Nat) (a3 : Nat) (a4 : Bool) (h : Moves k r s) :
    MovesO k r (execTokenYieldReceived a0 a1 a2 a3 a4 s) := by
  unfold execTokenYieldReceived
  exact (ok_moves (arriveCell_moves _ _ h))

theorem execTokenDropReceived_moves (a0 : Rx) (a1 : Nat) (a2 : Nat) (a3 : Nat) (a4 : Bool) (h : Moves k r s) :
    MovesO k r (execTokenDropReceived a0 a1 a2 a3 a4 s) := by
  unfold execTokenDropReceived
  exact (ok_moves (arriveCell_moves _ _ h))

theorem execDigestCellReceived_moves (a0 : Rx) (a1 : Nat) (a2 : Nat) (a3 : Nat) (a4 : Nat) (a5 : Nat)
    (a6 : List Nat) (a7 : Bool) (h : Moves k r s) :
    MovesO k r (execDigestCellReceived a0 a1 a2 a3 a4 a5 a6 a7 s) := by
  unfold execDigestCellReceived
  exact (ok_moves (arriveCell_moves _ _ h))

theorem execMarkCellReceived_moves (a0 : Rx) (a1 : Bool) (a2 : Nat) (a3 : Nat) (h : Moves k r s) :
    MovesO k r (execMarkCellReceived a0 a1 a2 a3 s) := by
  unfold execMarkCellReceived
  exact (ok_moves (arriveCell_moves _ _ h))

theorem execControlCellReceived_moves (a0 : Rx) (a1 : Nat) (a2 : Nat) (a3 : Change) (h : Moves k r s) :
    MovesO k r (execControlCellReceived a0 a1 a2 a3 s) := by
  unfold execControlCellReceived
  exact (ok_moves (arriveCell_moves _ _ h))

theorem execMessageCellReceived_moves (a0 : Rx) (a1 : CellHead) (a2 : List Byte) (h : Moves k r s) :
    MovesO k r (execMessageCellReceived a0 a1 a2 s) := by
  unfold execMessageCellReceived
  exact (ok_moves (ringCell_moves _ _ (fun _ h1 => (takeMessageCell_moves _ _ h1)) h))

theorem execRstreamCellReceived_moves (a0 : Rx) (a1 : CellHead) (a2 : List Byte) (h : Moves k r s) :
    MovesO k r (execRstreamCellReceived a0 a1 a2 s) := by
  unfold execRstreamCellReceived
  exact (ok_moves (ringCell_moves _ _ (fun _ h1 => (takeLineCell_moves _ _ _ _ h1)) h))

theorem execRingCellForward_moves (a0 : Rx) (a1 : CellHead) (a2 : List Byte) (h : Moves k r s) :
    MovesO k r (execRingCellForward a0 a1 a2 s) := by
  unfold execRingCellForward
  exact (by
 extract_lets t1 t2 t3 t5
 have h4 : Moves k r t3.1 := (takeCell_moves _ h)
 exact (MovesO.ite (ok_moves h) (by
 split
 · exact (ok_moves h4)
 · exact (ok_moves (Moves.ite (undeliverable_moves _ h4) (passOn_moves _ _ _ h4)))
 · exact (MovesO.ite (ok_moves h4) (ok_moves (stompOn_moves _ _ _ h4))))))

theorem execSwapConfirmTimeout_moves (a0 : Nat) (h : Moves k r s) : MovesO k r (execSwapConfirmTimeout a0 s) := by
  unfold execSwapConfirmTimeout
  exact (by
 extract_lets t1
 exact (by
 split
 · exact (by
 extract_lets t2 t4
 have h3 : Moves k r t2 := (report_moves _ _ _ h)
 exact (MovesO.ite (ok_moves h) (ok_moves (sendControl_moves _ _ _ _ (noteChange_moves _ _ (modStrm_moves _ _ h3))))))
 · exact (ok_moves h)))

theorem execZpSwap_moves (a0 : Wr) (h : Moves k r s) : MovesO k r (execZpSwap a0 s) := by
  unfold execZpSwap
  exact (ok_moves (gate_moves _ _ _ (fun _ _ h1 => (by
 extract_lets t2
 exact (Moves.ite h1 (Moves.ite (yieldPair_moves _ _ _ _ h1) (Moves.update h1))))) h))

theorem execCalRun_moves (a0 : Wr) (h : Moves k r s) : MovesO k r (execCalRun a0 s) := by
  unfold execCalRun
  exact (ok_moves (gate_moves _ _ _ (fun _ _ h1 => (by
 extract_lets t2 t4 t5
 have h3 : Moves k r t2 := (putPlain_moves _ _ _ rfl h1)
 exact (Moves.ite h1 (Moves.ite (report_moves _ _ _ h1) (Moves.ite (calReject_moves _ h3) (setCal_moves _ _ h3)))))) h))

theorem execCalCommit_moves (a0 : Wr) (h : Moves k r s) : MovesO k r (execCalCommit a0 s) := by
  unfold execCalCommit
  exact (ok_moves (gate_moves _ _ _ (fun _ _ h1 => (by
 extract_lets t2 t4
 have h3 : Moves k r t2 := (putPlain_moves _ _ _ rfl h1)
 exact (Moves.ite h1 (Moves.ite (report_moves _ _ _ h1) (Moves.ite (calReject_moves _ h3) (commitSet_moves _ h3)))))) h))

theorem execCalDiscard_moves (a0 : Wr) (h : Moves k r s) : MovesO k r (execCalDiscard a0 s) := by
  unfold execCalDiscard
  exact (ok_moves (gate_moves _ _ _ (fun _ _ h1 => (by
 extract_lets t2 t4
 have h3 : Moves k r t2 := (putPlain_moves _ _ _ rfl h1)
 exact (Moves.ite h1 (Moves.ite (calReject_moves _ h3) (setCal_moves _ _ h3))))) h))

theorem execCalCaptureStart_moves (a0 : Nat) (h : Moves k r s) : MovesO k r (execCalCaptureStart a0 s) := by
  unfold execCalCaptureStart
  exact (by
 extract_lets t1
 exact (by
 split
 · exact (ok_moves h)
 · exact (MovesO.ite (ok_moves (clearSums_moves _ (setCal_moves _ _ h))) (ok_moves h))))

theorem execCalCaptureEnd_moves (a0 : Nat) (h : Moves k r s) : MovesO k r (execCalCaptureEnd a0 s) := by
  unfold execCalCaptureEnd
  exact (by
 extract_lets t1
 exact (by
 split
 · exact (ok_moves h)
 · exact (MovesO.ite (ok_moves (setCal_moves _ _ h)) (ok_moves h))))

theorem execCalComputeDone_moves (a0 : Nat) (h : Moves k r s) : MovesO k r (execCalComputeDone a0 s) := by
  unfold execCalComputeDone
  exact (by
 extract_lets t1
 exact (by
 split
 · exact (ok_moves h)
 · exact (MovesO.ite (ok_moves h) (by
 split
 · exact (ok_moves (failRun_moves _ h))
 · exact (by
 extract_lets t2
 have h3 : Moves k r t2 := (setCal_moves _ _ h)
 exact (ok_moves (Moves.ite (commitSet_moves _ h3) h3)))))))

theorem execCalEffectStart_moves (a0 : Nat) (h : Moves k r s) : MovesO k r (execCalEffectStart a0 s) := by
  unfold execCalEffectStart
  exact (by
 extract_lets t1 t2 t3 t4
 exact (by
 split
 · exact (by
 extract_lets t5 t6 t8
 have h7 : Moves k r t6 := (setCal_moves _ _ h)
 have h9 : Moves k r t8 := (wr_moves rfl _ _ (wr_moves rfl _ _ h7))
 exact (MovesO.ite (ok_moves h) (ok_moves (changeRecord_moves _ _ _ (report_moves _ _ _ h9)))))
 · exact (ok_moves h)))

theorem execCalPbBlendStart_moves (a0 : Nat) (h : Moves k r s) : MovesO k r (execCalPbBlendStart a0 s) := by
  unfold execCalPbBlendStart
  exact (by
 extract_lets t1 t2
 exact (by
 split
 · exact (by
 split
 · exact (ok_moves h)
 · exact (by
 extract_lets t3 t4
 have h5 : Moves k r t4 := (setCal_moves _ _ h)
 exact (MovesO.ite (ok_moves h) (ok_moves (wr_moves rfl _ _ h5)))))
 · exact (ok_moves h)))

theorem execCalBlendEnd_moves (a0 : Nat) (h : Moves k r s) : MovesO k r (execCalBlendEnd a0 s) := by
  unfold execCalBlendEnd
  exact (by
 extract_lets t1 t2 t3
 have h4 : Moves k r t3 := (setCal_moves _ _ h)
 exact (MovesO.ite (ok_moves h) (ok_moves (persist_moves _ (report_moves _ _ _ h4)))))

theorem execCalApertureWrite_moves (a0 : Wr) (a1 : Nat) (h : Moves k r s) :
    MovesO k r (execCalApertureWrite a0 a1 s) := by
  unfold execCalApertureWrite
  exact (by
 extract_lets t1 t2 t3 t4 t5 t6 t7 t8 t9
 exact (MovesO.ite (ok_moves (winErr_moves _ _ _ h)) (MovesO.ite (ok_moves h) (MovesO.ite (ok_moves (calReject_moves _ h)) (ok_moves (setCal_moves _ _ h))))))

theorem limReg_apart {off : Nat} {q : RegSpec} (h : limReg off = some q) : q.apart = true := by
  unfold limReg at h
  split at h
  all_goals first
    | (obtain rfl := Option.some.inj h; rfl)
    | cases h

theorem execCalLimWrite_moves (a0 : Wr) (a1 : Nat) (h : Moves k r s) : MovesO k r (execCalLimWrite a0 a1 s) := by
  unfold execCalLimWrite
  cases e : limReg a1 with
  | none => exact ok_moves h
  | some q =>
    exact ok_moves (gate_moves _ _ _ (fun _ _ h1 => Moves.ite (putAll_moves _ _ _ (limReg_apart e) h1)
      (calReject_moves _ h1)) h)

theorem execCalPersistWrite_moves (a0 : Wr) (h : Moves k r s) : MovesO k r (execCalPersistWrite a0 s) := by
  unfold execCalPersistWrite
  exact (ok_moves (gate_moves _ _ _ (fun _ _ h1 => (by
 extract_lets t2 t3 t4 t6
 have h5 : Moves k r t4 := (putAll_moves _ _ _ rfl h1)
 exact (Moves.ite (calReject_moves _ h1) (Moves.update h5)))) h))

theorem execCalCanaryCtrlWrite_moves (a0 : Wr) (h : Moves k r s) : MovesO k r (execCalCanaryCtrlWrite a0 s) := by
  unfold execCalCanaryCtrlWrite
  exact (ok_moves (gate_moves _ _ _ (fun _ _ h1 => (by
 extract_lets t2
 exact (Moves.ite (putAll_moves _ _ _ rfl h1) (calReject_moves _ h1)))) h))

theorem execTempSensorRead_moves (a0 : List Int) (h : Moves k r s) : MovesO k r (execTempSensorRead a0 s) := by
  unfold execTempSensorRead
  exact (by
 extract_lets t1 t2
 have h3 : Moves k r t2 := (Moves.foldl (fun _ _ h4 => (wr_moves rfl _ _ h4)) _ (Moves.update h))
 exact (MovesO.ite (ok_moves h) (ok_moves (notePeak_moves (Moves.foldl (fun _ _ h5 => (trackSensor_moves _ h5)) _ h3)))))

theorem execSensorExclude_moves (a0 : Nat) (h : Moves k r s) : MovesO k r (execSensorExclude a0 s) := by
  unfold execSensorExclude
  exact (by
 extract_lets t1
 exact (MovesO.ite (ok_moves h) (ok_moves (showUnknown_moves (report_moves _ _ _ (wr_moves rfl _ _ h))))))

theorem execSensorRejoin_moves (a0 : Nat) (h : Moves k r s) : MovesO k r (execSensorRejoin a0 s) := by
  unfold execSensorRejoin
  exact (by
 extract_lets t1
 exact (MovesO.ite (ok_moves h) (ok_moves (showUnknown_moves (wr_moves rfl _ _ h)))))

theorem execSupplyMonitorCal_moves (a0 : List (Nat × Int)) (h : Moves k r s) :
    MovesO k r (execSupplyMonitorCal a0 s) := by
  unfold execSupplyMonitorCal
  exact (by
 extract_lets t1
 exact (MovesO.ite (ok_moves h) (ok_moves (Moves.foldl (fun _ _ h2 => (by
 extract_lets t3
 exact (Moves.ite (Moves.update h2) (selfRejected_moves _ (report_moves _ _ _ h2))))) _ (Moves.update h)))))

theorem execCanaryEvaluation_moves (a0 : List (List Nat)) (h : Moves k r s) :
    MovesO k r (execCanaryEvaluation a0 s) := by
  unfold execCanaryEvaluation
  exact (by
 extract_lets t1
 exact (MovesO.ite (ok_moves h) (ok_moves (Moves.foldl (fun _ _ h2 => (canary_moves _ h2)) _ (Moves.update h)))))

theorem execDramTrackingUpdate_moves (a0 : List Int) (h : Moves k r s) : MovesO k r (execDramTrackingUpdate a0 s) := by
  unfold execDramTrackingUpdate
  exact (by
 extract_lets t1
 exact (MovesO.ite (ok_moves h) (ok_moves (Moves.foldl (fun _ _ h2 => (by
 extract_lets t3 t4
 exact (Moves.ite (Moves.update h2) (selfRejected_moves _ (report_moves _ _ _ h2))))) _ (Moves.update h)))))

theorem execSerdesEqUpdate_moves (a0 : Nat) (a1 : Nat) (a2 : Bool) (h : Moves k r s) :
    MovesO k r (execSerdesEqUpdate a0 a1 a2 s) := by
  unfold execSerdesEqUpdate
  exact (by
 extract_lets t1
 exact (MovesO.ite (ok_moves (Moves.update h)) (MovesO.ite (ok_moves h) (ok_moves (retrain_moves _ (selfRejected_moves _ (report_moves _ _ _ h)))))))

theorem execLifeCountersWrite_moves (a0 : Bool) (h : Moves k r s) : MovesO k r (execLifeCountersWrite a0 s) := by
  unfold execLifeCountersWrite
  exact (by
 extract_lets t1 t2 t3 t4 t6 t7 t8
 have h5 : Moves k r t4 := (growWear_moves (Moves.update h))
 have h9 : Moves k r t8 := (Moves.update h5)
 exact (MovesO.ite (ok_moves h) (ok_moves (showLife_moves (saveLife_moves _ h9)))))

theorem execWearHistogramTick_moves (h : Moves k r s) : MovesO k r (execWearHistogramTick s) := by
  unfold execWearHistogramTick
  exact (by
 extract_lets t1 t2
 have h3 : Moves k r t2 := (Moves.foldl (fun _ _ h4 => (wearSecond_moves _ h4)) _ (Moves.update h))
 exact (MovesO.ite (ok_moves h) (ok_moves (moveTrims_moves (by
 split
 · exact h3
 · exact (cycleStep_moves _ h3))))))

theorem execRtcSet_moves (a0 : Wr) (h : Moves k r s) : MovesO k r (execRtcSet a0 s) := by
  unfold execRtcSet
  exact (ok_moves (gate_moves _ _ _ (fun _ _ h1 => (setCalendar_moves _ h1)) h))

theorem execVbatOutOfRange_moves (a0 : Nat) (h : Moves k r s) : MovesO k r (execVbatOutOfRange a0 s) := by
  unfold execVbatOutOfRange
  exact (by
 extract_lets t1
 have h2 : Moves k r t1 := (report_moves _ _ _ (wr_moves rfl _ _ h))
 exact (MovesO.ite (ok_moves h) (MovesO.ite (ok_moves h2) (ok_moves (noteCalendar_moves (wr_moves rfl _ _ h2))))))

theorem execChainSegmentGrant_moves (a0 : Nat) (h : Moves k r s) : MovesO k r (execChainSegmentGrant a0 s) := by
  unfold execChainSegmentGrant
  exact (by
 split
 · exact (MovesO.ite (ok_moves (wake_moves _ _ h)) (ok_moves h))
 · exact (ok_moves h))

theorem execChainWordDelivered_moves (a0 : Nat) (a1 : Nat) (h : Moves k r s) :
    MovesO k r (execChainWordDelivered a0 a1 s) := by
  unfold execChainWordDelivered
  exact (by
 split
 · exact (ok_moves h)
 · exact (by
 extract_lets t1 t2 t3
 exact (MovesO.ite (ok_moves h) (by
 split
 · exact (ok_moves h)
 · exact (by
 extract_lets t4 t5 t7
 have h6 : Moves k r t5 := (devWrite_moves _ _ _ (noteParity_moves _ _ h))
 have h8 : Moves k r t7 := (Moves.update h6)
 exact (by
 split
 · exact (MovesO.ite (ok_moves (addCnt_moves _ _ _ h8)) (ok_moves h8))
 · exact (ok_moves h8)))))))

theorem execChainStallLimitExpiry_moves (a0 : Nat) (h : Moves k r s) : MovesO k r (execChainStallLimitExpiry a0 s) := by
  unfold execChainStallLimitExpiry
  exact (by
 extract_lets t1 t2 t3 t5
 have h4 : Moves k r t3 := (wr_moves rfl _ _ h)
 exact (MovesO.ite (ok_moves h) (ok_moves (retile_moves (charge_moves _ _ _ _ (report_moves _ _ _ (Moves.update h4)))))))

theorem execThermistorRead_moves (a0 : Ntc) (a1 : Ntc) (a2 : Nat) (h : Moves k r s) :
    MovesO k r (execThermistorRead a0 a1 a2 s) := by
  unfold execThermistorRead
  exact (by
 extract_lets t1
 exact (MovesO.ite (ok_moves h) (ok_moves (readCoolant_moves _ _ _ (Moves.update h)))))

theorem execCoolantAlarm_moves (h : Moves k r s) : MovesO k r (execCoolantAlarm s) := by
  unfold execCoolantAlarm
  exact (by
 extract_lets t1
 have h2 : Moves k r t1 := (Moves.ite (coolantAlarm_moves _ (thermMap_moves _ h)) h)
 exact (ok_moves (Moves.ite (coolantAlarm_moves _ (thermMap_moves _ h2)) h2)))

theorem execJunctionCheck_moves (h : Moves k r s) : MovesO k r (execJunctionCheck s) := by
  unfold execJunctionCheck
  exact (by
 extract_lets t1
 exact (MovesO.ite (ok_moves h) (ok_moves (checkJunction_moves (Moves.update h)))))

theorem execThermalLimitExpiry_moves (h : Moves k r s) : MovesO k r (execThermalLimitExpiry s) := by
  unfold execThermalLimitExpiry
  exact (MovesO.ite (ok_moves (showTherm_moves (environment_moves _ _ _ _ (thermMap_moves _ h)))) (ok_moves h))

theorem execShedRelease_moves (h : Moves k r s) : MovesO k r (execShedRelease s) := by
  unfold execShedRelease
  exact (MovesO.ite (ok_moves (showTherm_moves (thermMap_moves _ h))) (ok_moves h))

theorem execThermalTrip_moves (h : Moves k r s) : MovesO k r (execThermalTrip s) := by
  unfold execThermalTrip
  exact (by
 extract_lets t1 t3 t4
 have h2 : Moves k r t1 := (environment_moves _ _ _ _ (thermMap_moves _ h))
 have h5 : Moves k r t4 := (pmbus_moves _ _ _ (Moves.update h2))
 exact (ok_moves (showTherm_moves h5)))

theorem execThermCtrlWrite_moves (a0 : Wr) (h : Moves k r s) : MovesO k r (execThermCtrlWrite a0 s) := by
  unfold execThermCtrlWrite
  exact (ok_moves (gate_moves _ _ _ (fun _ _ h1 => (Moves.ite (hit_moves _ rfl h1) (putAll_moves _ _ _ rfl h1))) h))

theorem execSupplyRailOutOfRange_moves (a0 : Nat) (a1 : Bool) (h : Moves k r s) :
    MovesO k r (execSupplyRailOutOfRange a0 a1 s) := by
  unfold execSupplyRailOutOfRange
  exact (by
 extract_lets t1 t2 t4 t5
 have h3 : Moves k r t2 := (Moves.update h)
 have h6 : Moves k r t5 := (Moves.ite (Moves.update h3) h3)
 exact (MovesO.ite (ok_moves h) (ok_moves (showRails_moves _ h6))))

theorem execVddMetLoss_moves (h : Moves k r s) : MovesO k r (execVddMetLoss s) := by
  unfold execVddMetLoss
  exact (MovesO.ite (ok_moves (report_moves _ _ _ (dmsPowerOff_moves h))) (ok_moves (reportIf_moves _ _ _ _ (dmsMap_moves _ h))))

theorem execPwrGoodDeassert_moves (a0 : Bool) (a1 : Bool) (h : Moves k r s) :
    MovesO k r (execPwrGoodDeassert a0 a1 s) := by
  unfold execPwrGoodDeassert
  exact (by
 extract_lets t1 t3
 have h2 : Moves k r t1 := (wr_moves rfl _ _ (wr_moves rfl _ _ h))
 have h4 : Moves k r t3 := (environment_moves _ _ _ _ (Moves.update h2))
 exact (ok_moves (Moves.ite (saveLife_moves _ h4) h4)))

theorem execPwrGoodAssert_moves (a0 : BootIn) (h : Moves k r s) : MovesO k r (execPwrGoodAssert a0 s) := by
  unfold execPwrGoodAssert
  exact (MovesO.ite (ok_moves h) (ok_moves (powerUp_moves _ h)))

theorem execBootStepOverrun_moves (a0 : Nat) (h : Moves k r s) : MovesO k r (execBootStepOverrun a0 s) := by
  unfold execBootStepOverrun
  exact (ok_moves (report_moves _ _ _ h))

theorem execMgmtAckReceived_moves (a0 : InDgram) (h : Moves k r s) : MovesO k r (execMgmtAckReceived a0 s) := by
  unfold execMgmtAckReceived
  exact (ok_moves (inbound_moves _ (fun _ h1 => h1) h))

theorem execMgmtResendTimer_moves (h : Moves k r s) : MovesO k r (execMgmtResendTimer s) := by
  unfold execMgmtResendTimer
  exact (by
 extract_lets t1 t2
 have h3 : Moves k r t2 := (mgmtMap_moves _ h)
 exact (MovesO.ite (ok_moves h) (ok_moves (Moves.foldl (fun _ _ h4 => (resend_moves _ h4)) _ h3))))

theorem execMgmtPeerSilent_moves (h : Moves k r s) : MovesO k r (execMgmtPeerSilent s) := by
  unfold execMgmtPeerSilent
  exact (MovesO.ite (ok_moves h) (ok_moves (report_moves _ _ _ (wr_moves rfl _ _ (mgmtMap_moves _ h)))))

theorem execMgmtHeartbeat_moves (h : Moves k r s) : MovesO k r (execMgmtHeartbeat s) := by
  unfold execMgmtHeartbeat
  exact (by
 extract_lets t1 t2
 exact (MovesO.ite (ok_moves h) (ok_moves (sendDatagram_moves _ _ (Moves.update h)))))

theorem execReportSend_moves (h : Moves k r s) : MovesO k r (execReportSend s) := by
  unfold execReportSend
  exact (by
 extract_lets t1 t3 t4 t5 t6 t7 t9
 have h2 : Moves k r t1 := (rateSecond_moves h)
 have h8 : Moves k r t7 := (Moves.update h2)
 have h10 : Moves k r t9 := (sendDatagram_moves _ _ (mgmtMap_moves _ h8))
 exact (MovesO.ite (ok_moves h) (MovesO.ite (ok_moves h2) (ok_moves (showQueue_moves (noteDropped_moves (bumpBy_moves _ _ rfl h10)))))))

theorem execMgmtRateWrite_moves (a0 : Wr) (h : Moves k r s) : MovesO k r (execMgmtRateWrite a0 s) := by
  unfold execMgmtRateWrite
  exact (ok_moves (gate_moves _ _ _ (fun _ _ h1 => (Moves.ite (hit_moves _ rfl h1) (putAll_moves _ _ _ rfl h1))) h))

theorem execClapperGetSnapshot_moves (a0 : InDgram) (h : Moves k r s) : MovesO k r (execClapperGetSnapshot a0 s) := by
  unfold execClapperGetSnapshot
  exact (clapper_moves _ _ (fun _ h1 => (answerTo_moves _ _ h1)) h)

theorem execClapperGetLifePage_moves (a0 : InDgram) (a1 : Nat) (h : Moves k r s) :
    MovesO k r (execClapperGetLifePage a0 a1 s) := by
  unfold execClapperGetLifePage
  exact (clapper_moves _ _ (fun _ h1 => (by
 extract_lets t2
 have h3 : Moves k r t2.2 := (lifePage_moves _ h1)
 exact (Moves.ite (reply_moves _ _ _ (report_moves _ _ _ h1)) (Moves.foldl (fun _ _ h4 => (answerTo_moves _ _ h4)) _ h3)))) h)

theorem execClapperInstallChime_moves (a0 : InDgram) (a1 : XferPart) (a2 : ChimePack) (h : Moves k r s) :
    MovesO k r (execClapperInstallChime a0 a1 a2 s) := by
  unfold execClapperInstallChime
  exact (clapper_moves _ _ (fun _ h1 => (transfer_moves _ _ _ (fun _ h2 => (installChime_moves _ _ h2)) h1)) h)

theorem execClapperWriteFirmware_moves (a0 : InDgram) (a1 : XferPart) (h : Moves k r s) :
    MovesO k r (execClapperWriteFirmware a0 a1 s) := by
  unfold execClapperWriteFirmware
  exact (clapper_moves _ _ (fun _ h1 => (transfer_moves _ _ _ (fun _ h2 => (clapperFirmware_moves _ h2)) h1)) h)

theorem execClapperHandover_moves (a0 : InDgram) (h : Moves k r s) : MovesO k r (execClapperHandover a0 s) := by
  unfold execClapperHandover
  exact (clapper_moves _ _ (fun _ h1 => (by
 extract_lets t2
 have h3 : Moves k r t2.1 := (startHandover_moves h1)
 exact (Moves.ite (mgmtMap_moves _ h3) (reply_moves _ _ _ h3)))) h)

theorem execClapperRelease_moves (a0 : InDgram) (a1 : Bool) (h : Moves False r s) :
    MovesO False r (execClapperRelease a0 a1 s) := by
  unfold execClapperRelease
  exact (clapper_moves _ _ (fun _ h1 => (by
 extract_lets t2
 have h3 : Moves False r t2.1 := (askRelease_moves _ h1)
 exact (reply_moves _ _ _ h3))) h)

theorem execClapperHazardClear_moves (a0 : InDgram) (a1 : Nat) (h : Moves k r s) :
    MovesO k r (execClapperHazardClear a0 a1 s) := by
  unfold execClapperHazardClear
  exact (clapper_moves _ _ (fun _ h1 => (reply_moves _ _ _ (clearHazards_moves _ h1))) h)

theorem execClapperSetCalendar_moves (a0 : InDgram) (a1 : Nat) (h : Moves k r s) :
    MovesO k r (execClapperSetCalendar a0 a1 s) := by
  unfold execClapperSetCalendar
  exact (clapper_moves _ _ (fun _ h1 => (reply_moves _ _ _ (setCalendar_moves _ h1))) h)

theorem execClapperKeyCmd_moves (a0 : InDgram) (a1 : KeyCmd) (a2 : Bool) (h : Moves k r s) :
    MovesO k r (execClapperKeyCmd a0 a1 a2 s) := by
  unfold execClapperKeyCmd
  exact (clapper_moves _ _ (fun _ h1 => (by
 extract_lets t2
 have h3 : Moves k r t2.1 := (applyKey_moves _ _ h1)
 exact (reply_moves _ _ _ h3))) h)

theorem execClapperGetNonce_moves (a0 : InDgram) (h : Moves k r s) : MovesO k r (execClapperGetNonce a0 s) := by
  unfold execClapperGetNonce
  exact (clapper_moves _ _ (fun _ h1 => (by
 extract_lets t2
 have h3 : Moves k r t2 := (drawNonce_moves h1)
 exact (reply_moves _ _ _ h3))) h)

theorem execClapperReopen_moves (a0 : InDgram) (a1 : Reopening) (a2 : Nat) (h : Moves k r s) :
    MovesO k r (execClapperReopen a0 a1 a2 s) := by
  unfold execClapperReopen
  exact (clapper_moves _ _ (fun _ h1 => (by
 extract_lets t2
 have h3 : Moves k r t2 := by
  unfold t2
  exact (by
 split
 · exact (submitPw_moves _ (secMap_moves _ h1))
 · exact (submitCr_moves _ (secMap_moves _ h1)))
 exact (reply_moves _ _ _ h3))) h)

theorem execTransferIdleTimeout_moves (a0 : Nat) (h : Moves k r s) : MovesO k r (execTransferIdleTimeout a0 s) := by
  unfold execTransferIdleTimeout
  exact (by
 split
 · exact (ok_moves h)
 · exact (MovesO.ite (ok_moves h) (ok_moves (setStaged_moves _ _ h))))

theorem execPcieLinkDown_moves (a0 : Bool) (h : Moves k r s) : MovesO k r (execPcieLinkDown a0 s) := by
  unfold execPcieLinkDown
  exact (by
 extract_lets t1
 have h2 : Moves k r t1 := (report_moves _ _ _ (wr_moves rfl _ _ h))
 exact (ok_moves (Moves.ite (restartCursor_moves (emptyMbx_moves h2)) h2)))

theorem execFunctionLevelReset_moves (h : Moves k r s) : MovesO k r (execFunctionLevelReset s) := by
  unfold execFunctionLevelReset
  exact (by
 extract_lets t1 t3
 have h2 : Moves k r t1 := (Moves.update h)
 have h4 : Moves k r t3 := (Moves.foldl (fun _ _ h5 => (cancelCh_moves _ h5)) _ (clearXlat_moves h2))
 exact (ok_moves (report_moves _ _ _ (emptyMbx_moves (disableRings_moves h4)))))

theorem execPcieAerUncorrectable_moves (a0 : Transfer) (h : Moves k r s) :
    MovesO k r (execPcieAerUncorrectable a0 s) := by
  unfold execPcieAerUncorrectable
  exact (by
 split
 · exact (by
 split
 · exact (ok_moves h)
 · exact (MovesO.ite (ok_moves (failPiece_moves _ _ _ _ _ h)) (ok_moves h)))
 · exact (by
 split
 · exact (ok_moves h)
 · exact (ok_moves (entryFails_moves _ _ _ h))))

theorem execCxpControlPacket_moves (a0 : Nat) (a1 : Nat) (a2 : List Byte) (h : Moves k r s) :
    MovesO k r (execCxpControlPacket a0 a1 a2 s) := by
  unfold execCxpControlPacket
  exact (by
 split
 · exact (ok_moves h)
 · exact (by
 extract_lets t1
 exact (ok_moves (withHost_moves _ _ _ _ _ (fun _ h2 => (by
 extract_lets t3
 have h4 : Moves k r t3 := (Moves.foldl (fun _ _ h5 => (Moves.update_hostMem (fun hm => (memory_wf_memWrite _ _ hm)) h5)) _ h2)
 exact (respond_moves _ _ _ _ _ h4))) h))))

theorem execCxpEventPacket_moves (a0 : Nat) (a1 : List Byte) (h : Moves k r s) :
    MovesO k r (execCxpEventPacket a0 a1 s) := by
  unfold execCxpEventPacket
  exact (MovesO.ite (ok_moves h) (ok_moves (Moves.foldl (fun _ _ h1 => (queueEvent_moves _ _ h1)) _ h)))

theorem execAbsentInstanceAccess_moves (a0 : Acc) (h : Moves k r s) : MovesO k r (execAbsentInstanceAccess a0 s) := by
  unfold execAbsentInstanceAccess
  exact (by
 split
 · exact (ok_moves (badAccess_moves _ _ h))
 · exact (ok_moves h))

theorem execUnmappedOffsetAccess_moves (a0 : Acc) (h : Moves k r s) : MovesO k r (execUnmappedOffsetAccess a0 s) := by
  unfold execUnmappedOffsetAccess
  exact (MovesO.ite (ok_moves h) (ok_moves (badAccess_moves _ _ h)))

theorem execCoreCntStepsLoRead_moves (a0 : Requester) (h : Moves k r s) : MovesO k r (execCoreCntStepsLoRead a0 s) := by
  unfold execCoreCntStepsLoRead
  exact (by
 split
 · exact (ok_moves (badAccess_moves _ _ h))
 · exact (ok_moves (answerRead_moves _ _ _ (latch_moves _ _ _ h))))

theorem execFioTickLoRead_moves (a0 : Requester) (h : Moves k r s) : MovesO k r (execFioTickLoRead a0 s) := by
  unfold execFioTickLoRead
  exact (ok_moves (answerRead_moves _ _ _ (latch_moves _ _ _ h)))

theorem execLifePoweredLoRead_moves (a0 : Requester) (h : Moves k r s) : MovesO k r (execLifePoweredLoRead a0 s) := by
  unfold execLifePoweredLoRead
  exact (ok_moves (answerRead_moves _ _ _ (latch_moves _ _ _ h)))

theorem execIdUniqueLoRead_moves (a0 : Requester) (h : Moves k r s) : MovesO k r (execIdUniqueLoRead a0 s) := by
  unfold execIdUniqueLoRead
  exact (ok_moves (answerRead_moves _ _ _ (latch_moves _ _ _ h)))

theorem execRegisterWrite_moves (a0 : Wr) (a1 : Nat) (h : Moves k r s) : MovesO k r (execRegisterWrite a0 a1 s) := by
  unfold execRegisterWrite
  refine MovesO.ite (execStreamConfigWrite_moves _ _ h) ?_
  cases e : regAt a1 with
  | none => exact MovesO.ite (ok_moves (writeWindow_moves _ _ h)) (ok_moves (winErr_moves _ _ _ h))
  | some q =>
    exact ok_moves (gate_moves _ _ _ (fun _ _ h1 => writeFields_moves _ _ _ (regAt_apart (n := q.2) e) h1) h)

theorem execCoreRoleWrite_moves (a0 : Wr) (h : Moves k r s) : MovesO k r (execCoreRoleWrite a0 s) := by
  unfold execCoreRoleWrite
  exact (ok_moves (gate_moves _ _ _ (fun _ _ h1 => (writeCoreCtrl_moves _ _ h1)) h))

theorem execGlbIntStatusWrite_moves (a0 : Wr) (h : Moves k r s) : MovesO k r (execGlbIntStatusWrite a0 s) := by
  unfold execGlbIntStatusWrite
  exact (ok_moves (gate_moves _ _ _ (fun _ _ h1 => (notifyAgain_moves _ (putAll_moves _ _ _ rfl h1))) h))

theorem execGlbIntEnableWrite_moves (a0 : Wr) (h : Moves k r s) : MovesO k r (execGlbIntEnableWrite a0 s) := by
  unfold execGlbIntEnableWrite
  exact (ok_moves (gate_moves _ _ _ (fun _ _ h1 => (notifyAgain_moves _ (putAll_moves _ _ _ rfl h1))) h))

theorem execGlbIntStrmStatusWrite_moves (a0 : Wr) (h : Moves k r s) : MovesO k r (execGlbIntStrmStatusWrite a0 s) := by
  unfold execGlbIntStrmStatusWrite
  exact (ok_moves (gate_moves _ _ _ (fun _ _ h1 => (notifyStrms_moves _ (putAll_moves _ _ _ rfl h1))) h))

theorem execGlbIntStrmEnableWrite_moves (a0 : Wr) (h : Moves k r s) : MovesO k r (execGlbIntStrmEnableWrite a0 s) := by
  unfold execGlbIntStrmEnableWrite
  exact (ok_moves (gate_moves _ _ _ (fun _ _ h1 => (notifyStrms_moves _ (putAll_moves _ _ _ rfl h1))) h))

theorem execIntHoldoffExpiry_moves (a0 : Requester) (a1 : Nat) (h : Moves k r s) :
    MovesO k r (execIntHoldoffExpiry a0 a1 s) := by
  unfold execIntHoldoffExpiry
  exact (by
 extract_lets t1 t2 t3 t4 t5
 have h6 : Moves k r t5 := (Moves.update h)
 exact (MovesO.ite (ok_moves h) (ok_moves (Moves.ite (sendStrm_moves _ _ h6) h6))))

theorem execDbgRead_moves (a0 : Wr) (h : Moves k r s) : MovesO k r (execDbgRead a0 s) := by
  unfold execDbgRead
  exact (ok_moves (writeDbg_moves _ _ h))

theorem execDbgWrite_moves (a0 : Wr) (h : Moves k r s) : MovesO k r (execDbgWrite a0 s) := by
  unfold execDbgWrite
  exact (ok_moves (writeDbg_moves _ _ h))

theorem execDbgHalt_moves (a0 : Wr) (h : Moves k r s) : MovesO k r (execDbgHalt a0 s) := by
  unfold execDbgHalt
  exact (ok_moves (writeDbg_moves _ _ h))

theorem execDbgResume_moves (a0 : Wr) (h : Moves k r s) : MovesO k r (execDbgResume a0 s) := by
  unfold execDbgResume
  exact (ok_moves (writeDbg_moves _ _ h))

theorem execVop_moves (a0 : Nat) (a1 : Chk) (h : Moves k r s) : MovesO k r (execVop a0 a1 s) := by
  unfold execVop
  exact (ok_moves (issue_moves _ _ _ (fun _ _ _ h1 => (by
 extract_lets t2 t3 t4 t5 t6 t7 t8
 exact (MovesE.ite trivial (MovesE.go (putLanes_moves _ _ _ _ _ _ h1))))) h))

theorem execVops_moves (a0 : Nat) (a1 : Chk) (h : Moves k r s) : MovesO k r (execVops a0 a1 s) := by
  unfold execVops
  exact (ok_moves (issue_moves _ _ _ (fun _ _ _ h1 => (by
 extract_lets t2 t3 t4 t5 t6 t7
 exact (MovesE.ite trivial (MovesE.go (putLanes_moves _ _ _ _ _ _ h1))))) h))

theorem execVcmp_moves (a0 : Nat) (a1 : Chk) (h : Moves k r s) : MovesO k r (execVcmp a0 a1 s) := by
  unfold execVcmp
  exact (ok_moves (issue_moves _ _ _ (fun _ _ _ h1 => (by
 extract_lets t2 t3 t4 t5 t6 t7
 exact (MovesE.ite trivial (MovesE.go (modCore_moves _ _ h1))))) h))

theorem execVsel_moves (a0 : Nat) (a1 : Chk) (h : Moves k r s) : MovesO k r (execVsel a0 a1 s) := by
  unfold execVsel
  exact (ok_moves (issue_moves _ _ _ (fun _ _ _ h1 => (by
 extract_lets t2 t3 t4 t5 t6
 exact (MovesE.ite trivial (MovesE.go (putV_moves _ _ _ _ _ _ _ h1))))) h))

theorem execVcvt_moves (a0 : Nat) (a1 : Chk) (h : Moves k r s) : MovesO k r (execVcvt a0 a1 s) := by
  unfold execVcvt
  exact (ok_moves (issue_moves _ _ _ (fun _ _ _ h1 => (by
 extract_lets t2 t3 t4 t5 t6 t7 t8 t9 t10 t11
 exact (MovesE.ite trivial (MovesE.go (putSegment_moves _ _ _ _ _ _ _ _ h1))))) h))

theorem execVreq_moves (a0 : Nat) (a1 : Chk) (h : Moves k r s) : MovesO k r (execVreq a0 a1 s) := by
  unfold execVreq
  exact (ok_moves (issue_moves _ _ _ (fun _ _ _ h1 => (by
 extract_lets t2 t3 t4 t5 t6 t7 t8 t9 t10
 exact (MovesE.ite trivial (MovesE.go (putSegment_moves _ _ _ _ _ _ _ _ h1))))) h))

theorem execVfn_moves (a0 : Nat) (a1 : Chk) (h : Moves k r s) : MovesO k r (execVfn a0 a1 s) := by
  unfold execVfn
  exact (ok_moves (issue_moves _ _ _ (fun _ _ _ h1 => (by
 extract_lets t2 t3 t4
 exact (MovesE.ite trivial (MovesE.go (putLanes_moves _ _ _ _ _ _ h1))))) h))

theorem execVred_moves (a0 : Nat) (a1 : Chk) (h : Moves k r s) : MovesO k r (execVred a0 a1 s) := by
  unfold execVred
  exact (ok_moves (issue_moves _ _ _ (fun _ _ _ h1 => (by
 extract_lets t2 t3 t4 t5 t6 t7 t8
 exact (MovesE.ite trivial (MovesE.go (putV_moves _ _ _ _ _ _ _ h1))))) h))

theorem execVarg_moves (a0 : Nat) (a1 : Chk) (h : Moves k r s) : MovesO k r (execVarg a0 a1 s) := by
  unfold execVarg
  exact (ok_moves (issue_moves _ _ _ (fun _ _ _ h1 => (by
 extract_lets t2 t3 t4 t5 t6 t7
 exact (MovesE.ite trivial (MovesE.go (putV_moves _ _ _ _ _ _ _ h1))))) h))

theorem execVpool_moves (a0 : Nat) (a1 : Chk) (h : Moves k r s) : MovesO k r (execVpool a0 a1 s) := by
  unfold execVpool
  exact (ok_moves (issue_moves _ _ _ (fun _ _ _ h1 => (by
 extract_lets t2 t3 t4 t5 t6 t7 t8 t9 t10 t11
 exact (MovesE.ite trivial (MovesE.go (putV_moves _ _ _ _ _ _ _ h1))))) h))

theorem execVacc_moves (a0 : Nat) (a1 : Chk) (h : Moves k r s) : MovesO k r (execVacc a0 a1 s) := by
  unfold execVacc
  exact (ok_moves (issue_moves _ _ _ (fun _ _ _ h1 => (by
 extract_lets t2 t3
 exact (MovesE.ite trivial (by
 split
 · exact trivial
 · exact (MovesE.ite trivial (MovesE.go (modCore_moves _ _ h1))))))) h))

theorem execVmxqQuantise_moves (a0 : Nat) (a1 : Chk) (h : Moves k r s) : MovesO k r (execVmxqQuantise a0 a1 s) := by
  unfold execVmxqQuantise
  exact (ok_moves (issue_moves _ _ _ (fun _ _ _ h1 => (by
 extract_lets t2 t3 t4 t5 t6 t7 t8
 have h9 : Moves k r t8 := (putV_moves _ _ _ _ _ _ _ h1)
 exact (MovesE.ite trivial (MovesE.go (modCore_moves _ _ h9))))) h))

theorem execVmxqExpand_moves (a0 : Nat) (a1 : Chk) (h : Moves k r s) : MovesO k r (execVmxqExpand a0 a1 s) := by
  unfold execVmxqExpand
  exact (ok_moves (issue_moves _ _ _ (fun _ _ _ h1 => (by
 extract_lets t2 t3 t4 t5 t6
 exact (MovesE.ite trivial (MovesE.go (putV_moves _ _ _ _ _ _ _ h1))))) h))

theorem execVbc_moves (a0 : Nat) (a1 : Chk) (h : Moves k r s) : MovesO k r (execVbc a0 a1 s) := by
  unfold execVbc
  exact (ok_moves (issue_moves _ _ _ (fun _ _ _ h1 => (by
 extract_lets t2 t3 t4
 exact (MovesE.ite trivial (MovesE.go (modCore_moves _ _ h1))))) h))

end Sys2Proof.Machine
end

