-- ==== Sys2Proof/Laws/State.lean ====
section
/-! SUPPORT. Laws/State.lean: what each update of a state leaves in each field, and what its reader gives after it. -/

namespace Sys2Proof.Machine

open Sys2Proof

variable (s : State)

/-! ### wr -/

@[simp] theorem wr_part (f : Fld) (i v : Nat) : (wr s f i v).part = s.part := rfl
@[simp] theorem wr_tick (f : Fld) (i v : Nat) : (wr s f i v).tick = s.tick := rfl
@[simp] theorem wr_fieldLost (f : Fld) (i v : Nat) : (wr s f i v).fieldLost = s.fieldLost := rfl
@[simp] theorem wr_sscCount (f : Fld) (i v : Nat) : (wr s f i v).sscCount = s.sscCount := rfl
@[simp] theorem wr_hiLatch (f : Fld) (i v : Nat) : (wr s f i v).hiLatch = s.hiLatch := rfl
@[simp] theorem wr_mem (f : Fld) (i v : Nat) : (wr s f i v).mem = s.mem := rfl
@[simp] theorem wr_hostMem (f : Fld) (i v : Nat) : (wr s f i v).hostMem = s.hostMem := rfl
@[simp] theorem wr_fatalQ (f : Fld) (i v : Nat) : (wr s f i v).fatalQ = s.fatalQ := rfl
@[simp] theorem wr_ordQ (f : Fld) (i v : Nat) : (wr s f i v).ordQ = s.ordQ := rfl
@[simp] theorem wr_hrep (f : Fld) (i v : Nat) : (wr s f i v).hrep = s.hrep := rfl
@[simp] theorem wr_repDropped (f : Fld) (i v : Nat) : (wr s f i v).repDropped = s.repDropped := rfl
@[simp] theorem wr_free (f : Fld) (i v : Nat) : (wr s f i v).free = s.free := rfl
@[simp] theorem wr_out (f : Fld) (i v : Nat) : (wr s f i v).out = s.out := rfl
@[simp] theorem wr_intLast (f : Fld) (i v : Nat) : (wr s f i v).intLast = s.intLast := rfl
@[simp] theorem wr_intHeld (f : Fld) (i v : Nat) : (wr s f i v).intHeld = s.intHeld := rfl
@[simp] theorem wr_pace (f : Fld) (i v : Nat) : (wr s f i v).pace = s.pace := rfl
@[simp] theorem wr_mesh (f : Fld) (i v : Nat) : (wr s f i v).mesh = s.mesh := rfl
@[simp] theorem wr_flitSeq (f : Fld) (i v : Nat) : (wr s f i v).flitSeq = s.flitSeq := rfl
@[simp] theorem wr_cores (f : Fld) (i v : Nat) : (wr s f i v).cores = s.cores := rfl
@[simp] theorem wr_banks (f : Fld) (i v : Nat) : (wr s f i v).banks = s.banks := rfl
@[simp] theorem wr_bankErr (f : Fld) (i v : Nat) : (wr s f i v).bankErr = s.bankErr := rfl
@[simp] theorem wr_poison (f : Fld) (i v : Nat) : (wr s f i v).poison = s.poison := rfl
@[simp] theorem wr_parErr (f : Fld) (i v : Nat) : (wr s f i v).parErr = s.parErr := rfl
@[simp] theorem wr_gongs (f : Fld) (i v : Nat) : (wr s f i v).gongs = s.gongs := rfl
@[simp] theorem wr_shareRecs (f : Fld) (i v : Nat) : (wr s f i v).shareRecs = s.shareRecs := rfl
@[simp] theorem wr_rowMaps (f : Fld) (i v : Nat) : (wr s f i v).rowMaps = s.rowMaps := rfl
@[simp] theorem wr_strms (f : Fld) (i v : Nat) : (wr s f i v).strms = s.strms := rfl
@[simp] theorem wr_cals (f : Fld) (i v : Nat) : (wr s f i v).cals = s.cals := rfl
@[simp] theorem wr_dmas (f : Fld) (i v : Nat) : (wr s f i v).dmas = s.dmas := rfl
@[simp] theorem wr_dmaRecs (f : Fld) (i v : Nat) : (wr s f i v).dmaRecs = s.dmaRecs := rfl
@[simp] theorem wr_segCopies (f : Fld) (i v : Nat) : (wr s f i v).segCopies = s.segCopies := rfl
@[simp] theorem wr_chains (f : Fld) (i v : Nat) : (wr s f i v).chains = s.chains := rfl
@[simp] theorem wr_segCache (f : Fld) (i v : Nat) : (wr s f i v).segCache = s.segCache := rfl
@[simp] theorem wr_cvus (f : Fld) (i v : Nat) : (wr s f i v).cvus = s.cvus := rfl
@[simp] theorem wr_flt (f : Fld) (i v : Nat) : (wr s f i v).flt = s.flt := rfl
@[simp] theorem wr_zlinks (f : Fld) (i v : Nat) : (wr s f i v).zlinks = s.zlinks := rfl
@[simp] theorem wr_pair (f : Fld) (i v : Nat) : (wr s f i v).pair = s.pair := rfl
@[simp] theorem wr_self (f : Fld) (i v : Nat) : (wr s f i v).self = s.self := rfl
@[simp] theorem wr_life (f : Fld) (i v : Nat) : (wr s f i v).life = s.life := rfl
@[simp] theorem wr_timers (f : Fld) (i v : Nat) : (wr s f i v).timers = s.timers := rfl
@[simp] theorem wr_sscPhase (f : Fld) (i v : Nat) : (wr s f i v).sscPhase = s.sscPhase := rfl
@[simp] theorem wr_rtcPhase (f : Fld) (i v : Nat) : (wr s f i v).rtcPhase = s.rtcPhase := rfl
@[simp] theorem wr_dms (f : Fld) (i v : Nat) : (wr s f i v).dms = s.dms := rfl
@[simp] theorem wr_act (f : Fld) (i v : Nat) : (wr s f i v).act = s.act := rfl
@[simp] theorem wr_ports (f : Fld) (i v : Nat) : (wr s f i v).ports = s.ports := rfl
@[simp] theorem wr_therm (f : Fld) (i v : Nat) : (wr s f i v).therm = s.therm := rfl
@[simp] theorem wr_rails (f : Fld) (i v : Nat) : (wr s f i v).rails = s.rails := rfl
@[simp] theorem wr_pwrGood (f : Fld) (i v : Nat) : (wr s f i v).pwrGood = s.pwrGood := rfl
@[simp] theorem wr_mgmt (f : Fld) (i v : Nat) : (wr s f i v).mgmt = s.mgmt := rfl
@[simp] theorem wr_sec (f : Fld) (i v : Nat) : (wr s f i v).sec = s.sec := rfl
@[simp] theorem wr_mbx (f : Fld) (i v : Nat) : (wr s f i v).mbx = s.mbx := rfl
@[simp] theorem wr_dbgData (f : Fld) (i v : Nat) : (wr s f i v).dbgData = s.dbgData := rfl
@[simp] theorem wr_pending (f : Fld) (i v : Nat) : (wr s f i v).pending = s.pending := rfl

/-! ### bumpBy -/

@[simp] theorem bumpBy_part (f : Fld) (i n : Nat) : (bumpBy s f i n).part = s.part := rfl
@[simp] theorem bumpBy_tick (f : Fld) (i n : Nat) : (bumpBy s f i n).tick = s.tick := rfl
@[simp] theorem bumpBy_fieldLost (f : Fld) (i n : Nat) : (bumpBy s f i n).fieldLost = s.fieldLost := rfl
@[simp] theorem bumpBy_sscCount (f : Fld) (i n : Nat) : (bumpBy s f i n).sscCount = s.sscCount := rfl
@[simp] theorem bumpBy_hiLatch (f : Fld) (i n : Nat) : (bumpBy s f i n).hiLatch = s.hiLatch := rfl
@[simp] theorem bumpBy_mem (f : Fld) (i n : Nat) : (bumpBy s f i n).mem = s.mem := rfl
@[simp] theorem bumpBy_hostMem (f : Fld) (i n : Nat) : (bumpBy s f i n).hostMem = s.hostMem := rfl
@[simp] theorem bumpBy_fatalQ (f : Fld) (i n : Nat) : (bumpBy s f i n).fatalQ = s.fatalQ := rfl
@[simp] theorem bumpBy_ordQ (f : Fld) (i n : Nat) : (bumpBy s f i n).ordQ = s.ordQ := rfl
@[simp] theorem bumpBy_hrep (f : Fld) (i n : Nat) : (bumpBy s f i n).hrep = s.hrep := rfl
@[simp] theorem bumpBy_repDropped (f : Fld) (i n : Nat) : (bumpBy s f i n).repDropped = s.repDropped := rfl
@[simp] theorem bumpBy_free (f : Fld) (i n : Nat) : (bumpBy s f i n).free = s.free := rfl
@[simp] theorem bumpBy_out (f : Fld) (i n : Nat) : (bumpBy s f i n).out = s.out := rfl
@[simp] theorem bumpBy_intLast (f : Fld) (i n : Nat) : (bumpBy s f i n).intLast = s.intLast := rfl
@[simp] theorem bumpBy_intHeld (f : Fld) (i n : Nat) : (bumpBy s f i n).intHeld = s.intHeld := rfl
@[simp] theorem bumpBy_pace (f : Fld) (i n : Nat) : (bumpBy s f i n).pace = s.pace := rfl
@[simp] theorem bumpBy_mesh (f : Fld) (i n : Nat) : (bumpBy s f i n).mesh = s.mesh := rfl
@[simp] theorem bumpBy_flitSeq (f : Fld) (i n : Nat) : (bumpBy s f i n).flitSeq = s.flitSeq := rfl
@[simp] theorem bumpBy_cores (f : Fld) (i n : Nat) : (bumpBy s f i n).cores = s.cores := rfl
@[simp] theorem bumpBy_banks (f : Fld) (i n : Nat) : (bumpBy s f i n).banks = s.banks := rfl
@[simp] theorem bumpBy_bankErr (f : Fld) (i n : Nat) : (bumpBy s f i n).bankErr = s.bankErr := rfl
@[simp] theorem bumpBy_poison (f : Fld) (i n : Nat) : (bumpBy s f i n).poison = s.poison := rfl
@[simp] theorem bumpBy_parErr (f : Fld) (i n : Nat) : (bumpBy s f i n).parErr = s.parErr := rfl
@[simp] theorem bumpBy_gongs (f : Fld) (i n : Nat) : (bumpBy s f i n).gongs = s.gongs := rfl
@[simp] theorem bumpBy_shareRecs (f : Fld) (i n : Nat) : (bumpBy s f i n).shareRecs = s.shareRecs := rfl
@[simp] theorem bumpBy_rowMaps (f : Fld) (i n : Nat) : (bumpBy s f i n).rowMaps = s.rowMaps := rfl
@[simp] theorem bumpBy_strms (f : Fld) (i n : Nat) : (bumpBy s f i n).strms = s.strms := rfl
@[simp] theorem bumpBy_cals (f : Fld) (i n : Nat) : (bumpBy s f i n).cals = s.cals := rfl
@[simp] theorem bumpBy_dmas (f : Fld) (i n : Nat) : (bumpBy s f i n).dmas = s.dmas := rfl
@[simp] theorem bumpBy_dmaRecs (f : Fld) (i n : Nat) : (bumpBy s f i n).dmaRecs = s.dmaRecs := rfl
@[simp] theorem bumpBy_segCopies (f : Fld) (i n : Nat) : (bumpBy s f i n).segCopies = s.segCopies := rfl
@[simp] theorem bumpBy_chains (f : Fld) (i n : Nat) : (bumpBy s f i n).chains = s.chains := rfl
@[simp] theorem bumpBy_segCache (f : Fld) (i n : Nat) : (bumpBy s f i n).segCache = s.segCache := rfl
@[simp] theorem bumpBy_cvus (f : Fld) (i n : Nat) : (bumpBy s f i n).cvus = s.cvus := rfl
@[simp] theorem bumpBy_flt (f : Fld) (i n : Nat) : (bumpBy s f i n).flt = s.flt := rfl
@[simp] theorem bumpBy_zlinks (f : Fld) (i n : Nat) : (bumpBy s f i n).zlinks = s.zlinks := rfl
@[simp] theorem bumpBy_pair (f : Fld) (i n : Nat) : (bumpBy s f i n).pair = s.pair := rfl
@[simp] theorem bumpBy_self (f : Fld) (i n : Nat) : (bumpBy s f i n).self = s.self := rfl
@[simp] theorem bumpBy_life (f : Fld) (i n : Nat) : (bumpBy s f i n).life = s.life := rfl
@[simp] theorem bumpBy_timers (f : Fld) (i n : Nat) : (bumpBy s f i n).timers = s.timers := rfl
@[simp] theorem bumpBy_sscPhase (f : Fld) (i n : Nat) : (bumpBy s f i n).sscPhase = s.sscPhase := rfl
@[simp] theorem bumpBy_rtcPhase (f : Fld) (i n : Nat) : (bumpBy s f i n).rtcPhase = s.rtcPhase := rfl
@[simp] theorem bumpBy_dms (f : Fld) (i n : Nat) : (bumpBy s f i n).dms = s.dms := rfl
@[simp] theorem bumpBy_act (f : Fld) (i n : Nat) : (bumpBy s f i n).act = s.act := rfl
@[simp] theorem bumpBy_ports (f : Fld) (i n : Nat) : (bumpBy s f i n).ports = s.ports := rfl
@[simp] theorem bumpBy_therm (f : Fld) (i n : Nat) : (bumpBy s f i n).therm = s.therm := rfl
@[simp] theorem bumpBy_rails (f : Fld) (i n : Nat) : (bumpBy s f i n).rails = s.rails := rfl
@[simp] theorem bumpBy_pwrGood (f : Fld) (i n : Nat) : (bumpBy s f i n).pwrGood = s.pwrGood := rfl
@[simp] theorem bumpBy_mgmt (f : Fld) (i n : Nat) : (bumpBy s f i n).mgmt = s.mgmt := rfl
@[simp] theorem bumpBy_sec (f : Fld) (i n : Nat) : (bumpBy s f i n).sec = s.sec := rfl
@[simp] theorem bumpBy_mbx (f : Fld) (i n : Nat) : (bumpBy s f i n).mbx = s.mbx := rfl
@[simp] theorem bumpBy_dbgData (f : Fld) (i n : Nat) : (bumpBy s f i n).dbgData = s.dbgData := rfl
@[simp] theorem bumpBy_pending (f : Fld) (i n : Nat) : (bumpBy s f i n).pending = s.pending := rfl

/-! ### bump -/

@[simp] theorem bump_part (f : Fld) (i : Nat) : (bump s f i).part = s.part := rfl
@[simp] theorem bump_tick (f : Fld) (i : Nat) : (bump s f i).tick = s.tick := rfl
@[simp] theorem bump_fieldLost (f : Fld) (i : Nat) : (bump s f i).fieldLost = s.fieldLost := rfl
@[simp] theorem bump_sscCount (f : Fld) (i : Nat) : (bump s f i).sscCount = s.sscCount := rfl
@[simp] theorem bump_hiLatch (f : Fld) (i : Nat) : (bump s f i).hiLatch = s.hiLatch := rfl
@[simp] theorem bump_mem (f : Fld) (i : Nat) : (bump s f i).mem = s.mem := rfl
@[simp] theorem bump_hostMem (f : Fld) (i : Nat) : (bump s f i).hostMem = s.hostMem := rfl
@[simp] theorem bump_fatalQ (f : Fld) (i : Nat) : (bump s f i).fatalQ = s.fatalQ := rfl
@[simp] theorem bump_ordQ (f : Fld) (i : Nat) : (bump s f i).ordQ = s.ordQ := rfl
@[simp] theorem bump_hrep (f : Fld) (i : Nat) : (bump s f i).hrep = s.hrep := rfl
@[simp] theorem bump_repDropped (f : Fld) (i : Nat) : (bump s f i).repDropped = s.repDropped := rfl
@[simp] theorem bump_free (f : Fld) (i : Nat) : (bump s f i).free = s.free := rfl
@[simp] theorem bump_out (f : Fld) (i : Nat) : (bump s f i).out = s.out := rfl
@[simp] theorem bump_intLast (f : Fld) (i : Nat) : (bump s f i).intLast = s.intLast := rfl
@[simp] theorem bump_intHeld (f : Fld) (i : Nat) : (bump s f i).intHeld = s.intHeld := rfl
@[simp] theorem bump_pace (f : Fld) (i : Nat) : (bump s f i).pace = s.pace := rfl
@[simp] theorem bump_mesh (f : Fld) (i : Nat) : (bump s f i).mesh = s.mesh := rfl
@[simp] theorem bump_flitSeq (f : Fld) (i : Nat) : (bump s f i).flitSeq = s.flitSeq := rfl
@[simp] theorem bump_cores (f : Fld) (i : Nat) : (bump s f i).cores = s.cores := rfl
@[simp] theorem bump_banks (f : Fld) (i : Nat) : (bump s f i).banks = s.banks := rfl
@[simp] theorem bump_bankErr (f : Fld) (i : Nat) : (bump s f i).bankErr = s.bankErr := rfl
@[simp] theorem bump_poison (f : Fld) (i : Nat) : (bump s f i).poison = s.poison := rfl
@[simp] theorem bump_parErr (f : Fld) (i : Nat) : (bump s f i).parErr = s.parErr := rfl
@[simp] theorem bump_gongs (f : Fld) (i : Nat) : (bump s f i).gongs = s.gongs := rfl
@[simp] theorem bump_shareRecs (f : Fld) (i : Nat) : (bump s f i).shareRecs = s.shareRecs := rfl
@[simp] theorem bump_rowMaps (f : Fld) (i : Nat) : (bump s f i).rowMaps = s.rowMaps := rfl
@[simp] theorem bump_strms (f : Fld) (i : Nat) : (bump s f i).strms = s.strms := rfl
@[simp] theorem bump_cals (f : Fld) (i : Nat) : (bump s f i).cals = s.cals := rfl
@[simp] theorem bump_dmas (f : Fld) (i : Nat) : (bump s f i).dmas = s.dmas := rfl
@[simp] theorem bump_dmaRecs (f : Fld) (i : Nat) : (bump s f i).dmaRecs = s.dmaRecs := rfl
@[simp] theorem bump_segCopies (f : Fld) (i : Nat) : (bump s f i).segCopies = s.segCopies := rfl
@[simp] theorem bump_chains (f : Fld) (i : Nat) : (bump s f i).chains = s.chains := rfl
@[simp] theorem bump_segCache (f : Fld) (i : Nat) : (bump s f i).segCache = s.segCache := rfl
@[simp] theorem bump_cvus (f : Fld) (i : Nat) : (bump s f i).cvus = s.cvus := rfl
@[simp] theorem bump_flt (f : Fld) (i : Nat) : (bump s f i).flt = s.flt := rfl
@[simp] theorem bump_zlinks (f : Fld) (i : Nat) : (bump s f i).zlinks = s.zlinks := rfl
@[simp] theorem bump_pair (f : Fld) (i : Nat) : (bump s f i).pair = s.pair := rfl
@[simp] theorem bump_self (f : Fld) (i : Nat) : (bump s f i).self = s.self := rfl
@[simp] theorem bump_life (f : Fld) (i : Nat) : (bump s f i).life = s.life := rfl
@[simp] theorem bump_timers (f : Fld) (i : Nat) : (bump s f i).timers = s.timers := rfl
@[simp] theorem bump_sscPhase (f : Fld) (i : Nat) : (bump s f i).sscPhase = s.sscPhase := rfl
@[simp] theorem bump_rtcPhase (f : Fld) (i : Nat) : (bump s f i).rtcPhase = s.rtcPhase := rfl
@[simp] theorem bump_dms (f : Fld) (i : Nat) : (bump s f i).dms = s.dms := rfl
@[simp] theorem bump_act (f : Fld) (i : Nat) : (bump s f i).act = s.act := rfl
@[simp] theorem bump_ports (f : Fld) (i : Nat) : (bump s f i).ports = s.ports := rfl
@[simp] theorem bump_therm (f : Fld) (i : Nat) : (bump s f i).therm = s.therm := rfl
@[simp] theorem bump_rails (f : Fld) (i : Nat) : (bump s f i).rails = s.rails := rfl
@[simp] theorem bump_pwrGood (f : Fld) (i : Nat) : (bump s f i).pwrGood = s.pwrGood := rfl
@[simp] theorem bump_mgmt (f : Fld) (i : Nat) : (bump s f i).mgmt = s.mgmt := rfl
@[simp] theorem bump_sec (f : Fld) (i : Nat) : (bump s f i).sec = s.sec := rfl
@[simp] theorem bump_mbx (f : Fld) (i : Nat) : (bump s f i).mbx = s.mbx := rfl
@[simp] theorem bump_dbgData (f : Fld) (i : Nat) : (bump s f i).dbgData = s.dbgData := rfl
@[simp] theorem bump_pending (f : Fld) (i : Nat) : (bump s f i).pending = s.pending := rfl

/-! ### hit -/

@[simp] theorem hit_part (f : Fld) (i : Nat) : (hit s f i).part = s.part := rfl
@[simp] theorem hit_tick (f : Fld) (i : Nat) : (hit s f i).tick = s.tick := rfl
@[simp] theorem hit_fieldLost (f : Fld) (i : Nat) : (hit s f i).fieldLost = s.fieldLost := rfl
@[simp] theorem hit_sscCount (f : Fld) (i : Nat) : (hit s f i).sscCount = s.sscCount := rfl
@[simp] theorem hit_hiLatch (f : Fld) (i : Nat) : (hit s f i).hiLatch = s.hiLatch := rfl
@[simp] theorem hit_mem (f : Fld) (i : Nat) : (hit s f i).mem = s.mem := rfl
@[simp] theorem hit_hostMem (f : Fld) (i : Nat) : (hit s f i).hostMem = s.hostMem := rfl
@[simp] theorem hit_fatalQ (f : Fld) (i : Nat) : (hit s f i).fatalQ = s.fatalQ := rfl
@[simp] theorem hit_ordQ (f : Fld) (i : Nat) : (hit s f i).ordQ = s.ordQ := rfl
@[simp] theorem hit_hrep (f : Fld) (i : Nat) : (hit s f i).hrep = s.hrep := rfl
@[simp] theorem hit_repDropped (f : Fld) (i : Nat) : (hit s f i).repDropped = s.repDropped := rfl
@[simp] theorem hit_free (f : Fld) (i : Nat) : (hit s f i).free = s.free := rfl
@[simp] theorem hit_out (f : Fld) (i : Nat) : (hit s f i).out = s.out := rfl
@[simp] theorem hit_intLast (f : Fld) (i : Nat) : (hit s f i).intLast = s.intLast := rfl
@[simp] theorem hit_intHeld (f : Fld) (i : Nat) : (hit s f i).intHeld = s.intHeld := rfl
@[simp] theorem hit_pace (f : Fld) (i : Nat) : (hit s f i).pace = s.pace := rfl
@[simp] theorem hit_mesh (f : Fld) (i : Nat) : (hit s f i).mesh = s.mesh := rfl
@[simp] theorem hit_flitSeq (f : Fld) (i : Nat) : (hit s f i).flitSeq = s.flitSeq := rfl
@[simp] theorem hit_cores (f : Fld) (i : Nat) : (hit s f i).cores = s.cores := rfl
@[simp] theorem hit_banks (f : Fld) (i : Nat) : (hit s f i).banks = s.banks := rfl
@[simp] theorem hit_bankErr (f : Fld) (i : Nat) : (hit s f i).bankErr = s.bankErr := rfl
@[simp] theorem hit_poison (f : Fld) (i : Nat) : (hit s f i).poison = s.poison := rfl
@[simp] theorem hit_parErr (f : Fld) (i : Nat) : (hit s f i).parErr = s.parErr := rfl
@[simp] theorem hit_gongs (f : Fld) (i : Nat) : (hit s f i).gongs = s.gongs := rfl
@[simp] theorem hit_shareRecs (f : Fld) (i : Nat) : (hit s f i).shareRecs = s.shareRecs := rfl
@[simp] theorem hit_rowMaps (f : Fld) (i : Nat) : (hit s f i).rowMaps = s.rowMaps := rfl
@[simp] theorem hit_strms (f : Fld) (i : Nat) : (hit s f i).strms = s.strms := rfl
@[simp] theorem hit_cals (f : Fld) (i : Nat) : (hit s f i).cals = s.cals := rfl
@[simp] theorem hit_dmas (f : Fld) (i : Nat) : (hit s f i).dmas = s.dmas := rfl
@[simp] theorem hit_dmaRecs (f : Fld) (i : Nat) : (hit s f i).dmaRecs = s.dmaRecs := rfl
@[simp] theorem hit_segCopies (f : Fld) (i : Nat) : (hit s f i).segCopies = s.segCopies := rfl
@[simp] theorem hit_chains (f : Fld) (i : Nat) : (hit s f i).chains = s.chains := rfl
@[simp] theorem hit_segCache (f : Fld) (i : Nat) : (hit s f i).segCache = s.segCache := rfl
@[simp] theorem hit_cvus (f : Fld) (i : Nat) : (hit s f i).cvus = s.cvus := rfl
@[simp] theorem hit_flt (f : Fld) (i : Nat) : (hit s f i).flt = s.flt := rfl
@[simp] theorem hit_zlinks (f : Fld) (i : Nat) : (hit s f i).zlinks = s.zlinks := rfl
@[simp] theorem hit_pair (f : Fld) (i : Nat) : (hit s f i).pair = s.pair := rfl
@[simp] theorem hit_self (f : Fld) (i : Nat) : (hit s f i).self = s.self := rfl
@[simp] theorem hit_life (f : Fld) (i : Nat) : (hit s f i).life = s.life := rfl
@[simp] theorem hit_timers (f : Fld) (i : Nat) : (hit s f i).timers = s.timers := rfl
@[simp] theorem hit_sscPhase (f : Fld) (i : Nat) : (hit s f i).sscPhase = s.sscPhase := rfl
@[simp] theorem hit_rtcPhase (f : Fld) (i : Nat) : (hit s f i).rtcPhase = s.rtcPhase := rfl
@[simp] theorem hit_dms (f : Fld) (i : Nat) : (hit s f i).dms = s.dms := rfl
@[simp] theorem hit_act (f : Fld) (i : Nat) : (hit s f i).act = s.act := rfl
@[simp] theorem hit_ports (f : Fld) (i : Nat) : (hit s f i).ports = s.ports := rfl
@[simp] theorem hit_therm (f : Fld) (i : Nat) : (hit s f i).therm = s.therm := rfl
@[simp] theorem hit_rails (f : Fld) (i : Nat) : (hit s f i).rails = s.rails := rfl
@[simp] theorem hit_pwrGood (f : Fld) (i : Nat) : (hit s f i).pwrGood = s.pwrGood := rfl
@[simp] theorem hit_mgmt (f : Fld) (i : Nat) : (hit s f i).mgmt = s.mgmt := rfl
@[simp] theorem hit_sec (f : Fld) (i : Nat) : (hit s f i).sec = s.sec := rfl
@[simp] theorem hit_mbx (f : Fld) (i : Nat) : (hit s f i).mbx = s.mbx := rfl
@[simp] theorem hit_dbgData (f : Fld) (i : Nat) : (hit s f i).dbgData = s.dbgData := rfl
@[simp] theorem hit_pending (f : Fld) (i : Nat) : (hit s f i).pending = s.pending := rfl

/-! ### emit -/

@[simp] theorem emit_part (e : Emit) : (emit s e).part = s.part := rfl
@[simp] theorem emit_tick (e : Emit) : (emit s e).tick = s.tick := rfl
@[simp] theorem emit_fieldLost (e : Emit) : (emit s e).fieldLost = s.fieldLost := rfl
@[simp] theorem emit_sscCount (e : Emit) : (emit s e).sscCount = s.sscCount := rfl
@[simp] theorem emit_regs (e : Emit) : (emit s e).regs = s.regs := rfl
@[simp] theorem emit_hiLatch (e : Emit) : (emit s e).hiLatch = s.hiLatch := rfl
@[simp] theorem emit_mem (e : Emit) : (emit s e).mem = s.mem := rfl
@[simp] theorem emit_hostMem (e : Emit) : (emit s e).hostMem = s.hostMem := rfl
@[simp] theorem emit_fatalQ (e : Emit) : (emit s e).fatalQ = s.fatalQ := rfl
@[simp] theorem emit_ordQ (e : Emit) : (emit s e).ordQ = s.ordQ := rfl
@[simp] theorem emit_hrep (e : Emit) : (emit s e).hrep = s.hrep := rfl
@[simp] theorem emit_repDropped (e : Emit) : (emit s e).repDropped = s.repDropped := rfl
@[simp] theorem emit_free (e : Emit) : (emit s e).free = s.free := rfl
@[simp] theorem emit_intLast (e : Emit) : (emit s e).intLast = s.intLast := rfl
@[simp] theorem emit_intHeld (e : Emit) : (emit s e).intHeld = s.intHeld := rfl
@[simp] theorem emit_pace (e : Emit) : (emit s e).pace = s.pace := rfl
@[simp] theorem emit_mesh (e : Emit) : (emit s e).mesh = s.mesh := rfl
@[simp] theorem emit_flitSeq (e : Emit) : (emit s e).flitSeq = s.flitSeq := rfl
@[simp] theorem emit_cores (e : Emit) : (emit s e).cores = s.cores := rfl
@[simp] theorem emit_banks (e : Emit) : (emit s e).banks = s.banks := rfl
@[simp] theorem emit_bankErr (e : Emit) : (emit s e).bankErr = s.bankErr := rfl
@[simp] theorem emit_poison (e : Emit) : (emit s e).poison = s.poison := rfl
@[simp] theorem emit_parErr (e : Emit) : (emit s e).parErr = s.parErr := rfl
@[simp] theorem emit_gongs (e : Emit) : (emit s e).gongs = s.gongs := rfl
@[simp] theorem emit_shareRecs (e : Emit) : (emit s e).shareRecs = s.shareRecs := rfl
@[simp] theorem emit_rowMaps (e : Emit) : (emit s e).rowMaps = s.rowMaps := rfl
@[simp] theorem emit_strms (e : Emit) : (emit s e).strms = s.strms := rfl
@[simp] theorem emit_cals (e : Emit) : (emit s e).cals = s.cals := rfl
@[simp] theorem emit_dmas (e : Emit) : (emit s e).dmas = s.dmas := rfl
@[simp] theorem emit_dmaRecs (e : Emit) : (emit s e).dmaRecs = s.dmaRecs := rfl
@[simp] theorem emit_segCopies (e : Emit) : (emit s e).segCopies = s.segCopies := rfl
@[simp] theorem emit_chains (e : Emit) : (emit s e).chains = s.chains := rfl
@[simp] theorem emit_segCache (e : Emit) : (emit s e).segCache = s.segCache := rfl
@[simp] theorem emit_cvus (e : Emit) : (emit s e).cvus = s.cvus := rfl
@[simp] theorem emit_flt (e : Emit) : (emit s e).flt = s.flt := rfl
@[simp] theorem emit_zlinks (e : Emit) : (emit s e).zlinks = s.zlinks := rfl
@[simp] theorem emit_pair (e : Emit) : (emit s e).pair = s.pair := rfl
@[simp] theorem emit_self (e : Emit) : (emit s e).self = s.self := rfl
@[simp] theorem emit_life (e : Emit) : (emit s e).life = s.life := rfl
@[simp] theorem emit_timers (e : Emit) : (emit s e).timers = s.timers := rfl
@[simp] theorem emit_sscPhase (e : Emit) : (emit s e).sscPhase = s.sscPhase := rfl
@[simp] theorem emit_rtcPhase (e : Emit) : (emit s e).rtcPhase = s.rtcPhase := rfl
@[simp] theorem emit_dms (e : Emit) : (emit s e).dms = s.dms := rfl
@[simp] theorem emit_act (e : Emit) : (emit s e).act = s.act := rfl
@[simp] theorem emit_ports (e : Emit) : (emit s e).ports = s.ports := rfl
@[simp] theorem emit_therm (e : Emit) : (emit s e).therm = s.therm := rfl
@[simp] theorem emit_rails (e : Emit) : (emit s e).rails = s.rails := rfl
@[simp] theorem emit_pwrGood (e : Emit) : (emit s e).pwrGood = s.pwrGood := rfl
@[simp] theorem emit_mgmt (e : Emit) : (emit s e).mgmt = s.mgmt := rfl
@[simp] theorem emit_sec (e : Emit) : (emit s e).sec = s.sec := rfl
@[simp] theorem emit_mbx (e : Emit) : (emit s e).mbx = s.mbx := rfl
@[simp] theorem emit_dbgData (e : Emit) : (emit s e).dbgData = s.dbgData := rfl
@[simp] theorem emit_pending (e : Emit) : (emit s e).pending = s.pending := rfl

/-! ### setCore -/

@[simp] theorem setCore_part (c : Nat) (k : Core) : (setCore s c k).part = s.part := rfl
@[simp] theorem setCore_tick (c : Nat) (k : Core) : (setCore s c k).tick = s.tick := rfl
@[simp] theorem setCore_fieldLost (c : Nat) (k : Core) : (setCore s c k).fieldLost = s.fieldLost := rfl
@[simp] theorem setCore_sscCount (c : Nat) (k : Core) : (setCore s c k).sscCount = s.sscCount := rfl
@[simp] theorem setCore_regs (c : Nat) (k : Core) : (setCore s c k).regs = s.regs := rfl
@[simp] theorem setCore_hiLatch (c : Nat) (k : Core) : (setCore s c k).hiLatch = s.hiLatch := rfl
@[simp] theorem setCore_mem (c : Nat) (k : Core) : (setCore s c k).mem = s.mem := rfl
@[simp] theorem setCore_hostMem (c : Nat) (k : Core) : (setCore s c k).hostMem = s.hostMem := rfl
@[simp] theorem setCore_fatalQ (c : Nat) (k : Core) : (setCore s c k).fatalQ = s.fatalQ := rfl
@[simp] theorem setCore_ordQ (c : Nat) (k : Core) : (setCore s c k).ordQ = s.ordQ := rfl
@[simp] theorem setCore_hrep (c : Nat) (k : Core) : (setCore s c k).hrep = s.hrep := rfl
@[simp] theorem setCore_repDropped (c : Nat) (k : Core) : (setCore s c k).repDropped = s.repDropped := rfl
@[simp] theorem setCore_free (c : Nat) (k : Core) : (setCore s c k).free = s.free := rfl
@[simp] theorem setCore_out (c : Nat) (k : Core) : (setCore s c k).out = s.out := rfl
@[simp] theorem setCore_intLast (c : Nat) (k : Core) : (setCore s c k).intLast = s.intLast := rfl
@[simp] theorem setCore_intHeld (c : Nat) (k : Core) : (setCore s c k).intHeld = s.intHeld := rfl
@[simp] theorem setCore_pace (c : Nat) (k : Core) : (setCore s c k).pace = s.pace := rfl
@[simp] theorem setCore_mesh (c : Nat) (k : Core) : (setCore s c k).mesh = s.mesh := rfl
@[simp] theorem setCore_flitSeq (c : Nat) (k : Core) : (setCore s c k).flitSeq = s.flitSeq := rfl
@[simp] theorem setCore_banks (c : Nat) (k : Core) : (setCore s c k).banks = s.banks := rfl
@[simp] theorem setCore_bankErr (c : Nat) (k : Core) : (setCore s c k).bankErr = s.bankErr := rfl
@[simp] theorem setCore_poison (c : Nat) (k : Core) : (setCore s c k).poison = s.poison := rfl
@[simp] theorem setCore_parErr (c : Nat) (k : Core) : (setCore s c k).parErr = s.parErr := rfl
@[simp] theorem setCore_gongs (c : Nat) (k : Core) : (setCore s c k).gongs = s.gongs := rfl
@[simp] theorem setCore_shareRecs (c : Nat) (k : Core) : (setCore s c k).shareRecs = s.shareRecs := rfl
@[simp] theorem setCore_rowMaps (c : Nat) (k : Core) : (setCore s c k).rowMaps = s.rowMaps := rfl
@[simp] theorem setCore_strms (c : Nat) (k : Core) : (setCore s c k).strms = s.strms := rfl
@[simp] theorem setCore_cals (c : Nat) (k : Core) : (setCore s c k).cals = s.cals := rfl
@[simp] theorem setCore_dmas (c : Nat) (k : Core) : (setCore s c k).dmas = s.dmas := rfl
@[simp] theorem setCore_dmaRecs (c : Nat) (k : Core) : (setCore s c k).dmaRecs = s.dmaRecs := rfl
@[simp] theorem setCore_segCopies (c : Nat) (k : Core) : (setCore s c k).segCopies = s.segCopies := rfl
@[simp] theorem setCore_chains (c : Nat) (k : Core) : (setCore s c k).chains = s.chains := rfl
@[simp] theorem setCore_segCache (c : Nat) (k : Core) : (setCore s c k).segCache = s.segCache := rfl
@[simp] theorem setCore_cvus (c : Nat) (k : Core) : (setCore s c k).cvus = s.cvus := rfl
@[simp] theorem setCore_flt (c : Nat) (k : Core) : (setCore s c k).flt = s.flt := rfl
@[simp] theorem setCore_zlinks (c : Nat) (k : Core) : (setCore s c k).zlinks = s.zlinks := rfl
@[simp] theorem setCore_pair (c : Nat) (k : Core) : (setCore s c k).pair = s.pair := rfl
@[simp] theorem setCore_self (c : Nat) (k : Core) : (setCore s c k).self = s.self := rfl
@[simp] theorem setCore_life (c : Nat) (k : Core) : (setCore s c k).life = s.life := rfl
@[simp] theorem setCore_timers (c : Nat) (k : Core) : (setCore s c k).timers = s.timers := rfl
@[simp] theorem setCore_sscPhase (c : Nat) (k : Core) : (setCore s c k).sscPhase = s.sscPhase := rfl
@[simp] theorem setCore_rtcPhase (c : Nat) (k : Core) : (setCore s c k).rtcPhase = s.rtcPhase := rfl
@[simp] theorem setCore_dms (c : Nat) (k : Core) : (setCore s c k).dms = s.dms := rfl
@[simp] theorem setCore_act (c : Nat) (k : Core) : (setCore s c k).act = s.act := rfl
@[simp] theorem setCore_ports (c : Nat) (k : Core) : (setCore s c k).ports = s.ports := rfl
@[simp] theorem setCore_therm (c : Nat) (k : Core) : (setCore s c k).therm = s.therm := rfl
@[simp] theorem setCore_rails (c : Nat) (k : Core) : (setCore s c k).rails = s.rails := rfl
@[simp] theorem setCore_pwrGood (c : Nat) (k : Core) : (setCore s c k).pwrGood = s.pwrGood := rfl
@[simp] theorem setCore_mgmt (c : Nat) (k : Core) : (setCore s c k).mgmt = s.mgmt := rfl
@[simp] theorem setCore_sec (c : Nat) (k : Core) : (setCore s c k).sec = s.sec := rfl
@[simp] theorem setCore_mbx (c : Nat) (k : Core) : (setCore s c k).mbx = s.mbx := rfl
@[simp] theorem setCore_dbgData (c : Nat) (k : Core) : (setCore s c k).dbgData = s.dbgData := rfl
@[simp] theorem setCore_pending (c : Nat) (k : Core) : (setCore s c k).pending = s.pending := rfl

/-! ### modCore -/

@[simp] theorem modCore_part (c : Nat) (f : Core → Core) : (modCore s c f).part = s.part := rfl
@[simp] theorem modCore_tick (c : Nat) (f : Core → Core) : (modCore s c f).tick = s.tick := rfl
@[simp] theorem modCore_fieldLost (c : Nat) (f : Core → Core) : (modCore s c f).fieldLost = s.fieldLost := rfl
@[simp] theorem modCore_sscCount (c : Nat) (f : Core → Core) : (modCore s c f).sscCount = s.sscCount := rfl
@[simp] theorem modCore_regs (c : Nat) (f : Core → Core) : (modCore s c f).regs = s.regs := rfl
@[simp] theorem modCore_hiLatch (c : Nat) (f : Core → Core) : (modCore s c f).hiLatch = s.hiLatch := rfl
@[simp] theorem modCore_mem (c : Nat) (f : Core → Core) : (modCore s c f).mem = s.mem := rfl
@[simp] theorem modCore_hostMem (c : Nat) (f : Core → Core) : (modCore s c f).hostMem = s.hostMem := rfl
@[simp] theorem modCore_fatalQ (c : Nat) (f : Core → Core) : (modCore s c f).fatalQ = s.fatalQ := rfl
@[simp] theorem modCore_ordQ (c : Nat) (f : Core → Core) : (modCore s c f).ordQ = s.ordQ := rfl
@[simp] theorem modCore_hrep (c : Nat) (f : Core → Core) : (modCore s c f).hrep = s.hrep := rfl
@[simp] theorem modCore_repDropped (c : Nat) (f : Core → Core) : (modCore s c f).repDropped = s.repDropped := rfl
@[simp] theorem modCore_free (c : Nat) (f : Core → Core) : (modCore s c f).free = s.free := rfl
@[simp] theorem modCore_out (c : Nat) (f : Core → Core) : (modCore s c f).out = s.out := rfl
@[simp] theorem modCore_intLast (c : Nat) (f : Core → Core) : (modCore s c f).intLast = s.intLast := rfl
@[simp] theorem modCore_intHeld (c : Nat) (f : Core → Core) : (modCore s c f).intHeld = s.intHeld := rfl
@[simp] theorem modCore_pace (c : Nat) (f : Core → Core) : (modCore s c f).pace = s.pace := rfl
@[simp] theorem modCore_mesh (c : Nat) (f : Core → Core) : (modCore s c f).mesh = s.mesh := rfl
@[simp] theorem modCore_flitSeq (c : Nat) (f : Core → Core) : (modCore s c f).flitSeq = s.flitSeq := rfl
@[simp] theorem modCore_banks (c : Nat) (f : Core → Core) : (modCore s c f).banks = s.banks := rfl
@[simp] theorem modCore_bankErr (c : Nat) (f : Core → Core) : (modCore s c f).bankErr = s.bankErr := rfl
@[simp] theorem modCore_poison (c : Nat) (f : Core → Core) : (modCore s c f).poison = s.poison := rfl
@[simp] theorem modCore_parErr (c : Nat) (f : Core → Core) : (modCore s c f).parErr = s.parErr := rfl
@[simp] theorem modCore_gongs (c : Nat) (f : Core → Core) : (modCore s c f).gongs = s.gongs := rfl
@[simp] theorem modCore_shareRecs (c : Nat) (f : Core → Core) : (modCore s c f).shareRecs = s.shareRecs := rfl
@[simp] theorem modCore_rowMaps (c : Nat) (f : Core → Core) : (modCore s c f).rowMaps = s.rowMaps := rfl
@[simp] theorem modCore_strms (c : Nat) (f : Core → Core) : (modCore s c f).strms = s.strms := rfl
@[simp] theorem modCore_cals (c : Nat) (f : Core → Core) : (modCore s c f).cals = s.cals := rfl
@[simp] theorem modCore_dmas (c : Nat) (f : Core → Core) : (modCore s c f).dmas = s.dmas := rfl
@[simp] theorem modCore_dmaRecs (c : Nat) (f : Core → Core) : (modCore s c f).dmaRecs = s.dmaRecs := rfl
@[simp] theorem modCore_segCopies (c : Nat) (f : Core → Core) : (modCore s c f).segCopies = s.segCopies := rfl
@[simp] theorem modCore_chains (c : Nat) (f : Core → Core) : (modCore s c f).chains = s.chains := rfl
@[simp] theorem modCore_segCache (c : Nat) (f : Core → Core) : (modCore s c f).segCache = s.segCache := rfl
@[simp] theorem modCore_cvus (c : Nat) (f : Core → Core) : (modCore s c f).cvus = s.cvus := rfl
@[simp] theorem modCore_flt (c : Nat) (f : Core → Core) : (modCore s c f).flt = s.flt := rfl
@[simp] theorem modCore_zlinks (c : Nat) (f : Core → Core) : (modCore s c f).zlinks = s.zlinks := rfl
@[simp] theorem modCore_pair (c : Nat) (f : Core → Core) : (modCore s c f).pair = s.pair := rfl
@[simp] theorem modCore_self (c : Nat) (f : Core → Core) : (modCore s c f).self = s.self := rfl
@[simp] theorem modCore_life (c : Nat) (f : Core → Core) : (modCore s c f).life = s.life := rfl
@[simp] theorem modCore_timers (c : Nat) (f : Core → Core) : (modCore s c f).timers = s.timers := rfl
@[simp] theorem modCore_sscPhase (c : Nat) (f : Core → Core) : (modCore s c f).sscPhase = s.sscPhase := rfl
@[simp] theorem modCore_rtcPhase (c : Nat) (f : Core → Core) : (modCore s c f).rtcPhase = s.rtcPhase := rfl
@[simp] theorem modCore_dms (c : Nat) (f : Core → Core) : (modCore s c f).dms = s.dms := rfl
@[simp] theorem modCore_act (c : Nat) (f : Core → Core) : (modCore s c f).act = s.act := rfl
@[simp] theorem modCore_ports (c : Nat) (f : Core → Core) : (modCore s c f).ports = s.ports := rfl
@[simp] theorem modCore_therm (c : Nat) (f : Core → Core) : (modCore s c f).therm = s.therm := rfl
@[simp] theorem modCore_rails (c : Nat) (f : Core → Core) : (modCore s c f).rails = s.rails := rfl
@[simp] theorem modCore_pwrGood (c : Nat) (f : Core → Core) : (modCore s c f).pwrGood = s.pwrGood := rfl
@[simp] theorem modCore_mgmt (c : Nat) (f : Core → Core) : (modCore s c f).mgmt = s.mgmt := rfl
@[simp] theorem modCore_sec (c : Nat) (f : Core → Core) : (modCore s c f).sec = s.sec := rfl
@[simp] theorem modCore_mbx (c : Nat) (f : Core → Core) : (modCore s c f).mbx = s.mbx := rfl
@[simp] theorem modCore_dbgData (c : Nat) (f : Core → Core) : (modCore s c f).dbgData = s.dbgData := rfl
@[simp] theorem modCore_pending (c : Nat) (f : Core → Core) : (modCore s c f).pending = s.pending := rfl

/-! ### setRingX -/

@[simp] theorem setRingX_part (c r : Nat) (x : RingX) : (setRingX s c r x).part = s.part := rfl
@[simp] theorem setRingX_tick (c r : Nat) (x : RingX) : (setRingX s c r x).tick = s.tick := rfl
@[simp] theorem setRingX_fieldLost (c r : Nat) (x : RingX) : (setRingX s c r x).fieldLost = s.fieldLost := rfl
@[simp] theorem setRingX_sscCount (c r : Nat) (x : RingX) : (setRingX s c r x).sscCount = s.sscCount := rfl
@[simp] theorem setRingX_regs (c r : Nat) (x : RingX) : (setRingX s c r x).regs = s.regs := rfl
@[simp] theorem setRingX_hiLatch (c r : Nat) (x : RingX) : (setRingX s c r x).hiLatch = s.hiLatch := rfl
@[simp] theorem setRingX_mem (c r : Nat) (x : RingX) : (setRingX s c r x).mem = s.mem := rfl
@[simp] theorem setRingX_hostMem (c r : Nat) (x : RingX) : (setRingX s c r x).hostMem = s.hostMem := rfl
@[simp] theorem setRingX_fatalQ (c r : Nat) (x : RingX) : (setRingX s c r x).fatalQ = s.fatalQ := rfl
@[simp] theorem setRingX_ordQ (c r : Nat) (x : RingX) : (setRingX s c r x).ordQ = s.ordQ := rfl
@[simp] theorem setRingX_hrep (c r : Nat) (x : RingX) : (setRingX s c r x).hrep = s.hrep := rfl
@[simp] theorem setRingX_repDropped (c r : Nat) (x : RingX) : (setRingX s c r x).repDropped = s.repDropped := rfl
@[simp] theorem setRingX_free (c r : Nat) (x : RingX) : (setRingX s c r x).free = s.free := rfl
@[simp] theorem setRingX_out (c r : Nat) (x : RingX) : (setRingX s c r x).out = s.out := rfl
@[simp] theorem setRingX_intLast (c r : Nat) (x : RingX) : (setRingX s c r x).intLast = s.intLast := rfl
@[simp] theorem setRingX_intHeld (c r : Nat) (x : RingX) : (setRingX s c r x).intHeld = s.intHeld := rfl
@[simp] theorem setRingX_pace (c r : Nat) (x : RingX) : (setRingX s c r x).pace = s.pace := rfl
@[simp] theorem setRingX_mesh (c r : Nat) (x : RingX) : (setRingX s c r x).mesh = s.mesh := rfl
@[simp] theorem setRingX_flitSeq (c r : Nat) (x : RingX) : (setRingX s c r x).flitSeq = s.flitSeq := rfl
@[simp] theorem setRingX_banks (c r : Nat) (x : RingX) : (setRingX s c r x).banks = s.banks := rfl
@[simp] theorem setRingX_bankErr (c r : Nat) (x : RingX) : (setRingX s c r x).bankErr = s.bankErr := rfl
@[simp] theorem setRingX_poison (c r : Nat) (x : RingX) : (setRingX s c r x).poison = s.poison := rfl
@[simp] theorem setRingX_parErr (c r : Nat) (x : RingX) : (setRingX s c r x).parErr = s.parErr := rfl
@[simp] theorem setRingX_gongs (c r : Nat) (x : RingX) : (setRingX s c r x).gongs = s.gongs := rfl
@[simp] theorem setRingX_shareRecs (c r : Nat) (x : RingX) : (setRingX s c r x).shareRecs = s.shareRecs := rfl
@[simp] theorem setRingX_rowMaps (c r : Nat) (x : RingX) : (setRingX s c r x).rowMaps = s.rowMaps := rfl
@[simp] theorem setRingX_strms (c r : Nat) (x : RingX) : (setRingX s c r x).strms = s.strms := rfl
@[simp] theorem setRingX_cals (c r : Nat) (x : RingX) : (setRingX s c r x).cals = s.cals := rfl
@[simp] theorem setRingX_dmas (c r : Nat) (x : RingX) : (setRingX s c r x).dmas = s.dmas := rfl
@[simp] theorem setRingX_dmaRecs (c r : Nat) (x : RingX) : (setRingX s c r x).dmaRecs = s.dmaRecs := rfl
@[simp] theorem setRingX_segCopies (c r : Nat) (x : RingX) : (setRingX s c r x).segCopies = s.segCopies := rfl
@[simp] theorem setRingX_chains (c r : Nat) (x : RingX) : (setRingX s c r x).chains = s.chains := rfl
@[simp] theorem setRingX_segCache (c r : Nat) (x : RingX) : (setRingX s c r x).segCache = s.segCache := rfl
@[simp] theorem setRingX_cvus (c r : Nat) (x : RingX) : (setRingX s c r x).cvus = s.cvus := rfl
@[simp] theorem setRingX_flt (c r : Nat) (x : RingX) : (setRingX s c r x).flt = s.flt := rfl
@[simp] theorem setRingX_zlinks (c r : Nat) (x : RingX) : (setRingX s c r x).zlinks = s.zlinks := rfl
@[simp] theorem setRingX_pair (c r : Nat) (x : RingX) : (setRingX s c r x).pair = s.pair := rfl
@[simp] theorem setRingX_self (c r : Nat) (x : RingX) : (setRingX s c r x).self = s.self := rfl
@[simp] theorem setRingX_life (c r : Nat) (x : RingX) : (setRingX s c r x).life = s.life := rfl
@[simp] theorem setRingX_timers (c r : Nat) (x : RingX) : (setRingX s c r x).timers = s.timers := rfl
@[simp] theorem setRingX_sscPhase (c r : Nat) (x : RingX) : (setRingX s c r x).sscPhase = s.sscPhase := rfl
@[simp] theorem setRingX_rtcPhase (c r : Nat) (x : RingX) : (setRingX s c r x).rtcPhase = s.rtcPhase := rfl
@[simp] theorem setRingX_dms (c r : Nat) (x : RingX) : (setRingX s c r x).dms = s.dms := rfl
@[simp] theorem setRingX_act (c r : Nat) (x : RingX) : (setRingX s c r x).act = s.act := rfl
@[simp] theorem setRingX_ports (c r : Nat) (x : RingX) : (setRingX s c r x).ports = s.ports := rfl
@[simp] theorem setRingX_therm (c r : Nat) (x : RingX) : (setRingX s c r x).therm = s.therm := rfl
@[simp] theorem setRingX_rails (c r : Nat) (x : RingX) : (setRingX s c r x).rails = s.rails := rfl
@[simp] theorem setRingX_pwrGood (c r : Nat) (x : RingX) : (setRingX s c r x).pwrGood = s.pwrGood := rfl
@[simp] theorem setRingX_mgmt (c r : Nat) (x : RingX) : (setRingX s c r x).mgmt = s.mgmt := rfl
@[simp] theorem setRingX_sec (c r : Nat) (x : RingX) : (setRingX s c r x).sec = s.sec := rfl
@[simp] theorem setRingX_mbx (c r : Nat) (x : RingX) : (setRingX s c r x).mbx = s.mbx := rfl
@[simp] theorem setRingX_dbgData (c r : Nat) (x : RingX) : (setRingX s c r x).dbgData = s.dbgData := rfl
@[simp] theorem setRingX_pending (c r : Nat) (x : RingX) : (setRingX s c r x).pending = s.pending := rfl

/-! ### setPoison -/

@[simp] theorem setPoison_part (a n : Nat) (p : Bool) : (setPoison s a n p).part = s.part := rfl
@[simp] theorem setPoison_tick (a n : Nat) (p : Bool) : (setPoison s a n p).tick = s.tick := rfl
@[simp] theorem setPoison_fieldLost (a n : Nat) (p : Bool) : (setPoison s a n p).fieldLost = s.fieldLost := rfl
@[simp] theorem setPoison_sscCount (a n : Nat) (p : Bool) : (setPoison s a n p).sscCount = s.sscCount := rfl
@[simp] theorem setPoison_regs (a n : Nat) (p : Bool) : (setPoison s a n p).regs = s.regs := rfl
@[simp] theorem setPoison_hiLatch (a n : Nat) (p : Bool) : (setPoison s a n p).hiLatch = s.hiLatch := rfl
@[simp] theorem setPoison_mem (a n : Nat) (p : Bool) : (setPoison s a n p).mem = s.mem := rfl
@[simp] theorem setPoison_hostMem (a n : Nat) (p : Bool) : (setPoison s a n p).hostMem = s.hostMem := rfl
@[simp] theorem setPoison_fatalQ (a n : Nat) (p : Bool) : (setPoison s a n p).fatalQ = s.fatalQ := rfl
@[simp] theorem setPoison_ordQ (a n : Nat) (p : Bool) : (setPoison s a n p).ordQ = s.ordQ := rfl
@[simp] theorem setPoison_hrep (a n : Nat) (p : Bool) : (setPoison s a n p).hrep = s.hrep := rfl
@[simp] theorem setPoison_repDropped (a n : Nat) (p : Bool) : (setPoison s a n p).repDropped = s.repDropped := rfl
@[simp] theorem setPoison_free (a n : Nat) (p : Bool) : (setPoison s a n p).free = s.free := rfl
@[simp] theorem setPoison_out (a n : Nat) (p : Bool) : (setPoison s a n p).out = s.out := rfl
@[simp] theorem setPoison_intLast (a n : Nat) (p : Bool) : (setPoison s a n p).intLast = s.intLast := rfl
@[simp] theorem setPoison_intHeld (a n : Nat) (p : Bool) : (setPoison s a n p).intHeld = s.intHeld := rfl
@[simp] theorem setPoison_pace (a n : Nat) (p : Bool) : (setPoison s a n p).pace = s.pace := rfl
@[simp] theorem setPoison_mesh (a n : Nat) (p : Bool) : (setPoison s a n p).mesh = s.mesh := rfl
@[simp] theorem setPoison_flitSeq (a n : Nat) (p : Bool) : (setPoison s a n p).flitSeq = s.flitSeq := rfl
@[simp] theorem setPoison_cores (a n : Nat) (p : Bool) : (setPoison s a n p).cores = s.cores := rfl
@[simp] theorem setPoison_banks (a n : Nat) (p : Bool) : (setPoison s a n p).banks = s.banks := rfl
@[simp] theorem setPoison_bankErr (a n : Nat) (p : Bool) : (setPoison s a n p).bankErr = s.bankErr := rfl
@[simp] theorem setPoison_parErr (a n : Nat) (p : Bool) : (setPoison s a n p).parErr = s.parErr := rfl
@[simp] theorem setPoison_gongs (a n : Nat) (p : Bool) : (setPoison s a n p).gongs = s.gongs := rfl
@[simp] theorem setPoison_shareRecs (a n : Nat) (p : Bool) : (setPoison s a n p).shareRecs = s.shareRecs := rfl
@[simp] theorem setPoison_rowMaps (a n : Nat) (p : Bool) : (setPoison s a n p).rowMaps = s.rowMaps := rfl
@[simp] theorem setPoison_strms (a n : Nat) (p : Bool) : (setPoison s a n p).strms = s.strms := rfl
@[simp] theorem setPoison_cals (a n : Nat) (p : Bool) : (setPoison s a n p).cals = s.cals := rfl
@[simp] theorem setPoison_dmas (a n : Nat) (p : Bool) : (setPoison s a n p).dmas = s.dmas := rfl
@[simp] theorem setPoison_dmaRecs (a n : Nat) (p : Bool) : (setPoison s a n p).dmaRecs = s.dmaRecs := rfl
@[simp] theorem setPoison_segCopies (a n : Nat) (p : Bool) : (setPoison s a n p).segCopies = s.segCopies := rfl
@[simp] theorem setPoison_chains (a n : Nat) (p : Bool) : (setPoison s a n p).chains = s.chains := rfl
@[simp] theorem setPoison_segCache (a n : Nat) (p : Bool) : (setPoison s a n p).segCache = s.segCache := rfl
@[simp] theorem setPoison_cvus (a n : Nat) (p : Bool) : (setPoison s a n p).cvus = s.cvus := rfl
@[simp] theorem setPoison_flt (a n : Nat) (p : Bool) : (setPoison s a n p).flt = s.flt := rfl
@[simp] theorem setPoison_zlinks (a n : Nat) (p : Bool) : (setPoison s a n p).zlinks = s.zlinks := rfl
@[simp] theorem setPoison_pair (a n : Nat) (p : Bool) : (setPoison s a n p).pair = s.pair := rfl
@[simp] theorem setPoison_self (a n : Nat) (p : Bool) : (setPoison s a n p).self = s.self := rfl
@[simp] theorem setPoison_life (a n : Nat) (p : Bool) : (setPoison s a n p).life = s.life := rfl
@[simp] theorem setPoison_timers (a n : Nat) (p : Bool) : (setPoison s a n p).timers = s.timers := rfl
@[simp] theorem setPoison_sscPhase (a n : Nat) (p : Bool) : (setPoison s a n p).sscPhase = s.sscPhase := rfl
@[simp] theorem setPoison_rtcPhase (a n : Nat) (p : Bool) : (setPoison s a n p).rtcPhase = s.rtcPhase := rfl
@[simp] theorem setPoison_dms (a n : Nat) (p : Bool) : (setPoison s a n p).dms = s.dms := rfl
@[simp] theorem setPoison_act (a n : Nat) (p : Bool) : (setPoison s a n p).act = s.act := rfl
@[simp] theorem setPoison_ports (a n : Nat) (p : Bool) : (setPoison s a n p).ports = s.ports := rfl
@[simp] theorem setPoison_therm (a n : Nat) (p : Bool) : (setPoison s a n p).therm = s.therm := rfl
@[simp] theorem setPoison_rails (a n : Nat) (p : Bool) : (setPoison s a n p).rails = s.rails := rfl
@[simp] theorem setPoison_pwrGood (a n : Nat) (p : Bool) : (setPoison s a n p).pwrGood = s.pwrGood := rfl
@[simp] theorem setPoison_mgmt (a n : Nat) (p : Bool) : (setPoison s a n p).mgmt = s.mgmt := rfl
@[simp] theorem setPoison_sec (a n : Nat) (p : Bool) : (setPoison s a n p).sec = s.sec := rfl
@[simp] theorem setPoison_mbx (a n : Nat) (p : Bool) : (setPoison s a n p).mbx = s.mbx := rfl
@[simp] theorem setPoison_dbgData (a n : Nat) (p : Bool) : (setPoison s a n p).dbgData = s.dbgData := rfl
@[simp] theorem setPoison_pending (a n : Nat) (p : Bool) : (setPoison s a n p).pending = s.pending := rfl

/-! ### setStrm -/

@[simp] theorem setStrm_part (k : Nat) (x : Strm) : (setStrm s k x).part = s.part := rfl
@[simp] theorem setStrm_tick (k : Nat) (x : Strm) : (setStrm s k x).tick = s.tick := rfl
@[simp] theorem setStrm_fieldLost (k : Nat) (x : Strm) : (setStrm s k x).fieldLost = s.fieldLost := rfl
@[simp] theorem setStrm_sscCount (k : Nat) (x : Strm) : (setStrm s k x).sscCount = s.sscCount := rfl
@[simp] theorem setStrm_regs (k : Nat) (x : Strm) : (setStrm s k x).regs = s.regs := rfl
@[simp] theorem setStrm_hiLatch (k : Nat) (x : Strm) : (setStrm s k x).hiLatch = s.hiLatch := rfl
@[simp] theorem setStrm_mem (k : Nat) (x : Strm) : (setStrm s k x).mem = s.mem := rfl
@[simp] theorem setStrm_hostMem (k : Nat) (x : Strm) : (setStrm s k x).hostMem = s.hostMem := rfl
@[simp] theorem setStrm_fatalQ (k : Nat) (x : Strm) : (setStrm s k x).fatalQ = s.fatalQ := rfl
@[simp] theorem setStrm_ordQ (k : Nat) (x : Strm) : (setStrm s k x).ordQ = s.ordQ := rfl
@[simp] theorem setStrm_hrep (k : Nat) (x : Strm) : (setStrm s k x).hrep = s.hrep := rfl
@[simp] theorem setStrm_repDropped (k : Nat) (x : Strm) : (setStrm s k x).repDropped = s.repDropped := rfl
@[simp] theorem setStrm_free (k : Nat) (x : Strm) : (setStrm s k x).free = s.free := rfl
@[simp] theorem setStrm_out (k : Nat) (x : Strm) : (setStrm s k x).out = s.out := rfl
@[simp] theorem setStrm_intLast (k : Nat) (x : Strm) : (setStrm s k x).intLast = s.intLast := rfl
@[simp] theorem setStrm_intHeld (k : Nat) (x : Strm) : (setStrm s k x).intHeld = s.intHeld := rfl
@[simp] theorem setStrm_pace (k : Nat) (x : Strm) : (setStrm s k x).pace = s.pace := rfl
@[simp] theorem setStrm_mesh (k : Nat) (x : Strm) : (setStrm s k x).mesh = s.mesh := rfl
@[simp] theorem setStrm_flitSeq (k : Nat) (x : Strm) : (setStrm s k x).flitSeq = s.flitSeq := rfl
@[simp] theorem setStrm_cores (k : Nat) (x : Strm) : (setStrm s k x).cores = s.cores := rfl
@[simp] theorem setStrm_banks (k : Nat) (x : Strm) : (setStrm s k x).banks = s.banks := rfl
@[simp] theorem setStrm_bankErr (k : Nat) (x : Strm) : (setStrm s k x).bankErr = s.bankErr := rfl
@[simp] theorem setStrm_poison (k : Nat) (x : Strm) : (setStrm s k x).poison = s.poison := rfl
@[simp] theorem setStrm_parErr (k : Nat) (x : Strm) : (setStrm s k x).parErr = s.parErr := rfl
@[simp] theorem setStrm_gongs (k : Nat) (x : Strm) : (setStrm s k x).gongs = s.gongs := rfl
@[simp] theorem setStrm_shareRecs (k : Nat) (x : Strm) : (setStrm s k x).shareRecs = s.shareRecs := rfl
@[simp] theorem setStrm_rowMaps (k : Nat) (x : Strm) : (setStrm s k x).rowMaps = s.rowMaps := rfl
@[simp] theorem setStrm_cals (k : Nat) (x : Strm) : (setStrm s k x).cals = s.cals := rfl
@[simp] theorem setStrm_dmas (k : Nat) (x : Strm) : (setStrm s k x).dmas = s.dmas := rfl
@[simp] theorem setStrm_dmaRecs (k : Nat) (x : Strm) : (setStrm s k x).dmaRecs = s.dmaRecs := rfl
@[simp] theorem setStrm_segCopies (k : Nat) (x : Strm) : (setStrm s k x).segCopies = s.segCopies := rfl
@[simp] theorem setStrm_chains (k : Nat) (x : Strm) : (setStrm s k x).chains = s.chains := rfl
@[simp] theorem setStrm_segCache (k : Nat) (x : Strm) : (setStrm s k x).segCache = s.segCache := rfl
@[simp] theorem setStrm_cvus (k : Nat) (x : Strm) : (setStrm s k x).cvus = s.cvus := rfl
@[simp] theorem setStrm_flt (k : Nat) (x : Strm) : (setStrm s k x).flt = s.flt := rfl
@[simp] theorem setStrm_zlinks (k : Nat) (x : Strm) : (setStrm s k x).zlinks = s.zlinks := rfl
@[simp] theorem setStrm_pair (k : Nat) (x : Strm) : (setStrm s k x).pair = s.pair := rfl
@[simp] theorem setStrm_self (k : Nat) (x : Strm) : (setStrm s k x).self = s.self := rfl
@[simp] theorem setStrm_life (k : Nat) (x : Strm) : (setStrm s k x).life = s.life := rfl
@[simp] theorem setStrm_timers (k : Nat) (x : Strm) : (setStrm s k x).timers = s.timers := rfl
@[simp] theorem setStrm_sscPhase (k : Nat) (x : Strm) : (setStrm s k x).sscPhase = s.sscPhase := rfl
@[simp] theorem setStrm_rtcPhase (k : Nat) (x : Strm) : (setStrm s k x).rtcPhase = s.rtcPhase := rfl
@[simp] theorem setStrm_dms (k : Nat) (x : Strm) : (setStrm s k x).dms = s.dms := rfl
@[simp] theorem setStrm_act (k : Nat) (x : Strm) : (setStrm s k x).act = s.act := rfl
@[simp] theorem setStrm_ports (k : Nat) (x : Strm) : (setStrm s k x).ports = s.ports := rfl
@[simp] theorem setStrm_therm (k : Nat) (x : Strm) : (setStrm s k x).therm = s.therm := rfl
@[simp] theorem setStrm_rails (k : Nat) (x : Strm) : (setStrm s k x).rails = s.rails := rfl
@[simp] theorem setStrm_pwrGood (k : Nat) (x : Strm) : (setStrm s k x).pwrGood = s.pwrGood := rfl
@[simp] theorem setStrm_mgmt (k : Nat) (x : Strm) : (setStrm s k x).mgmt = s.mgmt := rfl
@[simp] theorem setStrm_sec (k : Nat) (x : Strm) : (setStrm s k x).sec = s.sec := rfl
@[simp] theorem setStrm_mbx (k : Nat) (x : Strm) : (setStrm s k x).mbx = s.mbx := rfl
@[simp] theorem setStrm_dbgData (k : Nat) (x : Strm) : (setStrm s k x).dbgData = s.dbgData := rfl
@[simp] theorem setStrm_pending (k : Nat) (x : Strm) : (setStrm s k x).pending = s.pending := rfl

/-! ### modStrm -/

@[simp] theorem modStrm_part (k : Nat) (f : Strm → Strm) : (modStrm s k f).part = s.part := rfl
@[simp] theorem modStrm_tick (k : Nat) (f : Strm → Strm) : (modStrm s k f).tick = s.tick := rfl
@[simp] theorem modStrm_fieldLost (k : Nat) (f : Strm → Strm) : (modStrm s k f).fieldLost = s.fieldLost := rfl
@[simp] theorem modStrm_sscCount (k : Nat) (f : Strm → Strm) : (modStrm s k f).sscCount = s.sscCount := rfl
@[simp] theorem modStrm_regs (k : Nat) (f : Strm → Strm) : (modStrm s k f).regs = s.regs := rfl
@[simp] theorem modStrm_hiLatch (k : Nat) (f : Strm → Strm) : (modStrm s k f).hiLatch = s.hiLatch := rfl
@[simp] theorem modStrm_mem (k : Nat) (f : Strm → Strm) : (modStrm s k f).mem = s.mem := rfl
@[simp] theorem modStrm_hostMem (k : Nat) (f : Strm → Strm) : (modStrm s k f).hostMem = s.hostMem := rfl
@[simp] theorem modStrm_fatalQ (k : Nat) (f : Strm → Strm) : (modStrm s k f).fatalQ = s.fatalQ := rfl
@[simp] theorem modStrm_ordQ (k : Nat) (f : Strm → Strm) : (modStrm s k f).ordQ = s.ordQ := rfl
@[simp] theorem modStrm_hrep (k : Nat) (f : Strm → Strm) : (modStrm s k f).hrep = s.hrep := rfl
@[simp] theorem modStrm_repDropped (k : Nat) (f : Strm → Strm) : (modStrm s k f).repDropped = s.repDropped := rfl
@[simp] theorem modStrm_free (k : Nat) (f : Strm → Strm) : (modStrm s k f).free = s.free := rfl
@[simp] theorem modStrm_out (k : Nat) (f : Strm → Strm) : (modStrm s k f).out = s.out := rfl
@[simp] theorem modStrm_intLast (k : Nat) (f : Strm → Strm) : (modStrm s k f).intLast = s.intLast := rfl
@[simp] theorem modStrm_intHeld (k : Nat) (f : Strm → Strm) : (modStrm s k f).intHeld = s.intHeld := rfl
@[simp] theorem modStrm_pace (k : Nat) (f : Strm → Strm) : (modStrm s k f).pace = s.pace := rfl
@[simp] theorem modStrm_mesh (k : Nat) (f : Strm → Strm) : (modStrm s k f).mesh = s.mesh := rfl
@[simp] theorem modStrm_flitSeq (k : Nat) (f : Strm → Strm) : (modStrm s k f).flitSeq = s.flitSeq := rfl
@[simp] theorem modStrm_cores (k : Nat) (f : Strm → Strm) : (modStrm s k f).cores = s.cores := rfl
@[simp] theorem modStrm_banks (k : Nat) (f : Strm → Strm) : (modStrm s k f).banks = s.banks := rfl
@[simp] theorem modStrm_bankErr (k : Nat) (f : Strm → Strm) : (modStrm s k f).bankErr = s.bankErr := rfl
@[simp] theorem modStrm_poison (k : Nat) (f : Strm → Strm) : (modStrm s k f).poison = s.poison := rfl
@[simp] theorem modStrm_parErr (k : Nat) (f : Strm → Strm) : (modStrm s k f).parErr = s.parErr := rfl
@[simp] theorem modStrm_gongs (k : Nat) (f : Strm → Strm) : (modStrm s k f).gongs = s.gongs := rfl
@[simp] theorem modStrm_shareRecs (k : Nat) (f : Strm → Strm) : (modStrm s k f).shareRecs = s.shareRecs := rfl
@[simp] theorem modStrm_rowMaps (k : Nat) (f : Strm → Strm) : (modStrm s k f).rowMaps = s.rowMaps := rfl
@[simp] theorem modStrm_cals (k : Nat) (f : Strm → Strm) : (modStrm s k f).cals = s.cals := rfl
@[simp] theorem modStrm_dmas (k : Nat) (f : Strm → Strm) : (modStrm s k f).dmas = s.dmas := rfl
@[simp] theorem modStrm_dmaRecs (k : Nat) (f : Strm → Strm) : (modStrm s k f).dmaRecs = s.dmaRecs := rfl
@[simp] theorem modStrm_segCopies (k : Nat) (f : Strm → Strm) : (modStrm s k f).segCopies = s.segCopies := rfl
@[simp] theorem modStrm_chains (k : Nat) (f : Strm → Strm) : (modStrm s k f).chains = s.chains := rfl
@[simp] theorem modStrm_segCache (k : Nat) (f : Strm → Strm) : (modStrm s k f).segCache = s.segCache := rfl
@[simp] theorem modStrm_cvus (k : Nat) (f : Strm → Strm) : (modStrm s k f).cvus = s.cvus := rfl
@[simp] theorem modStrm_flt (k : Nat) (f : Strm → Strm) : (modStrm s k f).flt = s.flt := rfl
@[simp] theorem modStrm_zlinks (k : Nat) (f : Strm → Strm) : (modStrm s k f).zlinks = s.zlinks := rfl
@[simp] theorem modStrm_pair (k : Nat) (f : Strm → Strm) : (modStrm s k f).pair = s.pair := rfl
@[simp] theorem modStrm_self (k : Nat) (f : Strm → Strm) : (modStrm s k f).self = s.self := rfl
@[simp] theorem modStrm_life (k : Nat) (f : Strm → Strm) : (modStrm s k f).life = s.life := rfl
@[simp] theorem modStrm_timers (k : Nat) (f : Strm → Strm) : (modStrm s k f).timers = s.timers := rfl
@[simp] theorem modStrm_sscPhase (k : Nat) (f : Strm → Strm) : (modStrm s k f).sscPhase = s.sscPhase := rfl
@[simp] theorem modStrm_rtcPhase (k : Nat) (f : Strm → Strm) : (modStrm s k f).rtcPhase = s.rtcPhase := rfl
@[simp] theorem modStrm_dms (k : Nat) (f : Strm → Strm) : (modStrm s k f).dms = s.dms := rfl
@[simp] theorem modStrm_act (k : Nat) (f : Strm → Strm) : (modStrm s k f).act = s.act := rfl
@[simp] theorem modStrm_ports (k : Nat) (f : Strm → Strm) : (modStrm s k f).ports = s.ports := rfl
@[simp] theorem modStrm_therm (k : Nat) (f : Strm → Strm) : (modStrm s k f).therm = s.therm := rfl
@[simp] theorem modStrm_rails (k : Nat) (f : Strm → Strm) : (modStrm s k f).rails = s.rails := rfl
@[simp] theorem modStrm_pwrGood (k : Nat) (f : Strm → Strm) : (modStrm s k f).pwrGood = s.pwrGood := rfl
@[simp] theorem modStrm_mgmt (k : Nat) (f : Strm → Strm) : (modStrm s k f).mgmt = s.mgmt := rfl
@[simp] theorem modStrm_sec (k : Nat) (f : Strm → Strm) : (modStrm s k f).sec = s.sec := rfl
@[simp] theorem modStrm_mbx (k : Nat) (f : Strm → Strm) : (modStrm s k f).mbx = s.mbx := rfl
@[simp] theorem modStrm_dbgData (k : Nat) (f : Strm → Strm) : (modStrm s k f).dbgData = s.dbgData := rfl
@[simp] theorem modStrm_pending (k : Nat) (f : Strm → Strm) : (modStrm s k f).pending = s.pending := rfl

/-! ### modStripe -/

@[simp] theorem modStripe_part (k n : Nat) (f : Stripe → Stripe) : (modStripe s k n f).part = s.part := rfl
@[simp] theorem modStripe_tick (k n : Nat) (f : Stripe → Stripe) : (modStripe s k n f).tick = s.tick := rfl
@[simp] theorem modStripe_fieldLost (k n : Nat) (f : Stripe → Stripe) : (modStripe s k n f).fieldLost = s.fieldLost := rfl
@[simp] theorem modStripe_sscCount (k n : Nat) (f : Stripe → Stripe) : (modStripe s k n f).sscCount = s.sscCount := rfl
@[simp] theorem modStripe_regs (k n : Nat) (f : Stripe → Stripe) : (modStripe s k n f).regs = s.regs := rfl
@[simp] theorem modStripe_hiLatch (k n : Nat) (f : Stripe → Stripe) : (modStripe s k n f).hiLatch = s.hiLatch := rfl
@[simp] theorem modStripe_mem (k n : Nat) (f : Stripe → Stripe) : (modStripe s k n f).mem = s.mem := rfl
@[simp] theorem modStripe_hostMem (k n : Nat) (f : Stripe → Stripe) : (modStripe s k n f).hostMem = s.hostMem := rfl
@[simp] theorem modStripe_fatalQ (k n : Nat) (f : Stripe → Stripe) : (modStripe s k n f).fatalQ = s.fatalQ := rfl
@[simp] theorem modStripe_ordQ (k n : Nat) (f : Stripe → Stripe) : (modStripe s k n f).ordQ = s.ordQ := rfl
@[simp] theorem modStripe_hrep (k n : Nat) (f : Stripe → Stripe) : (modStripe s k n f).hrep = s.hrep := rfl
@[simp] theorem modStripe_repDropped (k n : Nat) (f : Stripe → Stripe) : (modStripe s k n f).repDropped = s.repDropped := rfl
@[simp] theorem modStripe_free (k n : Nat) (f : Stripe → Stripe) : (modStripe s k n f).free = s.free := rfl
@[simp] theorem modStripe_out (k n : Nat) (f : Stripe → Stripe) : (modStripe s k n f).out = s.out := rfl
@[simp] theorem modStripe_intLast (k n : Nat) (f : Stripe → Stripe) : (modStripe s k n f).intLast = s.intLast := rfl
@[simp] theorem modStripe_intHeld (k n : Nat) (f : Stripe → Stripe) : (modStripe s k n f).intHeld = s.intHeld := rfl
@[simp] theorem modStripe_pace (k n : Nat) (f : Stripe → Stripe) : (modStripe s k n f).pace = s.pace := rfl
@[simp] theorem modStripe_mesh (k n : Nat) (f : Stripe → Stripe) : (modStripe s k n f).mesh = s.mesh := rfl
@[simp] theorem modStripe_flitSeq (k n : Nat) (f : Stripe → Stripe) : (modStripe s k n f).flitSeq = s.flitSeq := rfl
@[simp] theorem modStripe_cores (k n : Nat) (f : Stripe → Stripe) : (modStripe s k n f).cores = s.cores := rfl
@[simp] theorem modStripe_banks (k n : Nat) (f : Stripe → Stripe) : (modStripe s k n f).banks = s.banks := rfl
@[simp] theorem modStripe_bankErr (k n : Nat) (f : Stripe → Stripe) : (modStripe s k n f).bankErr = s.bankErr := rfl
@[simp] theorem modStripe_poison (k n : Nat) (f : Stripe → Stripe) : (modStripe s k n f).poison = s.poison := rfl
@[simp] theorem modStripe_parErr (k n : Nat) (f : Stripe → Stripe) : (modStripe s k n f).parErr = s.parErr := rfl
@[simp] theorem modStripe_gongs (k n : Nat) (f : Stripe → Stripe) : (modStripe s k n f).gongs = s.gongs := rfl
@[simp] theorem modStripe_shareRecs (k n : Nat) (f : Stripe → Stripe) : (modStripe s k n f).shareRecs = s.shareRecs := rfl
@[simp] theorem modStripe_rowMaps (k n : Nat) (f : Stripe → Stripe) : (modStripe s k n f).rowMaps = s.rowMaps := rfl
@[simp] theorem modStripe_cals (k n : Nat) (f : Stripe → Stripe) : (modStripe s k n f).cals = s.cals := rfl
@[simp] theorem modStripe_dmas (k n : Nat) (f : Stripe → Stripe) : (modStripe s k n f).dmas = s.dmas := rfl
@[simp] theorem modStripe_dmaRecs (k n : Nat) (f : Stripe → Stripe) : (modStripe s k n f).dmaRecs = s.dmaRecs := rfl
@[simp] theorem modStripe_segCopies (k n : Nat) (f : Stripe → Stripe) : (modStripe s k n f).segCopies = s.segCopies := rfl
@[simp] theorem modStripe_chains (k n : Nat) (f : Stripe → Stripe) : (modStripe s k n f).chains = s.chains := rfl
@[simp] theorem modStripe_segCache (k n : Nat) (f : Stripe → Stripe) : (modStripe s k n f).segCache = s.segCache := rfl
@[simp] theorem modStripe_cvus (k n : Nat) (f : Stripe → Stripe) : (modStripe s k n f).cvus = s.cvus := rfl
@[simp] theorem modStripe_flt (k n : Nat) (f : Stripe → Stripe) : (modStripe s k n f).flt = s.flt := rfl
@[simp] theorem modStripe_zlinks (k n : Nat) (f : Stripe → Stripe) : (modStripe s k n f).zlinks = s.zlinks := rfl
@[simp] theorem modStripe_pair (k n : Nat) (f : Stripe → Stripe) : (modStripe s k n f).pair = s.pair := rfl
@[simp] theorem modStripe_self (k n : Nat) (f : Stripe → Stripe) : (modStripe s k n f).self = s.self := rfl
@[simp] theorem modStripe_life (k n : Nat) (f : Stripe → Stripe) : (modStripe s k n f).life = s.life := rfl
@[simp] theorem modStripe_timers (k n : Nat) (f : Stripe → Stripe) : (modStripe s k n f).timers = s.timers := rfl
@[simp] theorem modStripe_sscPhase (k n : Nat) (f : Stripe → Stripe) : (modStripe s k n f).sscPhase = s.sscPhase := rfl
@[simp] theorem modStripe_rtcPhase (k n : Nat) (f : Stripe → Stripe) : (modStripe s k n f).rtcPhase = s.rtcPhase := rfl
@[simp] theorem modStripe_dms (k n : Nat) (f : Stripe → Stripe) : (modStripe s k n f).dms = s.dms := rfl
@[simp] theorem modStripe_act (k n : Nat) (f : Stripe → Stripe) : (modStripe s k n f).act = s.act := rfl
@[simp] theorem modStripe_ports (k n : Nat) (f : Stripe → Stripe) : (modStripe s k n f).ports = s.ports := rfl
@[simp] theorem modStripe_therm (k n : Nat) (f : Stripe → Stripe) : (modStripe s k n f).therm = s.therm := rfl
@[simp] theorem modStripe_rails (k n : Nat) (f : Stripe → Stripe) : (modStripe s k n f).rails = s.rails := rfl
@[simp] theorem modStripe_pwrGood (k n : Nat) (f : Stripe → Stripe) : (modStripe s k n f).pwrGood = s.pwrGood := rfl
@[simp] theorem modStripe_mgmt (k n : Nat) (f : Stripe → Stripe) : (modStripe s k n f).mgmt = s.mgmt := rfl
@[simp] theorem modStripe_sec (k n : Nat) (f : Stripe → Stripe) : (modStripe s k n f).sec = s.sec := rfl
@[simp] theorem modStripe_mbx (k n : Nat) (f : Stripe → Stripe) : (modStripe s k n f).mbx = s.mbx := rfl
@[simp] theorem modStripe_dbgData (k n : Nat) (f : Stripe → Stripe) : (modStripe s k n f).dbgData = s.dbgData := rfl
@[simp] theorem modStripe_pending (k n : Nat) (f : Stripe → Stripe) : (modStripe s k n f).pending = s.pending := rfl

/-! ### setCal -/

@[simp] theorem setCal_part (k : Nat) (c : CalStrm) : (setCal s k c).part = s.part := by simp only [setCal, wr_part]
@[simp] theorem setCal_tick (k : Nat) (c : CalStrm) : (setCal s k c).tick = s.tick := by simp only [setCal, wr_tick]
@[simp] theorem setCal_fieldLost (k : Nat) (c : CalStrm) : (setCal s k c).fieldLost = s.fieldLost := by simp only [setCal, wr_fieldLost]
@[simp] theorem setCal_sscCount (k : Nat) (c : CalStrm) : (setCal s k c).sscCount = s.sscCount := by simp only [setCal, wr_sscCount]
@[simp] theorem setCal_hiLatch (k : Nat) (c : CalStrm) : (setCal s k c).hiLatch = s.hiLatch := by simp only [setCal, wr_hiLatch]
@[simp] theorem setCal_mem (k : Nat) (c : CalStrm) : (setCal s k c).mem = s.mem := by simp only [setCal, wr_mem]
@[simp] theorem setCal_hostMem (k : Nat) (c : CalStrm) : (setCal s k c).hostMem = s.hostMem := by simp only [setCal, wr_hostMem]
@[simp] theorem setCal_fatalQ (k : Nat) (c : CalStrm) : (setCal s k c).fatalQ = s.fatalQ := by simp only [setCal, wr_fatalQ]
@[simp] theorem setCal_ordQ (k : Nat) (c : CalStrm) : (setCal s k c).ordQ = s.ordQ := by simp only [setCal, wr_ordQ]
@[simp] theorem setCal_hrep (k : Nat) (c : CalStrm) : (setCal s k c).hrep = s.hrep := by simp only [setCal, wr_hrep]
@[simp] theorem setCal_repDropped (k : Nat) (c : CalStrm) : (setCal s k c).repDropped = s.repDropped := by simp only [setCal, wr_repDropped]
@[simp] theorem setCal_free (k : Nat) (c : CalStrm) : (setCal s k c).free = s.free := by simp only [setCal, wr_free]
@[simp] theorem setCal_out (k : Nat) (c : CalStrm) : (setCal s k c).out = s.out := by simp only [setCal, wr_out]
@[simp] theorem setCal_intLast (k : Nat) (c : CalStrm) : (setCal s k c).intLast = s.intLast := by simp only [setCal, wr_intLast]
@[simp] theorem setCal_intHeld (k : Nat) (c : CalStrm) : (setCal s k c).intHeld = s.intHeld := by simp only [setCal, wr_intHeld]
@[simp] theorem setCal_pace (k : Nat) (c : CalStrm) : (setCal s k c).pace = s.pace := by simp only [setCal, wr_pace]
@[simp] theorem setCal_mesh (k : Nat) (c : CalStrm) : (setCal s k c).mesh = s.mesh := by simp only [setCal, wr_mesh]
@[simp] theorem setCal_flitSeq (k : Nat) (c : CalStrm) : (setCal s k c).flitSeq = s.flitSeq := by simp only [setCal, wr_flitSeq]
@[simp] theorem setCal_cores (k : Nat) (c : CalStrm) : (setCal s k c).cores = s.cores := by simp only [setCal, wr_cores]
@[simp] theorem setCal_banks (k : Nat) (c : CalStrm) : (setCal s k c).banks = s.banks := by simp only [setCal, wr_banks]
@[simp] theorem setCal_bankErr (k : Nat) (c : CalStrm) : (setCal s k c).bankErr = s.bankErr := by simp only [setCal, wr_bankErr]
@[simp] theorem setCal_poison (k : Nat) (c : CalStrm) : (setCal s k c).poison = s.poison := by simp only [setCal, wr_poison]
@[simp] theorem setCal_parErr (k : Nat) (c : CalStrm) : (setCal s k c).parErr = s.parErr := by simp only [setCal, wr_parErr]
@[simp] theorem setCal_gongs (k : Nat) (c : CalStrm) : (setCal s k c).gongs = s.gongs := by simp only [setCal, wr_gongs]
@[simp] theorem setCal_shareRecs (k : Nat) (c : CalStrm) : (setCal s k c).shareRecs = s.shareRecs := by simp only [setCal, wr_shareRecs]
@[simp] theorem setCal_rowMaps (k : Nat) (c : CalStrm) : (setCal s k c).rowMaps = s.rowMaps := by simp only [setCal, wr_rowMaps]
@[simp] theorem setCal_strms (k : Nat) (c : CalStrm) : (setCal s k c).strms = s.strms := by simp only [setCal, wr_strms]
@[simp] theorem setCal_dmas (k : Nat) (c : CalStrm) : (setCal s k c).dmas = s.dmas := by simp only [setCal, wr_dmas]
@[simp] theorem setCal_dmaRecs (k : Nat) (c : CalStrm) : (setCal s k c).dmaRecs = s.dmaRecs := by simp only [setCal, wr_dmaRecs]
@[simp] theorem setCal_segCopies (k : Nat) (c : CalStrm) : (setCal s k c).segCopies = s.segCopies := by simp only [setCal, wr_segCopies]
@[simp] theorem setCal_chains (k : Nat) (c : CalStrm) : (setCal s k c).chains = s.chains := by simp only [setCal, wr_chains]
@[simp] theorem setCal_segCache (k : Nat) (c : CalStrm) : (setCal s k c).segCache = s.segCache := by simp only [setCal, wr_segCache]
@[simp] theorem setCal_cvus (k : Nat) (c : CalStrm) : (setCal s k c).cvus = s.cvus := by simp only [setCal, wr_cvus]
@[simp] theorem setCal_flt (k : Nat) (c : CalStrm) : (setCal s k c).flt = s.flt := by simp only [setCal, wr_flt]
@[simp] theorem setCal_zlinks (k : Nat) (c : CalStrm) : (setCal s k c).zlinks = s.zlinks := by simp only [setCal, wr_zlinks]
@[simp] theorem setCal_pair (k : Nat) (c : CalStrm) : (setCal s k c).pair = s.pair := by simp only [setCal, wr_pair]
@[simp] theorem setCal_self (k : Nat) (c : CalStrm) : (setCal s k c).self = s.self := by simp only [setCal, wr_self]
@[simp] theorem setCal_life (k : Nat) (c : CalStrm) : (setCal s k c).life = s.life := by simp only [setCal, wr_life]
@[simp] theorem setCal_timers (k : Nat) (c : CalStrm) : (setCal s k c).timers = s.timers := by simp only [setCal, wr_timers]
@[simp] theorem setCal_sscPhase (k : Nat) (c : CalStrm) : (setCal s k c).sscPhase = s.sscPhase := by simp only [setCal, wr_sscPhase]
@[simp] theorem setCal_rtcPhase (k : Nat) (c : CalStrm) : (setCal s k c).rtcPhase = s.rtcPhase := by simp only [setCal, wr_rtcPhase]
@[simp] theorem setCal_dms (k : Nat) (c : CalStrm) : (setCal s k c).dms = s.dms := by simp only [setCal, wr_dms]
@[simp] theorem setCal_act (k : Nat) (c : CalStrm) : (setCal s k c).act = s.act := by simp only [setCal, wr_act]
@[simp] theorem setCal_ports (k : Nat) (c : CalStrm) : (setCal s k c).ports = s.ports := by simp only [setCal, wr_ports]
@[simp] theorem setCal_therm (k : Nat) (c : CalStrm) : (setCal s k c).therm = s.therm := by simp only [setCal, wr_therm]
@[simp] theorem setCal_rails (k : Nat) (c : CalStrm) : (setCal s k c).rails = s.rails := by simp only [setCal, wr_rails]
@[simp] theorem setCal_pwrGood (k : Nat) (c : CalStrm) : (setCal s k c).pwrGood = s.pwrGood := by simp only [setCal, wr_pwrGood]
@[simp] theorem setCal_mgmt (k : Nat) (c : CalStrm) : (setCal s k c).mgmt = s.mgmt := by simp only [setCal, wr_mgmt]
@[simp] theorem setCal_sec (k : Nat) (c : CalStrm) : (setCal s k c).sec = s.sec := by simp only [setCal, wr_sec]
@[simp] theorem setCal_mbx (k : Nat) (c : CalStrm) : (setCal s k c).mbx = s.mbx := by simp only [setCal, wr_mbx]
@[simp] theorem setCal_dbgData (k : Nat) (c : CalStrm) : (setCal s k c).dbgData = s.dbgData := by simp only [setCal, wr_dbgData]
@[simp] theorem setCal_pending (k : Nat) (c : CalStrm) : (setCal s k c).pending = s.pending := by simp only [setCal, wr_pending]

/-! ### setDma -/

@[simp] theorem setDma_part (c : Nat) (d : DmaCh) : (setDma s c d).part = s.part := by simp only [setDma, wr_part]
@[simp] theorem setDma_tick (c : Nat) (d : DmaCh) : (setDma s c d).tick = s.tick := by simp only [setDma, wr_tick]
@[simp] theorem setDma_fieldLost (c : Nat) (d : DmaCh) : (setDma s c d).fieldLost = s.fieldLost := by simp only [setDma, wr_fieldLost]
@[simp] theorem setDma_sscCount (c : Nat) (d : DmaCh) : (setDma s c d).sscCount = s.sscCount := by simp only [setDma, wr_sscCount]
@[simp] theorem setDma_hiLatch (c : Nat) (d : DmaCh) : (setDma s c d).hiLatch = s.hiLatch := by simp only [setDma, wr_hiLatch]
@[simp] theorem setDma_mem (c : Nat) (d : DmaCh) : (setDma s c d).mem = s.mem := by simp only [setDma, wr_mem]
@[simp] theorem setDma_hostMem (c : Nat) (d : DmaCh) : (setDma s c d).hostMem = s.hostMem := by simp only [setDma, wr_hostMem]
@[simp] theorem setDma_fatalQ (c : Nat) (d : DmaCh) : (setDma s c d).fatalQ = s.fatalQ := by simp only [setDma, wr_fatalQ]
@[simp] theorem setDma_ordQ (c : Nat) (d : DmaCh) : (setDma s c d).ordQ = s.ordQ := by simp only [setDma, wr_ordQ]
@[simp] theorem setDma_hrep (c : Nat) (d : DmaCh) : (setDma s c d).hrep = s.hrep := by simp only [setDma, wr_hrep]
@[simp] theorem setDma_repDropped (c : Nat) (d : DmaCh) : (setDma s c d).repDropped = s.repDropped := by simp only [setDma, wr_repDropped]
@[simp] theorem setDma_free (c : Nat) (d : DmaCh) : (setDma s c d).free = s.free := by simp only [setDma, wr_free]
@[simp] theorem setDma_out (c : Nat) (d : DmaCh) : (setDma s c d).out = s.out := by simp only [setDma, wr_out]
@[simp] theorem setDma_intLast (c : Nat) (d : DmaCh) : (setDma s c d).intLast = s.intLast := by simp only [setDma, wr_intLast]
@[simp] theorem setDma_intHeld (c : Nat) (d : DmaCh) : (setDma s c d).intHeld = s.intHeld := by simp only [setDma, wr_intHeld]
@[simp] theorem setDma_pace (c : Nat) (d : DmaCh) : (setDma s c d).pace = s.pace := by simp only [setDma, wr_pace]
@[simp] theorem setDma_mesh (c : Nat) (d : DmaCh) : (setDma s c d).mesh = s.mesh := by simp only [setDma, wr_mesh]
@[simp] theorem setDma_flitSeq (c : Nat) (d : DmaCh) : (setDma s c d).flitSeq = s.flitSeq := by simp only [setDma, wr_flitSeq]
@[simp] theorem setDma_cores (c : Nat) (d : DmaCh) : (setDma s c d).cores = s.cores := by simp only [setDma, wr_cores]
@[simp] theorem setDma_banks (c : Nat) (d : DmaCh) : (setDma s c d).banks = s.banks := by simp only [setDma, wr_banks]
@[simp] theorem setDma_bankErr (c : Nat) (d : DmaCh) : (setDma s c d).bankErr = s.bankErr := by simp only [setDma, wr_bankErr]
@[simp] theorem setDma_poison (c : Nat) (d : DmaCh) : (setDma s c d).poison = s.poison := by simp only [setDma, wr_poison]
@[simp] theorem setDma_parErr (c : Nat) (d : DmaCh) : (setDma s c d).parErr = s.parErr := by simp only [setDma, wr_parErr]
@[simp] theorem setDma_gongs (c : Nat) (d : DmaCh) : (setDma s c d).gongs = s.gongs := by simp only [setDma, wr_gongs]
@[simp] theorem setDma_shareRecs (c : Nat) (d : DmaCh) : (setDma s c d).shareRecs = s.shareRecs := by simp only [setDma, wr_shareRecs]
@[simp] theorem setDma_rowMaps (c : Nat) (d : DmaCh) : (setDma s c d).rowMaps = s.rowMaps := by simp only [setDma, wr_rowMaps]
@[simp] theorem setDma_strms (c : Nat) (d : DmaCh) : (setDma s c d).strms = s.strms := by simp only [setDma, wr_strms]
@[simp] theorem setDma_cals (c : Nat) (d : DmaCh) : (setDma s c d).cals = s.cals := by simp only [setDma, wr_cals]
@[simp] theorem setDma_dmaRecs (c : Nat) (d : DmaCh) : (setDma s c d).dmaRecs = s.dmaRecs := by simp only [setDma, wr_dmaRecs]
@[simp] theorem setDma_segCopies (c : Nat) (d : DmaCh) : (setDma s c d).segCopies = s.segCopies := by simp only [setDma, wr_segCopies]
@[simp] theorem setDma_chains (c : Nat) (d : DmaCh) : (setDma s c d).chains = s.chains := by simp only [setDma, wr_chains]
@[simp] theorem setDma_segCache (c : Nat) (d : DmaCh) : (setDma s c d).segCache = s.segCache := by simp only [setDma, wr_segCache]
@[simp] theorem setDma_cvus (c : Nat) (d : DmaCh) : (setDma s c d).cvus = s.cvus := by simp only [setDma, wr_cvus]
@[simp] theorem setDma_flt (c : Nat) (d : DmaCh) : (setDma s c d).flt = s.flt := by simp only [setDma, wr_flt]
@[simp] theorem setDma_zlinks (c : Nat) (d : DmaCh) : (setDma s c d).zlinks = s.zlinks := by simp only [setDma, wr_zlinks]
@[simp] theorem setDma_pair (c : Nat) (d : DmaCh) : (setDma s c d).pair = s.pair := by simp only [setDma, wr_pair]
@[simp] theorem setDma_self (c : Nat) (d : DmaCh) : (setDma s c d).self = s.self := by simp only [setDma, wr_self]
@[simp] theorem setDma_life (c : Nat) (d : DmaCh) : (setDma s c d).life = s.life := by simp only [setDma, wr_life]
@[simp] theorem setDma_timers (c : Nat) (d : DmaCh) : (setDma s c d).timers = s.timers := by simp only [setDma, wr_timers]
@[simp] theorem setDma_sscPhase (c : Nat) (d : DmaCh) : (setDma s c d).sscPhase = s.sscPhase := by simp only [setDma, wr_sscPhase]
@[simp] theorem setDma_rtcPhase (c : Nat) (d : DmaCh) : (setDma s c d).rtcPhase = s.rtcPhase := by simp only [setDma, wr_rtcPhase]
@[simp] theorem setDma_dms (c : Nat) (d : DmaCh) : (setDma s c d).dms = s.dms := by simp only [setDma, wr_dms]
@[simp] theorem setDma_act (c : Nat) (d : DmaCh) : (setDma s c d).act = s.act := by simp only [setDma, wr_act]
@[simp] theorem setDma_ports (c : Nat) (d : DmaCh) : (setDma s c d).ports = s.ports := by simp only [setDma, wr_ports]
@[simp] theorem setDma_therm (c : Nat) (d : DmaCh) : (setDma s c d).therm = s.therm := by simp only [setDma, wr_therm]
@[simp] theorem setDma_rails (c : Nat) (d : DmaCh) : (setDma s c d).rails = s.rails := by simp only [setDma, wr_rails]
@[simp] theorem setDma_pwrGood (c : Nat) (d : DmaCh) : (setDma s c d).pwrGood = s.pwrGood := by simp only [setDma, wr_pwrGood]
@[simp] theorem setDma_mgmt (c : Nat) (d : DmaCh) : (setDma s c d).mgmt = s.mgmt := by simp only [setDma, wr_mgmt]
@[simp] theorem setDma_sec (c : Nat) (d : DmaCh) : (setDma s c d).sec = s.sec := by simp only [setDma, wr_sec]
@[simp] theorem setDma_mbx (c : Nat) (d : DmaCh) : (setDma s c d).mbx = s.mbx := by simp only [setDma, wr_mbx]
@[simp] theorem setDma_dbgData (c : Nat) (d : DmaCh) : (setDma s c d).dbgData = s.dbgData := by simp only [setDma, wr_dbgData]
@[simp] theorem setDma_pending (c : Nat) (d : DmaCh) : (setDma s c d).pending = s.pending := by simp only [setDma, wr_pending]

/-! ### modDma -/

@[simp] theorem modDma_part (c : Nat) (f : DmaCh → DmaCh) : (modDma s c f).part = s.part := setDma_part _ _ _
@[simp] theorem modDma_tick (c : Nat) (f : DmaCh → DmaCh) : (modDma s c f).tick = s.tick := setDma_tick _ _ _
@[simp] theorem modDma_fieldLost (c : Nat) (f : DmaCh → DmaCh) : (modDma s c f).fieldLost = s.fieldLost := setDma_fieldLost _ _ _
@[simp] theorem modDma_sscCount (c : Nat) (f : DmaCh → DmaCh) : (modDma s c f).sscCount = s.sscCount := setDma_sscCount _ _ _
@[simp] theorem modDma_hiLatch (c : Nat) (f : DmaCh → DmaCh) : (modDma s c f).hiLatch = s.hiLatch := setDma_hiLatch _ _ _
@[simp] theorem modDma_mem (c : Nat) (f : DmaCh → DmaCh) : (modDma s c f).mem = s.mem := setDma_mem _ _ _
@[simp] theorem modDma_hostMem (c : Nat) (f : DmaCh → DmaCh) : (modDma s c f).hostMem = s.hostMem := setDma_hostMem _ _ _
@[simp] theorem modDma_fatalQ (c : Nat) (f : DmaCh → DmaCh) : (modDma s c f).fatalQ = s.fatalQ := setDma_fatalQ _ _ _
@[simp] theorem modDma_ordQ (c : Nat) (f : DmaCh → DmaCh) : (modDma s c f).ordQ = s.ordQ := setDma_ordQ _ _ _
@[simp] theorem modDma_hrep (c : Nat) (f : DmaCh → DmaCh) : (modDma s c f).hrep = s.hrep := setDma_hrep _ _ _
@[simp] theorem modDma_repDropped (c : Nat) (f : DmaCh → DmaCh) : (modDma s c f).repDropped = s.repDropped := setDma_repDropped _ _ _
@[simp] theorem modDma_free (c : Nat) (f : DmaCh → DmaCh) : (modDma s c f).free = s.free := setDma_free _ _ _
@[simp] theorem modDma_out (c : Nat) (f : DmaCh → DmaCh) : (modDma s c f).out = s.out := setDma_out _ _ _
@[simp] theorem modDma_intLast (c : Nat) (f : DmaCh → DmaCh) : (modDma s c f).intLast = s.intLast := setDma_intLast _ _ _
@[simp] theorem modDma_intHeld (c : Nat) (f : DmaCh → DmaCh) : (modDma s c f).intHeld = s.intHeld := setDma_intHeld _ _ _
@[simp] theorem modDma_pace (c : Nat) (f : DmaCh → DmaCh) : (modDma s c f).pace = s.pace := setDma_pace _ _ _
@[simp] theorem modDma_mesh (c : Nat) (f : DmaCh → DmaCh) : (modDma s c f).mesh = s.mesh := setDma_mesh _ _ _
@[simp] theorem modDma_flitSeq (c : Nat) (f : DmaCh → DmaCh) : (modDma s c f).flitSeq = s.flitSeq := setDma_flitSeq _ _ _
@[simp] theorem modDma_cores (c : Nat) (f : DmaCh → DmaCh) : (modDma s c f).cores = s.cores := setDma_cores _ _ _
@[simp] theorem modDma_banks (c : Nat) (f : DmaCh → DmaCh) : (modDma s c f).banks = s.banks := setDma_banks _ _ _
@[simp] theorem modDma_bankErr (c : Nat) (f : DmaCh → DmaCh) : (modDma s c f).bankErr = s.bankErr := setDma_bankErr _ _ _
@[simp] theorem modDma_poison (c : Nat) (f : DmaCh → DmaCh) : (modDma s c f).poison = s.poison := setDma_poison _ _ _
@[simp] theorem modDma_parErr (c : Nat) (f : DmaCh → DmaCh) : (modDma s c f).parErr = s.parErr := setDma_parErr _ _ _
@[simp] theorem modDma_gongs (c : Nat) (f : DmaCh → DmaCh) : (modDma s c f).gongs = s.gongs := setDma_gongs _ _ _
@[simp] theorem modDma_shareRecs (c : Nat) (f : DmaCh → DmaCh) : (modDma s c f).shareRecs = s.shareRecs := setDma_shareRecs _ _ _
@[simp] theorem modDma_rowMaps (c : Nat) (f : DmaCh → DmaCh) : (modDma s c f).rowMaps = s.rowMaps := setDma_rowMaps _ _ _
@[simp] theorem modDma_strms (c : Nat) (f : DmaCh → DmaCh) : (modDma s c f).strms = s.strms := setDma_strms _ _ _
@[simp] theorem modDma_cals (c : Nat) (f : DmaCh → DmaCh) : (modDma s c f).cals = s.cals := setDma_cals _ _ _
@[simp] theorem modDma_dmaRecs (c : Nat) (f : DmaCh → DmaCh) : (modDma s c f).dmaRecs = s.dmaRecs := setDma_dmaRecs _ _ _
@[simp] theorem modDma_segCopies (c : Nat) (f : DmaCh → DmaCh) : (modDma s c f).segCopies = s.segCopies := setDma_segCopies _ _ _
@[simp] theorem modDma_chains (c : Nat) (f : DmaCh → DmaCh) : (modDma s c f).chains = s.chains := setDma_chains _ _ _
@[simp] theorem modDma_segCache (c : Nat) (f : DmaCh → DmaCh) : (modDma s c f).segCache = s.segCache := setDma_segCache _ _ _
@[simp] theorem modDma_cvus (c : Nat) (f : DmaCh → DmaCh) : (modDma s c f).cvus = s.cvus := setDma_cvus _ _ _
@[simp] theorem modDma_flt (c : Nat) (f : DmaCh → DmaCh) : (modDma s c f).flt = s.flt := setDma_flt _ _ _
@[simp] theorem modDma_zlinks (c : Nat) (f : DmaCh → DmaCh) : (modDma s c f).zlinks = s.zlinks := setDma_zlinks _ _ _
@[simp] theorem modDma_pair (c : Nat) (f : DmaCh → DmaCh) : (modDma s c f).pair = s.pair := setDma_pair _ _ _
@[simp] theorem modDma_self (c : Nat) (f : DmaCh → DmaCh) : (modDma s c f).self = s.self := setDma_self _ _ _
@[simp] theorem modDma_life (c : Nat) (f : DmaCh → DmaCh) : (modDma s c f).life = s.life := setDma_life _ _ _
@[simp] theorem modDma_timers (c : Nat) (f : DmaCh → DmaCh) : (modDma s c f).timers = s.timers := setDma_timers _ _ _
@[simp] theorem modDma_sscPhase (c : Nat) (f : DmaCh → DmaCh) : (modDma s c f).sscPhase = s.sscPhase := setDma_sscPhase _ _ _
@[simp] theorem modDma_rtcPhase (c : Nat) (f : DmaCh → DmaCh) : (modDma s c f).rtcPhase = s.rtcPhase := setDma_rtcPhase _ _ _
@[simp] theorem modDma_dms (c : Nat) (f : DmaCh → DmaCh) : (modDma s c f).dms = s.dms := setDma_dms _ _ _
@[simp] theorem modDma_act (c : Nat) (f : DmaCh → DmaCh) : (modDma s c f).act = s.act := setDma_act _ _ _
@[simp] theorem modDma_ports (c : Nat) (f : DmaCh → DmaCh) : (modDma s c f).ports = s.ports := setDma_ports _ _ _
@[simp] theorem modDma_therm (c : Nat) (f : DmaCh → DmaCh) : (modDma s c f).therm = s.therm := setDma_therm _ _ _
@[simp] theorem modDma_rails (c : Nat) (f : DmaCh → DmaCh) : (modDma s c f).rails = s.rails := setDma_rails _ _ _
@[simp] theorem modDma_pwrGood (c : Nat) (f : DmaCh → DmaCh) : (modDma s c f).pwrGood = s.pwrGood := setDma_pwrGood _ _ _
@[simp] theorem modDma_mgmt (c : Nat) (f : DmaCh → DmaCh) : (modDma s c f).mgmt = s.mgmt := setDma_mgmt _ _ _
@[simp] theorem modDma_sec (c : Nat) (f : DmaCh → DmaCh) : (modDma s c f).sec = s.sec := setDma_sec _ _ _
@[simp] theorem modDma_mbx (c : Nat) (f : DmaCh → DmaCh) : (modDma s c f).mbx = s.mbx := setDma_mbx _ _ _
@[simp] theorem modDma_dbgData (c : Nat) (f : DmaCh → DmaCh) : (modDma s c f).dbgData = s.dbgData := setDma_dbgData _ _ _
@[simp] theorem modDma_pending (c : Nat) (f : DmaCh → DmaCh) : (modDma s c f).pending = s.pending := setDma_pending _ _ _

/-! ### setCvu -/

@[simp] theorem setCvu_part (u : Nat) (c : Cvu) : (setCvu s u c).part = s.part := rfl
@[simp] theorem setCvu_tick (u : Nat) (c : Cvu) : (setCvu s u c).tick = s.tick := rfl
@[simp] theorem setCvu_fieldLost (u : Nat) (c : Cvu) : (setCvu s u c).fieldLost = s.fieldLost := rfl
@[simp] theorem setCvu_sscCount (u : Nat) (c : Cvu) : (setCvu s u c).sscCount = s.sscCount := rfl
@[simp] theorem setCvu_regs (u : Nat) (c : Cvu) : (setCvu s u c).regs = s.regs := rfl
@[simp] theorem setCvu_hiLatch (u : Nat) (c : Cvu) : (setCvu s u c).hiLatch = s.hiLatch := rfl
@[simp] theorem setCvu_mem (u : Nat) (c : Cvu) : (setCvu s u c).mem = s.mem := rfl
@[simp] theorem setCvu_hostMem (u : Nat) (c : Cvu) : (setCvu s u c).hostMem = s.hostMem := rfl
@[simp] theorem setCvu_fatalQ (u : Nat) (c : Cvu) : (setCvu s u c).fatalQ = s.fatalQ := rfl
@[simp] theorem setCvu_ordQ (u : Nat) (c : Cvu) : (setCvu s u c).ordQ = s.ordQ := rfl
@[simp] theorem setCvu_hrep (u : Nat) (c : Cvu) : (setCvu s u c).hrep = s.hrep := rfl
@[simp] theorem setCvu_repDropped (u : Nat) (c : Cvu) : (setCvu s u c).repDropped = s.repDropped := rfl
@[simp] theorem setCvu_free (u : Nat) (c : Cvu) : (setCvu s u c).free = s.free := rfl
@[simp] theorem setCvu_out (u : Nat) (c : Cvu) : (setCvu s u c).out = s.out := rfl
@[simp] theorem setCvu_intLast (u : Nat) (c : Cvu) : (setCvu s u c).intLast = s.intLast := rfl
@[simp] theorem setCvu_intHeld (u : Nat) (c : Cvu) : (setCvu s u c).intHeld = s.intHeld := rfl
@[simp] theorem setCvu_pace (u : Nat) (c : Cvu) : (setCvu s u c).pace = s.pace := rfl
@[simp] theorem setCvu_mesh (u : Nat) (c : Cvu) : (setCvu s u c).mesh = s.mesh := rfl
@[simp] theorem setCvu_flitSeq (u : Nat) (c : Cvu) : (setCvu s u c).flitSeq = s.flitSeq := rfl
@[simp] theorem setCvu_cores (u : Nat) (c : Cvu) : (setCvu s u c).cores = s.cores := rfl
@[simp] theorem setCvu_banks (u : Nat) (c : Cvu) : (setCvu s u c).banks = s.banks := rfl
@[simp] theorem setCvu_bankErr (u : Nat) (c : Cvu) : (setCvu s u c).bankErr = s.bankErr := rfl
@[simp] theorem setCvu_poison (u : Nat) (c : Cvu) : (setCvu s u c).poison = s.poison := rfl
@[simp] theorem setCvu_parErr (u : Nat) (c : Cvu) : (setCvu s u c).parErr = s.parErr := rfl
@[simp] theorem setCvu_gongs (u : Nat) (c : Cvu) : (setCvu s u c).gongs = s.gongs := rfl
@[simp] theorem setCvu_shareRecs (u : Nat) (c : Cvu) : (setCvu s u c).shareRecs = s.shareRecs := rfl
@[simp] theorem setCvu_rowMaps (u : Nat) (c : Cvu) : (setCvu s u c).rowMaps = s.rowMaps := rfl
@[simp] theorem setCvu_strms (u : Nat) (c : Cvu) : (setCvu s u c).strms = s.strms := rfl
@[simp] theorem setCvu_cals (u : Nat) (c : Cvu) : (setCvu s u c).cals = s.cals := rfl
@[simp] theorem setCvu_dmas (u : Nat) (c : Cvu) : (setCvu s u c).dmas = s.dmas := rfl
@[simp] theorem setCvu_dmaRecs (u : Nat) (c : Cvu) : (setCvu s u c).dmaRecs = s.dmaRecs := rfl
@[simp] theorem setCvu_segCopies (u : Nat) (c : Cvu) : (setCvu s u c).segCopies = s.segCopies := rfl
@[simp] theorem setCvu_chains (u : Nat) (c : Cvu) : (setCvu s u c).chains = s.chains := rfl
@[simp] theorem setCvu_segCache (u : Nat) (c : Cvu) : (setCvu s u c).segCache = s.segCache := rfl
@[simp] theorem setCvu_flt (u : Nat) (c : Cvu) : (setCvu s u c).flt = s.flt := rfl
@[simp] theorem setCvu_zlinks (u : Nat) (c : Cvu) : (setCvu s u c).zlinks = s.zlinks := rfl
@[simp] theorem setCvu_pair (u : Nat) (c : Cvu) : (setCvu s u c).pair = s.pair := rfl
@[simp] theorem setCvu_self (u : Nat) (c : Cvu) : (setCvu s u c).self = s.self := rfl
@[simp] theorem setCvu_life (u : Nat) (c : Cvu) : (setCvu s u c).life = s.life := rfl
@[simp] theorem setCvu_timers (u : Nat) (c : Cvu) : (setCvu s u c).timers = s.timers := rfl
@[simp] theorem setCvu_sscPhase (u : Nat) (c : Cvu) : (setCvu s u c).sscPhase = s.sscPhase := rfl
@[simp] theorem setCvu_rtcPhase (u : Nat) (c : Cvu) : (setCvu s u c).rtcPhase = s.rtcPhase := rfl
@[simp] theorem setCvu_dms (u : Nat) (c : Cvu) : (setCvu s u c).dms = s.dms := rfl
@[simp] theorem setCvu_act (u : Nat) (c : Cvu) : (setCvu s u c).act = s.act := rfl
@[simp] theorem setCvu_ports (u : Nat) (c : Cvu) : (setCvu s u c).ports = s.ports := rfl
@[simp] theorem setCvu_therm (u : Nat) (c : Cvu) : (setCvu s u c).therm = s.therm := rfl
@[simp] theorem setCvu_rails (u : Nat) (c : Cvu) : (setCvu s u c).rails = s.rails := rfl
@[simp] theorem setCvu_pwrGood (u : Nat) (c : Cvu) : (setCvu s u c).pwrGood = s.pwrGood := rfl
@[simp] theorem setCvu_mgmt (u : Nat) (c : Cvu) : (setCvu s u c).mgmt = s.mgmt := rfl
@[simp] theorem setCvu_sec (u : Nat) (c : Cvu) : (setCvu s u c).sec = s.sec := rfl
@[simp] theorem setCvu_mbx (u : Nat) (c : Cvu) : (setCvu s u c).mbx = s.mbx := rfl
@[simp] theorem setCvu_dbgData (u : Nat) (c : Cvu) : (setCvu s u c).dbgData = s.dbgData := rfl
@[simp] theorem setCvu_pending (u : Nat) (c : Cvu) : (setCvu s u c).pending = s.pending := rfl

/-! ### setZl -/

@[simp] theorem setZl_part (l : Nat) (z : ZLink) : (setZl s l z).part = s.part := rfl
@[simp] theorem setZl_tick (l : Nat) (z : ZLink) : (setZl s l z).tick = s.tick := rfl
@[simp] theorem setZl_fieldLost (l : Nat) (z : ZLink) : (setZl s l z).fieldLost = s.fieldLost := rfl
@[simp] theorem setZl_sscCount (l : Nat) (z : ZLink) : (setZl s l z).sscCount = s.sscCount := rfl
@[simp] theorem setZl_regs (l : Nat) (z : ZLink) : (setZl s l z).regs = s.regs := rfl
@[simp] theorem setZl_hiLatch (l : Nat) (z : ZLink) : (setZl s l z).hiLatch = s.hiLatch := rfl
@[simp] theorem setZl_mem (l : Nat) (z : ZLink) : (setZl s l z).mem = s.mem := rfl
@[simp] theorem setZl_hostMem (l : Nat) (z : ZLink) : (setZl s l z).hostMem = s.hostMem := rfl
@[simp] theorem setZl_fatalQ (l : Nat) (z : ZLink) : (setZl s l z).fatalQ = s.fatalQ := rfl
@[simp] theorem setZl_ordQ (l : Nat) (z : ZLink) : (setZl s l z).ordQ = s.ordQ := rfl
@[simp] theorem setZl_hrep (l : Nat) (z : ZLink) : (setZl s l z).hrep = s.hrep := rfl
@[simp] theorem setZl_repDropped (l : Nat) (z : ZLink) : (setZl s l z).repDropped = s.repDropped := rfl
@[simp] theorem setZl_free (l : Nat) (z : ZLink) : (setZl s l z).free = s.free := rfl
@[simp] theorem setZl_out (l : Nat) (z : ZLink) : (setZl s l z).out = s.out := rfl
@[simp] theorem setZl_intLast (l : Nat) (z : ZLink) : (setZl s l z).intLast = s.intLast := rfl
@[simp] theorem setZl_intHeld (l : Nat) (z : ZLink) : (setZl s l z).intHeld = s.intHeld := rfl
@[simp] theorem setZl_pace (l : Nat) (z : ZLink) : (setZl s l z).pace = s.pace := rfl
@[simp] theorem setZl_mesh (l : Nat) (z : ZLink) : (setZl s l z).mesh = s.mesh := rfl
@[simp] theorem setZl_flitSeq (l : Nat) (z : ZLink) : (setZl s l z).flitSeq = s.flitSeq := rfl
@[simp] theorem setZl_cores (l : Nat) (z : ZLink) : (setZl s l z).cores = s.cores := rfl
@[simp] theorem setZl_banks (l : Nat) (z : ZLink) : (setZl s l z).banks = s.banks := rfl
@[simp] theorem setZl_bankErr (l : Nat) (z : ZLink) : (setZl s l z).bankErr = s.bankErr := rfl
@[simp] theorem setZl_poison (l : Nat) (z : ZLink) : (setZl s l z).poison = s.poison := rfl
@[simp] theorem setZl_parErr (l : Nat) (z : ZLink) : (setZl s l z).parErr = s.parErr := rfl
@[simp] theorem setZl_gongs (l : Nat) (z : ZLink) : (setZl s l z).gongs = s.gongs := rfl
@[simp] theorem setZl_shareRecs (l : Nat) (z : ZLink) : (setZl s l z).shareRecs = s.shareRecs := rfl
@[simp] theorem setZl_rowMaps (l : Nat) (z : ZLink) : (setZl s l z).rowMaps = s.rowMaps := rfl
@[simp] theorem setZl_strms (l : Nat) (z : ZLink) : (setZl s l z).strms = s.strms := rfl
@[simp] theorem setZl_cals (l : Nat) (z : ZLink) : (setZl s l z).cals = s.cals := rfl
@[simp] theorem setZl_dmas (l : Nat) (z : ZLink) : (setZl s l z).dmas = s.dmas := rfl
@[simp] theorem setZl_dmaRecs (l : Nat) (z : ZLink) : (setZl s l z).dmaRecs = s.dmaRecs := rfl
@[simp] theorem setZl_segCopies (l : Nat) (z : ZLink) : (setZl s l z).segCopies = s.segCopies := rfl
@[simp] theorem setZl_chains (l : Nat) (z : ZLink) : (setZl s l z).chains = s.chains := rfl
@[simp] theorem setZl_segCache (l : Nat) (z : ZLink) : (setZl s l z).segCache = s.segCache := rfl
@[simp] theorem setZl_cvus (l : Nat) (z : ZLink) : (setZl s l z).cvus = s.cvus := rfl
@[simp] theorem setZl_flt (l : Nat) (z : ZLink) : (setZl s l z).flt = s.flt := rfl
@[simp] theorem setZl_pair (l : Nat) (z : ZLink) : (setZl s l z).pair = s.pair := rfl
@[simp] theorem setZl_self (l : Nat) (z : ZLink) : (setZl s l z).self = s.self := rfl
@[simp] theorem setZl_life (l : Nat) (z : ZLink) : (setZl s l z).life = s.life := rfl
@[simp] theorem setZl_timers (l : Nat) (z : ZLink) : (setZl s l z).timers = s.timers := rfl
@[simp] theorem setZl_sscPhase (l : Nat) (z : ZLink) : (setZl s l z).sscPhase = s.sscPhase := rfl
@[simp] theorem setZl_rtcPhase (l : Nat) (z : ZLink) : (setZl s l z).rtcPhase = s.rtcPhase := rfl
@[simp] theorem setZl_dms (l : Nat) (z : ZLink) : (setZl s l z).dms = s.dms := rfl
@[simp] theorem setZl_act (l : Nat) (z : ZLink) : (setZl s l z).act = s.act := rfl
@[simp] theorem setZl_ports (l : Nat) (z : ZLink) : (setZl s l z).ports = s.ports := rfl
@[simp] theorem setZl_therm (l : Nat) (z : ZLink) : (setZl s l z).therm = s.therm := rfl
@[simp] theorem setZl_rails (l : Nat) (z : ZLink) : (setZl s l z).rails = s.rails := rfl
@[simp] theorem setZl_pwrGood (l : Nat) (z : ZLink) : (setZl s l z).pwrGood = s.pwrGood := rfl
@[simp] theorem setZl_mgmt (l : Nat) (z : ZLink) : (setZl s l z).mgmt = s.mgmt := rfl
@[simp] theorem setZl_sec (l : Nat) (z : ZLink) : (setZl s l z).sec = s.sec := rfl
@[simp] theorem setZl_mbx (l : Nat) (z : ZLink) : (setZl s l z).mbx = s.mbx := rfl
@[simp] theorem setZl_dbgData (l : Nat) (z : ZLink) : (setZl s l z).dbgData = s.dbgData := rfl
@[simp] theorem setZl_pending (l : Nat) (z : ZLink) : (setZl s l z).pending = s.pending := rfl

/-! ### setMbx -/

@[simp] theorem setMbx_part (i : Nat) (m : Mbx) : (setMbx s i m).part = s.part := by simp only [setMbx, wr_part]
@[simp] theorem setMbx_tick (i : Nat) (m : Mbx) : (setMbx s i m).tick = s.tick := by simp only [setMbx, wr_tick]
@[simp] theorem setMbx_fieldLost (i : Nat) (m : Mbx) : (setMbx s i m).fieldLost = s.fieldLost := by simp only [setMbx, wr_fieldLost]
@[simp] theorem setMbx_sscCount (i : Nat) (m : Mbx) : (setMbx s i m).sscCount = s.sscCount := by simp only [setMbx, wr_sscCount]
@[simp] theorem setMbx_hiLatch (i : Nat) (m : Mbx) : (setMbx s i m).hiLatch = s.hiLatch := by simp only [setMbx, wr_hiLatch]
@[simp] theorem setMbx_mem (i : Nat) (m : Mbx) : (setMbx s i m).mem = s.mem := by simp only [setMbx, wr_mem]
@[simp] theorem setMbx_hostMem (i : Nat) (m : Mbx) : (setMbx s i m).hostMem = s.hostMem := by simp only [setMbx, wr_hostMem]
@[simp] theorem setMbx_fatalQ (i : Nat) (m : Mbx) : (setMbx s i m).fatalQ = s.fatalQ := by simp only [setMbx, wr_fatalQ]
@[simp] theorem setMbx_ordQ (i : Nat) (m : Mbx) : (setMbx s i m).ordQ = s.ordQ := by simp only [setMbx, wr_ordQ]
@[simp] theorem setMbx_hrep (i : Nat) (m : Mbx) : (setMbx s i m).hrep = s.hrep := by simp only [setMbx, wr_hrep]
@[simp] theorem setMbx_repDropped (i : Nat) (m : Mbx) : (setMbx s i m).repDropped = s.repDropped := by simp only [setMbx, wr_repDropped]
@[simp] theorem setMbx_free (i : Nat) (m : Mbx) : (setMbx s i m).free = s.free := by simp only [setMbx, wr_free]
@[simp] theorem setMbx_out (i : Nat) (m : Mbx) : (setMbx s i m).out = s.out := by simp only [setMbx, wr_out]
@[simp] theorem setMbx_intLast (i : Nat) (m : Mbx) : (setMbx s i m).intLast = s.intLast := by simp only [setMbx, wr_intLast]
@[simp] theorem setMbx_intHeld (i : Nat) (m : Mbx) : (setMbx s i m).intHeld = s.intHeld := by simp only [setMbx, wr_intHeld]
@[simp] theorem setMbx_pace (i : Nat) (m : Mbx) : (setMbx s i m).pace = s.pace := by simp only [setMbx, wr_pace]
@[simp] theorem setMbx_mesh (i : Nat) (m : Mbx) : (setMbx s i m).mesh = s.mesh := by simp only [setMbx, wr_mesh]
@[simp] theorem setMbx_flitSeq (i : Nat) (m : Mbx) : (setMbx s i m).flitSeq = s.flitSeq := by simp only [setMbx, wr_flitSeq]
@[simp] theorem setMbx_cores (i : Nat) (m : Mbx) : (setMbx s i m).cores = s.cores := by simp only [setMbx, wr_cores]
@[simp] theorem setMbx_banks (i : Nat) (m : Mbx) : (setMbx s i m).banks = s.banks := by simp only [setMbx, wr_banks]
@[simp] theorem setMbx_bankErr (i : Nat) (m : Mbx) : (setMbx s i m).bankErr = s.bankErr := by simp only [setMbx, wr_bankErr]
@[simp] theorem setMbx_poison (i : Nat) (m : Mbx) : (setMbx s i m).poison = s.poison := by simp only [setMbx, wr_poison]
@[simp] theorem setMbx_parErr (i : Nat) (m : Mbx) : (setMbx s i m).parErr = s.parErr := by simp only [setMbx, wr_parErr]
@[simp] theorem setMbx_gongs (i : Nat) (m : Mbx) : (setMbx s i m).gongs = s.gongs := by simp only [setMbx, wr_gongs]
@[simp] theorem setMbx_shareRecs (i : Nat) (m : Mbx) : (setMbx s i m).shareRecs = s.shareRecs := by simp only [setMbx, wr_shareRecs]
@[simp] theorem setMbx_rowMaps (i : Nat) (m : Mbx) : (setMbx s i m).rowMaps = s.rowMaps := by simp only [setMbx, wr_rowMaps]
@[simp] theorem setMbx_strms (i : Nat) (m : Mbx) : (setMbx s i m).strms = s.strms := by simp only [setMbx, wr_strms]
@[simp] theorem setMbx_cals (i : Nat) (m : Mbx) : (setMbx s i m).cals = s.cals := by simp only [setMbx, wr_cals]
@[simp] theorem setMbx_dmas (i : Nat) (m : Mbx) : (setMbx s i m).dmas = s.dmas := by simp only [setMbx, wr_dmas]
@[simp] theorem setMbx_dmaRecs (i : Nat) (m : Mbx) : (setMbx s i m).dmaRecs = s.dmaRecs := by simp only [setMbx, wr_dmaRecs]
@[simp] theorem setMbx_segCopies (i : Nat) (m : Mbx) : (setMbx s i m).segCopies = s.segCopies := by simp only [setMbx, wr_segCopies]
@[simp] theorem setMbx_chains (i : Nat) (m : Mbx) : (setMbx s i m).chains = s.chains := by simp only [setMbx, wr_chains]
@[simp] theorem setMbx_segCache (i : Nat) (m : Mbx) : (setMbx s i m).segCache = s.segCache := by simp only [setMbx, wr_segCache]
@[simp] theorem setMbx_cvus (i : Nat) (m : Mbx) : (setMbx s i m).cvus = s.cvus := by simp only [setMbx, wr_cvus]
@[simp] theorem setMbx_flt (i : Nat) (m : Mbx) : (setMbx s i m).flt = s.flt := by simp only [setMbx, wr_flt]
@[simp] theorem setMbx_zlinks (i : Nat) (m : Mbx) : (setMbx s i m).zlinks = s.zlinks := by simp only [setMbx, wr_zlinks]
@[simp] theorem setMbx_pair (i : Nat) (m : Mbx) : (setMbx s i m).pair = s.pair := by simp only [setMbx, wr_pair]
@[simp] theorem setMbx_self (i : Nat) (m : Mbx) : (setMbx s i m).self = s.self := by simp only [setMbx, wr_self]
@[simp] theorem setMbx_life (i : Nat) (m : Mbx) : (setMbx s i m).life = s.life := by simp only [setMbx, wr_life]
@[simp] theorem setMbx_timers (i : Nat) (m : Mbx) : (setMbx s i m).timers = s.timers := by simp only [setMbx, wr_timers]
@[simp] theorem setMbx_sscPhase (i : Nat) (m : Mbx) : (setMbx s i m).sscPhase = s.sscPhase := by simp only [setMbx, wr_sscPhase]
@[simp] theorem setMbx_rtcPhase (i : Nat) (m : Mbx) : (setMbx s i m).rtcPhase = s.rtcPhase := by simp only [setMbx, wr_rtcPhase]
@[simp] theorem setMbx_dms (i : Nat) (m : Mbx) : (setMbx s i m).dms = s.dms := by simp only [setMbx, wr_dms]
@[simp] theorem setMbx_act (i : Nat) (m : Mbx) : (setMbx s i m).act = s.act := by simp only [setMbx, wr_act]
@[simp] theorem setMbx_ports (i : Nat) (m : Mbx) : (setMbx s i m).ports = s.ports := by simp only [setMbx, wr_ports]
@[simp] theorem setMbx_therm (i : Nat) (m : Mbx) : (setMbx s i m).therm = s.therm := by simp only [setMbx, wr_therm]
@[simp] theorem setMbx_rails (i : Nat) (m : Mbx) : (setMbx s i m).rails = s.rails := by simp only [setMbx, wr_rails]
@[simp] theorem setMbx_pwrGood (i : Nat) (m : Mbx) : (setMbx s i m).pwrGood = s.pwrGood := by simp only [setMbx, wr_pwrGood]
@[simp] theorem setMbx_mgmt (i : Nat) (m : Mbx) : (setMbx s i m).mgmt = s.mgmt := by simp only [setMbx, wr_mgmt]
@[simp] theorem setMbx_sec (i : Nat) (m : Mbx) : (setMbx s i m).sec = s.sec := by simp only [setMbx, wr_sec]
@[simp] theorem setMbx_dbgData (i : Nat) (m : Mbx) : (setMbx s i m).dbgData = s.dbgData := by simp only [setMbx, wr_dbgData]
@[simp] theorem setMbx_pending (i : Nat) (m : Mbx) : (setMbx s i m).pending = s.pending := by simp only [setMbx, wr_pending]

/-! ### setVc -/

@[simp] theorem setVc_part (p v : Nat) (x : VcState) : (setVc s p v x).part = s.part := rfl
@[simp] theorem setVc_tick (p v : Nat) (x : VcState) : (setVc s p v x).tick = s.tick := rfl
@[simp] theorem setVc_fieldLost (p v : Nat) (x : VcState) : (setVc s p v x).fieldLost = s.fieldLost := rfl
@[simp] theorem setVc_sscCount (p v : Nat) (x : VcState) : (setVc s p v x).sscCount = s.sscCount := rfl
@[simp] theorem setVc_regs (p v : Nat) (x : VcState) : (setVc s p v x).regs = s.regs := rfl
@[simp] theorem setVc_hiLatch (p v : Nat) (x : VcState) : (setVc s p v x).hiLatch = s.hiLatch := rfl
@[simp] theorem setVc_mem (p v : Nat) (x : VcState) : (setVc s p v x).mem = s.mem := rfl
@[simp] theorem setVc_hostMem (p v : Nat) (x : VcState) : (setVc s p v x).hostMem = s.hostMem := rfl
@[simp] theorem setVc_fatalQ (p v : Nat) (x : VcState) : (setVc s p v x).fatalQ = s.fatalQ := rfl
@[simp] theorem setVc_ordQ (p v : Nat) (x : VcState) : (setVc s p v x).ordQ = s.ordQ := rfl
@[simp] theorem setVc_hrep (p v : Nat) (x : VcState) : (setVc s p v x).hrep = s.hrep := rfl
@[simp] theorem setVc_repDropped (p v : Nat) (x : VcState) : (setVc s p v x).repDropped = s.repDropped := rfl
@[simp] theorem setVc_free (p v : Nat) (x : VcState) : (setVc s p v x).free = s.free := rfl
@[simp] theorem setVc_out (p v : Nat) (x : VcState) : (setVc s p v x).out = s.out := rfl
@[simp] theorem setVc_intLast (p v : Nat) (x : VcState) : (setVc s p v x).intLast = s.intLast := rfl
@[simp] theorem setVc_intHeld (p v : Nat) (x : VcState) : (setVc s p v x).intHeld = s.intHeld := rfl
@[simp] theorem setVc_pace (p v : Nat) (x : VcState) : (setVc s p v x).pace = s.pace := rfl
@[simp] theorem setVc_mesh (p v : Nat) (x : VcState) : (setVc s p v x).mesh = s.mesh := rfl
@[simp] theorem setVc_flitSeq (p v : Nat) (x : VcState) : (setVc s p v x).flitSeq = s.flitSeq := rfl
@[simp] theorem setVc_cores (p v : Nat) (x : VcState) : (setVc s p v x).cores = s.cores := rfl
@[simp] theorem setVc_banks (p v : Nat) (x : VcState) : (setVc s p v x).banks = s.banks := rfl
@[simp] theorem setVc_bankErr (p v : Nat) (x : VcState) : (setVc s p v x).bankErr = s.bankErr := rfl
@[simp] theorem setVc_poison (p v : Nat) (x : VcState) : (setVc s p v x).poison = s.poison := rfl
@[simp] theorem setVc_parErr (p v : Nat) (x : VcState) : (setVc s p v x).parErr = s.parErr := rfl
@[simp] theorem setVc_gongs (p v : Nat) (x : VcState) : (setVc s p v x).gongs = s.gongs := rfl
@[simp] theorem setVc_shareRecs (p v : Nat) (x : VcState) : (setVc s p v x).shareRecs = s.shareRecs := rfl
@[simp] theorem setVc_rowMaps (p v : Nat) (x : VcState) : (setVc s p v x).rowMaps = s.rowMaps := rfl
@[simp] theorem setVc_strms (p v : Nat) (x : VcState) : (setVc s p v x).strms = s.strms := rfl
@[simp] theorem setVc_cals (p v : Nat) (x : VcState) : (setVc s p v x).cals = s.cals := rfl
@[simp] theorem setVc_dmas (p v : Nat) (x : VcState) : (setVc s p v x).dmas = s.dmas := rfl
@[simp] theorem setVc_dmaRecs (p v : Nat) (x : VcState) : (setVc s p v x).dmaRecs = s.dmaRecs := rfl
@[simp] theorem setVc_segCopies (p v : Nat) (x : VcState) : (setVc s p v x).segCopies = s.segCopies := rfl
@[simp] theorem setVc_chains (p v : Nat) (x : VcState) : (setVc s p v x).chains = s.chains := rfl
@[simp] theorem setVc_segCache (p v : Nat) (x : VcState) : (setVc s p v x).segCache = s.segCache := rfl
@[simp] theorem setVc_cvus (p v : Nat) (x : VcState) : (setVc s p v x).cvus = s.cvus := rfl
@[simp] theorem setVc_flt (p v : Nat) (x : VcState) : (setVc s p v x).flt = s.flt := rfl
@[simp] theorem setVc_zlinks (p v : Nat) (x : VcState) : (setVc s p v x).zlinks = s.zlinks := rfl
@[simp] theorem setVc_pair (p v : Nat) (x : VcState) : (setVc s p v x).pair = s.pair := rfl
@[simp] theorem setVc_self (p v : Nat) (x : VcState) : (setVc s p v x).self = s.self := rfl
@[simp] theorem setVc_life (p v : Nat) (x : VcState) : (setVc s p v x).life = s.life := rfl
@[simp] theorem setVc_timers (p v : Nat) (x : VcState) : (setVc s p v x).timers = s.timers := rfl
@[simp] theorem setVc_sscPhase (p v : Nat) (x : VcState) : (setVc s p v x).sscPhase = s.sscPhase := rfl
@[simp] theorem setVc_rtcPhase (p v : Nat) (x : VcState) : (setVc s p v x).rtcPhase = s.rtcPhase := rfl
@[simp] theorem setVc_dms (p v : Nat) (x : VcState) : (setVc s p v x).dms = s.dms := rfl
@[simp] theorem setVc_act (p v : Nat) (x : VcState) : (setVc s p v x).act = s.act := rfl
@[simp] theorem setVc_therm (p v : Nat) (x : VcState) : (setVc s p v x).therm = s.therm := rfl
@[simp] theorem setVc_rails (p v : Nat) (x : VcState) : (setVc s p v x).rails = s.rails := rfl
@[simp] theorem setVc_pwrGood (p v : Nat) (x : VcState) : (setVc s p v x).pwrGood = s.pwrGood := rfl
@[simp] theorem setVc_mgmt (p v : Nat) (x : VcState) : (setVc s p v x).mgmt = s.mgmt := rfl
@[simp] theorem setVc_sec (p v : Nat) (x : VcState) : (setVc s p v x).sec = s.sec := rfl
@[simp] theorem setVc_mbx (p v : Nat) (x : VcState) : (setVc s p v x).mbx = s.mbx := rfl
@[simp] theorem setVc_dbgData (p v : Nat) (x : VcState) : (setVc s p v x).dbgData = s.dbgData := rfl
@[simp] theorem setVc_pending (p v : Nat) (x : VcState) : (setVc s p v x).pending = s.pending := rfl

/-! ### setGv -/

@[simp] theorem setGv_part (p : Nat) (g : GvPort) : (setGv s p g).part = s.part := rfl
@[simp] theorem setGv_tick (p : Nat) (g : GvPort) : (setGv s p g).tick = s.tick := rfl
@[simp] theorem setGv_fieldLost (p : Nat) (g : GvPort) : (setGv s p g).fieldLost = s.fieldLost := rfl
@[simp] theorem setGv_sscCount (p : Nat) (g : GvPort) : (setGv s p g).sscCount = s.sscCount := rfl
@[simp] theorem setGv_regs (p : Nat) (g : GvPort) : (setGv s p g).regs = s.regs := rfl
@[simp] theorem setGv_hiLatch (p : Nat) (g : GvPort) : (setGv s p g).hiLatch = s.hiLatch := rfl
@[simp] theorem setGv_mem (p : Nat) (g : GvPort) : (setGv s p g).mem = s.mem := rfl
@[simp] theorem setGv_hostMem (p : Nat) (g : GvPort) : (setGv s p g).hostMem = s.hostMem := rfl
@[simp] theorem setGv_fatalQ (p : Nat) (g : GvPort) : (setGv s p g).fatalQ = s.fatalQ := rfl
@[simp] theorem setGv_ordQ (p : Nat) (g : GvPort) : (setGv s p g).ordQ = s.ordQ := rfl
@[simp] theorem setGv_hrep (p : Nat) (g : GvPort) : (setGv s p g).hrep = s.hrep := rfl
@[simp] theorem setGv_repDropped (p : Nat) (g : GvPort) : (setGv s p g).repDropped = s.repDropped := rfl
@[simp] theorem setGv_free (p : Nat) (g : GvPort) : (setGv s p g).free = s.free := rfl
@[simp] theorem setGv_out (p : Nat) (g : GvPort) : (setGv s p g).out = s.out := rfl
@[simp] theorem setGv_intLast (p : Nat) (g : GvPort) : (setGv s p g).intLast = s.intLast := rfl
@[simp] theorem setGv_intHeld (p : Nat) (g : GvPort) : (setGv s p g).intHeld = s.intHeld := rfl
@[simp] theorem setGv_pace (p : Nat) (g : GvPort) : (setGv s p g).pace = s.pace := rfl
@[simp] theorem setGv_mesh (p : Nat) (g : GvPort) : (setGv s p g).mesh = s.mesh := rfl
@[simp] theorem setGv_flitSeq (p : Nat) (g : GvPort) : (setGv s p g).flitSeq = s.flitSeq := rfl
@[simp] theorem setGv_cores (p : Nat) (g : GvPort) : (setGv s p g).cores = s.cores := rfl
@[simp] theorem setGv_banks (p : Nat) (g : GvPort) : (setGv s p g).banks = s.banks := rfl
@[simp] theorem setGv_bankErr (p : Nat) (g : GvPort) : (setGv s p g).bankErr = s.bankErr := rfl
@[simp] theorem setGv_poison (p : Nat) (g : GvPort) : (setGv s p g).poison = s.poison := rfl
@[simp] theorem setGv_parErr (p : Nat) (g : GvPort) : (setGv s p g).parErr = s.parErr := rfl
@[simp] theorem setGv_gongs (p : Nat) (g : GvPort) : (setGv s p g).gongs = s.gongs := rfl
@[simp] theorem setGv_shareRecs (p : Nat) (g : GvPort) : (setGv s p g).shareRecs = s.shareRecs := rfl
@[simp] theorem setGv_rowMaps (p : Nat) (g : GvPort) : (setGv s p g).rowMaps = s.rowMaps := rfl
@[simp] theorem setGv_strms (p : Nat) (g : GvPort) : (setGv s p g).strms = s.strms := rfl
@[simp] theorem setGv_cals (p : Nat) (g : GvPort) : (setGv s p g).cals = s.cals := rfl
@[simp] theorem setGv_dmas (p : Nat) (g : GvPort) : (setGv s p g).dmas = s.dmas := rfl
@[simp] theorem setGv_dmaRecs (p : Nat) (g : GvPort) : (setGv s p g).dmaRecs = s.dmaRecs := rfl
@[simp] theorem setGv_segCopies (p : Nat) (g : GvPort) : (setGv s p g).segCopies = s.segCopies := rfl
@[simp] theorem setGv_chains (p : Nat) (g : GvPort) : (setGv s p g).chains = s.chains := rfl
@[simp] theorem setGv_segCache (p : Nat) (g : GvPort) : (setGv s p g).segCache = s.segCache := rfl
@[simp] theorem setGv_cvus (p : Nat) (g : GvPort) : (setGv s p g).cvus = s.cvus := rfl
@[simp] theorem setGv_flt (p : Nat) (g : GvPort) : (setGv s p g).flt = s.flt := rfl
@[simp] theorem setGv_zlinks (p : Nat) (g : GvPort) : (setGv s p g).zlinks = s.zlinks := rfl
@[simp] theorem setGv_pair (p : Nat) (g : GvPort) : (setGv s p g).pair = s.pair := rfl
@[simp] theorem setGv_self (p : Nat) (g : GvPort) : (setGv s p g).self = s.self := rfl
@[simp] theorem setGv_life (p : Nat) (g : GvPort) : (setGv s p g).life = s.life := rfl
@[simp] theorem setGv_timers (p : Nat) (g : GvPort) : (setGv s p g).timers = s.timers := rfl
@[simp] theorem setGv_sscPhase (p : Nat) (g : GvPort) : (setGv s p g).sscPhase = s.sscPhase := rfl
@[simp] theorem setGv_rtcPhase (p : Nat) (g : GvPort) : (setGv s p g).rtcPhase = s.rtcPhase := rfl
@[simp] theorem setGv_dms (p : Nat) (g : GvPort) : (setGv s p g).dms = s.dms := rfl
@[simp] theorem setGv_act (p : Nat) (g : GvPort) : (setGv s p g).act = s.act := rfl
@[simp] theorem setGv_therm (p : Nat) (g : GvPort) : (setGv s p g).therm = s.therm := rfl
@[simp] theorem setGv_rails (p : Nat) (g : GvPort) : (setGv s p g).rails = s.rails := rfl
@[simp] theorem setGv_pwrGood (p : Nat) (g : GvPort) : (setGv s p g).pwrGood = s.pwrGood := rfl
@[simp] theorem setGv_mgmt (p : Nat) (g : GvPort) : (setGv s p g).mgmt = s.mgmt := rfl
@[simp] theorem setGv_sec (p : Nat) (g : GvPort) : (setGv s p g).sec = s.sec := rfl
@[simp] theorem setGv_mbx (p : Nat) (g : GvPort) : (setGv s p g).mbx = s.mbx := rfl
@[simp] theorem setGv_dbgData (p : Nat) (g : GvPort) : (setGv s p g).dbgData = s.dbgData := rfl
@[simp] theorem setGv_pending (p : Nat) (g : GvPort) : (setGv s p g).pending = s.pending := rfl

/-! ### setPaceWin -/

@[simp] theorem setPaceWin_part (n : Nat) (x : PaceWin) : (setPaceWin s n x).part = s.part := rfl
@[simp] theorem setPaceWin_tick (n : Nat) (x : PaceWin) : (setPaceWin s n x).tick = s.tick := rfl
@[simp] theorem setPaceWin_fieldLost (n : Nat) (x : PaceWin) : (setPaceWin s n x).fieldLost = s.fieldLost := rfl
@[simp] theorem setPaceWin_sscCount (n : Nat) (x : PaceWin) : (setPaceWin s n x).sscCount = s.sscCount := rfl
@[simp] theorem setPaceWin_regs (n : Nat) (x : PaceWin) : (setPaceWin s n x).regs = s.regs := rfl
@[simp] theorem setPaceWin_hiLatch (n : Nat) (x : PaceWin) : (setPaceWin s n x).hiLatch = s.hiLatch := rfl
@[simp] theorem setPaceWin_mem (n : Nat) (x : PaceWin) : (setPaceWin s n x).mem = s.mem := rfl
@[simp] theorem setPaceWin_hostMem (n : Nat) (x : PaceWin) : (setPaceWin s n x).hostMem = s.hostMem := rfl
@[simp] theorem setPaceWin_fatalQ (n : Nat) (x : PaceWin) : (setPaceWin s n x).fatalQ = s.fatalQ := rfl
@[simp] theorem setPaceWin_ordQ (n : Nat) (x : PaceWin) : (setPaceWin s n x).ordQ = s.ordQ := rfl
@[simp] theorem setPaceWin_hrep (n : Nat) (x : PaceWin) : (setPaceWin s n x).hrep = s.hrep := rfl
@[simp] theorem setPaceWin_repDropped (n : Nat) (x : PaceWin) : (setPaceWin s n x).repDropped = s.repDropped := rfl
@[simp] theorem setPaceWin_free (n : Nat) (x : PaceWin) : (setPaceWin s n x).free = s.free := rfl
@[simp] theorem setPaceWin_out (n : Nat) (x : PaceWin) : (setPaceWin s n x).out = s.out := rfl
@[simp] theorem setPaceWin_intLast (n : Nat) (x : PaceWin) : (setPaceWin s n x).intLast = s.intLast := rfl
@[simp] theorem setPaceWin_intHeld (n : Nat) (x : PaceWin) : (setPaceWin s n x).intHeld = s.intHeld := rfl
@[simp] theorem setPaceWin_mesh (n : Nat) (x : PaceWin) : (setPaceWin s n x).mesh = s.mesh := rfl
@[simp] theorem setPaceWin_flitSeq (n : Nat) (x : PaceWin) : (setPaceWin s n x).flitSeq = s.flitSeq := rfl
@[simp] theorem setPaceWin_cores (n : Nat) (x : PaceWin) : (setPaceWin s n x).cores = s.cores := rfl
@[simp] theorem setPaceWin_banks (n : Nat) (x : PaceWin) : (setPaceWin s n x).banks = s.banks := rfl
@[simp] theorem setPaceWin_bankErr (n : Nat) (x : PaceWin) : (setPaceWin s n x).bankErr = s.bankErr := rfl
@[simp] theorem setPaceWin_poison (n : Nat) (x : PaceWin) : (setPaceWin s n x).poison = s.poison := rfl
@[simp] theorem setPaceWin_parErr (n : Nat) (x : PaceWin) : (setPaceWin s n x).parErr = s.parErr := rfl
@[simp] theorem setPaceWin_gongs (n : Nat) (x : PaceWin) : (setPaceWin s n x).gongs = s.gongs := rfl
@[simp] theorem setPaceWin_shareRecs (n : Nat) (x : PaceWin) : (setPaceWin s n x).shareRecs = s.shareRecs := rfl
@[simp] theorem setPaceWin_rowMaps (n : Nat) (x : PaceWin) : (setPaceWin s n x).rowMaps = s.rowMaps := rfl
@[simp] theorem setPaceWin_strms (n : Nat) (x : PaceWin) : (setPaceWin s n x).strms = s.strms := rfl
@[simp] theorem setPaceWin_cals (n : Nat) (x : PaceWin) : (setPaceWin s n x).cals = s.cals := rfl
@[simp] theorem setPaceWin_dmas (n : Nat) (x : PaceWin) : (setPaceWin s n x).dmas = s.dmas := rfl
@[simp] theorem setPaceWin_dmaRecs (n : Nat) (x : PaceWin) : (setPaceWin s n x).dmaRecs = s.dmaRecs := rfl
@[simp] theorem setPaceWin_segCopies (n : Nat) (x : PaceWin) : (setPaceWin s n x).segCopies = s.segCopies := rfl
@[simp] theorem setPaceWin_chains (n : Nat) (x : PaceWin) : (setPaceWin s n x).chains = s.chains := rfl
@[simp] theorem setPaceWin_segCache (n : Nat) (x : PaceWin) : (setPaceWin s n x).segCache = s.segCache := rfl
@[simp] theorem setPaceWin_cvus (n : Nat) (x : PaceWin) : (setPaceWin s n x).cvus = s.cvus := rfl
@[simp] theorem setPaceWin_flt (n : Nat) (x : PaceWin) : (setPaceWin s n x).flt = s.flt := rfl
@[simp] theorem setPaceWin_zlinks (n : Nat) (x : PaceWin) : (setPaceWin s n x).zlinks = s.zlinks := rfl
@[simp] theorem setPaceWin_pair (n : Nat) (x : PaceWin) : (setPaceWin s n x).pair = s.pair := rfl
@[simp] theorem setPaceWin_self (n : Nat) (x : PaceWin) : (setPaceWin s n x).self = s.self := rfl
@[simp] theorem setPaceWin_life (n : Nat) (x : PaceWin) : (setPaceWin s n x).life = s.life := rfl
@[simp] theorem setPaceWin_timers (n : Nat) (x : PaceWin) : (setPaceWin s n x).timers = s.timers := rfl
@[simp] theorem setPaceWin_sscPhase (n : Nat) (x : PaceWin) : (setPaceWin s n x).sscPhase = s.sscPhase := rfl
@[simp] theorem setPaceWin_rtcPhase (n : Nat) (x : PaceWin) : (setPaceWin s n x).rtcPhase = s.rtcPhase := rfl
@[simp] theorem setPaceWin_dms (n : Nat) (x : PaceWin) : (setPaceWin s n x).dms = s.dms := rfl
@[simp] theorem setPaceWin_act (n : Nat) (x : PaceWin) : (setPaceWin s n x).act = s.act := rfl
@[simp] theorem setPaceWin_ports (n : Nat) (x : PaceWin) : (setPaceWin s n x).ports = s.ports := rfl
@[simp] theorem setPaceWin_therm (n : Nat) (x : PaceWin) : (setPaceWin s n x).therm = s.therm := rfl
@[simp] theorem setPaceWin_rails (n : Nat) (x : PaceWin) : (setPaceWin s n x).rails = s.rails := rfl
@[simp] theorem setPaceWin_pwrGood (n : Nat) (x : PaceWin) : (setPaceWin s n x).pwrGood = s.pwrGood := rfl
@[simp] theorem setPaceWin_mgmt (n : Nat) (x : PaceWin) : (setPaceWin s n x).mgmt = s.mgmt := rfl
@[simp] theorem setPaceWin_sec (n : Nat) (x : PaceWin) : (setPaceWin s n x).sec = s.sec := rfl
@[simp] theorem setPaceWin_mbx (n : Nat) (x : PaceWin) : (setPaceWin s n x).mbx = s.mbx := rfl
@[simp] theorem setPaceWin_dbgData (n : Nat) (x : PaceWin) : (setPaceWin s n x).dbgData = s.dbgData := rfl
@[simp] theorem setPaceWin_pending (n : Nat) (x : PaceWin) : (setPaceWin s n x).pending = s.pending := rfl

/-! ### dmsMap -/

@[simp] theorem dmsMap_part (f : Damson → Damson) : (dmsMap s f).part = s.part := rfl
@[simp] theorem dmsMap_tick (f : Damson → Damson) : (dmsMap s f).tick = s.tick := rfl
@[simp] theorem dmsMap_fieldLost (f : Damson → Damson) : (dmsMap s f).fieldLost = s.fieldLost := rfl
@[simp] theorem dmsMap_sscCount (f : Damson → Damson) : (dmsMap s f).sscCount = s.sscCount := rfl
@[simp] theorem dmsMap_regs (f : Damson → Damson) : (dmsMap s f).regs = s.regs := rfl
@[simp] theorem dmsMap_hiLatch (f : Damson → Damson) : (dmsMap s f).hiLatch = s.hiLatch := rfl
@[simp] theorem dmsMap_mem (f : Damson → Damson) : (dmsMap s f).mem = s.mem := rfl
@[simp] theorem dmsMap_hostMem (f : Damson → Damson) : (dmsMap s f).hostMem = s.hostMem := rfl
@[simp] theorem dmsMap_fatalQ (f : Damson → Damson) : (dmsMap s f).fatalQ = s.fatalQ := rfl
@[simp] theorem dmsMap_ordQ (f : Damson → Damson) : (dmsMap s f).ordQ = s.ordQ := rfl
@[simp] theorem dmsMap_hrep (f : Damson → Damson) : (dmsMap s f).hrep = s.hrep := rfl
@[simp] theorem dmsMap_repDropped (f : Damson → Damson) : (dmsMap s f).repDropped = s.repDropped := rfl
@[simp] theorem dmsMap_free (f : Damson → Damson) : (dmsMap s f).free = s.free := rfl
@[simp] theorem dmsMap_out (f : Damson → Damson) : (dmsMap s f).out = s.out := rfl
@[simp] theorem dmsMap_intLast (f : Damson → Damson) : (dmsMap s f).intLast = s.intLast := rfl
@[simp] theorem dmsMap_intHeld (f : Damson → Damson) : (dmsMap s f).intHeld = s.intHeld := rfl
@[simp] theorem dmsMap_pace (f : Damson → Damson) : (dmsMap s f).pace = s.pace := rfl
@[simp] theorem dmsMap_mesh (f : Damson → Damson) : (dmsMap s f).mesh = s.mesh := rfl
@[simp] theorem dmsMap_flitSeq (f : Damson → Damson) : (dmsMap s f).flitSeq = s.flitSeq := rfl
@[simp] theorem dmsMap_cores (f : Damson → Damson) : (dmsMap s f).cores = s.cores := rfl
@[simp] theorem dmsMap_banks (f : Damson → Damson) : (dmsMap s f).banks = s.banks := rfl
@[simp] theorem dmsMap_bankErr (f : Damson → Damson) : (dmsMap s f).bankErr = s.bankErr := rfl
@[simp] theorem dmsMap_poison (f : Damson → Damson) : (dmsMap s f).poison = s.poison := rfl
@[simp] theorem dmsMap_parErr (f : Damson → Damson) : (dmsMap s f).parErr = s.parErr := rfl
@[simp] theorem dmsMap_gongs (f : Damson → Damson) : (dmsMap s f).gongs = s.gongs := rfl
@[simp] theorem dmsMap_shareRecs (f : Damson → Damson) : (dmsMap s f).shareRecs = s.shareRecs := rfl
@[simp] theorem dmsMap_rowMaps (f : Damson → Damson) : (dmsMap s f).rowMaps = s.rowMaps := rfl
@[simp] theorem dmsMap_strms (f : Damson → Damson) : (dmsMap s f).strms = s.strms := rfl
@[simp] theorem dmsMap_cals (f : Damson → Damson) : (dmsMap s f).cals = s.cals := rfl
@[simp] theorem dmsMap_dmas (f : Damson → Damson) : (dmsMap s f).dmas = s.dmas := rfl
@[simp] theorem dmsMap_dmaRecs (f : Damson → Damson) : (dmsMap s f).dmaRecs = s.dmaRecs := rfl
@[simp] theorem dmsMap_segCopies (f : Damson → Damson) : (dmsMap s f).segCopies = s.segCopies := rfl
@[simp] theorem dmsMap_chains (f : Damson → Damson) : (dmsMap s f).chains = s.chains := rfl
@[simp] theorem dmsMap_segCache (f : Damson → Damson) : (dmsMap s f).segCache = s.segCache := rfl
@[simp] theorem dmsMap_cvus (f : Damson → Damson) : (dmsMap s f).cvus = s.cvus := rfl
@[simp] theorem dmsMap_flt (f : Damson → Damson) : (dmsMap s f).flt = s.flt := rfl
@[simp] theorem dmsMap_zlinks (f : Damson → Damson) : (dmsMap s f).zlinks = s.zlinks := rfl
@[simp] theorem dmsMap_pair (f : Damson → Damson) : (dmsMap s f).pair = s.pair := rfl
@[simp] theorem dmsMap_self (f : Damson → Damson) : (dmsMap s f).self = s.self := rfl
@[simp] theorem dmsMap_life (f : Damson → Damson) : (dmsMap s f).life = s.life := rfl
@[simp] theorem dmsMap_timers (f : Damson → Damson) : (dmsMap s f).timers = s.timers := rfl
@[simp] theorem dmsMap_sscPhase (f : Damson → Damson) : (dmsMap s f).sscPhase = s.sscPhase := rfl
@[simp] theorem dmsMap_rtcPhase (f : Damson → Damson) : (dmsMap s f).rtcPhase = s.rtcPhase := rfl
@[simp] theorem dmsMap_act (f : Damson → Damson) : (dmsMap s f).act = s.act := rfl
@[simp] theorem dmsMap_ports (f : Damson → Damson) : (dmsMap s f).ports = s.ports := rfl
@[simp] theorem dmsMap_therm (f : Damson → Damson) : (dmsMap s f).therm = s.therm := rfl
@[simp] theorem dmsMap_rails (f : Damson → Damson) : (dmsMap s f).rails = s.rails := rfl
@[simp] theorem dmsMap_pwrGood (f : Damson → Damson) : (dmsMap s f).pwrGood = s.pwrGood := rfl
@[simp] theorem dmsMap_mgmt (f : Damson → Damson) : (dmsMap s f).mgmt = s.mgmt := rfl
@[simp] theorem dmsMap_sec (f : Damson → Damson) : (dmsMap s f).sec = s.sec := rfl
@[simp] theorem dmsMap_mbx (f : Damson → Damson) : (dmsMap s f).mbx = s.mbx := rfl
@[simp] theorem dmsMap_dbgData (f : Damson → Damson) : (dmsMap s f).dbgData = s.dbgData := rfl
@[simp] theorem dmsMap_pending (f : Damson → Damson) : (dmsMap s f).pending = s.pending := rfl

/-! ### mgmtMap -/

@[simp] theorem mgmtMap_part (f : Mgmt → Mgmt) : (mgmtMap s f).part = s.part := rfl
@[simp] theorem mgmtMap_tick (f : Mgmt → Mgmt) : (mgmtMap s f).tick = s.tick := rfl
@[simp] theorem mgmtMap_fieldLost (f : Mgmt → Mgmt) : (mgmtMap s f).fieldLost = s.fieldLost := rfl
@[simp] theorem mgmtMap_sscCount (f : Mgmt → Mgmt) : (mgmtMap s f).sscCount = s.sscCount := rfl
@[simp] theorem mgmtMap_regs (f : Mgmt → Mgmt) : (mgmtMap s f).regs = s.regs := rfl
@[simp] theorem mgmtMap_hiLatch (f : Mgmt → Mgmt) : (mgmtMap s f).hiLatch = s.hiLatch := rfl
@[simp] theorem mgmtMap_mem (f : Mgmt → Mgmt) : (mgmtMap s f).mem = s.mem := rfl
@[simp] theorem mgmtMap_hostMem (f : Mgmt → Mgmt) : (mgmtMap s f).hostMem = s.hostMem := rfl
@[simp] theorem mgmtMap_fatalQ (f : Mgmt → Mgmt) : (mgmtMap s f).fatalQ = s.fatalQ := rfl
@[simp] theorem mgmtMap_ordQ (f : Mgmt → Mgmt) : (mgmtMap s f).ordQ = s.ordQ := rfl
@[simp] theorem mgmtMap_hrep (f : Mgmt → Mgmt) : (mgmtMap s f).hrep = s.hrep := rfl
@[simp] theorem mgmtMap_repDropped (f : Mgmt → Mgmt) : (mgmtMap s f).repDropped = s.repDropped := rfl
@[simp] theorem mgmtMap_free (f : Mgmt → Mgmt) : (mgmtMap s f).free = s.free := rfl
@[simp] theorem mgmtMap_out (f : Mgmt → Mgmt) : (mgmtMap s f).out = s.out := rfl
@[simp] theorem mgmtMap_intLast (f : Mgmt → Mgmt) : (mgmtMap s f).intLast = s.intLast := rfl
@[simp] theorem mgmtMap_intHeld (f : Mgmt → Mgmt) : (mgmtMap s f).intHeld = s.intHeld := rfl
@[simp] theorem mgmtMap_pace (f : Mgmt → Mgmt) : (mgmtMap s f).pace = s.pace := rfl
@[simp] theorem mgmtMap_mesh (f : Mgmt → Mgmt) : (mgmtMap s f).mesh = s.mesh := rfl
@[simp] theorem mgmtMap_flitSeq (f : Mgmt → Mgmt) : (mgmtMap s f).flitSeq = s.flitSeq := rfl
@[simp] theorem mgmtMap_cores (f : Mgmt → Mgmt) : (mgmtMap s f).cores = s.cores := rfl
@[simp] theorem mgmtMap_banks (f : Mgmt → Mgmt) : (mgmtMap s f).banks = s.banks := rfl
@[simp] theorem mgmtMap_bankErr (f : Mgmt → Mgmt) : (mgmtMap s f).bankErr = s.bankErr := rfl
@[simp] theorem mgmtMap_poison (f : Mgmt → Mgmt) : (mgmtMap s f).poison = s.poison := rfl
@[simp] theorem mgmtMap_parErr (f : Mgmt → Mgmt) : (mgmtMap s f).parErr = s.parErr := rfl
@[simp] theorem mgmtMap_gongs (f : Mgmt → Mgmt) : (mgmtMap s f).gongs = s.gongs := rfl
@[simp] theorem mgmtMap_shareRecs (f : Mgmt → Mgmt) : (mgmtMap s f).shareRecs = s.shareRecs := rfl
@[simp] theorem mgmtMap_rowMaps (f : Mgmt → Mgmt) : (mgmtMap s f).rowMaps = s.rowMaps := rfl
@[simp] theorem mgmtMap_strms (f : Mgmt → Mgmt) : (mgmtMap s f).strms = s.strms := rfl
@[simp] theorem mgmtMap_cals (f : Mgmt → Mgmt) : (mgmtMap s f).cals = s.cals := rfl
@[simp] theorem mgmtMap_dmas (f : Mgmt → Mgmt) : (mgmtMap s f).dmas = s.dmas := rfl
@[simp] theorem mgmtMap_dmaRecs (f : Mgmt → Mgmt) : (mgmtMap s f).dmaRecs = s.dmaRecs := rfl
@[simp] theorem mgmtMap_segCopies (f : Mgmt → Mgmt) : (mgmtMap s f).segCopies = s.segCopies := rfl
@[simp] theorem mgmtMap_chains (f : Mgmt → Mgmt) : (mgmtMap s f).chains = s.chains := rfl
@[simp] theorem mgmtMap_segCache (f : Mgmt → Mgmt) : (mgmtMap s f).segCache = s.segCache := rfl
@[simp] theorem mgmtMap_cvus (f : Mgmt → Mgmt) : (mgmtMap s f).cvus = s.cvus := rfl
@[simp] theorem mgmtMap_flt (f : Mgmt → Mgmt) : (mgmtMap s f).flt = s.flt := rfl
@[simp] theorem mgmtMap_zlinks (f : Mgmt → Mgmt) : (mgmtMap s f).zlinks = s.zlinks := rfl
@[simp] theorem mgmtMap_pair (f : Mgmt → Mgmt) : (mgmtMap s f).pair = s.pair := rfl
@[simp] theorem mgmtMap_self (f : Mgmt → Mgmt) : (mgmtMap s f).self = s.self := rfl
@[simp] theorem mgmtMap_life (f : Mgmt → Mgmt) : (mgmtMap s f).life = s.life := rfl
@[simp] theorem mgmtMap_timers (f : Mgmt → Mgmt) : (mgmtMap s f).timers = s.timers := rfl
@[simp] theorem mgmtMap_sscPhase (f : Mgmt → Mgmt) : (mgmtMap s f).sscPhase = s.sscPhase := rfl
@[simp] theorem mgmtMap_rtcPhase (f : Mgmt → Mgmt) : (mgmtMap s f).rtcPhase = s.rtcPhase := rfl
@[simp] theorem mgmtMap_dms (f : Mgmt → Mgmt) : (mgmtMap s f).dms = s.dms := rfl
@[simp] theorem mgmtMap_act (f : Mgmt → Mgmt) : (mgmtMap s f).act = s.act := rfl
@[simp] theorem mgmtMap_ports (f : Mgmt → Mgmt) : (mgmtMap s f).ports = s.ports := rfl
@[simp] theorem mgmtMap_therm (f : Mgmt → Mgmt) : (mgmtMap s f).therm = s.therm := rfl
@[simp] theorem mgmtMap_rails (f : Mgmt → Mgmt) : (mgmtMap s f).rails = s.rails := rfl
@[simp] theorem mgmtMap_pwrGood (f : Mgmt → Mgmt) : (mgmtMap s f).pwrGood = s.pwrGood := rfl
@[simp] theorem mgmtMap_sec (f : Mgmt → Mgmt) : (mgmtMap s f).sec = s.sec := rfl
@[simp] theorem mgmtMap_mbx (f : Mgmt → Mgmt) : (mgmtMap s f).mbx = s.mbx := rfl
@[simp] theorem mgmtMap_dbgData (f : Mgmt → Mgmt) : (mgmtMap s f).dbgData = s.dbgData := rfl
@[simp] theorem mgmtMap_pending (f : Mgmt → Mgmt) : (mgmtMap s f).pending = s.pending := rfl

/-! ### secMap -/

@[simp] theorem secMap_part (f : Sec → Sec) : (secMap s f).part = s.part := rfl
@[simp] theorem secMap_tick (f : Sec → Sec) : (secMap s f).tick = s.tick := rfl
@[simp] theorem secMap_fieldLost (f : Sec → Sec) : (secMap s f).fieldLost = s.fieldLost := rfl
@[simp] theorem secMap_sscCount (f : Sec → Sec) : (secMap s f).sscCount = s.sscCount := rfl
@[simp] theorem secMap_regs (f : Sec → Sec) : (secMap s f).regs = s.regs := rfl
@[simp] theorem secMap_hiLatch (f : Sec → Sec) : (secMap s f).hiLatch = s.hiLatch := rfl
@[simp] theorem secMap_mem (f : Sec → Sec) : (secMap s f).mem = s.mem := rfl
@[simp] theorem secMap_hostMem (f : Sec → Sec) : (secMap s f).hostMem = s.hostMem := rfl
@[simp] theorem secMap_fatalQ (f : Sec → Sec) : (secMap s f).fatalQ = s.fatalQ := rfl
@[simp] theorem secMap_ordQ (f : Sec → Sec) : (secMap s f).ordQ = s.ordQ := rfl
@[simp] theorem secMap_hrep (f : Sec → Sec) : (secMap s f).hrep = s.hrep := rfl
@[simp] theorem secMap_repDropped (f : Sec → Sec) : (secMap s f).repDropped = s.repDropped := rfl
@[simp] theorem secMap_free (f : Sec → Sec) : (secMap s f).free = s.free := rfl
@[simp] theorem secMap_out (f : Sec → Sec) : (secMap s f).out = s.out := rfl
@[simp] theorem secMap_intLast (f : Sec → Sec) : (secMap s f).intLast = s.intLast := rfl
@[simp] theorem secMap_intHeld (f : Sec → Sec) : (secMap s f).intHeld = s.intHeld := rfl
@[simp] theorem secMap_pace (f : Sec → Sec) : (secMap s f).pace = s.pace := rfl
@[simp] theorem secMap_mesh (f : Sec → Sec) : (secMap s f).mesh = s.mesh := rfl
@[simp] theorem secMap_flitSeq (f : Sec → Sec) : (secMap s f).flitSeq = s.flitSeq := rfl
@[simp] theorem secMap_cores (f : Sec → Sec) : (secMap s f).cores = s.cores := rfl
@[simp] theorem secMap_banks (f : Sec → Sec) : (secMap s f).banks = s.banks := rfl
@[simp] theorem secMap_bankErr (f : Sec → Sec) : (secMap s f).bankErr = s.bankErr := rfl
@[simp] theorem secMap_poison (f : Sec → Sec) : (secMap s f).poison = s.poison := rfl
@[simp] theorem secMap_parErr (f : Sec → Sec) : (secMap s f).parErr = s.parErr := rfl
@[simp] theorem secMap_gongs (f : Sec → Sec) : (secMap s f).gongs = s.gongs := rfl
@[simp] theorem secMap_shareRecs (f : Sec → Sec) : (secMap s f).shareRecs = s.shareRecs := rfl
@[simp] theorem secMap_rowMaps (f : Sec → Sec) : (secMap s f).rowMaps = s.rowMaps := rfl
@[simp] theorem secMap_strms (f : Sec → Sec) : (secMap s f).strms = s.strms := rfl
@[simp] theorem secMap_cals (f : Sec → Sec) : (secMap s f).cals = s.cals := rfl
@[simp] theorem secMap_dmas (f : Sec → Sec) : (secMap s f).dmas = s.dmas := rfl
@[simp] theorem secMap_dmaRecs (f : Sec → Sec) : (secMap s f).dmaRecs = s.dmaRecs := rfl
@[simp] theorem secMap_segCopies (f : Sec → Sec) : (secMap s f).segCopies = s.segCopies := rfl
@[simp] theorem secMap_chains (f : Sec → Sec) : (secMap s f).chains = s.chains := rfl
@[simp] theorem secMap_segCache (f : Sec → Sec) : (secMap s f).segCache = s.segCache := rfl
@[simp] theorem secMap_cvus (f : Sec → Sec) : (secMap s f).cvus = s.cvus := rfl
@[simp] theorem secMap_flt (f : Sec → Sec) : (secMap s f).flt = s.flt := rfl
@[simp] theorem secMap_zlinks (f : Sec → Sec) : (secMap s f).zlinks = s.zlinks := rfl
@[simp] theorem secMap_pair (f : Sec → Sec) : (secMap s f).pair = s.pair := rfl
@[simp] theorem secMap_self (f : Sec → Sec) : (secMap s f).self = s.self := rfl
@[simp] theorem secMap_life (f : Sec → Sec) : (secMap s f).life = s.life := rfl
@[simp] theorem secMap_timers (f : Sec → Sec) : (secMap s f).timers = s.timers := rfl
@[simp] theorem secMap_sscPhase (f : Sec → Sec) : (secMap s f).sscPhase = s.sscPhase := rfl
@[simp] theorem secMap_rtcPhase (f : Sec → Sec) : (secMap s f).rtcPhase = s.rtcPhase := rfl
@[simp] theorem secMap_dms (f : Sec → Sec) : (secMap s f).dms = s.dms := rfl
@[simp] theorem secMap_act (f : Sec → Sec) : (secMap s f).act = s.act := rfl
@[simp] theorem secMap_ports (f : Sec → Sec) : (secMap s f).ports = s.ports := rfl
@[simp] theorem secMap_therm (f : Sec → Sec) : (secMap s f).therm = s.therm := rfl
@[simp] theorem secMap_rails (f : Sec → Sec) : (secMap s f).rails = s.rails := rfl
@[simp] theorem secMap_pwrGood (f : Sec → Sec) : (secMap s f).pwrGood = s.pwrGood := rfl
@[simp] theorem secMap_mgmt (f : Sec → Sec) : (secMap s f).mgmt = s.mgmt := rfl
@[simp] theorem secMap_mbx (f : Sec → Sec) : (secMap s f).mbx = s.mbx := rfl
@[simp] theorem secMap_dbgData (f : Sec → Sec) : (secMap s f).dbgData = s.dbgData := rfl
@[simp] theorem secMap_pending (f : Sec → Sec) : (secMap s f).pending = s.pending := rfl

/-! ### thermMap -/

@[simp] theorem thermMap_part (f : Therm → Therm) : (thermMap s f).part = s.part := rfl
@[simp] theorem thermMap_tick (f : Therm → Therm) : (thermMap s f).tick = s.tick := rfl
@[simp] theorem thermMap_fieldLost (f : Therm → Therm) : (thermMap s f).fieldLost = s.fieldLost := rfl
@[simp] theorem thermMap_sscCount (f : Therm → Therm) : (thermMap s f).sscCount = s.sscCount := rfl
@[simp] theorem thermMap_regs (f : Therm → Therm) : (thermMap s f).regs = s.regs := rfl
@[simp] theorem thermMap_hiLatch (f : Therm → Therm) : (thermMap s f).hiLatch = s.hiLatch := rfl
@[simp] theorem thermMap_mem (f : Therm → Therm) : (thermMap s f).mem = s.mem := rfl
@[simp] theorem thermMap_hostMem (f : Therm → Therm) : (thermMap s f).hostMem = s.hostMem := rfl
@[simp] theorem thermMap_fatalQ (f : Therm → Therm) : (thermMap s f).fatalQ = s.fatalQ := rfl
@[simp] theorem thermMap_ordQ (f : Therm → Therm) : (thermMap s f).ordQ = s.ordQ := rfl
@[simp] theorem thermMap_hrep (f : Therm → Therm) : (thermMap s f).hrep = s.hrep := rfl
@[simp] theorem thermMap_repDropped (f : Therm → Therm) : (thermMap s f).repDropped = s.repDropped := rfl
@[simp] theorem thermMap_free (f : Therm → Therm) : (thermMap s f).free = s.free := rfl
@[simp] theorem thermMap_out (f : Therm → Therm) : (thermMap s f).out = s.out := rfl
@[simp] theorem thermMap_intLast (f : Therm → Therm) : (thermMap s f).intLast = s.intLast := rfl
@[simp] theorem thermMap_intHeld (f : Therm → Therm) : (thermMap s f).intHeld = s.intHeld := rfl
@[simp] theorem thermMap_pace (f : Therm → Therm) : (thermMap s f).pace = s.pace := rfl
@[simp] theorem thermMap_mesh (f : Therm → Therm) : (thermMap s f).mesh = s.mesh := rfl
@[simp] theorem thermMap_flitSeq (f : Therm → Therm) : (thermMap s f).flitSeq = s.flitSeq := rfl
@[simp] theorem thermMap_cores (f : Therm → Therm) : (thermMap s f).cores = s.cores := rfl
@[simp] theorem thermMap_banks (f : Therm → Therm) : (thermMap s f).banks = s.banks := rfl
@[simp] theorem thermMap_bankErr (f : Therm → Therm) : (thermMap s f).bankErr = s.bankErr := rfl
@[simp] theorem thermMap_poison (f : Therm → Therm) : (thermMap s f).poison = s.poison := rfl
@[simp] theorem thermMap_parErr (f : Therm → Therm) : (thermMap s f).parErr = s.parErr := rfl
@[simp] theorem thermMap_gongs (f : Therm → Therm) : (thermMap s f).gongs = s.gongs := rfl
@[simp] theorem thermMap_shareRecs (f : Therm → Therm) : (thermMap s f).shareRecs = s.shareRecs := rfl
@[simp] theorem thermMap_rowMaps (f : Therm → Therm) : (thermMap s f).rowMaps = s.rowMaps := rfl
@[simp] theorem thermMap_strms (f : Therm → Therm) : (thermMap s f).strms = s.strms := rfl
@[simp] theorem thermMap_cals (f : Therm → Therm) : (thermMap s f).cals = s.cals := rfl
@[simp] theorem thermMap_dmas (f : Therm → Therm) : (thermMap s f).dmas = s.dmas := rfl
@[simp] theorem thermMap_dmaRecs (f : Therm → Therm) : (thermMap s f).dmaRecs = s.dmaRecs := rfl
@[simp] theorem thermMap_segCopies (f : Therm → Therm) : (thermMap s f).segCopies = s.segCopies := rfl
@[simp] theorem thermMap_chains (f : Therm → Therm) : (thermMap s f).chains = s.chains := rfl
@[simp] theorem thermMap_segCache (f : Therm → Therm) : (thermMap s f).segCache = s.segCache := rfl
@[simp] theorem thermMap_cvus (f : Therm → Therm) : (thermMap s f).cvus = s.cvus := rfl
@[simp] theorem thermMap_flt (f : Therm → Therm) : (thermMap s f).flt = s.flt := rfl
@[simp] theorem thermMap_zlinks (f : Therm → Therm) : (thermMap s f).zlinks = s.zlinks := rfl
@[simp] theorem thermMap_pair (f : Therm → Therm) : (thermMap s f).pair = s.pair := rfl
@[simp] theorem thermMap_self (f : Therm → Therm) : (thermMap s f).self = s.self := rfl
@[simp] theorem thermMap_life (f : Therm → Therm) : (thermMap s f).life = s.life := rfl
@[simp] theorem thermMap_timers (f : Therm → Therm) : (thermMap s f).timers = s.timers := rfl
@[simp] theorem thermMap_sscPhase (f : Therm → Therm) : (thermMap s f).sscPhase = s.sscPhase := rfl
@[simp] theorem thermMap_rtcPhase (f : Therm → Therm) : (thermMap s f).rtcPhase = s.rtcPhase := rfl
@[simp] theorem thermMap_dms (f : Therm → Therm) : (thermMap s f).dms = s.dms := rfl
@[simp] theorem thermMap_act (f : Therm → Therm) : (thermMap s f).act = s.act := rfl
@[simp] theorem thermMap_ports (f : Therm → Therm) : (thermMap s f).ports = s.ports := rfl
@[simp] theorem thermMap_rails (f : Therm → Therm) : (thermMap s f).rails = s.rails := rfl
@[simp] theorem thermMap_pwrGood (f : Therm → Therm) : (thermMap s f).pwrGood = s.pwrGood := rfl
@[simp] theorem thermMap_mgmt (f : Therm → Therm) : (thermMap s f).mgmt = s.mgmt := rfl
@[simp] theorem thermMap_sec (f : Therm → Therm) : (thermMap s f).sec = s.sec := rfl
@[simp] theorem thermMap_mbx (f : Therm → Therm) : (thermMap s f).mbx = s.mbx := rfl
@[simp] theorem thermMap_dbgData (f : Therm → Therm) : (thermMap s f).dbgData = s.dbgData := rfl
@[simp] theorem thermMap_pending (f : Therm → Therm) : (thermMap s f).pending = s.pending := rfl

/-! ### Readers -/

@[simp] theorem coreAt_setCore (c : Nat) (k : Core) : coreAt (setCore s c k) c = k := tget_tset_same _ _ _ _

theorem coreAt_setCore_ne {c d : Nat} (k : Core) (h : d ≠ c) : coreAt (setCore s c k) d = coreAt s d := tget_tset_ne _ _ _ _ h

@[simp] theorem coreAt_modCore (c : Nat) (f : Core → Core) : coreAt (modCore s c f) c = f (coreAt s c) := coreAt_setCore _ _ _

theorem coreAt_modCore_ne {c d : Nat} (f : Core → Core) (h : d ≠ c) : coreAt (modCore s c f) d = coreAt s d :=
  coreAt_setCore_ne _ _ h

@[simp] theorem strm_setStrm (k : Nat) (x : Strm) : strm (setStrm s k x) k = x := tget_tset_same _ _ _ _

theorem strm_setStrm_ne {k j : Nat} (x : Strm) (h : j ≠ k) : strm (setStrm s k x) j = strm s j := tget_tset_ne _ _ _ _ h

@[simp] theorem strm_modStrm (k : Nat) (f : Strm → Strm) : strm (modStrm s k f) k = f (strm s k) := strm_setStrm _ _ _

theorem strm_modStrm_ne {k j : Nat} (f : Strm → Strm) (h : j ≠ k) : strm (modStrm s k f) j = strm s j :=
  strm_setStrm_ne _ _ h

@[simp] theorem dmaCh_setDma (c : Nat) (d : DmaCh) : dmaCh (setDma s c d) c = d := tget_tset_same _ _ _ _

theorem dmaCh_setDma_ne {c e : Nat} (d : DmaCh) (h : e ≠ c) : dmaCh (setDma s c d) e = dmaCh s e := tget_tset_ne _ _ _ _ h

@[simp] theorem zl_setZl (l : Nat) (x : ZLink) : zl (setZl s l x) l = x := tget_tset_same _ _ _ _

theorem zl_setZl_ne {l k : Nat} (x : ZLink) (h : k ≠ l) : zl (setZl s l x) k = zl s k := tget_tset_ne _ _ _ _ h

@[simp] theorem mbxOf_setMbx (i : Nat) (m : Mbx) : mbxOf (setMbx s i m) i = m := tget_tset_same _ _ _ _

@[simp] theorem calOf_setCal (k : Nat) (c : CalStrm) : calOf (setCal s k c) k = c := tget_tset_same _ _ _ _

@[simp] theorem coreAt_wr (f : Fld) (i v c : Nat) : coreAt (wr s f i v) c = coreAt s c := rfl

@[simp] theorem strm_wr (f : Fld) (i v k : Nat) : strm (wr s f i v) k = strm s k := rfl

@[simp] theorem dmaCh_wr (f : Fld) (i v c : Nat) : dmaCh (wr s f i v) c = dmaCh s c := rfl

@[simp] theorem zl_wr (f : Fld) (i v l : Nat) : zl (wr s f i v) l = zl s l := rfl

@[simp] theorem mbxOf_wr (f : Fld) (i v m : Nat) : mbxOf (wr s f i v) m = mbxOf s m := rfl

@[simp] theorem calOf_wr (f : Fld) (i v k : Nat) : calOf (wr s f i v) k = calOf s k := rfl

@[simp] theorem rd_setCore (c : Nat) (k : Core) (f : Fld) (i : Nat) : rd (setCore s c k) f i = rd s f i := rfl

@[simp] theorem rd_modCore (c : Nat) (g : Core → Core) (f : Fld) (i : Nat) : rd (modCore s c g) f i = rd s f i := rfl

@[simp] theorem rd_setStrm (k : Nat) (x : Strm) (f : Fld) (i : Nat) : rd (setStrm s k x) f i = rd s f i := rfl

@[simp] theorem rd_modStrm (k : Nat) (g : Strm → Strm) (f : Fld) (i : Nat) : rd (modStrm s k g) f i = rd s f i := rfl

@[simp] theorem rd_setZl (l : Nat) (x : ZLink) (f : Fld) (i : Nat) : rd (setZl s l x) f i = rd s f i := rfl

@[simp] theorem rd_emit (e : Emit) (f : Fld) (i : Nat) : rd (emit s e) f i = rd s f i := rfl

@[simp] theorem bankWord_wr (f : Fld) (i v c b a : Nat) : bankWord (wr s f i v) c b a = bankWord s c b a := rfl

@[simp] theorem bankWord_modCore (c : Nat) (g : Core → Core) (d b a : Nat) : bankWord (modCore s c g) d b a = bankWord s d b a :=
  rfl

end Sys2Proof.Machine
end

