-- ==== Sys2Proof/WellFormed.lean ====
section
/-! DEFINITION. WellFormed.lean: the operands a command can carry: instance numbers that the largest part has (R3, R4), register
writes of 32 bits with four byte enables (R442), offsets of BAR0 (R441). A command that a connection cannot carry is
ill-formed; nothing below asks a command to be well-formed before it runs it. -/

namespace Sys2Proof

/-- A write of 32 bits with four byte enables (R442). -/
def wrOk (w : Wr) : Bool := decide (w.be < 16) && decide (w.val < word32)

/-- A core of the 128 (R4). -/
def coreOk (c : Nat) : Bool := decide (c < 128)

/-- A stream of the 32 (R370). -/
def streamOk (k : Nat) : Bool := decide (k < 32)

/-- A DMA channel of the 72 (R445). -/
def channelOk (c : Nat) : Bool := decide (c < 72)

/-- A sensor port or link of the 13, or the host's (R370). -/
def portOk (p : Nat) : Bool := decide (p ≤ 13)

/-- A GigE Vision port (R386). -/
def gvPortOk (p : Nat) : Bool := decide (p < 2)

/-- A Zehorn link of the four (R303). -/
def linkOk (l : Nat) : Bool := decide (l < 4)

/-- A cell's link, its 24-bit sequence numbers and its 16-bit pair sequence number (R304). -/
def rxOk (rx : Rx) : Bool :=
  linkOk rx.link && decide (rx.lseq < 2 ^ 24) && decide (rx.ack < 2 ^ 24) && decide (rx.pseq < 65536)

/-- A virtual channel of the 32 (R374). -/
def vcOk (v : Nat) : Bool := decide (v < 32)

/-- An offset of the 1 MiB of BAR0 (R441). -/
def offOk (o : Nat) : Bool := decide (o < 0x100000)

/-- An access of BAR0. -/
def accOk (a : Acc) : Bool := offOk a.off && decide (a.be < 16) && decide (a.wval.getD 0 < word32)

/-- An instruction bank of the two (R77). -/
def bankOk (b : Nat) : Bool := decide (b < 2)

/-- A scratchpad bank of the 32 (R151). -/
def spBankOk (b : Nat) : Bool := decide (b < 32)

/-- A word of an instruction bank (R77). -/
def wordAddrOk (a : Nat) : Bool := decide (a < 4096)

/-- A ring of a core (R158). -/
def ringOk (r : Nat) : Bool := decide (r < 16)

/-- A counter of a core (R163). -/
def counterOk (n : Nat) : Bool := decide (n < 32)

/-- A row-map entry (R168). -/
def rowmapOk (n : Nat) : Bool := decide (n < 256)

/-- A bank group of a core (R169). -/
def groupOk (g : Nat) : Bool := decide (g < 4)

/-- The stored bits a fault names are ones the machine has. -/
def upsetOk : Upset → Bool
  | .fetch mask => decide (mask < 2 ^ 72)
  | .spad word mask => decide (word < 12288) && decide (mask < 2 ^ 288)
  | .acc tile elem mask => decide (tile < 16) && decide (elem < 1024) && decide (mask < 2 ^ 36)
  | .weight _ line mask par => decide (line < 64) && decide (mask < 2 ^ 1024) && decide (par < 2 ^ 128)
  | .state _ | .result _ _ _ => true

/-- What befalls an instruction. -/
def chkOk (k : Chk) : Bool := k.upsets.all upsetOk

/-- A temperature sensor of the 24 (R328). -/
def sensorOk (n : Nat) : Bool := decide (n < 24)

/-- A check-value unit (R267). -/
def cvuOk (u : Nat) : Bool := decide (u < 16)

/-- An encoder input pair (R390). -/
def encOk (e : Nat) : Bool := decide (e < 2)

/-- The eight words of a share descriptor (R80). -/
def descOk (l : List Nat) : Bool := l.length == 8 && l.all (fun w => decide (w < word32))

/-- A datagram's header and tag have their sizes (R431). -/
def dgramOk (d : InDgram) : Bool := d.header.length == 48 && d.tag.length == 32

/-- A command frame of Damson has bytes on its line (R361). -/
def frameOk (f : DmsFrame) : Bool :=
  match f.via with
  | .serial line => !line.isEmpty
  | .tap _ => true

/-- The operands of a command are ones it can carry. -/
def Instr.wf : Instr → Bool
  | .registerWrite w off => wrOk w && offOk off
  | .absentInstanceAccess a => accOk a
  | .unmappedOffsetAccess a => accOk a
  | .coreCntStepsLoRead _ => true
  | .fioTickLoRead _ => true
  | .lifePoweredLoRead _ => true
  | .idUniqueLoRead _ => true
  | .lineReceived stream _ => streamOk stream
  | .rawFrontLine stream _ => streamOk stream
  | .lineWriteToDram stream => streamOk stream
  | .stripeClose stream => streamOk stream
  | .partialStripeTimeout stream => streamOk stream
  | .shareDispatch stream => streamOk stream
  | .cropBatchDispatch stream => streamOk stream
  | .shareDescriptorWrite core words => coreOk core && descOk words
  | .shareEnd core _ => coreOk core
  | .computeDeadlineExpiry stream _ _ _ => streamOk stream
  | .commit stream => streamOk stream
  | .commitDeadlineExpiry stream _ => streamOk stream
  | .pictureBackLine stream _ => streamOk stream
  | .outputLineSend stream _ _ => streamOk stream
  | .brambleFlitHop _ _ _ _ _ => true
  | .fieldTickLoss _ => true
  | .fieldFrequencyWindowEnd _ _ => true
  | .sysRefclkLoss _ => true
  | .paceEvaluation _ _ => true
  | .pmbusReadbackCheck _ _ _ => true
  | .voutModeRecheck _ _ => true
  | .pipePaceCtrlWrite w => wrOk w
  | .latencyMaxClear w => wrOk w
  | .nop core k => coreOk core && chkOk k
  | .li core k => coreOk core && chkOk k
  | .alu core k => coreOk core && chkOk k
  | .alui core k => coreOk core && chkOk k
  | .mfsr core k => coreOk core && chkOk k
  | .br core k => coreOk core && chkOk k
  | .jmp core k => coreOk core && chkOk k
  | .call core k => coreOk core && chkOk k
  | .ret core k => coreOk core && chkOk k
  | .loopOpen core k => coreOk core && chkOk k
  | .tset core k => coreOk core && chkOk k
  | .tadv core k => coreOk core && chkOk k
  | .tedge core k => coreOk core && chkOk k
  | .mma core k => coreOk core && chkOk k
  | .mmaFamilyStart core => coreOk core
  | .mmaw core k => coreOk core && chkOk k
  | .mmad core k => coreOk core && chkOk k
  | .mmac core k => coreOk core && chkOk k
  | .oacc core k => coreOk core && chkOk k
  | .vop core k => coreOk core && chkOk k
  | .vops core k => coreOk core && chkOk k
  | .vcmp core k => coreOk core && chkOk k
  | .vsel core k => coreOk core && chkOk k
  | .vcvt core k => coreOk core && chkOk k
  | .vreq core k => coreOk core && chkOk k
  | .vfn core k => coreOk core && chkOk k
  | .vred core k => coreOk core && chkOk k
  | .varg core k => coreOk core && chkOk k
  | .vpool core k => coreOk core && chkOk k
  | .vacc core k => coreOk core && chkOk k
  | .vmxqQuantise core k => coreOk core && chkOk k
  | .vmxqExpand core k => coreOk core && chkOk k
  | .vbc core k => coreOk core && chkOk k
  | .vld core k => coreOk core && chkOk k
  | .vst core k => coreOk core && chkOk k
  | .slsLoad core k => coreOk core && chkOk k
  | .slsStore core k => coreOk core && chkOk k
  | .xferWrite core k => coreOk core && chkOk k
  | .xferRead core k => coreOk core && chkOk k
  | .xferReadResponse core _ _ => coreOk core
  | .remoteWriteAck core _ _ _ => coreOk core
  | .bindRing core k => coreOk core && chkOk k
  | .bindCounter core k => coreOk core && chkOk k
  | .rput core k => coreOk core && chkOk k
  | .ringReservationGrant core ring => coreOk core && ringOk ring
  | .ringSlotLanded core ring _ _ => coreOk core && ringOk ring
  | .rget core k => coreOk core && chkOk k
  | .rwinAcquire core k => coreOk core && chkOk k
  | .rwinRelease core k => coreOk core && chkOk k
  | .ringWaitSatisfied core => coreOk core
  | .cwait core k => coreOk core && chkOk k
  | .counterWaitSatisfied core => coreOk core
  | .csetAdd core k => coreOk core && chkOk k
  | .csetSet core k => coreOk core && chkOk k
  | .gongArrive core k => coreOk core && chkOk k
  | .gongWait core k => coreOk core && chkOk k
  | .gongSync core k => coreOk core && chkOk k
  | .gongGenerationComplete stream _ _ => streamOk stream
  | .gongWaitLimitExpiry core => coreOk core
  | .fence core k => coreOk core && chkOk k
  | .fenceComplete core => coreOk core
  | .endShare core k => coreOk core && chkOk k
  | .chk core k => coreOk core && chkOk k
  | .stallWatchdogExpiry core => coreOk core
  | .bankWrite core bank addr _ => coreOk core && bankOk bank && wordAddrOk addr
  | .validateBank w => wrOk w
  | .validateComplete core bank => coreOk core && bankOk bank
  | .invalidateBank w => wrOk w
  | .instructionScrubPass core flips => coreOk core && flips.all (fun f => decide (f.1 < 2) && decide (f.2.1 < 4096))
  | .coreEnWrite w => wrOk w
  | .coreStop w => wrOk w
  | .coreCntClear w => wrOk w
  | .coreRoleWrite w => wrOk w
  | .coreStartDone core => coreOk core
  | .coreDrainDone core => coreOk core
  | .coreDrainTimeout core => coreOk core
  | .marginWiden core => coreOk core
  | .ratchetRotation core bank _ => coreOk core && spBankOk bank
  | .spadHazardClear w => wrOk w
  | .spadCfgWrite w => wrOk w
  | .bankGroupStartDone core group => coreOk core && groupOk group
  | .bankGroupDrainDone core group => coreOk core && groupOk group
  | .spadRemap w => wrOk w
  | .remapCopyDone core => coreOk core
  | .remapRecorded core => coreOk core
  | .spadRowmapWrite w n => wrOk w && rowmapOk n
  | .spadRingCfg0Write w r => wrOk w && ringOk r
  | .spadRingCfg1Write w r => wrOk w && ringOk r
  | .spadRingStateWrite w r => wrOk w && ringOk r
  | .spadCntWrite w n _ => wrOk w && counterOk n
  | .strmRfCtrlWrite w => wrOk w
  | .strmPbCtrlWrite w => wrOk w
  | .retiling => true
  | .dmaGo w => wrOk w
  | .dmaCancel w => wrOk w
  | .dmaCancelComplete channel => channelOk channel
  | .dmaResume w => wrOk w
  | .dmaCntClear w => wrOk w
  | .dmaMove channel _ => channelOk channel
  | .dmaMovex channel _ => channelOk channel
  | .dmaLoop channel _ => channelOk channel
  | .dmaEndloop channel _ => channelOk channel
  | .dmaWaitDrain channel _ => channelOk channel
  | .dmaWaitCounter channel _ => channelOk channel
  | .dmaWaitSatisfied channel => channelOk channel
  | .dmaWaitLimitExpiry channel => channelOk channel
  | .dmaSignalCounter channel _ => channelOk channel
  | .dmaSignalEvent channel _ => channelOk channel
  | .dmaSignalSend channel _ _ => channelOk channel
  | .dmaSumStart channel _ => channelOk channel
  | .dmaSumStop channel _ => channelOk channel
  | .dmaSumResultStore channel => channelOk channel
  | .dmaEnd channel _ => channelOk channel
  | .dmaPieceAck channel _ _ => channelOk channel
  | .dmaTagTimeout channel _ => channelOk channel
  | .dramRequestTimeout _ => true
  | .pcieCompletionTimeout channel _ => channelOk channel
  | .chainSegmentGrant channel => channelOk channel
  | .chainWordDelivered channel core => channelOk channel && coreOk core
  | .chainStallLimitExpiry core => coreOk core
  | .dmaSegInval w => wrOk w
  | .segmentCopyDone _ => true
  | .cvuCtrlWrite w unit => wrOk w && cvuOk unit
  | .cvuCfgWrite w unit => wrOk w && cvuOk unit
  | .cvuClose w unit => wrOk w && cvuOk unit
  | .cvuWindowWrite w unit => wrOk w && cvuOk unit
  | .cvuWindowClose unit => cvuOk unit
  | .coreForgiveness core => coreOk core
  | .shadowDispatch stream _ _ => streamOk stream
  | .shadowCompareDone stream _ _ => streamOk stream
  | .testSliceStart core _ _ _ _ => coreOk core
  | .testRoundOverdue => true
  | .configCrcRecheck _ => true
  | .lockstepMismatch _ => true
  | .doubt _ => true
  | .sscDoubtWrite w => wrOk w
  | .sscWdogKick w => wrOk w
  | .sscWatchdogExpiry => true
  | .commitWatchdogExpiry stream _ => streamOk stream
  | .safeInAssert _ => true
  | .sscCopyDisagree => true
  | .sscSafeLevelWrite w => wrOk w
  | .sscLockWrite w => wrOk w
  | .sscRelease w _ => wrOk w
  | .strmFltCtrlWrite w => wrOk w
  | .zlShortCellReceived rx _ => rxOk rx
  | .zlIdleCellTimer link => linkOk link
  | .zlLinkSilence link => linkOk link
  | .zlRetrainTimer link => linkOk link
  | .zlTrained link _ _ => linkOk link
  | .zlHelloReceived link _ => linkOk link
  | .zlHelloTimeout link => linkOk link
  | .zlLineCellReceived rx stream _ => rxOk rx && streamOk stream
  | .tokenCommitReceived rx stream _ _ _ => rxOk rx && streamOk stream
  | .tokenRetractLineReceived rx stream _ _ _ => rxOk rx && streamOk stream
  | .tokenReadyReceived rx stream _ _ _ => rxOk rx && streamOk stream
  | .tokenRetractSegmentReceived rx stream _ _ _ _ => rxOk rx && streamOk stream
  | .tokenLeaveReceived rx _ _ => rxOk rx
  | .tokenYieldReceived rx stream _ _ _ => rxOk rx && streamOk stream
  | .tokenDropReceived rx stream _ _ _ => rxOk rx && streamOk stream
  | .digestCellReceived rx stream _ _ _ _ _ _ => rxOk rx && streamOk stream
  | .segmentDigestCompute stream _ _ => streamOk stream
  | .markCellReceived rx _ stream _ => rxOk rx && streamOk stream
  | .controlCellReceived rx stream _ _ => rxOk rx && streamOk stream
  | .messageCellReceived rx _ _ => rxOk rx
  | .rstreamCellReceived rx head _ => rxOk rx && streamOk head.stream
  | .ringCellForward rx _ _ => rxOk rx
  | .lineTokenTimeout stream _ => streamOk stream
  | .swapConfirmTimeout stream => streamOk stream
  | .zpSwap w => wrOk w
  | .zlCtrlWrite w => wrOk w
  | .zrCtrlWrite w => wrOk w
  | .calRun w => wrOk w
  | .calCaptureStart stream => streamOk stream
  | .calCaptureEnd stream => streamOk stream
  | .calComputeDone stream => streamOk stream
  | .calCommit w => wrOk w
  | .calDiscard w => wrOk w
  | .calEffectStart stream => streamOk stream
  | .calPbBlendStart stream => streamOk stream
  | .calBlendEnd stream => streamOk stream
  | .calApertureWrite w off => wrOk w && offOk off
  | .calLimWrite w off => wrOk w && offOk off
  | .calPersistWrite w => wrOk w
  | .calCanaryCtrlWrite w => wrOk w
  | .tempSensorRead _ => true
  | .sensorExclude sensor => sensorOk sensor
  | .sensorRejoin sensor => sensorOk sensor
  | .supplyMonitorCal _ => true
  | .canaryEvaluation _ => true
  | .dramTrackingUpdate _ => true
  | .serdesEqUpdate link _ _ => linkOk link
  | .lifeCountersWrite _ => true
  | .wearHistogramTick => true
  | .rtcSet w => wrOk w
  | .vbatOutOfRange _ => true
  | .tapTimeFrameSend => true
  | .dmsLinesFrame _ _ => true
  | .dmsTimeFrame _ _ => true
  | .dmsTapSilence _ => true
  | .dmsEncoderPulse _ _ => true
  | .dmsStart f => frameOk f
  | .dmsStop f => frameOk f
  | .dmsRecAck f => frameOk f
  | .dmsIdent f => frameOk f
  | .dmsTrailPage f => frameOk f
  | .dmsSetparam f _ => frameOk f
  | .dmsFwupdate f _ _ _ => frameOk f
  | .dmsTrailAck f => frameOk f
  | .dmsAdjustEnter _ => true
  | .dmsAdjustLeave _ => true
  | .dmsStateSave _ => true
  | .dmsBoot _ _ _ _ => true
  | .dmsOscFail _ => true
  | .dmsOscRecover => true
  | .dmsPowerLoss => true
  | .csi2FrameStart port vc _ => portOk port && vcOk vc
  | .csi2FrameEnd port vc => portOk port && vcOk vc
  | .csi2LineStart port vc => portOk port && vcOk vc
  | .csi2LineEnd port vc => portOk port && vcOk vc
  | .csi2LongPacket port vc _ _ _ => portOk port && vcOk vc
  | .csi2GenericShortPacket port vc _ => portOk port && vcOk vc
  | .cxpStreamPacket port _ _ => portOk port
  | .cxpControlPacket port _ _ => portOk port
  | .cxpEventPacket port _ => portOk port
  | .cxpLockLoss link => portOk link
  | .cxpDiscoveryDone port _ _ => portOk port
  | .slvdsLine _ _ _ => true
  | .sourceLoss port => portOk port
  | .sourceRegained port _ => portOk port
  | .hinEntryRead stream => streamOk stream
  | .strmHinHeadWrite w => wrOk w
  | .hqEntryWrite stream _ => streamOk stream
  | .strmHqTailWrite w => wrOk w
  | .strmQueueConfigWrite w _ => wrOk w
  | .gvspBlockSend stream => streamOk stream
  | .gvcpDiscovery port => gvPortOk port
  | .gvcpRegisterAccess port _ _ _ => gvPortOk port
  | .gvcpMemoryAccess port _ _ _ => gvPortOk port
  | .gvcpAddressAssignment port _ => gvPortOk port
  | .gvcpPacketresend port _ _ _ _ => gvPortOk port
  | .pcieLinkTrained _ _ => true
  | .pcieLinkDown _ => true
  | .functionLevelReset => true
  | .pcieAerUncorrectable _ => true
  | .streamStart w => wrOk w
  | .streamStop w => wrOk w
  | .streamConfigWrite w off => wrOk w && offOk off
  | .portCfgWrite w => wrOk w
  | .portCxpTrigWrite w => wrOk w
  | .portSlvdsSyncWrite w _ => wrOk w
  | .encoderPulse enc _ _ _ => encOk enc
  | .triggerEdge _ _ _ => true
  | .fioTrigCtrlWrite w _ => wrOk w
  | .decisionDue => true
  | .pulseEnd => true
  | .aliveToggle => true
  | .fioActForceWrite w => wrOk w
  | .pwrGoodAssert _ => true
  | .bootStepOverrun _ => true
  | .pwrGoodDeassert _ _ => true
  | .supplyRailOutOfRange _ _ => true
  | .vddMetLoss => true
  | .thermistorRead _ _ _ => true
  | .coolantAlarm => true
  | .junctionCheck => true
  | .thermalLimitExpiry => true
  | .shedRelease => true
  | .thermalTrip => true
  | .thermCtrlWrite w => wrOk w
  | .handoverAbandon => true
  | .keyAddKey _ => true
  | .keyRevokeKey _ => true
  | .keySetPassword _ => true
  | .keySetMgmtKey _ => true
  | .keyProvisionDone _ _ => true
  | .vendorProvision _ _ _ => true
  | .vendorReturn _ _ _ => true
  | .secSubmitPw w => wrOk w
  | .secSubmitCr w => wrOk w
  | .secNonce w => wrOk w
  | .secClose w => wrOk w
  | .nonceExpiry => true
  | .lockoutEnd => true
  | .jtagAccess _ => true
  | .mgmtDatagramReceived d => dgramOk d
  | .mgmtAckReceived d => dgramOk d
  | .mgmtResendTimer => true
  | .mgmtPeerSilent => true
  | .mgmtHeartbeat => true
  | .reportSend => true
  | .mgmtRateWrite w => wrOk w
  | .clapperGetSnapshot d => dgramOk d
  | .clapperGetLifePage d _ => dgramOk d
  | .clapperInstallChime d _ _ => dgramOk d
  | .clapperWriteFirmware d _ => dgramOk d
  | .clapperHandover d => dgramOk d
  | .clapperRelease d _ => dgramOk d
  | .clapperHazardClear d core => dgramOk d && coreOk core
  | .clapperSetCalendar d _ => dgramOk d
  | .clapperKeyCmd d _ _ => dgramOk d
  | .clapperGetNonce d => dgramOk d
  | .clapperReopen d _ _ => dgramOk d
  | .transferIdleTimeout _ => true
  | .glbIntStatusWrite w => wrOk w
  | .glbIntEnableWrite w => wrOk w
  | .glbIntStrmStatusWrite w => wrOk w
  | .glbIntStrmEnableWrite w => wrOk w
  | .intHoldoffExpiry _ stream => streamOk stream
  | .mbxLoad w _ channel => wrOk w && channelOk channel
  | .mbxSwap w _ channel => wrOk w && channelOk channel
  | .mbxHandover w => wrOk w
  | .mbxWriteFirmware w channel => wrOk w && channelOk channel
  | .mbxKeyCmd w _ channel => wrOk w && channelOk channel
  | .mbxHazardClear w => wrOk w
  | .mbxDramRead w channel => wrOk w && channelOk channel
  | .mbxDramWrite w channel => wrOk w && channelOk channel
  | .mbxCxpControl w => wrOk w
  | .mbxSegment w channel => wrOk w && channelOk channel
  | .mbxDamsonCmd w => wrOk w
  | .mbxResponsePost _ => true
  | .mbxEventPost _ => true
  | .mbxRspTailWrite w => wrOk w
  | .mbxEvtTailWrite w => wrOk w
  | .dbgRead w => wrOk w
  | .dbgWrite w => wrOk w
  | .dbgHalt w => wrOk w
  | .dbgResume w => wrOk w
  | .controlPairSelfTestDone _ _ => true
  | .vddIo33Below2v7 => true

end Sys2Proof
end

