-- ==== Sys2Proof/Tests/Slice0.lean ====
section
/-! SUPPORT. Tests/Slice0.lean: for every statement of Certificates/Slice0/Obligations.lean with hypotheses, a concrete
state and operands that meet them, clause by clause (`witness_…`, clauses in the statement's order); an ill-formed term
for each check of WellFormed.lean (`wf_…`); and values the spec's own text gives (`test_…`). -/

namespace Sys2Proof.Tests

open Sys2Proof Sys2Proof.Machine

set_option Elab.async false

/-! ### States to start from -/

/-- The state after reset. -/
def z : State := State.reset

/-- A state with register fields set: field, instance, value. -/
def put (l : List (Fld × Nat × Nat)) (s : State) : State := l.foldl (fun s p => wr s p.1 p.2.1 p.2.2) s

/-- A full write of a value by the first requester that may write the register. -/
def full (r : RegSpec) (v : Nat) : Wr :=
  ⟨([Requester.host, .control, .clapper].find? (fun q => mayWrite q r.kind r.off)).getD .host, 15, v⟩

/-- SAFE is not latched. -/
def live : State := put [(R.SSC_STATE.SAFE, 0, 0)] z

/-- A write takes effect on a register's first copy. -/
abbrev taken (s : State) (r : RegSpec) (v : Nat) : Prop := Takes s (full r v) r 0 0

/-- Stream 0 in a given condition. -/
def onS (x : Strm) (s : State) : State := { s with strms := [(0, x)] }

/-- A one-line stripe's line of four pixels. -/
def line0 : Line := ⟨0, 0, 0, 0, 0, [1, 2, 3, 4], false, true, true, false⟩

/-- A package for one-line stripes of 64 pixels. -/
def pkg0 : Pkg where
  sha := 1
  format := 2
  height := 1
  fIn := 1
  domains := [⟨0, 64, 1, 0, 0, 1024, []⟩]
  layers := []
  accTiles := 1
  entryPc := 0
  cropPc := 0
  cropAcc := 0
  barriers := []
  rings := []
  fetches := []
  cnts := []
  signals := []
  buffers := []
  groups := []
  weights := (0, 0)
  segmented := false
  combines := []
  counted := []
  cores := []
  clusters := []
  channels := []
  needs := ⟨0, 0, 0, 0⟩
  cropSizes := []
  cropB := 0
  cropMax := 0
  cropLen := 0
  cropSlots := 0
  decMax := 0
  segments := 1
  settle := 57
  c0 := 1
  c1 := 1
  cb := 1
  progWords := 1
  folds := false
  metAt := 0

/-- A share's descriptor. -/
def desc0 : Desc := ⟨0, 0, 0, 16, 0, 1, 0, 0, 64, 0, 0, 0, 0⟩

/-- A band of one core, its map, and its share, sent to core 0 and ended clean. -/
def map0 : BandMap := ⟨[⟨0, 64, 0⟩], 1, 0, 0⟩

/-- Its share. -/
def share0 : Share := ⟨false, 0, desc0, [⟨0, 0, some (1, 0)⟩], false⟩

/-- Its stripe, begun, its share ended clean. -/
def stripe0 : Stripe := { Stripe.reset with
  lines := 1, got := 1, real := 1, complete := true, closed := true, begun := true, epoch := 1, pkg := some pkg0,
  map := map0, shares := [share0], crops := true }

/-- An output stripe with one packed line of eight bytes. -/
def outLine0 : OutLine := ⟨0, [1, 2, 3, 4, 5, 6, 7, 8], none, false⟩

/-- Its stripe. -/
def out0 : OutStripe := ⟨0, 0, 1, true, false, false, false, 0, 0, 0, 0, 8, 1, [outLine0], 0, 0, 0, 0, false, false, 0⟩

/-- Cores 0 to 7 are idle and have passed their tests. -/
def staffed (s : State) : State :=
  put ((upto 8).map fun c => (R.CORE_STATE.STATE, c, coreIdle)) { s with flt := { s.flt with passed := upto 8 } }

/-- Channel 64 has a piece that reads the host window. -/
def hostPiece : Piece := ⟨0, true, 0x8000000000, 0, 32, .plain, 0, false, false⟩

/-- A stream 0 that may start on the host's input, and one that runs. -/
def ready0 : State := onS { Strm.reset with pkg := some pkg0, height := 1 }
  (staffed (put [(R.SSC_LOCK.LOCK, 0, 1), (R.STRM_GEOM.WIDTH, 0, 64)] live))

/-- Stream 0 runs on the host's input. -/
def running0 : State := put [(R.STRM_SRC.EN, 0, 1), (R.STRM_SRC.PORT, 0, 13)] ready0

/-! ### Steps, reset, register writes -/

theorem witness_IdleStepLetsATickPass :
    z.pending = [] ∧ z.sscPhase ≠ 3 ∧ z.rtcPhase + 1 < rtcSecond z ∧ ({ z with sscPhase := 3 } : State).sscPhase = 3 ∧
      (let s : State := put [(R.RTC_STATUS.VALID, 0, 1)] { z with rtcPhase := 99999999 }
       s.pending = [] ∧ rtcSecond s ≤ s.rtcPhase + 1 ∧ isSet s R.RTC_STATUS.VALID 0 = true) ∧
      (∀ c, c ∈ z.dmas.map (·.1) → chState z c = chHalted → isSet z R.DMA_CH_STATE.RESUMABLE c = true) ∧
      (let s : State := { put [(R.DMA_CH_STATE.STATE, 0, chHalted)] z with dmas := [(0, DmaCh.reset)] }
       let t := rtcTick (sscTick s)
       s.pending = [] ∧ chState t 0 = chHalted ∧ isSet t R.DMA_CH_STATE.RESUMABLE 0 = false) ∧
      (∀ e, e ∈ z.cores → e.2.spareless = false ∨ e.2.run.isSome = true) ∧ rd z R.ZP_STATUS.ROLE 0 = 0 ∧
      z.self.driftTo = z.self.drift := by decide +kernel

theorem witness_EveryStepKeepsTheStores : WellKept z ∧
    ∃ t, step z = .next t := ⟨by decide +kernel, _, rfl⟩

theorem witness_SafeIsLeftByAReleaseOnly : isSafe z = true ∧
    ∃ t, exec (.sscRelease (full R.SSC_CTRL.reg 0x5A) false) z = .next t ∧ isSafe t = false :=
  ⟨by decide +kernel, _, rfl, by decide +kernel⟩

theorem witness_CommandsLeaveTheQueueAlone : ∃ t, exec .nonceExpiry z = .next t := ⟨_, rfl⟩

/-- CORE_MAXPACE is a register without a row of its own. -/
theorem witness_RegisterWriteSetsItsFields :
    (R.map.any fun r => decide (regAt r.off = some (r, 0)) && decide (sourceReg r.off = none) && !hasOwnEffect r &&
      decide (Takes z (full r 0) r 0 0)) = true := by decide +kernel
theorem witness_RegisterWriteElsewhere :
    taken z R.CLU_MARGIN.reg 0 ∧ taken z R.FIO_ACT_FUNC.reg 1 ∧ taken z R.ZP_CTRL.reg 1 ∧
    taken z R.CAL_BLEND.reg 1 ∧ taken z R.PIPE_PROMISE_STATUS.reg 1 ∧ taken z R.SEC_PW_LEN.reg 64 ∧ Takes z ⟨.host, 15, 1⟩ R.FIO_ENC_CTRL.reg 0 0 ∧
    Takes z ⟨.host, 15, 1⟩ R.FIO_ENC_CTRL.reg 1 0 ∧ taken z R.DBG_ADDR_LO.reg 0x20 ∧ dbgOpen z = true ∧
    bit (rd z R.MBX_STATUS.SLOT_BUSY 0) (0x7FC / 256) = false := by decide +kernel

theorem witness_BadAccessSetsWindowError :
    (let s := put [(R.GLB_PORTSEL.INDEX, 0, 13)] z
     absentBit s .host R.PORT_CFG.reg.off = some 2 ∧ winClear s 0 = true ∧
       regAt R.PORT_CFG.reg.off = some (R.PORT_CFG.reg, 0) ∧ sourceReg R.PORT_CFG.reg.off = none ∧
       instOf s .host R.PORT_CFG.reg.kind = none) ∧
    mapped 0x3C00 = false ∧ sourceReg 0x3C00 = none ∧ winClear z 0 = true ∧
    absentBit z .host R.DMA_CH_LIMIT.reg.off = none ∧ mapped R.DMA_CH_LIMIT.reg.off = true ∧
    regAt R.DMA_CH_LIMIT.reg.off = some (R.DMA_CH_LIMIT.reg, 0) ∧ sourceReg R.DMA_CH_LIMIT.reg.off = none ∧
    instOf z .host .dma = some 0 ∧
    sourceReg 0x18004 = some R.STRM_GEOM.reg ∧ instOf z .host R.STRM_GEOM.reg.kind = some 0 ∧
    (let s := put [(R.GLB_STRMSEL.INDEX, 0, 32)] z
     instOf s .host R.STRM_GEOM.reg.kind = none) := by decide +kernel

theorem witness_LowReadLatchesHigh : instOf z .host .core = some 0 := by decide +kernel

theorem witness_InterruptWritesNotifyAgain :
    taken z R.GLB_INT_STATUS.reg 1 ∧ taken z R.GLB_INT_ENABLE.reg 1 ∧ taken z R.GLB_INT_STRM_STATUS.reg 0xFFFFFFFF ∧
    taken z R.GLB_INT_STRM_ENABLE.reg 0x80000000 ∧
    (let s : State := { put [(R.GLB_INT_STRM_STATUS.STRM, 0, 2 ^ 31), (R.GLB_INT_STRM_ENABLE.EN, 0, 2 ^ 31)] z with
       intHeld := [(31, true)], intLast := [(31, 1)], tick := 100000 }
     tget false s.intHeld (intKey .host 31) = true ∧
       tget 0 s.intLast (intKey .host 31) + rd s R.GLB_INT_HOLDOFF.STRM_US 0 * 100 ≤ s.tick + 1 ∧
       bit (rd s R.GLB_INT_STRM_STATUS.STRM 0) 31 = true ∧ bit (rd s R.GLB_INT_STRM_ENABLE.EN 0) 31 = true) := by
  decide +kernel

theorem witness_DebugWindowActs :
    dbgOpen z = true ∧ isSafe z = true ∧
    (let s := put [(R.DBG_ADDR_LO.ADDR, 0, 0x20)] z
     taken s R.DBG_CTRL.reg 1 ∧ taken s R.DBG_CTRL.reg 2 ∧ dbgOpen s = true ∧ isSafe s = true ∧ dbgOk s = true) ∧
    taken z R.DBG_CTRL.reg 4 ∧ taken z R.DBG_CTRL.reg 8 ∧ bits 8 4 7 < z.part.cores ∧
    taken live R.DBG_CTRL.reg 2 ∧ taken live R.DBG_CTRL.reg 4 ∧ dbgOpen live = true ∧ isSafe live = false := by
  decide +kernel

/-! ### Streams -/

/-- The two end checks agree. -/
def calm : EndChk := ⟨true, true, 0, false⟩

theorem witness_LinesBecomeStripes :
    (let s := onS { Strm.reset with cross := [line0] } z
     (strm s 0).cross = [line0] ∧ (strm s 0).fed = false) ∧
    (let s := onS { Strm.reset with cross := [line0], fed := true } z
     (strm s 0).cross = [line0] ∧ (strm s 0).fed = true) ∧
    (let s := onS { Strm.reset with cross := [line0] } (put [(R.ZP_STATUS.ROLE, 0, 2), (R.ZL_STATUS.STATE, 1, 3),
         (R.ZL_CTRL.EN, 1, 1), (R.ZL_CTRL.MODE, 1, 1)] z)
     (strm s 0).cross = [line0] ∧ (strm s 0).fed = false ∧ usesPartner s = true) ∧
    (let s := onS { Strm.reset with fifo := [line0] } z
     (strm s 0).fifo = [line0] ∧ awaitsEffect s 0 (stripeAhead (strm s 0) line0).1 = false ∧ calm.first = true) ∧
    (let s := onS { Strm.reset with done := [⟨line0, 1, 1, 1, [1, 2, 3, 4], 0⟩] } z
     (strm s 0).done = [⟨line0, 1, 1, 1, [1, 2, 3, 4], 0⟩]) ∧
    (∀ j < 4, ∀ i < 1, 4 ≠ inputAt Place.reset 0 (codeOff ⟨line0, 1, 1, 1, [1, 2, 3, 4], 0⟩ j) + i) ∧
    (let t := { stripe0 with closed := false, begun := false }
     let s := onS { Strm.reset with stripes := [t] } z
     toClose (strm s 0) = some t ∧ tooFast s 0 t = false) ∧
    (let t := { Stripe.reset with lines := 2, got := 1, real := 1 }
     let s : State := { onS { Strm.reset with stripes := [t], height := 2 } (put [(R.STRM_LP.TICKS, 0, 100)] z) with
       tick := 400 }
     (strm s 0).stripes.getLast? = some t ∧ t.complete = false ∧ (strm s 0).cross = [] ∧ (strm s 0).fifo = [] ∧
       (strm s 0).done = [] ∧ (strm s 0).lastAt + 2 * spOf' s 0 ≤ s.tick) := by decide +kernel

theorem witness_SharesAreDispatched :
    (let t := { stripe0 with begun := false, shares := [], crops := false, map := BandMap.reset }
     let s := onS { Strm.reset with pkg := some pkg0, stripes := [t], map := map0, height := 1 } z
     s = showWaits (fillBubbles s) ∧ leader s 0 = 0 ∧ (strm s 0).pkg.isSome = true ∧ toDispatch (strm s 0) = some t ∧
       allClosed s 0 t.no = true ∧ t.no = 0 ∧ (stripeOf (strm (beginStripe s 0 t) 0) t.no).isSome = true) ∧
    (let t := { stripe0 with crops := false }
     let s := onS { Strm.reset with pkg := some pkg0, stripes := [t] } z
     (strm s 0).stripes.find? (fun t => t.begun && !t.committed &&
         (!t.crops || t.shares.any (fun h => h.crop && h.atts.isEmpty))) = some t ∧
       t.pkg = some pkg0 ∧ t.crops = false ∧ streamWorkDone s 0 t pkg0 = true ∧
       (stripeOf (strm (cutCrops s 0 t pkg0) 0) t.no).isSome = true) := by decide +kernel

theorem witness_SharesEndAndStripesCommit :
    (let s : State := { z with cores := [(127, { Core.reset with run := some desc0, ending := true })] }
     (coreAt s 127).run = some desc0 ∧ (coreAt s 127).ending = true ∧ (coreAt s 127).outw = [] ∧
       (coreAt s 127).reads = [] ∧ (coreAt s 127).waiting = none) ∧
    (let t := { stripe0 with shares := [{ share0 with atts := [⟨0, 0, none⟩] }] }
     let s : State := { onS { Strm.reset with stripes := [t], height := 1 } (put [(R.STRM_LP.TICKS, 0, 100)] z) with
       tick := 200 }
     stripeOf (strm s 0) 0 = some t ∧ lpOf s 0 ≠ 0 ∧ t.begun = true ∧ 0 < t.map.bands.length ∧
       shareOf t false 0 = some { share0 with atts := [⟨0, 0, none⟩] } ∧
       ({ share0 with atts := [⟨0, 0, none⟩] } : Share).finished = false ∧ t.late = [] ∧ t.t0 + spOf' s 0 ≤ s.tick ∧
       leader s 0 = 0 ∧ t.committed = false ∧ flowNow s 0 t = false ∧ t0Of s 0 t + 2 * spOf' s 0 ≤ s.tick) ∧
    (let t := { Stripe.reset with lines := 2, got := 1, real := 1 }
     let x := { Strm.reset with stripes := [t], height := 2, hole := some 0 }
     let s : State := { onS x (put [(R.STRM_LP.TICKS, 0, 100), (R.ZP_STATUS.ROLE, 0, 3)] z) with tick := 600 }
     stripeOf (strm s 0) 0 = some t ∧ leader s 0 = 0 ∧ holed s 0 t = true ∧ t.committed = false ∧
       flowNow s 0 t = false ∧ t0Of s 0 t + 2 * spOf' s 0 ≤ s.tick ∧ rd s R.ZP_STATUS.ROLE 0 = 3 ∧ paired s = false ∧
       paired (put [(R.ZP_STATUS.ROLE, 0, 1), (R.ZP_STATUS.PARTNER, 0, 1)] s) = true) ∧
    (let t := { stripe0 with committed := true, shares := [{ share0 with atts := [⟨0, 0, none⟩] }] }
     let s : State := { onS { Strm.reset with stripes := [t], height := 1 } (put [(R.STRM_LP.TICKS, 0, 100)] z) with
       tick := 900, flt := { z.flt with rewrites := [⟨0, 0, false, 0⟩] } }
     stripeOf (strm s 0) 0 = some t ∧ restaging s 0 0 = true ∧ lpOf s 0 ≠ 0 ∧ egressBound s 0 t ≤ s.tick) ∧
    (let s := onS { Strm.reset with stripes := [stripe0], pkg := some pkg0 } z
     (strm s 0).stripes.find? (fun t => !t.committed) = some stripe0 ∧ stripe0.pkg = some pkg0 ∧ leader s 0 = 0 ∧
       mayCommit s 0 stripe0 = true) ∧
    paired live = false ∧ isSafe live = false ∧ rd live R.ZP_STATUS.ROLE 0 = 0 := by decide +kernel

theorem witness_PictureBackPacks :
    (let s := onS { Strm.reset with outBuf := [out0] } z
     nextPicture (strm s 0) = some (out0, 0) ∧ pbWaits s 0 0 = false ∧ calm.first = true ∧
       out0.lines[0]? = some outLine0) := by decide +kernel

theorem witness_TimebaseAndPaceAct :
    isSafe live = false ∧ rd live R.ZP_STATUS.ROLE 0 = 0 ∧
    (let s : State := { z with tick := 100000000 }
     elapsed s s.pace.evalAt 100000 = true ∧ elapsed z z.pace.evalAt 100000 = false ∧ s.pace.used = true ∧
       s.pace.fail = false ∧ elapsed s s.pace.modeAt 100000000 = true) ∧
    (let s : State := { z with pace := { z.pace with unread := true, lastCmd := 1 } }
     s.pace.used = true ∧ s.pace.fail = false ∧ s.pace.unread = true ∧ s.tick + 1 ≤ s.pace.lastCmd + 200000) ∧
    (rd z R.PIPE_PACE_STATUS.VDD_CORE_MV 0 ≤ 735 + 15 ∧
      735 ≤ rd z R.PIPE_PACE_STATUS.VDD_CORE_MV 0 + 15 ∧ 734 + 15 < rd z R.PIPE_PACE_STATUS.VDD_CORE_MV 0 ∧
      rd z R.PIPE_PACE_STATUS.VDD_CORE_MV 0 + 15 < 766) ∧
    taken z R.PIPE_PACE_CTRL.reg 0 ∧ taken z R.PIPE_LATENCY_MAX.reg (2 ^ 31) := by decide +kernel

/-! ### Ports and output -/

theorem witness_StreamsAreConfigured :
    (Takes ready0 (full R.STRM_SRC.reg 27) R.STRM_SRC.reg 0 0 ∧ running ready0 0 = false ∧ bit 27 0 = true ∧
      listenerRefuses ready0 (full R.STRM_SRC.reg 27) = false ∧
      (startCode (putAll ready0 R.STRM_SRC.reg 0 0 27) 0).1 = 0 ∧
      startCode (putAll (put [(R.SSC_LOCK.LOCK, 0, 0)] ready0) R.STRM_SRC.reg 0 0 27) 0 = (0x0D0E, 0)) ∧
    (taken running0 R.STRM_SRC.reg 26 ∧ running running0 0 = true ∧ bit 26 0 = false ∧
      listenerRefuses running0 (full R.STRM_SRC.reg 26) = false) ∧
    taken z R.STRM_GEOM.reg 16384 ∧ listenerRefuses z (full R.STRM_GEOM.reg 16384) = false ∧
    taken z R.STRM_RF_CTRL.reg 5 ∧ listenerRefuses z (full R.STRM_RF_CTRL.reg 5) = false ∧
    taken z R.STRM_PB_CTRL.reg 6 ∧ listenerRefuses z (full R.STRM_PB_CTRL.reg 6) = false ∧ running z 0 = false ∧
    taken z (queueReg .hqBaseLo) 4096 ∧ taken z (queueReg .hinCfg) 2 ∧ taken z R.STRM_HQ_TAIL.reg 0xFFFFFFFF ∧
    taken z R.STRM_HIN_HEAD.reg 0xFFFFFFFF := by decide +kernel

theorem witness_StreamsAreConfigured_listener :
    (let s := put [(R.ZP_STATUS.ROLE, 0, 2)] running0
     listenerRefuses s (full R.STRM_SRC.reg 26) = true ∧ running s 0 = true ∧ taken s R.STRM_SRC.reg 26) ∧
    (let s := put [(R.ZP_STATUS.ROLE, 0, 2)] ready0
     listenerRefuses s (full R.STRM_SRC.reg 27) = true ∧ running s 0 = false ∧ taken s R.STRM_SRC.reg 27) := by
  decide +kernel

/-- A live part with a host queue, its link up, and an output stripe of the given lines for both destinations. -/
def sending (l : List OutLine) : State :=
  onS { Strm.reset with outBuf := [{ out0 with lines := l }] }
    (put [(R.STRM_OUT_CTRL.DEST, 0, 3), (R.PCIE_STATUS.UP, 0, 1), (R.STRM_HQ_CFG.ENTRIES, 0, 2)] live)

theorem witness_OutputLeaves :
    (let l := { outLine0 with packed := some [1, 2, 3, 4] }
     let s := sending [l]
     isSafe s = false ∧ isListener s = false ∧ toPcie s 0 = true ∧ toGvsp s 0 = true ∧ pcieUp s = true ∧
       hqRoom s 0 = true ∧ nextOut (strm s 0) false = some { out0 with lines := [l] } ∧
       nextOut (strm s 0) true = some { out0 with lines := [l] } ∧ inOrder s 0 false { out0 with lines := [l] } = true ∧
       inOrder s 0 true { out0 with lines := [l] } = true ∧ restaging s 0 0 = false ∧ [l][0]? = some l) ∧
    isSafe z = true ∧
    (let o := { out0 with lines := [{ outLine0 with packed := some [1] }], sentP := 1, sentG := 1 }
     let s := onS { Strm.reset with outBuf := [o] } (sending [])
     nextOut (strm s 0) false = some o ∧ nextOut (strm s 0) true = some o ∧ inOrder s 0 false o = true ∧
       inOrder s 0 true o = true ∧ o.lines.length ≤ o.sentP ∧
       o.lines.length ≤ o.sentG ∧ o.lines ≠ []) ∧
    (let s := put [(R.STRM_HIN_CFG.ENTRIES, 0, 2), (R.STRM_HIN_HEAD.SEQ, 0, 1), (R.PCIE_STATUS.UP, 0, 1)] running0
     running s 0 = true ∧ rd s R.STRM_SRC.PORT 0 = 13 ∧ 2 ≤ rd s R.STRM_HIN_CFG.ENTRIES 0 ∧
       rd s R.STRM_HIN_TAIL.SEQ 0 ≠ rd s R.STRM_HIN_HEAD.SEQ 0 ∧ pcieUp s = true) := by decide +kernel

theorem witness_Csi2PacketsAreReceived :
    (let s := put [(R.PORT_CFG.EN, 3, 1), (R.PORT_CFG.LSLE, 3, 1)] z
     csi s 3 15 = true ∧ (vcOf s 3 15).inFrame = false ∧ (vcOf s 3 15).last = none ∧ isSet s R.PORT_CFG.LSLE 3 = true ∧
       (vcOf (setVc s 3 15 ⟨true, some 65535, true, true⟩) 3 15).inFrame = true ∧ (65535 + 1) % 65536 = 0 ∧
       (vcOf (setVc s 3 15 ⟨true, some 65535, true, true⟩) 3 15).inLine = true ∧
       (vcOf (setVc s 3 15 ⟨true, some 65535, true, true⟩) 3 15).got = true ∧
       (vcOf (setVc s 3 15 ⟨true, none, true, false⟩) 3 15).got = false) := by decide +kernel

/-- Ports 11 and 12 are on, port 11 LOST; a port is selected. -/
def ports0 (sel : Nat) : State :=
  put [(R.PORT_CFG.EN, 11, 1), (R.PORT_CFG.EN, 12, 1), (R.PORT_STATUS.STATE, 11, 3), (R.PORT_SLVDS_SYNC0.SOL, 12, 1),
    (R.PORT_SLVDS_SYNC0.EOL, 12, 2), (R.PORT_SLVDS_SYNC1.SOF, 12, 3), (R.PORT_SLVDS_SYNC1.EOF, 12, 4),
    (R.GLB_PORTSEL.INDEX, 0, sel)] z

/-- The same, with stream 0 running on the selected port. -/
def bound0 (sel : Nat) : State := put [(R.STRM_SRC.EN, 0, 1), (R.STRM_SRC.PORT, 0, sel)] (ports0 sel)

theorem witness_CameraPortsAreServed :
    (let s := ports0 4
     portOn s 11 = true ∧ portOn s (7 + 4) = true ∧ portOn s 4 = false ∧ boundTo s 4 = [] ∧
     Takes s (full R.PORT_CXP_TRIG.reg 1) R.PORT_CXP_TRIG.reg 0 4 ∧ fval R.PORT_CXP_TRIG.SRC 1 ≠ 3 ∧
     Takes s (full R.PORT_CXP_TRIG.reg 3) R.PORT_CXP_TRIG.reg 0 4 ∧ fval R.PORT_CXP_TRIG.SRC 3 = 3 ∧
     ({ s with part := .c128m } : State).part.damson = true) ∧
    (let s := ports0 12
     Takes s (full R.PORT_CXP_TRIG.reg 1) R.PORT_CXP_TRIG.reg 0 12) ∧
    (let s := bound0 11
     Takes s (full R.PORT_CXP_TRIG.reg 1) R.PORT_CXP_TRIG.reg 0 11 ∧ boundTo s 11 ≠ []) ∧
    (let x : CxpPacket := ⟨0, true, 0, 0, none, [[1, 2]]⟩
     x.good = true ∧ x.codeErrors = 0 ∧ x.header = none ∧ cxpWant z 0 = 0) ∧
    (let x : CxpPacket := ⟨0, true, 0, 0, some true, [[1, 2]]⟩
     x.good = true ∧ x.codeErrors = 0 ∧ x.header = some true) ∧
    (let x : CxpPacket := ⟨0, true, 0, 0, some false, []⟩
     x.header = some false) ∧
    (let x : CxpPacket := ⟨0, true, 1, 0, none, [[1, 2]]⟩
     x.codeErrors ≠ 0 ∧ x.header ≠ some false) ∧
    (let r : MbxReq := ⟨0, 9, 0, [4], false⟩
     (mbxOf (setMbx z 0 { Mbx.reset with reqs := [r] }) 0).reqs.find? (fun r => r.cmd == 9 && fieldLE r.args 0 1 == 4) =
       some r) ∧
    (let s := ports0 12
     portOn s 12 = true ∧ (3 = rd s R.PORT_SLVDS_SYNC0.SOL 12 ∨ 3 = rd s R.PORT_SLVDS_SYNC1.SOF 12) ∧
     (4 = rd s R.PORT_SLVDS_SYNC0.EOL 12 ∨ 4 = rd s R.PORT_SLVDS_SYNC1.EOF 12) ∧
     5 ≠ rd s R.PORT_SLVDS_SYNC0.SOL 12 ∧ 5 ≠ rd s R.PORT_SLVDS_SYNC1.SOF 12 ∧ portOn z 12 = false) ∧
    (let s := ports0 4
     Takes s (full R.PORT_CFG.reg 0) R.PORT_CFG.reg 0 4 ∧ boundTo s 4 = [] ∧ portCfgOk 4 0 = true ∧
     portCfgOk 4 1 = false ∧ Takes s (full R.PORT_CFG.reg 1) R.PORT_CFG.reg 0 4 ∧
     Takes s (full R.PORT_SLVDS_SYNC1.reg 1) R.PORT_SLVDS_SYNC1.reg 0 4) ∧
    (let s := ports0 12
     Takes s (full R.PORT_SLVDS_SYNC0.reg 1) R.PORT_SLVDS_SYNC0.reg 0 12 ∧
     Takes s (full R.PORT_SLVDS_SYNC1.reg 1) R.PORT_SLVDS_SYNC1.reg 0 12 ∧ boundTo s 12 = [] ∧
     portOn s 12 = true ∧ rd s R.PORT_STATUS.STATE 12 ≠ 3 ∧ rd s R.PORT_STATUS.STATE 12 ≠ 1) ∧
    (let s := ports0 11
     rd s R.PORT_STATUS.STATE 11 = 3) := by
  refine ⟨?_, ?_, ?_, ?_, ?_, ?_, ?_, ?_, ?_, ?_, ?_, ?_⟩ <;> decide +kernel

theorem witness_GvcpIsAnswered :
    isListener z = false ∧ tget 0 (gvPort (setGv z 1 ⟨0, [(8, 6)]⟩) 1).regs 8 = 5 + 1 ∧
    (let o := { out0 with sentG := 1 }
     let s := put [(R.STRM_OUT_CTRL.DEST, 0, 2)] (onS { Strm.reset with outBuf := [o] } running0)
     isListener s = false ∧ (upto 32).find? (fun k => toGvsp s k && rd s R.STRM_OUT_CTRL.GV_PORT k == 0 &&
         rd s R.STRM_OUT_CTRL.GV_CHANNEL k == 0 && running s k) = some 0 ∧
       (strm s 0).outBuf.find? (fun o => o.no + 1 == 1 && decide (0 < o.sentG)) = some o) := by decide +kernel

theorem witness_PcieLinkEvents :
    (let s := setDma z 64 { DmaCh.reset with pieces := [hostPiece] }
     (dmaCh s 64).pieces[0]? = some hostPiece ∧ (inHostWin hostPiece.src || inHostWin hostPiece.dst) = true) ∧
    nextOut (strm (sending [outLine0]) 0) false = some out0 := by decide +kernel

theorem witness_FieldSideActs :
    isListener z = false ∧
    (let q : Quad := ⟨true, false, 5, 0, false, false⟩
     q.sinceA + 3 ≤ 8 ∧ 7 < q.sinceA + 3 ∧ (quadTake q 8 3 true false).2 = some .up ∧
     (quadTake q 7 3 true false).2 = none ∧ (quadTake ⟨false, false, 5, 0, true, false⟩ 8 3 false false).2 = some .down ∧
     (quadTake ⟨true, true, 5, 5, false, false⟩ 8 3 true true).2 = some .both) ∧
    (let s := put [(R.FIO_ENC_CTRL.EN.nth 1, 0, 1), (R.FIO_ENC_CTRL.DIR.nth 1, 0, 1)] z
     isSet s (R.FIO_ENC_CTRL.EN.nth 1) 0 = true ∧ isSet s (R.FIO_ENC_CTRL.DIR.nth 1) 0 = true ∧
       isSet (put [(R.FIO_ENC_CTRL.DIR.nth 1, 0, 0)] s) (R.FIO_ENC_CTRL.DIR.nth 1) 0 = false) ∧
    (let s : State := put [(R.FIO_ENC_CTRL.EN.nth 0, 0, 1)] { z with part := .c64, dms := { z.dms with powered := true } }
     s.part.damson = false ∧ s.dms.powered = true ∧ isSet s (R.FIO_ENC_CTRL.EN.nth 0) 0 = true) ∧
    (let s : State := { put [(R.FIO_TRIG_CTRL.EN, 0, 128)] z with
       tick := 5, act := { z.act with trigRaw := [(7, (true, 2))] } }
     bit (rd s R.FIO_TRIG_CTRL.EN 0) 7 = true ∧ tget false s.act.trigLevel 7 ≠ true ∧ trigSince s 7 true + 3 ≤ s.tick) ∧
    taken z R.FIO_TRIG_CTRL.reg 255 ∧ elapsed ({ z with tick := 100000 } : State) z.act.aliveAt 100000 = true ∧
    elapsed z z.act.aliveAt 100000 = false ∧ taken z R.FIO_ACT_FORCE.reg 0xFFFFFFFF := by decide +kernel

/-! ### Cores -/

/-- An instruction word from its opcode, its index fields and its immediate. -/
def ins (op d a b imm : Nat) : Nat := op * 2 ^ 58 + d * 2 ^ 52 + a * 2 ^ 46 + b * 2 ^ 40 + imm

/-- Core 127, its bank groups on, runs a share and fetches a word. -/
def withOp (w : Nat) (k : Core) : State :=
  put [(R.SPAD_PWR_STATUS.GROUP_STATE, 127, 0xAA), (R.SPAD_PWR_STATUS.GROUP_STATE, 0, 0xAA)]
    { z with cores := [(127, { k with run := some desc0 })], banks := [(8192 * 127, w)] }

/-- It does fetch it. -/
abbrev fetched (w : Nat) (k : Core) : Prop := Fetches (withOp w k) 127 w

theorem witness_ScalarInstructionsComplete :
    fetched 0 Core.reset ∧
    (let w := ins 1 31 0 0 0xFFFFFFFF
     fetched w Core.reset ∧ opc w = 1 ∧ decOk w .s .none .none [(0, 32)] = true) ∧
    (let w := ins 2 31 31 31 15
     fetched w Core.reset ∧ opc w = 2 ∧ decOk w .s .s .s [(0, 4)] = true) ∧
    (let w := ins 3 1 2 0 (9 + 31 * 16)
     fetched w Core.reset ∧ opc w = 3 ∧ decOk w .s .s .none [(0, 36)] = true ∧
       ¬ (7 ≤ bits w 0 4 ∧ bits w 0 4 ≤ 9 ∧ 32 ≤ bits w 4 32)) ∧
    (let w := ins 4 1 0 0 11
     fetched w Core.reset ∧ opc w = 4 ∧ decOk w .s .none .none [(0, 5)] = true ∧ bits w 0 5 < 12 ∧
       (coreAt (withOp w Core.reset) 127).run = some desc0) := by decide +kernel

theorem witness_ControlFlowCompletes :
    (let w := ins 5 0 1 2 (5 * 65536 + 4095)
     fetched w Core.reset ∧ opc w = 5 ∧ decOk w .none .s .s [(0, 20)] = true ∧ bits w 16 4 < 6 ∧ bits w 0 16 ≤ 4095) ∧
    (let w := ins 6 0 1 0 4095
     fetched w Core.reset ∧ opc w = 6 ∧ decOk w .none .s .none [(0, 16)] = true ∧
       (sreg (coreAt (withOp w Core.reset) 127) (srcA w) + bits w 0 16) % 2 ^ 32 ≤ 4095) ∧
    (let w := ins 7 0 0 0 5
     let k := { Core.reset with ret := [1, 2, 3, 4, 5, 6, 7] }
     fetched w k ∧ opc w = 7 ∧ decOk w .none .s .none [(0, 16)] = true ∧
       (sreg (coreAt (withOp w k) 127) (srcA w) + bits w 0 16) % 2 ^ 32 ≤ 4095 ∧ (coreAt (withOp w k) 127).ret.length < 8) ∧
    (let w := ins 8 0 0 0 0
     let k := { Core.reset with ret := [7] }
     fetched w k ∧ opc w = 8 ∧ decOk w .none .none .none [] = true ∧ (coreAt (withOp w k) 127).ret = [7]) ∧
    (let w := ins 9 1 0 0 (4095 * 65536 + 3)
     let k := { Core.reset with loops := [⟨0, 4095, 2, 0, 2⟩, ⟨0, 4095, 2, 0, 3⟩, ⟨0, 4095, 2, 0, 4⟩] }
     fetched w Core.reset ∧ opc w = 9 ∧ decOk w .s .s .none [(0, 32)] = true ∧ bits w 16 16 = 4095 ∧
       (sreg (coreAt (withOp w Core.reset) 127) (srcA w) + bits w 0 16) % 2 ^ 32 = 3 ∧
       pcOf (withOp w Core.reset) 127 < 4095 ∧ badNest (coreAt (withOp w Core.reset) 127) 0 4095 = false ∧
       fetched w { k with loops := [] } ∧ k.loops.length < 4) ∧
    (let w := ins 0x3C 0 0 0 0
     fetched w Core.reset ∧ opc w = 0x3C ∧ decOk w .none .none .none [] = true ∧
       (coreAt (withOp w Core.reset) 127).reads = [] ∧ (coreAt (withOp w Core.reset) 127).waiting = none) ∧
    (let w := ins 0x3D 0 0 31 5
     fetched w Core.reset ∧ opc w = 0x3D ∧ decOk w .none .s .s [(0, 4)] = true ∧ bits w 0 4 < 6) := by
  refine ⟨?_, ?_, ?_, ?_, ?_, ?_, ?_⟩ <;> decide +kernel

theorem witness_LoopsAndIllegalWords :
    (fetched 1 Core.reset ∧ opc 1 = 0 ∧ fetched (ins 0x3F 0 0 0 0) Core.reset ∧
      unassigned (ins 0x3F 0 0 0 0) = true) ∧
    (let s := put [(R.CORE_PC.PC, 127, 4096)] (withOp 0 Core.reset)
     mayIssue s 127 = true ∧ 4095 < pcOf s 127 ∧ pcOf (withOp 0 Core.reset) 127 ≤ 4095) ∧
    (let s : State := { withOp 0 Core.reset with bankErr := [(8192 * 127, 3)] }
     mayIssue s 127 = true ∧ pcOf s 127 ≤ 4095 ∧ popcount 72 (bankFlips s 127 (activeBank s 127) (pcOf s 127)) = 2) ∧
    (let k := { Core.reset with loops := [⟨0, 4095, 2, 0, 1⟩] }
     (coreAt (withOp 0 k) 127).loops = [⟨0, 4095, 2, 0, 1⟩] ∧ 0 + 1 < 2 ∧ 0 ≤ 4095 ∧
       (coreAt (withOp 0 { k with loops := [⟨0, 7, 1, 0, 1⟩] }) 127).loops = [⟨0, 7, 1, 0, 1⟩] ∧ 1 ≤ 0 + 1) := by
  decide +kernel

theorem witness_NopHasNoEffect :
    (fetched 0 Core.reset ∧ (coreAt (withOp 0 Core.reset) 127).loops = []) ∧
    (fetched (2 ^ 58 - 1) Core.reset ∧ opc (2 ^ 58 - 1) = 0 ∧ 2 ^ 58 - 1 ≠ 0) ∧
    (let s : State := { withOp 0 Core.reset with banks := [] }
     mayIssue s 127 = true ∧ (coreAt s 127).loops = [] ∧ (coreAt s 127).reads = [] ∧ pcOf s 127 ≤ 4095 ∧
       4095 < pcOf (put [(R.CORE_PC.PC, 127, 4096)] s) 127) ∧
    (∀ a, a < 4096 → bankWord { withOp 0 Core.reset with banks := [] } 127 0 a = 0 ∧
      bankFlips { withOp 0 Core.reset with banks := [] } 127 0 a = 0) :=
  ⟨by decide +kernel, by decide +kernel, by decide +kernel, fun _ _ => ⟨if_pos (by decide : popcount 72 0 ≤ 1), rfl⟩⟩

theorem witness_LiWritesItsImmediate :
    fetched 0x0450000000000400 Core.reset ∧
    (let w := ins 1 32 0 0 0
     fetched w Core.reset ∧ opc w = 1 ∧ decOk w .s .none .none [(0, 32)] = false) := by decide +kernel

/-- A core with an activation tile in t1 and a weight tile in t2. -/
def tiles (a b : TileD) : Core := { Core.reset with t := [(1, a), (2, b)] }

theorem witness_TileInstructionsComplete :
    (let w := ins 0x10 15 1 1 (14 * 2 ^ 19)
     fetched w Core.reset ∧ opc w = 0x10 ∧ decOk w .t .s .s [(0, 40)] = true ∧ bits w 19 5 < 15) ∧
    (let w := ins 0x11 15 0 0 0x8000
     fetched w Core.reset ∧ opc w = 0x11 ∧ decOk w .t .s .s [(0, 16)] = true) ∧
    (let w := ins 0x12 7 0 0 256
     fetched w Core.reset ∧ opc w = 0x12 ∧ decOk w .m .s .none [(0, 9)] = true) ∧
    (let a : TileD := ⟨0, 1, 1, 32, 1⟩
     let b : TileD := ⟨64, 1, 1, 32, 1⟩
     let w := ins 0x13 15 1 2 1
     let s := withOp w (tiles a b)
     fetched w (tiles a b) ∧ opc w = 0x13 ∧ decOk w .a .t .t [(0, 5)] = true ∧
       MmaRuns s 127 w {
         a := a, b := b, cb := none, pair := mmaPairing a.fmt b.fmt, shapeOk := a.cols == b.cols,
         aFoot := footprint a, aRow := tileRow s 127 a, aScale := scaleRow s 127 a, steps := id } 1 32 1 desc0) ∧
    (let a : TileD := ⟨0, 1, 1, 32, 1⟩
     let b : TileD := ⟨64, 1, 1, 32, 1⟩
     let w := ins 0x14 15 1 2 (1 + 32)
     let s := withOp w (tiles a b)
     let y0 := sreg (coreAt s 127) (bits w 15 5)
     fetched w (tiles a b) ∧ opc w = 0x14 ∧ decOk w .a .t .t [(0, 20)] = true ∧ bits w 5 6 ≠ 0 ∧
       MmaRuns s 127 w {
         a := a, b := b, cb := none, pair := mmawPairing a.fmt b.fmt,
         shapeOk := a.cols == b.cols && decide (y0 < bits w 5 6),
         aFoot := (List.range a.rows).map (fun i => (wordAt ((a.base : Int) + pixOff a w y0 i), wpr a)),
         aRow := fun i => pixElems s 127 a.fmt (wordAt ((a.base : Int) + pixOff a w y0 i)) 0 a.cols,
         aScale := fun _ => [], steps := id } 1 32 1 desc0) ∧
    (let a : TileD := ⟨0, 1, 1, 32, 1⟩
     let b : TileD := ⟨64, 1, 1, 1, 1⟩
     let w := ins 0x15 15 1 2 (1 + 32)
     let s := withOp w (tiles a b)
     fetched w (tiles a b) ∧ opc w = 0x15 ∧ decOk w .a .t .t [(0, 39)] = true ∧ bits w 5 6 ≠ 0 ∧
       MmaRuns s 127 w {
         a := a, b := b, cb := none, pair := mmawPairing a.fmt b.fmt,
         shapeOk := decide (sreg (coreAt s 127) (bits w 15 5) < bits w 5 6) && b.cols == 1,
         aFoot := [(0, 1)], aRow := fun _ => [], aScale := fun _ => [], steps := id } 1 32 1 desc0) ∧
    (let a : TileD := ⟨0, 1, 1, 32, 1⟩
     let b : TileD := ⟨64, 1, 1, 32, 11⟩
     let w := ins 0x16 15 1 2 (1 + 128 * 1024)
     let s := withOp w (tiles a b)
     fetched w (tiles a b) ∧ opc w = 0x16 ∧ decOk w .a .t .t [(0, 26)] = true ∧
       MmaRuns s 127 w {
         a := a, b := b, cb := some 128, pair := mmacPairing a.fmt b.fmt, shapeOk := a.cols == b.cols,
         aFoot := footprint a, aRow := tileRow s 127 a, aScale := fun _ => [], steps := id } 2 64 1 desc0) ∧
    (let a : TileD := ⟨0, 1, 1, 8, 8⟩
     let w := ins 0x17 15 1 2 1
     let s := withOp w (tiles a a)
     fetched w (tiles a a) ∧ opc w = 0x17 ∧ decOk w .a .t .t [(0, 1), (2, 8)] = true ∧ dst w < desc0.accTiles ∧
       Machine.descOk a = true ∧ a.fmt = 8 ∧ a.cols ≤ 8 ∧ fpOk s 127 (footprint a ++ footprint a) = true ∧
       (coreAt s 127).outlier = false ∧ fpCodes s 127 (footprint a ++ footprint a) = [] ∧
       (accumulate (tileAt (coreAt s 127) (dst w)) (bit w 0) 2
         (fun i n => decide (i < a.rows) && decide (n < a.rows) && lane (mreg (coreAt s 127) (bits w 2 3)) n)
         (fun i n old => (outlierElem 2 (sreg (coreAt s 127) (bits w 5 5)) (tileRow s 127 a i) (tileRow s 127 a n) old,
           false))).2.2.2 = [] ∧
       (coreAt (withOp w { tiles a a with outlier := true }) 127).outlier = true) ∧
    (coreAt (withOp 0 { Core.reset with waiting := some 5 }) 127).waiting = some 5 := by
  refine ⟨?_, ?_, ?_, ?_, ?_, ?_, ?_, ?_, ?_⟩ <;> decide +kernel

theorem witness_LaneInstructionsComplete :
    (let w := ins 0x20 15 1 2 (1 * 8 + 0)
     fetched w Core.reset ∧ opc w = 0x20 ∧ decOk w .v .v .v [(0, 12)] = true ∧ vopFmt (vfmt w) = true ∧
       vopFnOk (bits w 8 4) (vfmt w) = true) ∧
    (let w := ins 0x21 15 1 31 (10 * 8)
     fetched w Core.reset ∧ opc w = 0x21 ∧ decOk w .v .v .s [(0, 12)] = true ∧ vopFmt (vfmt w) = true ∧
       vopFnOk (bits w 8 4) (vfmt w) = true) ∧
    (let w := ins 0x22 7 1 2 (5 * 256 + 5 * 8)
     fetched w Core.reset ∧ opc w = 0x22 ∧ decOk w .m .v .v [(0, 12)] = true ∧ vopFmt (vfmt w) = true ∧ bits w 8 4 < 6) ∧
    (let w := ins 0x23 0 1 2 (7 + 0 * 8)
     fetched w Core.reset ∧ opc w = 0x23 ∧ decOk w .v .v .v [(0, 8)] = true ∧ vselFmt (vfmt w) = true) ∧
    (let w := ins 0x24 0 1 0 (1 * 8 + 5 * 256 + 3 * 2 ^ 14)
     fetched w Core.reset ∧ opc w = 0x24 ∧ decOk w .v .v .none [(0, 17)] = true ∧ convPair (vfmt w) (bits w 8 5) = true ∧
       bit w 13 = false ∧ (bits w 14 3 + 1) * min (lanes (vfmt w)) (lanes (bits w 8 5)) ≤
         max (lanes (vfmt w)) (lanes (bits w 8 5))) ∧
    (let w := ins 0x2C 0 31 0 (10 * 8 + 0xFFFF * 4096)
     fetched w Core.reset ∧ opc w = 0x2C ∧ decOk w .v .s .none [(3, 5), (12, 16)] = true ∧ vselFmt (vfmt w) = true) := by
  decide +kernel

theorem witness_RowInstructionsComplete :
    (let w := ins 0x25 1 2 3 (1 * 8 + 1 * 256 + 3 * 2 ^ 15)
     fetched w Core.reset ∧ opc w = 0x25 ∧ decOk w .v .v (if bit w 8 then .v else .s) [(0, 34)] = true ∧ vfmt w < 5 ∧
       (bits w 15 3 + 1) * 64 ≤ lanes (vfmt w)) ∧
    (let w := ins 0x26 1 2 0 (8 * 8 + 6 * 256)
     fetched w Core.reset ∧ opc w = 0x26 ∧ decOk w .v .v .none [(0, 12)] = true ∧ 8 ≤ vfmt w ∧ vfmt w ≤ 10 ∧ bits w 8 4 < 7) ∧
    (let w := ins 0x27 1 2 0 (5 * 8 + 3 * 256 + 6 * 2048)
     fetched w Core.reset ∧ opc w = 0x27 ∧ decOk w .v .v .none [(0, 15)] = true ∧ vopFmt (vfmt w) = true ∧ bits w 8 3 < 4 ∧
       bits w 11 4 ≠ 0 ∧ 2 ^ bits w 11 4 ≤ lanes (vfmt w) ∧ bits w 8 3 ≠ 2) ∧
    (let w := ins 0x28 1 2 0 (1 * 8 + 8 * 256)
     fetched w Core.reset ∧ opc w = 0x28 ∧ decOk w .v .v .none [(0, 12)] = true ∧ vopFmt (vfmt w) = true ∧
       2 ^ bits w 8 4 ≤ lanes (vfmt w) ∧ lanes (vfmt w) / 2 ^ bits w 8 4 ≤ 32) ∧
    (let w := ins 0x29 1 2 0 (10 * 8 + 2 * 256 + 1 * 1024 + 2 * 4096)
     fetched w Core.reset ∧ opc w = 0x29 ∧ decOk w .v .v .none [(0, 14)] = true ∧ vopFmt (vfmt w) = true ∧ bits w 8 2 = 2 ∧
       vfmt w = 10 ∧ bits w 10 2 + bits w 12 2 ≤ 3) ∧
    (let w := ins 0x2A 1 15 0 15
     fetched w Core.reset ∧ opc w = 0x2A ∧ decOk w .v .a .s [(0, 4)] = true ∧
       (sreg (coreAt (withOp w Core.reset) 127) (srcB w) + bits w 0 4) % 2 ^ 32 ≤ 15 ∧ srcA w < desc0.accTiles ∧
       storeCodes (tileAt (coreAt (withOp w Core.reset) 127) (srcA w)) 15 = []) ∧
    (let w := ins 0x2B 1 2 0 (8 * 8)
     fetched w Core.reset ∧ opc w = 0x2B ∧ bit w 14 = false ∧ decOk w .v .v .none [(3, 13)] = true ∧ 8 ≤ vfmt w ∧
       vfmt w ≤ 10 ∧ bit w 15 = false) ∧
    (let w := ins 0x2B 1 2 0 (10 * 8 + 2 ^ 14 + 2 ^ 15)
     fetched w Core.reset ∧ opc w = 0x2B ∧ bit w 14 = true ∧ decOk w .v .v .none [(3, 13)] = true ∧ vfmt w = 10) := by
  refine ⟨?_, ?_, ?_, ?_, ?_, ?_, ?_, ?_⟩ <;> decide +kernel

theorem witness_LaneWritesKeepTheRest : vopFmt 1 = true ∧ ∀ j < lanes 1, (vopRes 0 1 j j).v < 2 ^ fmtWidth 1 := by
  decide +kernel

theorem witness_MmaChangesItsTileOnly :
    15 ≠ dst 0 ∧ 127 ≠ 0 ∧ R.CORE_STATE.STATE.lo < 32 ∧ R.CORE_STATE.STATE.off ≠ R.CORE_CNT_SAT.reg.off ∧
    R.CORE_STATE.STATE.off ≠ R.CORE_CNT_NANINF.reg.off ∧ R.CORE_STATE.STATE.off ≠ R.CORE_CNT_STEPS_LO.reg.off ∧
    R.CORE_STATE.STATE.off ≠ R.CORE_CNT_STEPS_HI.reg.off := by decide +kernel

theorem witness_LocalAccessesComplete :
    (let w := ins 0x30 15 1 0 (7 * 65536)
     let s := withOp w { Core.reset with s := [(1, 12280)] }
     fetched w { Core.reset with s := [(1, 12280)] } ∧ opc w = 0x30 ∧ decOk w .v .s .none [(0, 19)] = true ∧
       localWord (coreAt s 127) w = 12280 ∧ spSpan s 127 12280 8 = true ∧ readCodes s 127 12280 8 = []) ∧
    (let w := ins 0x31 0 1 15 (2 ^ 19)
     let s := withOp w Core.reset
     fetched w Core.reset ∧ opc w = 0x31 ∧ decOk w .none .s .v [(0, 20)] = true ∧ spSpan s 127 0 1 = true) ∧
    (let w := ins 0x32 31 0 0 (7 * 65536)
     let s := withOp w Core.reset
     fetched w Core.reset ∧ opc w = 0x32 ∧ bit w 19 = false ∧ decOk w .s .s .none [(0, 20)] = true ∧
       spOk s 127 0 = true ∧ readCodes s 127 0 1 = []) ∧
    (let w := ins 0x32 0 0 31 (15 * 65536)
     let s := withOp w Core.reset
     fetched w Core.reset ∧ opc w = 0x32 ∧ bit w 19 = true ∧ decOk w .none .s .s [(0, 20)] = true ∧ spOk s 127 0 = true) ∧
    spAddr 127 0 + 32 * 8 ≤ spAddr 127 8 := by decide +kernel

/-- An outstanding write of two words to core 0, counted, and a read of one. -/
def xfer0 : OutWrite := ⟨0, .xfer 0xF000000000 2 5 (some (0, 31)), 0, 0⟩

/-- An XFER read. -/
def read0 : PendRead := ⟨3, 0xF000000000, 1, 0, 0, 0⟩

theorem witness_TransfersComplete :
    (let w := ins 0x37 0 1 2 (2 ^ 21 + 31 * 2 ^ 22)
     let k := { Core.reset with s := [(1, 0xF0000000)], c := [(31, some ⟨0, 31, false⟩)] }
     let s := withOp w k
     let a := xferAddr (coreAt s 127) w
     fetched w k ∧ opc w = 0x37 ∧ a = 0xF000000000 ∧ devOk s a 32 = true ∧ remoteBad s a 1 = false ∧
       bit w 19 = false ∧ decOk w .none .s .v [(0, 27)] = true ∧
       creg (coreAt s 127) (bits w 22 5) = some ⟨0, 31, false⟩ ∧ wrongCounter s a (some ⟨0, 31, false⟩) = false ∧
       inDram s a = false ∧ tagFree s (127 / 8) true = true) ∧
    (let w := ins 0x37 2 0 0 (1 * 65536 + 2 ^ 19 + 64)
     let s := withOp w Core.reset
     let a := xferAddr (coreAt s 127) w
     fetched w Core.reset ∧ opc w = 0x37 ∧ devOk s a 64 = true ∧ remoteBad s a 2 = false ∧ bit w 19 = true ∧
       decOk w .v .s .none [(0, 20)] = true) ∧
    (let s := withOp 0 { Core.reset with outw := [xfer0], reads := [read0] }
     (coreAt s 127).outw[0]? = some xfer0 ∧ mayLand (coreAt s 127).outw 0 xfer0 = true ∧ devOk s 0xF000000000 64 = true ∧
       (coreAt s 127).reads[0]? = some read0 ∧ devOk s read0.addr (32 * read0.words) = true ∧
       mayLand (coreAt s 127).outw 0 xfer0 = true) ∧ (∀ r : Nat, xfer0.kind ≠ .slot r) :=
  ⟨by decide +kernel, by decide +kernel, by decide +kernel, fun _ => OutKind.noConfusion⟩

/-- Ring 15 of core 127: two slots of two words at word 64, its producer core 127. -/
def withRing (fill : Nat) (s : State) : State :=
  put [(R.SPAD_RING_CFG0.EN.nth 15, 127, 1), (R.SPAD_RING_CFG0.BASE.nth 15, 127, 64), (R.SPAD_RING_CFG0.SLOT_WM1.nth 15, 127, 1),
    (R.SPAD_RING_CFG1.COUNT.nth 15, 127, 2), (R.SPAD_RING_CFG1.PRODUCER.nth 15, 127, 127),
    (R.SPAD_RING_STATE.FILL.nth 15, 127, fill)] s

/-- A core that holds a handle in h1. -/
def held (producer : Bool) : Core := { Core.reset with h := [(1, some ⟨127, 15, producer⟩)] }

theorem witness_RingInstructionsComplete :
    (let w := ins 0x33 15 0 0 (15 + 64 + 128)
     let s := withRing 0 (withOp w Core.reset)
     Fetches s 127 w ∧ opc w = 0x33 ∧ bit w 5 = false ∧ decOk w .h .s .none [(0, 8)] = true ∧ bits w 0 5 < 16 ∧
       bit w 6 = true ∧ present s 127 = true ∧ ringEn s 127 15 = true ∧ ringProducer s 127 15 = .core 127) ∧
    (let w := ins 0x33 31 0 0 (31 + 32 + 64)
     fetched w Core.reset ∧ opc w = 0x33 ∧ bit w 5 = true ∧ decOk w .c .s .none [(0, 7)] = true) ∧
    (let w := ins 0x34 1 0 15 1
     let s := withRing 1 (withOp w (held true))
     let f := withRing 2 (withOp w (held true))
     Fetches s 127 w ∧ Fetches f 127 w ∧ opc w = 0x34 ∧ decOk w .h .none .v [(0, 1)] = true ∧
       hreg (coreAt s 127) (dst w) = some ⟨127, 15, true⟩ ∧ (ringX s 127 15).bad = false ∧
       (granted s 127 15 || ringRoom s 127 15) = true ∧ (granted f 127 15 || ringRoom f 127 15) = false) ∧
    (let w := ins 0x35 15 0 0 0 + 2 ^ 46
     let s := withRing 1 (withOp w (held false))
     Fetches s 127 w ∧ opc w = 0x35 ∧ decOk w .v .h .none [] = true ∧
       consumerRing (hreg (coreAt s 127) (srcA w)) = some 15 ∧ 1 ≤ ringFill s 127 15 ∧ readCodes s 127 64 2 = [] ∧ (ringX s 127 15).bad = false ∧
       Fetches (withRing 0 s) 127 w ∧ ringFill (withRing 0 s) 127 15 = 0) ∧
    (let w := ins 0x36 31 1 0 1
     let s := withRing 2 (withOp w (held false))
     Fetches s 127 w ∧ opc w = 0x36 ∧ consumerRing (hreg (coreAt s 127) (srcA w)) = some 15 ∧ bits w 0 8 ≠ 0 ∧
       bits w 0 8 ≤ ringFill s 127 15 ∧ (ringX s 127 15).bad = false ∧ bit w 8 = false ∧ decOk w .s .h .none [(0, 9)] = true ∧
       bits w 0 8 ≤ ringCount s 127 15 ∧ bits w 0 8 ≤ ringMirror s 127 15 + 1) ∧
    (let w := ins 0x36 0 1 0 (256 + 2)
     let s := withRing 2 (withOp w (held false))
     Fetches s 127 w ∧ consumerRing (hreg (coreAt s 127) (srcA w)) = some 15 ∧ bits w 0 8 ≤ ringFill s 127 15 ∧
       bit w 8 = true ∧ decOk w .none .h .none [(0, 9)] = true ∧ readsSlots s 127 15 2 = false) ∧
    (let s := withRing 1 (withOp 0 { Core.reset with rings := [(15, ⟨[], true, false⟩)] })
     (ringX s 127 15).want = true ∧ (ringX s 127 15).bad = false ∧ ringRoom s 127 15 = true) ∧
    (let s := withRing 1 (withOp 0 { Core.reset with rings := [(15, ⟨[], true, true⟩)] })
     (ringX s 127 15).want = true ∧ (ringX s 127 15).bad = true ∧ ringProducer s 127 15 = .core 127) ∧
    (let s := withRing 0 (withOp 0 { Core.reset with rings := [(15, ⟨[⟨0, some 7, false, false⟩], false, false⟩)] })
     (ringX s 127 15).out[0]? = some ⟨0, some 7, false, false⟩ ∧ (ringX s 127 15).bad = false) ∧
    (let s := withRing 0 (withOp 0 { Core.reset with rings := [(15, ⟨[⟨0, some 7, false, false⟩], false, true⟩)] })
     (ringX s 127 15).out[0]? = some ⟨0, some 7, false, false⟩ ∧ (ringX s 127 15).bad = true) ∧
    (let w := ins 0x36 31 1 0 1
     let s := withRing 2 (withOp w { held false with wait := some ⟨.ringRead, 0⟩ })
     (coreAt s 127).wait = some ⟨.ringRead, 0⟩ ∧ bankWord s 127 (activeBank s 127) (pcOf s 127) = w ∧
       hreg (coreAt s 127) (srcA w) = some ⟨127, 15, false⟩ ∧ opc w = 0x36 ∧ bits w 0 8 ≤ ringFill s 127 15 ∧
       (ringX s 127 15).bad = false) ∧
    (let w := ins 0x34 1 0 15 1
     let s := withRing 1 (withOp w { held true with wait := some ⟨.ringWrite, 0⟩ })
     (coreAt s 127).wait = some ⟨.ringWrite, 0⟩ ∧ hreg (coreAt s 127) (dst (bankWord s 127 (activeBank s 127) (pcOf s 127))) =
         some ⟨127, 15, true⟩ ∧ (ringX s 127 15).bad = false ∧ (granted s 127 15 || ringRoom s 127 15) = true) ∧
    (let w := ins 0x35 15 1 0 0
     let s := withRing 1 (withOp w { held false with wait := some ⟨.ringRead, 0⟩ })
     (coreAt s 127).wait = some ⟨.ringRead, 0⟩ ∧ bankWord s 127 (activeBank s 127) (pcOf s 127) = w ∧
       hreg (coreAt s 127) (srcA w) = some ⟨127, 15, false⟩ ∧ opc w = 0x35 ∧ 1 ≤ ringFill s 127 15 ∧
       (ringX s 127 15).bad = false ∧ readCodes s 127 64 2 = []) := by
  refine ⟨?_, ?_, ?_, ?_, ?_, ?_, ?_, ?_, ?_, ?_, ?_, ?_, ?_⟩ <;> decide +kernel

/-- An RPUT that may go has its slot sent. -/
theorem witness_RingInstructionsComplete_put (s : State) (c w : Nat) (h : Handle) :
    ∃ t, execRput.putSlot s c w h = .go t [] := ⟨_, rfl⟩

/-- A core that holds a counter handle in c1. -/
def counted : Core := { Core.reset with c := [(1, some ⟨127, 31, false⟩)] }

theorem witness_CountersAndFencesComplete :
    (let w := ins 0x38 0 1 0 0xFFFFFF
     fetched w counted ∧ opc w = 0x38 ∧ decOk w .none .c .s [(0, 24)] = true ∧
       creg (coreAt (withOp w counted) 127) (srcA w) = some ⟨127, 31, false⟩ ∧
       tget false (coreAt (withOp w counted) 127).badCnt 31 = false) ∧
    (let w := ins 0x39 1 0 0 0xFFFFFF
     fetched w counted ∧ opc w = 0x39 ∧ bit w 24 = false ∧ decOk w .c .s .none [(0, 25)] = true ∧
       creg (coreAt (withOp w counted) 127) (dst w) = some ⟨127, 31, false⟩ ∧
       tget false (coreAt (withOp w counted) 127).badCnt 31 = false ∧
       countsSelf (coreAt (withOp w counted) 127) 127 31 = false) ∧
    (let w := ins 0x39 1 0 0 0x1FFFFFF
     fetched w counted ∧ opc w = 0x39 ∧ bit w 24 = true ∧ decOk w .c .s .none [(0, 25)] = true ∧
       creg (coreAt (withOp w counted) 127) (dst w) = some ⟨127, 31, false⟩) ∧
    (let w := ins 0x3B 0 0 0 0
     fetched w Core.reset ∧ opc w = 0x3B ∧ decOk w .none .none .none [] = true) ∧
    (let s := withOp 0 { Core.reset with wait := some ⟨.fence, 0⟩ }
     (coreAt s 127).wait = some ⟨.fence, 0⟩ ∧ (coreAt s 127).outw = []) ∧
    (let w := ins 0x38 0 1 0 0
     let s := withOp w { counted with wait := some ⟨.counter, 0⟩ }
     (coreAt s 127).wait = some ⟨.counter, 0⟩ ∧ bankWord s 127 (activeBank s 127) (pcOf s 127) = w ∧
       creg (coreAt s 127) (srcA w) = some ⟨127, 31, false⟩ ∧ tget false (coreAt s 127).badCnt 31 = false ∧
       reached (cntVal s 127 31) ((sreg (coreAt s 127) (srcB w) + bits w 0 24) % 2 ^ 24) = true) ∧
    (let s : State := { withOp 0 { Core.reset with wait := some ⟨.ringRead, 0⟩ } with tick := 1000000000 }
     (coreAt s 127).wait = some ⟨.ringRead, 0⟩ ∧ (coreAt s 127).run = some desc0 ∧ 0 + stallLimit s 127 desc0 ≤ s.tick) := by
  decide +kernel

/-- A state with a barrier 7 of stripe 0 of stream 0. -/
def withGong (g : Gong) (s : State) : State := { s with gongs := [g] }

theorem witness_GongBarriersComplete :
    (let g : Gong := ⟨0, 0, 7, 2, 1, 0, [], []⟩
     let w := ins 0x3A 0 0 0 7
     let s := withGong g (withOp w Core.reset)
     Fetches s 127 w ∧ opc w = 0x3A ∧ decOk w .none .none .none [(0, 5)] = true ∧ desc0.kind < 2 ∧ bits w 3 2 = 0 ∧
       (arrive s 127 (coreAt s 127) desc0 7).isLeft = true) ∧
    (let g : Gong := ⟨0, 0, 7, 2, 1, 0, [0], [(0, [0])]⟩
     let w := ins 0x3A 0 0 0 (7 + 8)
     let s := withGong g (withOp w { Core.reset with gong := [(7, 1)] })
     Fetches s 127 w ∧ gongOf s 0 0 7 = some g ∧ myArrivals (coreAt s 127) 7 = 1 ∧ bits w 3 2 = 1) ∧
    (let g : Gong := ⟨0, 0, 7, 1, 1, 0, [], []⟩
     let w := ins 0x3A 0 0 0 (7 + 16)
     let s := withGong g (withOp w Core.reset)
     Fetches s 127 w ∧ bits w 3 2 = 2 ∧ (arrive s 127 (coreAt s 127) desc0 7).isLeft = true) ∧
    (let g : Gong := ⟨0, 0, 7, 1, 1, 0, [0], [(0, [0])]⟩
     gongOf (withGong g z) 0 0 7 = some g) ∧
    (let s : State := { withOp 0 { Core.reset with wait := some ⟨.gong 0 0 7 0, 0⟩ } with tick := 1000000000 }
     (coreAt s 127).wait = some ⟨.gong 0 0 7 0, 0⟩ ∧ (coreAt s 127).run = some desc0 ∧
       0 + 2 * shareTicks s desc0 ≤ s.tick) := by decide +kernel

/-- A SYNC that completes its generation passes its wait. -/
theorem witness_GongBarriersComplete_sync :
    ∃ s1, arrive (withGong ⟨0, 0, 7, 1, 1, 0, [], []⟩ z) 127 Core.reset desc0 7 = .inl s1 ∧
      gongWait s1 (coreAt s1 127) desc0 7 = .go s1 [] := ⟨_, rfl, rfl⟩

theorem witness_CoreControlActs :
    (present z 127 = true ∧ bit (at? 0 [1] 0) 0 = true) ∧
    (present z 127 = true ∧ bankInUse z 127 1 = false ∧ bankInUse (withOp 0 Core.reset) 127 0 = true) ∧
    (let s := withOp 0 { Core.reset with validating := [(1, true)] }
     tget false (coreAt s 127).validating 1 = true) ∧
    (let s : State := { put [(R.CORE_CTRL.SCRUB_EN, 127, 1)] z with tick := 10000000 }
     present s 127 = true ∧ isSet s R.CORE_CTRL.SCRUB_EN 127 = true ∧ elapsed s (coreAt s 127).scrubAt 10000000 = true ∧
       popcount 72 (2 ^ 71) = 1 ∧ popcount 72 (2 ^ 71 + 1) = 2) ∧
    (taken z R.CORE_CTRL.reg 1 ∧ taken z R.CORE_CTRL.reg 64 ∧ bits 64 6 2 ≠ 0 ∧ taken z R.CORE_CTRL.reg 512 ∧ bits 512 8 2 ≠ 0 ∧
      taken z R.CORE_CTRL.reg 2 ∧ bit 2 1 = true ∧ taken z R.CORE_CTRL.reg 4 ∧ bit 4 2 = true) ∧
    (let s := put [(R.CORE_STATE.STATE, 127, coreStarting)] z
     present s 127 = true ∧ rd s R.CORE_STATE.STATE 127 = coreStarting) ∧
    (let s := put [(R.CORE_STATE.STATE, 127, coreDraining)] z
     rd s R.CORE_STATE.STATE 127 = coreDraining ∧ (coreAt s 127).run = none ∧ (coreAt s 127).next = none) ∧
    (let s : State := { put [(R.CORE_STATE.STATE, 127, coreDraining)] (withOp 0 Core.reset) with tick := 1000000000 }
     rd s R.CORE_STATE.STATE 127 = coreDraining ∧ (coreAt s 127).run = some desc0 ∧
       (coreAt s 127).since + drainLimit s 127 ≤ s.tick) := by decide +kernel

theorem witness_ScratchpadControlActs :
    present z 127 = true ∧ (taken z R.SPAD_HAZARD.reg (2 ^ 31) ∧ bit (2 ^ 31) 31 = true) ∧ taken z R.SPAD_CFG.reg 15 ∧
    (let s := put [(R.SPAD_PWR_STATUS.GROUP_STATE, 0, 64), (R.SPAD_PWR_STATUS.GROUP_STATE, 1, 192)] z
     groupState s 0 3 = 1 ∧ groupState s 1 3 = 3) ∧
    (let s := put [(R.SPAD_PWR_STATUS.GROUP_STATE, 0, 0xAA)] z
     let v := 2 ^ 31 + 7 * 2 ^ 24 + 383 * 256 + 31
     Takes s (full R.SPAD_REMAP.reg v) R.SPAD_REMAP.reg 0 0 ∧ bit v 31 = true ∧
       isSet s (R.SPAD_ROWMAP.VALID.nth 255) 0 = false ∧ isSet s (R.SPAD_ROWMAP.SPARE_BAD.nth 255) 0 = false ∧
       mapIx (bits v 0 5) (bits v 24 3) = 255 ∧ bits v 8 9 < 384 ∧ groupState s 0 (bits v 8 9 / 96) = 2 ∧
       isSet s R.SPAD_PWR_STATUS.REMAP_BUSY 0 = false) ∧
    (let r : Remap := ⟨31, 383, 7, 0⟩
     (coreAt (withOp 0 { Core.reset with remap := some r }) 127).remap = some r ∧
       (coreAt (withOp 0 { Core.reset with remap := some { r with stage := 1 } }) 127).remap = some { r with stage := 1 } ∧
       r.bank < 32 ∧ r.entry < 8 ∧ r.row < 384) ∧
    Takes z (full R.SPAD_ROWMAP.reg 383) R.SPAD_ROWMAP.reg 255 0 ∧
    Takes z (full R.SPAD_RING_CFG0.reg 0) R.SPAD_RING_CFG0.reg 15 0 ∧
    Takes z (full R.SPAD_RING_CFG1.reg 2) R.SPAD_RING_CFG1.reg 15 0 ∧
    Takes z (full R.SPAD_RING_STATE.reg 0) R.SPAD_RING_STATE.reg 15 0 ∧
    Takes z (full R.SPAD_CNT.reg 0xFFFFFF) R.SPAD_CNT.reg 31 0 := by decide +kernel

/-- A shadow of band 0 of stripe 0. -/
def shadow0 : Shadow := ⟨0, 0, 0, 1000, 0, none, false, none, false, 0⟩

/-- A state with a shadow. -/
def withShadow (h : Shadow) (s : State) : State := { s with flt := { s.flt with shadows := [h] } }

theorem witness_BackgroundFaultWork :
    (let s : State := { put [(R.CORE_EVENTS.COUNT, 127, 1)] z with tick := 24 * 3600 * 100000000 }
     rd s R.CORE_EVENTS.COUNT 127 = 0 + 1 ∧ rd s R.CORE_CTRL.ROLE 127 ≠ 2 ∧ 24 * 3600 * 100000000 ≤ quietTicks s 127) ∧
    (let s := withShadow shadow0 z
     shadowOf s 0 0 0 = some shadow0 ∧ shedding s = false ∧ barriersDone s 0 0 = true ∧ shadow0.core = 1000) ∧
    (let h := { shadow0 with core := 5, ended := some true }
     let s := withShadow h (onS { Strm.reset with stripes := [stripe0] } z)
     shadowOf s 0 0 0 = some h ∧ stripeOf (strm s 0) 0 = some stripe0 ∧ stripe0.pkg = some pkg0 ∧
       stripe0.map.bands[0]? = some ⟨0, 64, 0⟩ ∧ h.differs = false ∧ h.ended = some true ∧ originalClean s 0 0 0 = true) ∧
    (let h := { shadow0 with core := 5, ended := some true, differs := true, third := some 6, thirdDone := true }
     let s := withShadow h (onS { Strm.reset with stripes := [stripe0] } z)
     shadowOf s 0 0 0 = some h ∧ stripeOf (strm s 0) 0 = some stripe0 ∧ h.differs = true ∧ h.thirdDone = true) ∧
    (let s := put [(R.FLT_CTRL.TEST_EN, 0, 1), (R.CORE_STATE.BANK_A_VALID, 7, 1)] (staffed z)
     isSet s R.FLT_CTRL.TEST_EN 0 = true ∧ shedding s = false ∧ sliceIdle s = true ∧ sliceCore s 7 100 = true ∧
       paired s = false ∧ nextSlice s 7 false 1 1600 [1] = some ⟨7, false, 1, [], 0, 1600, [1]⟩ ∧ 100 ≤ sliceTicks 1600 ∧
       sliceTicks 1600 ≤ 2000 ∧ sliceCore s 7 (sliceTicks 1600) = true ∧ accepts s 7 (descOf [1]).bank = true) ∧
    (let s := put [(R.FLT_CTRL.TEST_EN, 0, 0), (R.CORE_STATE.BANK_A_VALID, 7, 1), (R.CORE_STATE.STATE, 9, coreIdle)] (staffed z)
     isSet s R.FLT_CTRL.TEST_EN 0 = false ∧ ((!false && (calStream 1).isSome) || (upto s.part.cores).any (untested s)) = true ∧
       shedding s = false ∧ sliceIdle s = true ∧ sliceCore s 7 100 = true ∧ (nextSlice s 7 false 1 1600 [1]).isSome = true) ∧
    ((!false && (calStream (33 * 2 ^ 32)).isSome) || (upto z.part.cores).any (untested z)) = true ∧
    (let s : State := { put [(R.FLT_CTRL.TEST_EN, 0, 1)] z with tick := 800000000 }
     s.flt.roundOver = false ∧ isSet s R.FLT_CTRL.TEST_EN 0 = true ∧ s.flt.roundAt + 800000000 ≤ s.tick) := by
  decide +kernel

/-! ### DMA channels -/

/-- A program of one instruction at address 0, taken up. -/
def start0 : DmaStart := ⟨0, 1, 0, 0, 0, 0⟩

/-- Channel 71 runs it. -/
def chan (w : Nat) (d : DmaCh) : State :=
  let s : State := { z with mem := memWrite [] 0 (leBytes 32 w) }
  setDma (put [(R.DMA_CH_STATE.STATE, 71, chRunning)] s) 71 { d with run := some start0 }

/-- It fetches the instruction. -/
abbrev dmaFetched (w : Nat) (d : DmaCh) : Prop := DmaFetches (chan w d) 71 start0 w

/-- A piece from DRAM to DRAM. -/
def piece0 : Piece := ⟨0, true, 0, 4096, 64, .plain, 0, false, false⟩

/-- One from DRAM to the top word of core 127's scratchpad. -/
def spPiece : Piece := ⟨0, true, 0, spAddr 127 12287, 32, .plain, 0, false, false⟩

theorem witness_DmaProgramsRun :
    (let w := 3 + 2 * 256 + 64 * 2 ^ 64
     dmaFetched w { DmaCh.reset with loops := [⟨0, 2, 0, 0, 0⟩, ⟨0, 2, 0, 0, 0⟩, ⟨0, 2, 0, 0, 0⟩] } ∧ dmaOp w = 3 ∧
       onlyBits w [(0, 4), (8, 24), (64, 40), (128, 40)] = true ∧ bits w 8 24 ≠ 0) ∧
    (let d := { DmaCh.reset with loops := [⟨0, 2, 1, 0, 0⟩] }
     dmaFetched 4 d ∧ dmaOp 4 = 4 ∧ onlyBits 4 [(0, 4)] = true ∧ d.loops.getLast? = some ⟨0, 2, 1, 0, 0⟩) ∧
    (dmaFetched 5 DmaCh.reset ∧ dmaOp 5 = 5 ∧ bits 5 4 2 = 0 ∧ onlyBits 5 [(0, 4)] = true) ∧
    (let w := 5 + 16 + 64 + 127 * 256 + 31 * 65536 + 0xFFFFFF * 2 ^ 32
     dmaFetched w DmaCh.reset ∧ dmaOp w = 5 ∧ bits w 4 2 = 1 ∧ onlyBits w [(0, 7), (8, 7), (16, 5), (32, 24)] = true ∧
       present (chan w DmaCh.reset) (bits w 8 7) = true ∧
       tget false (coreAt (chan w DmaCh.reset) (bits w 8 7)).badCnt (bits w 16 5) = false) ∧
    (let w := 6 + 127 * 256 + 31 * 65536 + 2 ^ 32
     dmaFetched w DmaCh.reset ∧ dmaOp w = 6 ∧ bits w 4 2 = 0 ∧ onlyBits w [(0, 4), (8, 7), (16, 5), (32, 24)] = true ∧
       present (chan w DmaCh.reset) (bits w 8 7) = true) ∧
    (let w := 6 + 16 + 0xFFFFFF * 2 ^ 32
     dmaFetched w DmaCh.reset ∧ dmaOp w = 6 ∧ bits w 4 2 = 1 ∧ onlyBits w [(0, 5), (32, 24)] = true) ∧
    (let w := 7 + 64
     dmaFetched w DmaCh.reset ∧ dmaOp w = 7 ∧ bits w 4 2 = 0 ∧ onlyBits w [(0, 4), (6, 1)] = true ∧
       DmaCh.reset.check = none) ∧
    (let w := 7 + 16 + 64 * 2 ^ 64
     let d := { DmaCh.reset with check := some ⟨false, []⟩ }
     dmaFetched w d ∧ dmaOp w = 7 ∧ bits w 4 2 = 1 ∧ onlyBits w [(0, 5), (64, 40)] = true ∧
       bits w 64 40 % alignAt (bits w 64 40) = 0 ∧ foreign 71 (bits w 64 40) = false ∧
       busOk (chan w d) (bits w 64 40) (sumSize (bits w 64 40)) = true) ∧
    dmaFetched 0 DmaCh.reset ∧ DmaCh.reset.loops = [] := by
  refine ⟨?_, ?_, ?_, ?_, ?_, ?_, ?_, ?_, ?_, ?_⟩ <;> decide +kernel

theorem witness_DmaPiecesMoveData :
    (let w := 1 + 2 * 32 + 7 * 256
     dmaFetched w DmaCh.reset ∧ dmaOp w = 1 ∧ bits w 5 2 < 3 ∧ onlyBits w (moveFields (bits w 5 2)) = true ∧
       bit w 7 = false) ∧
    (let s := chan 0 DmaCh.reset
     misaligned 0 4096 256 false = none ∧ pieceLen 256 0 4096 none = 256 ∧ foreign 71 0 = false ∧ foreign 71 4096 = false ∧
       busOk s 0 256 = true ∧ busOk s 4096 256 = true ∧ overlaps 4096 256 0 32 = false ∧
       otherPathMeets s 71 4096 256 true .plain = false ∧ tagFree s (engOf 71) true = true) ∧
    (let w := 2 + 1 * 256 + 2 * 2 ^ 32 + 8192 * 2 ^ 128 + 4096 * 2 ^ 192
     let v := w + 32 * 2 ^ 192
     let s := chan w DmaCh.reset
     dmaFetched w DmaCh.reset ∧ dmaOp w = 2 ∧
       onlyBits w [(0, 7), (8, 48), (64, 40), (128, 40), (192, 64)] = true ∧ bits w 32 24 ≠ 0 ∧
       foreign 71 (indexSpan w).1 = false ∧ busOk s (indexSpan w).1 (indexSpan w).2 = true ∧
       misalignedX (dmaCh s 71) start0 w = none ∧ stepAligned (dmaCh s 71) start0 w = true ∧ dmaFetched v DmaCh.reset ∧
       dmaOp v = 2 ∧ onlyBits v [(0, 7), (8, 48), (64, 40), (128, 40), (192, 64)] = true ∧ bits v 32 24 ≠ 0 ∧
       foreign 71 (indexSpan v).1 = false ∧
       busOk (chan v DmaCh.reset) (indexSpan v).1 (indexSpan v).2 = true ∧
       DmaCh.reset.begun = false ∧ misalignedX DmaCh.reset start0 v = some 4128) ∧
    (let s : State := { chan 0 { DmaCh.reset with pieces := [piece0] } with tick := 10000000 }
     (dmaCh s 71).pieces[0]? = some piece0 ∧ mustFollow s (dmaCh s 71) piece0.seq piece0.dst piece0.len .plain = false ∧ piece0.kind = .plain ∧
       parityBad s piece0.src piece0.len = false ∧ inHostWin piece0.dst = false ∧
       (inDram s piece0.src || toDram s piece0) = true ∧ piece0.issued + 1000 ≤ s.tick ∧ chState s 71 = chRunning) ∧
    (let s : State := { chan 0 { DmaCh.reset with pieces := [hostPiece] } with tick := 5000 }
     (dmaCh s 71).pieces[0]? = some hostPiece ∧ (inHostWin hostPiece.src || inHostWin hostPiece.dst) = true ∧
       hostPiece.issued + 5000 ≤ s.tick ∧ inHostWin { hostPiece with dst := 0xBFFFFFFFE0 }.dst = true) ∧
    (let s : State := { chan 0 { DmaCh.reset with pieces := [spPiece] } with tick := 10000000 }
     (dmaCh s 71).pieces[0]? = some spPiece ∧ ((spOf s spPiece.dst).isSome || (spOf s spPiece.src).isSome) = true ∧
       spPiece.issued + max 1 (rd s R.DMA_CH_LIMIT.TAG_US 71) * 100 ≤ s.tick) ∧
    (let r : PendRead := ⟨3, 64, 2, 0, 0, 0⟩
     let s : State := { withOp 0 { Core.reset with reads := [r] } with tick := 1000 }
     (coreAt s 127).reads[0]? = some r ∧ inDram s r.addr = true ∧ r.since + 1000 ≤ s.tick) := by
  refine ⟨?_, ?_, ?_, ?_, ?_, ?_, ?_⟩ <;> decide +kernel

theorem witness_DmaChannelsAreControlled :
    (taken z R.DMA_CH_CTRL.reg 1 ∧ taken z R.DMA_CH_CTRL.reg 2 ∧ taken z R.DMA_CH_CTRL.reg 4 ∧ taken z R.DMA_CH_CTRL.reg 8) ∧
    (let s := put [(R.DMA_CH_LEN.LEN, 71, 4096)] z
     0 < (startOf s 71).len ∧ (startOf s 71).len ≤ 4096 ∧ chState s 71 ≠ chCancelling) ∧
    (let s := put [(R.DMA_CH_STATE.STATE, 71, chCancelling)] z
     chState s 71 = chCancelling ∧ (dmaCh s 71).pieces = []) ∧
    (let s := chan 5 { DmaCh.reset with wait := some (.drain, 0) }
     (dmaCh s 71).wait = some (.drain, 0) ∧ drained (dmaCh s 71) = true) ∧
    (let s : State := { chan 5 { DmaCh.reset with wait := some (.counter 0 31 0 true, 0) } with tick := 100000000 }
     (dmaCh s 71).wait = some (.counter 0 31 0 true, 0) ∧ reached (cntVal s 0 31) 0 = true ∧
       tget false (coreAt s 0).badCnt 31 = false ∧
       0 + max 1 (rd s R.DMA_CH_LIMIT.WAIT_US 71) * 100 ≤ s.tick) ∧
    (let s : State := { chan 5 { DmaCh.reset with wait := some (.ring 0 15, 0) } with tick := 100000000 }
     (dmaCh s 71).wait = some (.ring 0 15, 0) ∧ 0 + max 1 (rd s R.DMA_CH_LIMIT.WAIT_US 71) * 100 ≤ s.tick) ∧
    (let s := chan 0 { DmaCh.reset with signals := [⟨0, none, 7⟩], pieces := [piece0] }
     (dmaCh s 71).signals[0]? = some ⟨0, none, 7⟩ ∧ settledBefore (dmaCh s 71) 0 = true) ∧
    (let x : SumStore := ⟨0, 64, ⟨false, [(0, some ([1], false))]⟩⟩
     let s := chan 0 { DmaCh.reset with stores := [x] }
     (dmaCh s 71).stores = [x] ∧ covered x.check = some ([1], false) ∧
       mustFollow (chan 0 DmaCh.reset) (dmaCh (chan 0 DmaCh.reset) 71) 0 64 (sumSize 64) .plain = false) ∧
    (let s := chan 0 { DmaCh.reset with pieces := [{ piece0 with dst := 64 }] }
     mustFollow s (dmaCh s 71) 1 64 (sumSize 64) .plain = true) := by
  refine ⟨?_, ?_, ?_, ?_, ?_, ?_, ?_, ?_, ?_⟩ <;> decide +kernel

/-- A chain MOVE to cores 8 to 15 whose word 100 is at the chain's start. -/
def chain0 : ChainMove := ⟨71, 0, 100, 8, 15, none, 1, 1, [], [], false⟩

theorem witness_ChainAndSegments :
    (let s := chan 0 { DmaCh.reset with wait := some (.chain 1 1, 0) }
     (dmaCh s 71).wait = some (.chain 1 1, 0) ∧ chainFree s 1 1 = true) ∧
    (let d := { DmaCh.reset with pieces := [⟨0, true, 64, spAddr 8 100, 32, .chain 8 15, 0, false, false⟩] }
     let s : State := { chan 0 d with chains := [chain0], tick := 1000000 }
     chainOf s 71 = some chain0 ∧ 8 ∈ receivers s chain0 ∧ tget 0 chain0.got 8 < chain0.issued ∧
       chainHeld s chain0 8 (tget 0 chain0.got 8) = false ∧
       chainSource s chain0 8 (tget 0 chain0.got 8) = some 64 ∧ chain0 ∈ s.chains ∧
       tget 0 chain0.got 8 < offered s chain0 8 ∧
       tget 0 chain0.since 8 + max 1 (rd s R.DMA_CHAIN_CTRL.STALL_LIMIT 0) * 10 ≤ s.tick + 1) ∧
    (taken z R.DMA_SEG_INVAL.reg 1 ∧ bit 1 0 = true) ∧
    (let r : MbxReq := ⟨7, 10, 0, [0xFF, 0x3F, 0, 0], false⟩
     let s := setMbx z 0 { Mbx.reset with reqs := [r] }
     (mbxOf s 0).reqs.find? (fun r => r.cmd == 10 && r.slot == 7) = some r ∧ s.segCopies.find? (fun p => p.1 == 7) = none) ∧
    (let r : MbxReq := ⟨7, 10, 0, [0xFF, 0x3F, 0, 0], false⟩
     let s : State := { setMbx z 0 { Mbx.reset with reqs := [r] } with segCopies := [(7, 127)] }
     (mbxOf s 0).reqs.find? (fun r => r.cmd == 10 && r.slot == 7) = some r ∧
       s.segCopies.find? (fun p => p.1 == 7) = some (7, 127)) := by decide +kernel

/-- A flit from node 0 to node 3, of the control class, and its second hop. -/
def flit0 : Flit := ⟨0, 3, 0, 0, 3, 0, false, [1]⟩

theorem witness_CheckValueUnitsAct :
    (flitOk flit0 = true ∧ flit0.src = 0) ∧
    (let s : State := { z with mesh := [⟨1, flit0⟩] }
     arriving s 2 flit0 = some ⟨1, flit0⟩ ∧ nextNode 1 flit0.dst ≠ flit0.dst) ∧
    (let s := put [(R.CVU_CTRL.EN.nth 15, 0, 1), (R.CVU_WINDOW.FLITS.nth 15, 0, 1), (R.CVU_COUNT.FLITS.nth 15, 0, 1)] z
     cvuFld s R.CVU_CTRL.EN 15 = 1 ∧ windowFull s 15 = true) ∧
    (cvuFld z R.CVU_CTRL.EN 15 = 0 ∧ Takes z (full R.CVU_CTRL.reg 0x4001) R.CVU_CTRL.reg 15 0 ∧
      Takes z (full R.CVU_CTRL.reg 0) R.CVU_CTRL.reg 15 0 ∧ Takes z (full R.CVU_CFG.reg 1) R.CVU_CFG.reg 15 0 ∧
      Takes z (full R.CVU_WINDOW.reg 8) R.CVU_WINDOW.reg 15 0) ∧
    (let s := put [(R.CVU_CTRL.EN.nth 15, 0, 1)] z
     Takes s (full R.CVU_CFG.reg 0x2000) R.CVU_CFG.reg 15 0 ∧ bit 0x2000 13 = true ∧ cvuFld s R.CVU_CTRL.EN 15 = 1 ∧
       cvuFld s R.CVU_WINDOW.FLITS 15 = 0) := by decide +kernel

/-! ### Safe state, links, calibration -/

/-- A left fold that evaluates its accumulator at every element. -/
def foldS {α : Type} (f : Nat → α → Nat) : List α → Nat → Nat
  | [], a => a
  | x :: l, a =>
    match f a x with
    | 0 => foldS f l 0
    | n + 1 => foldS f l (n + 1)

/-- It is the left fold. -/
theorem foldS_eq {α : Type} (f : Nat → α → Nat) (l : List α) (a : Nat) : foldS f l a = l.foldl f a := by
  induction l generalizing a with
  | nil => rfl
  | cons x l ih => simp only [foldS, List.foldl]; split <;> rename_i h <;> rw [ih, h]

theorem crc_ne {a b : List Byte} (h : Nat.xor (foldS crc32Byte a 0xFFFFFFFF) 0xFFFFFFFF ≠
    Nat.xor (foldS crc32Byte b 0xFFFFFFFF) 0xFFFFFFFF) : crc32c a ≠ crc32c b := by
  rwa [foldS_eq, foldS_eq] at h

/-- A flipped bit of a content register is found by the configuration's CRC. -/
theorem witness_SafeStateCommandsAct_flip :
    (let f := [RegFlip.mk R.STRM_GEOM.reg.off 31 1].foldl flipReg { z with tick := 100000 }
     crc32c (configWords f true) ≠ crc32c (configWords f false)) :=
  crc_ne (by decide +kernel)

theorem witness_SafeStateCommandsAct :
    (isSafe live = false ∧ rd live R.ZP_STATUS.ROLE 0 = 0 ∧ isSafe z = true) ∧
    (taken z R.SSC_DOUBT.reg 0 ∧ fval R.SSC_DOUBT.CODE 0 = 0 ∧ taken z R.SSC_DOUBT.reg 0x0D02 ∧
      fval R.SSC_DOUBT.CODE 0x0D02 ≠ 0 ∧ taken z R.SSC_WDOG.reg 1 ∧ bit 1 0 = true ∧ taken z R.SSC_WDOG.reg 0 ∧
      bit 0 0 = false) ∧
    (let s : State := { z with sscCount := 1000000, flt := { z.flt with watch := [(31, 7, 0)] } }
     s.flt.kickAt + 25000 ≤ s.sscCount ∧ z.sscCount < z.flt.kickAt + 25000 ∧
       s.flt.watch.find? (fun e => e.1 == 31 && e.2.1 == 7) = some (31, 7, 0) ∧
       spOf' s 31 * 10 ≤ (s.sscCount - 0) * 19 ∧ (z.sscCount - 0) * 19 < spOf' z 31 * 10) ∧
    (isSet z R.SSC_LOCK.LOCK 0 = false ∧ taken z R.SSC_SAFE_LEVEL.reg 0xAAAAAAAA ∧
      (∀ k, k < 16 → bits 0xAAAAAAAA (2 * k) 2 ≠ 3) ∧ taken z R.SSC_LOCK.reg 1) ∧
    (let s := put [(R.SSC_LOCK.LOCK, 0, 1)] z
     isSet s R.SSC_LOCK.LOCK 0 = true ∧ taken s R.SSC_SAFE_LEVEL.reg 1 ∧ taken s R.SSC_LOCK.reg 1) ∧
    (taken z R.SSC_CTRL.reg 0x5A ∧ fval R.SSC_CTRL.RELEASE 0x5A = 0x5A ∧ (full R.SSC_CTRL.reg 0x5A).who ≠ .control ∧
      isSafe z = true ∧ z.fieldLost = false ∧ z.flt.env = [] ∧ isSafe live = false ∧ taken live R.SSC_CTRL.reg 0x5A ∧
      taken z R.SSC_CTRL.reg 0xA5 ∧ fval R.SSC_CTRL.RELEASE 0xA5 ≠ 0x5A) ∧
    (let s : State := { z with tick := 100000 }
     let f := [RegFlip.mk R.STRM_GEOM.reg.off 31 1].foldl flipReg s
     z.tick < z.flt.cfgAt + 100000 ∧ s.flt.cfgAt + 100000 ≤ s.tick ∧
       configWords s true = configWords s false ∧ f.tick = 100000) ∧
    (let s := put [(R.SSC_STATE.STANDBY, 0, 1)] z
     isSet s R.SSC_STATE.STANDBY 0 = true ∧ s.flt.handover ≠ 1 ∧ isSet z R.SSC_STATE.STANDBY 0 = false) ∧
    (({ z.flt with handover := 1 } : Flt).handover = 1 ∧ z.flt.handover ≠ 1 ∧ z.flt.handover ≠ 2 ∧ z.flt.testing = false ∧
      ({ z.flt with handover := 3, testing := true } : Flt).handover = 3) ∧
    (taken z R.STRM_FLT_CTRL.reg 0 ∧ fval R.STRM_FLT_CTRL.PROT 0 = 0 ∧ taken z R.STRM_FLT_CTRL.reg 1 ∧
      fval R.STRM_FLT_CTRL.PROT 1 = 1 ∧ taken z R.STRM_FLT_CTRL.reg 2 ∧ fval R.STRM_FLT_CTRL.PROT 2 = 2 ∧
      isSet z R.STRM_FLT_CTRL.DIGEST 0 = false ∧ isSet (put [(R.STRM_FLT_CTRL.DIGEST, 0, 1)] z) R.STRM_FLT_CTRL.DIGEST 0 = true ∧
      listenerRefuses z (full R.STRM_FLT_CTRL.reg 2) = false ∧
      listenerRefuses (put [(R.ZP_STATUS.ROLE, 0, 2)] z) (full R.STRM_FLT_CTRL.reg 0) = true) := by
  refine ⟨?_, ?_, ?_, ?_, ?_, ?_, ?_, ?_, ?_, ?_⟩ <;> decide +kernel

/-- A link that is up, with its mode. -/
def upLink (l mode : Nat) : State := put [(R.ZL_STATUS.STATE, l, 3), (R.ZL_CTRL.MODE, l, mode), (R.ZL_CTRL.EN, l, 1)] z

/-- A good cell, next in sequence. -/
def cell (l : Nat) : Rx := ⟨l, 0, 0, false, 0, true, false, false, false⟩

/-- What the link layer leaves of it. -/
def afterCell (s : State) (rx : Rx) : State :=
  let s0 := setZl s rx.link { zl s rx.link with lastRx := s.tick }
  takeAck (setZl s0 rx.link { zl s0 rx.link with last := rx.lseq, nakked := false, taking := rx.lseq + 1 })
    rx.link rx.ack rx.nak none

/-- A HELLO of the same part number. -/
def hello (mode : Nat) : Hello := ⟨2, 3, Part.code .c128, mode, 1, 0, 7, false⟩

theorem witness_ZehornLinksAct :
    (let s := upLink 3 2
     linkUp s 3 = true ∧ ({ cell 3 with crcOk := false } : Rx).crcOk = false ∧
       (let s1 := takeAck (setZl s 3 { zl s 3 with lastRx := s.tick }) 3 0 false (some 5)
        seqBeyond (cell 3).lseq (((zl s1 3).last + 1) % 2 ^ 24) = false) ∧
       (let s1 := takeAck (setZl s 3 { zl s 3 with lastRx := s.tick }) 3 0 false (some 5)
        linkUp s1 3 = true ∧ seqBeyond 5 (((zl s1 3).last + 1) % 2 ^ 24) = true) ∧
       (zl s 3).lastTx + 10 ≤ ({ s with tick := 100 } : State).tick ∧
       (zl s 3).lastRx + 100 ≤ ({ s with tick := 100 } : State).tick) ∧
    (let s : State := { put [(R.ZL_STATUS.STATE, 3, 0)] (upLink 3 2) with tick := 10000000 }
     linkWanted s 3 = true ∧ rd s R.ZL_STATUS.STATE 3 = 0 ∧ (zl s 3).downAt + 10000000 ≤ s.tick) ∧
    (let s := put [(R.ZL_STATUS.STATE, 3, 1)] (upLink 3 2)
     rd s R.ZL_STATUS.STATE 3 = 1 ∧ 255 % 256 = 255 ∧ (zl s 3).settled = none ∧
       (zl (setZl s 3 { ZLink.reset with settled := some (2, hello 2) }) 3).settled = some (2, hello 2)) ∧
    (let s := put [(R.ZL_STATUS.STATE, 3, 2)] (upLink 3 2)
     rd s R.ZL_STATUS.STATE 3 = 2 ∧ (hello 1).part ≠ 0x62 ∧ (hello 1).mode ≠ rd s R.ZL_CTRL.MODE 3 ∧
       (hello 2).mode = 2 ∧ rd s R.ZL_CTRL.MODE 3 = 2 ∧ sharedGen (ownGens s 3) (hello 2).genMask ≠ 0 ∧
       (zl s 3).trainedAt + 1000000 ≤ ({ s with tick := 1000000 } : State).tick ∧ (zl s 3).said = false) ∧
    (let s := put [(R.ZL_STATUS.STATE, 1, 2)] { upLink 1 1 with part := .c128 }
     rd s R.ZL_STATUS.STATE 1 = 2 ∧ (hello 1).part = s.part.code ∧ (hello 1).part ≠ 0x62 ∧ s.part.pair = true ∧
       2 ≤ (hello 1).levelMax ∧ (hello 1).mode = 1 ∧ rd s R.ZL_CTRL.MODE 1 = 1 ∧
       sharedGen (ownGens s 1) (hello 1).genMask ≠ 0 ∧ pairLinkUp s (1 - 1) = false ∧ otherGen s (1 - 1) ≠ 2 ∧
       otherGen s (1 - 1) ≠ 1 ∧ otherGen (put [(R.ZL_STATUS.GEN, 0, 1), (R.ZL_STATUS.STATE, 0, 3), (R.ZL_CTRL.EN, 0, 1),
         (R.ZL_CTRL.MODE, 0, 1)] s) (1 - 1) = 1) ∧
    (taken z R.ZL_CTRL.reg 3 ∧ linkUp z 0 = false ∧ taken (upLink 0 1) R.ZL_CTRL.reg 3 ∧ linkUp (upLink 0 1) 0 = true) ∧
    (taken z R.ZR_CTRL.reg 1 ∧ linkUp z 2 = false ∧ linkUp z 3 = false) := by
  refine ⟨?_, ?_, ?_, ?_, ?_, ?_, ?_⟩ <;> decide +kernel

/-- A node of a ring with both links up, and one of its messages' heads. -/
def ring0 : State :=
  put [(R.ZL_STATUS.STATE, 2, 3), (R.ZL_STATUS.GEN, 2, 1), (R.ZL_CTRL.MODE, 2, 2), (R.ZR_CTRL.NODE, 0, 1)] (upLink 3 2)

/-- The header of a cell from node 0. -/
def head0 (dst hops : Nat) : CellHead := ⟨7, 0, 0, dst, 0, hops⟩

theorem witness_PairAndRingCellsAct :
    CellTaken (upLink 1 1) (cell 1) (afterCell (upLink 1 1) (cell 1)) ∧
    (let s := ring0
     CellTaken s (cell 3) (afterCell s (cell 3)) ∧ rd s R.ZL_CTRL.MODE (cell 3).link = 2 ∧
       (head0 1 7).src ≠ rd s R.ZR_CTRL.NODE 0 ∧ (head0 1 7).dst = rd s R.ZR_CTRL.NODE 0 ∧ (head0 1 7).hops ≠ 0 ∧
       (head0 1 0).hops = 0 ∧ (head0 2 2).dst ≠ rd s R.ZR_CTRL.NODE 0 ∧ 1 < (head0 2 2).hops ∧ (head0 2 1).hops ≤ 1) ∧
    (crossRoom ring0 3 ≠ 0 ∧ linkUp ring0 (otherLink 3) = true ∧ cutThrough ring0 3 = false ∧
      linkUp (upLink 3 2) (otherLink 3) = false ∧ tget [] z.mgmt.parts 0 = []) ∧
    (let s := onS { Strm.reset with stripes := [stripe0] } z
     stripeOf (strm s 0) 0 = some stripe0 ∧ stripe0.begun = true ∧ stripe0.epoch % 65536 = 1 ∧ stripe0.epoch % 65536 ≠ 2 ∧
       stripeOf (strm s 0) 1 = none) ∧
    (let s : State := { onS { Strm.reset with pend := [(0, line0)] } (put [(R.STRM_LP.TICKS, 0, 100)] z) with tick := 200 }
     (strm s 0).pend.find? (fun p => p.2.no == 0) = some (0, line0) ∧ (strm s 0).settled.contains 0 = false ∧
       0 + 2 * lpOf s 0 ≤ s.tick ∧ (strm s 0).hole = none) ∧
    (let s := put [(R.ZP_STATUS.ROLE, 0, 1)] (onS { Strm.reset with stripes := [stripe0] } z)
     stripeOf (strm s 0) 0 = some stripe0 ∧ stripe0.pkg = some pkg0 ∧ 0 < pkg0.segments ∧ pkg0.segments ≤ 0x8000 ∧
       stripe0.begun = true ∧ stripe0.committed = false ∧ allSent stripe0 = true ∧
       (coveringShares pkg0 0 stripe0 0).all Share.clean = true ∧ rd s R.ZP_STATUS.ROLE 0 ≠ 0 ∧
       stripe0.votes.find? (fun v => v.seg == 0) = none ∧ segOf stripe0.segs 0 = none) ∧
    (let h : Share := { share0 with crop := true }
     let t := { stripe0 with shares := [share0, h] }
     coveringShares pkg0 0 t 0x8000 ≠ [] ∧ (coveringShares pkg0 0 t 0x8000).all Share.clean = true ∧ allSent t = true) ∧
    (let w : Swap := ⟨pkg0, Place.reset, 1, 1, none⟩
     let s := onS { Strm.reset with swap := some w, stripes := [stripe0] } z
     (strm s 0).swap = some w ∧ w.eff = none ∧ ((strm s 0).stripes.filter (·.begun)).getLast? = some stripe0 ∧
       stripe0.t0 + (w.prop - stripe0.no) * spOf' s 0 ≤ s.tick + 2 * spOf' s 0) ∧
    (let s := put [(R.ZP_STATUS.ROLE, 0, 1), (R.ZP_STATUS.PARTNER, 0, 1)] z
     taken s R.ZP_CTRL.reg 4 ∧ bit 4 2 = true ∧ rd s R.ZP_STATUS.ROLE 0 = 1 ∧ paired s = true ∧ leaders s = [] ∧
       leaders (put [(R.STRM_SRC.EN, 0, 1)] s) ≠ []) := by
  refine ⟨?_, ?_, ?_, ?_, ?_, ?_, ?_, ?_, ?_⟩ <;> decide +kernel

/-- Stream 0 with calibration in a given condition. -/
def calib (c : CalStrm) (s : State) : State := setCal s 0 c

/-- A run of 16 lines. -/
def calRun0 (phase got : Nat) : CalRun := ⟨0, 16, got, phase, false, []⟩

theorem witness_CalibrationSetsAct :
    (let v := 4 + 16 * 65536
     let s1 := putPlain z R.CAL_CTRL.reg 0 0 v
     taken z R.CAL_CTRL.reg v ∧ listenerRefuses z (full R.CAL_CTRL.reg v) = false ∧ bit v 2 = true ∧
       (calOf s1 0).run = none ∧ bit 1 0 = true ∧ taken z R.CAL_CTRL.reg 1 ∧ runBusy (calOf z 0) = false ∧ (calOf z 0).eff = none ∧
       taken z R.CAL_CTRL.reg 2 ∧ bit 2 1 = true ∧ runComputes (calOf z 0) = false) ∧
    (let s := put [(R.CAL_CTRL.COUNT, 0, 16)] z
     countFits s 0 (rd s R.CAL_CTRL.COUNT 0) = true ∧ rd s R.STRM_GEOM.WIDTH 0 * frameLines s 0 ≤ 2 ^ 25) ∧
    (let s := calib { CalStrm.reset with run := some (calRun0 0 0) } (onS { Strm.reset with fifo := [line0] } z)
     (calOf s 0).run = some (calRun0 0 0) ∧ captureMayStart s 0 = true) ∧
    ((calRun0 1 16).phase = 1 ∧ (calRun0 1 16).count ≤ (calRun0 1 16).got ∧ (calRun0 2 16).phase = 2 ∧ (calRun0 2 16).words = [] ∧
      shedding z = false) ∧
    (let s := calib { CalStrm.reset with eff := some 0 } (onS { Strm.reset with fifo := [line0] } z)
     (strm s 0).fifo = [line0] ∧ (calOf s 0).eff = some 0 ∧ 0 ≤ (stripeAhead (strm s 0) line0).1) ∧
    (let s := calib { CalStrm.reset with pbNext := [(0, [])] } (onS { Strm.reset with outBuf := [out0] } z)
     nextPicture (strm s 0) = some (out0, 0) ∧ (calOf s 0).pbNext = [(0, [])] ∧ out0.lines[0]? = some outLine0 ∧
       0 ≤ out0.no) ∧
    (let s := put [(R.CAL_BLEND.LINES, 0, 1), (R.CAL_BLEND_POS.RF_J, 0, 1), (R.CAL_BLEND_POS.PB_J, 0, 1)]
       (calib { CalStrm.reset with blending := true } z)
     (calOf s 0).blending = true ∧ (calOf s 0).pbNext = [] ∧ blendN s 0 ≤ rd s R.CAL_BLEND_POS.RF_J 0 ∧
       blendN s 0 ≤ rd s R.CAL_BLEND_POS.PB_J 0) ∧
    (let s := put [(R.CAL_TBLSEL.BANK, 0, 1), (R.CAL_TBLSEL.TABLE, 0, 5)] z
     rd s R.CAL_TBLSEL.TABLE 0 < 9 ∧ rd s R.CAL_TBLSEL.BANK 0 = 1 ∧
       rd s R.CAL_TBLSEL.PAGE 0 * 32768 + 36 + 4 ≤ imageMax (rd s R.CAL_TBLSEL.TABLE 0) ∧
       runComputes (calOf s (rd s R.CAL_TBLSEL.STREAM 0)) = false) ∧
    (limReg 0x50024 = some R.CAL_LIM_LEVEL.reg ∧ taken z R.CAL_LIM_LEVEL.reg 16384 ∧ taken z R.CAL_PERSIST.reg 8 ∧
      fval R.CAL_PERSIST.EN 8 = 1 ∧ z.life.owners = [] ∧
      (let s : State := { z with life := { z.life with owners := [(1, fval R.CAL_PERSIST.SLOT 8 + 1)] } }
       ∃ p, p ∈ s.life.owners ∧ p.2 = fval R.CAL_PERSIST.SLOT 8 + 1 ∧ p.1 ≠ 0) ∧ taken z R.CAL_PERSIST.reg 0 ∧ taken z R.CAL_CANARY_CTRL.reg 10) := by
  refine ⟨?_, ?_, ?_, ?_, ?_, ?_, ?_, ?_, ?_⟩ <;> decide +kernel

theorem witness_SelfCalibrationActs :
    (let s : State := { z with self := { z.self with far := [(15, 1)] }, tick := 100000000 }
     15 < clusters s ∧ excluded s 15 = false ∧ tget 0 s.self.far 15 ≠ 0 ∧ tget 0 s.self.far 15 + 100000000 ≤ s.tick + 1) ∧
    (let s : State := put [(R.CAL_TEMP.EXCLUDED.nth 15, 0, 1)] { z with
       self := { z.self with within := [(15, 1)] }, tick := 360000000000 }
     excluded s 15 = true ∧ tget 0 s.self.within 15 ≠ 0 ∧ tget 0 s.self.within 15 + 360000000000 ≤ s.tick + 1) ∧
    (let s : State := { z with tick := 360000000000 }
     s.timers.sensors + 100000 ≤ s.tick ∧ s.timers.supply + 360000000000 ≤ s.tick ∧
       s.timers.canary + 1000000000 ≤ s.tick ∧ s.timers.dram + 10000000 ≤ s.tick ∧
       s.timers.counters + 6000000000 ≤ s.tick ∧ s.timers.wear + 100000000 ≤ s.tick) ∧
    (taken z R.RTC_SET.reg 0xFFFFFFFF ∧ 2000 ≤ 2499 ∧ 2499 < 2500 ∧ 3600 < 3601 ∧ z.life.calLost = false ∧
      isSet z R.RTC_STATUS.VALID 0 = false) := by decide +kernel

/-- A part whose cluster 0 is in service at a junction temperature, and the wear counter's state. -/
theorem witness_ThermalCyclesAreCounted :
    (let s : State := { z with tick := 100000000 }
     s.timers.wear + 100000000 ≤ s.tick ∧ serviceJunctions s = []) ∧
    (let s := put [(R.CAL_TEMP.TEMP.nth 0, 0, 400)] (staffed z)
     serviceJunctions s = [400]) := by
  decide +kernel

/-! ### Supplies, Damson, security, management, mailbox -/

theorem witness_HeatAndPowerAct :
    (let s : State := { z with tick := 10000000 }
     s.timers.thermistors + 10000000 ≤ s.tick ∧ s.timers.junction + 100000 ≤ s.tick) ∧
    (let s : State := { z with therm := { z.therm with inletOut := 1, hot := 1, cool := 1, shed := true }, tick := 1000000000 }
     s.therm.inletOut ≠ 0 ∧ s.therm.inletOut + 1000000000 ≤ s.tick + 1 ∧ s.therm.inletSaid = false ∧ s.therm.flowLow = 0 ∧
       s.therm.hot ≠ 0 ∧ s.therm.hot + 10000000 ≤ s.tick + 1 ∧ s.therm.shed = true ∧ s.therm.cool ≠ 0 ∧
       s.therm.cool + 1000000000 ≤ s.tick + 1 ∧ 0x0B0A ∉ s.flt.env) ∧
    taken z R.THERM_CTRL.reg 120 ∧ ({ z with part := .c128m } : State).part.damson = true ∧ z.pwrGood = false := by
  decide +kernel

/-- A LINES frame of no entries of stripe 1 and epoch 1. -/
def linesFrame : List Byte := tapFrame 1 0 1 1 0 []

/-- A TIME frame with VALID set. -/
def timeFrame : List Byte := tapFrame 3 0 0 0 (5 + 2 ^ 63) []

/-- A part with Damson in a state. -/
def damson (state : Nat) (f : Damson → Damson) : State :=
  put [(R.DMS_STATE.STATE, 0, state), (R.DMS_STATE.OSC_OK, 0, 1)] { z with part := .c128m, dms := f { z.dms with powered := true } }

/-- A measurement. -/
def meas0 : Meas := ⟨0, 0, 0, 0, 0, false, false, false, false, false⟩

/-- What ends a signed command: this part, the count of its events, a signature. -/
def signedTail : List Byte := leBytes 8 (unique z) ++ leBytes 4 (rd z R.DMS_EVENTS.COUNT 0) ++ leBytes 64 0

/-- A command of Damson: its code and its arguments. -/
def dmsBytes (cmd : Nat) (args : List Byte) : List Byte := leBytes 4 (cmd + args.length * 65536) ++ args

/-- A frame over MET_RX with those bytes. -/
def serial (b : List Byte) : DmsFrame := ⟨.serial (lineFrame b), true, 7⟩

/-- Parameter 5 to 1. -/
def setparam : List Byte := dmsBytes 0x10 (leBytes 4 5 ++ leBytes 8 1 ++ signedTail)

/-- An update of the firmware. -/
def fwupdate : List Byte := dmsBytes 0x11 signedTail

/-- Damson in a state takes a command over MET_RX. -/
abbrev carried (state cmd : Nat) (args : List Byte) : Prop :=
  DmsTaken (damson state id) (serial (dmsBytes cmd args)) cmd (dmsBytes cmd args) (dmsAt (damson state id) 7)

/-- A COMMAND frame of START on the tap. -/
def tapStart : List Byte := tapFrame 2 0 0 0 0 (dmsBytes 1 (leBytes 12 9))

theorem witness_DamsonActs :
    (let s : State := { damson dmsIdle id with tick := 100000000 }
     s.timers.timeFrame + 100000000 ≤ s.tick) ∧
    (let s := damson dmsIdle fun d => { d with tap := [linesFrame] }
     dmsRuns s = true ∧ (tapTake s [] (fun t => t != 2 && t != 3)).map (·.1) = some linesFrame ∧
       tapDigestOk linesFrame = true ∧ tapFormOk linesFrame 1 = true ∧ fieldLE linesFrame 1 1 = dmsParam s.dms 6 ∧
       (tapTake s [223] (fun t => t != 2 && t != 3)).map (fun x => tapDigestOk x.1) = some false) ∧
    (let s := damson dmsIdle fun d => { d with tap := [timeFrame] }
     (tapTake s [] (fun t => t == 3)).map (·.1) = some timeFrame ∧ tapDigestOk timeFrame = true ∧
       tapFormOk timeFrame 3 = true ∧ fieldLE timeFrame 1 1 = 0 ∧ bit (fieldLE timeFrame 16 8) 63 = true) ∧
    (let s := damson dmsMeasuring fun d => { d with meas := some meas0 }
     dmsRuns s = true ∧ (dmsAt s 163840).dms.meas = some meas0 ∧
       max meas0.startTime (dmsAt s 163840).dms.lastLinesAt + 163840 ≤ (dmsAt s 163840).dms.metTime ∧
       s.dms.savedAt + 1638400 ≤ 1638400) ∧
    (let s := dmsAt (damson dmsIdle fun d => { d with adjLow := true }) 163840
     dmsAwake (damson dmsIdle id) = true ∧ s.dms.adjAt + 163840 ≤ s.dms.metTime ∧ dmsRuns s = true ∧ dmsState s ≠ dmsAdjust ∧
       ¬(dmsAt (damson dmsIdle id) 163839).dms.adjAt + 163840 ≤ (dmsAt (damson dmsIdle id) 163839).dms.metTime) ∧
    (let s := damson dmsAdjust id
     dmsAwake s = true ∧ dmsState s = dmsAdjust ∧ s.dms.adjLow = false ∧ s.part.damson = true ∧ s.dms.powered = true) ∧
    ((quadTake Quad.reset 0 2 false false).2 = none ∧ (quadTake ⟨true, false, 5, 0, false, false⟩ 7 2 true false).2 = some .up ∧
      (quadTake ⟨false, false, 5, 0, true, false⟩ 7 2 false false).2 = some .down ∧
      (quadTake ⟨true, true, 5, 5, false, false⟩ 7 2 true true).2 = some .both) := by
  refine ⟨?_, ?_, ?_, ?_, ?_, ?_, ?_⟩ <;> decide +kernel

/-- A command over MET_RX is taken. -/
theorem serial_taken {s : State} {cmd : Nat} {b : List Byte} (h : dmsAwake s = true) (hc : fieldLE b 0 1 = cmd)
    (hf : frameOf (lineFrame b) = some b) : DmsTaken s (serial b) cmd b (dmsAt s 7) := ⟨h, hc, hf, rfl⟩

theorem witness_DamsonActs_commands :
    carried dmsIdle 1 (leBytes 4 9) ∧ carried dmsMeasuring 2 [] ∧ carried dmsIdle 3 (leBytes 4 0xFFFFFFFF) ∧ carried dmsIdle 4 [] ∧
    carried dmsIdle 5 [3] ∧ carried dmsIdle 0x12 (leBytes 4 0 ++ signedTail) ∧
    DmsTaken (damson dmsAdjust id) (serial setparam) 0x10 setparam (dmsAt (damson dmsAdjust id) 7) ∧
    DmsTaken (damson dmsAdjust id) (serial fwupdate) 0x11 fwupdate (dmsAt (damson dmsAdjust id) 7) := by
  refine ⟨?_, ?_, ?_, ?_, ?_, ?_, ?_, ?_⟩ <;> exact serial_taken (by decide +kernel) (by decide +kernel) (by decide +kernel)

theorem witness_DamsonActs_cases :
    (let s := damson dmsIdle id
     dmsState s = dmsIdle ∧ s.dms.adjLow = false ∧ isSet s R.DMS_STATE.OSC_OK 0 = true ∧
       s.dms.records.length ≤ 766 ∧ s.dms.meas = none ∧
       (damson dmsMeasuring fun d => { d with meas := some meas0 }).dms.meas = some meas0) ∧
    (let s := dmsAt (damson dmsAdjust id) 7
     changeRefusal s setparam true = none ∧ changeRefusal s setparam false = some 0x0A05 ∧
       changeRefusal s (dmsBytes 0x10 (leBytes 4 0 ++ leBytes 8 0 ++ signedTail)) true = none ∧ paramInRange 0 0 = false ∧
       fieldLE (dmsArgs setparam) 0 1 = 5 ∧
       paramInRange (fieldLE (dmsArgs setparam) 0 1) (fieldLE (dmsArgs setparam) 4 8) = true ∧
       changeRefusal s fwupdate true = none ∧ changeRefusal s fwupdate false = some 0x0A05) := by
  refine ⟨?_, ?_⟩ <;> decide +kernel

/-- A command over the tap. -/
theorem witness_DamsonActs_tap :
    (let s := damson dmsIdle fun d => { d with tap := [tapStart] }
     ∃ s0, DmsTaken s ⟨.tap [], true, 7⟩ 1 (dmsBytes 1 (leBytes 12 9)) s0) := by
  refine ⟨_, by decide +kernel, by decide +kernel, tapStart, _, rfl, ?_, ?_, ?_, ?_, rfl⟩ <;> decide +kernel

/-- Customer key slots 0 and 1 are burned. -/
def keyed (s : State) : State := put [(R.SEC_KEYS.VALID, 0, 3)] s

/-- A key command of this part, signed under slot 0. -/
def keyCmd (op : KeyOp) : KeyCmd := ⟨unique z, 1, 0, true, op⟩

theorem witness_KeysAndAccessAct :
    (let s := put [(R.SEC_LIFECYCLE.STATE, 0, 2)] (keyed z)
     keyCode s (keyCmd (.addKey [1])) = 0 ∧ keyCode s (keyCmd (.revokeKey 1)) = 0 ∧ keyCode s (keyCmd (.setPassword [1])) = 0 ∧
       keyCode s (keyCmd (.setMgmtKey [1])) = 0 ∧ keyCode s { keyCmd (.addKey [1]) with sigOk := false } ≠ 0) ∧
    lifecycle z = 0 ∧
    (let s : State := { keyed z with sec := { z.sec with vendorTest := [([1], false)], crSession := true } }
     lifecycle s ≠ 3 ∧ (at? ([], true) s.sec.vendorTest 0).2 = false ∧ s.sec.crSession = true) ∧
    (taken z R.SEC_ACCESS_CTRL.reg 4 ∧ bits 4 2 4 = 1 ∧ taken z R.SEC_ACCESS_CTRL.reg 8 ∧ taken z R.SEC_ACCESS_CTRL.reg 16 ∧
      taken z R.SEC_ACCESS_CTRL.reg 32) ∧
    (let s : State := { z with sec := { z.sec with nonceAt := some 0 }, tick := 6000000000 }
     s.sec.nonceAt = some 0 ∧ 0 + 6000000000 ≤ s.tick) ∧
    (let s : State := put [(R.SEC_ACCESS_STATUS.LOCKED_OUT, 0, 1), (R.SEC_ACCESS_STATUS.LOCKOUTS, 0, 1)]
       { z with sec := { z.sec with served := 3600 * 100000000 } }
     isSet s R.SEC_ACCESS_STATUS.LOCKED_OUT 0 = true ∧ lockTicks (rd s R.SEC_ACCESS_STATUS.LOCKOUTS 0) ≤ lockServed s) ∧
    (jtagOpen z = true ∧ busOk z 0 32 = true ∧ jtagOpen (put [(R.SEC_LIFECYCLE.STATE, 0, 2)] z) = false) := by
  refine ⟨?_, ?_, ?_, ?_, ?_, ?_, ?_⟩ <;> decide +kernel

/-- PROVISION_DONE passes with a key, a password and a management key burned. -/
theorem witness_KeysAndAccessAct_done : ∃ s, keyCode s (keyCmd .provisionDone) = 0 ∧ lifecycle s = 1 :=
  ⟨put [(R.SEC_LIFECYCLE.STATE, 0, 1), (R.SEC_KEYS.CR_KEY, 0, 1)] (keyed { z with sec := { z.sec with pw := [[1]], mgmtKeys := [[1]] } }), by decide +kernel⟩

/-- The management port is enabled. -/
def managed : State := put [(R.MGMT_NET_CTRL.EN, 0, 1)] z

/-- The management key. -/
def mgmtKey : List Byte := leBytes 32 7

/-- It is burned. -/
def withKey (s : State) : State := { s with sec := { s.sec with mgmtKeys := [mgmtKey] } }

/-- A COMMAND to this part, with its tag (R431). -/
def dgram0 : InDgram :=
  let head := leBytes 2 0xCA94 ++ leBytes 1 1 ++ leBytes 1 16 ++ leBytes 4 1 ++ leBytes 4 0 ++ leBytes 8 (unique z) ++ leBytes 12 0 ++
    leBytes 2 4 ++ leBytes 1 0xFF ++ leBytes 13 0
  let body := leBytes 4 1
  ⟨head, body, hmac256 mgmtKey (head ++ body)⟩

theorem witness_ManagementActs :
    authentic (wr (withKey managed) R.MGMT_STATUS.LINK 0 1) dgram0 = true ∧ forOther (withKey managed) dgram0 = false ∧
    isSet managed R.MGMT_NET_CTRL.EN 0 = true ∧
    (tagRight (withKey managed) { dgram0 with tag := [] } = false ∧
      dgSeq { dgram0 with header := leBytes 48 0 } ≤ managed.mgmt.lastIn ∧
      dgField { dgram0 with header := List.replicate 48 255 } 12 8 ≠ unique managed ∧
      forOther managed { dgram0 with header := splice dgram0.header 34 [14] } = true) ∧
    (managed.mgmt.silent = false ∧ managed.mgmt.lastAck + 300000000 ≤ ({ managed with tick := 300000000 } : State).tick + 1 ∧
      managed.timers.heartbeat + 100000000 ≤ 100000000) ∧
    taken z R.MGMT_RATE.reg 2000 ∧
    (let s : State := { managed with mgmt := { managed.mgmt with xfers := [(4, [1], 0)] }, tick := 6000000000 }
     s.mgmt.xfers.find? (fun x => x.1 == 4) = some (4, [1], 0) ∧ 0 + 6000000000 ≤ s.tick) ∧ 0x37F < 0x380 := by
  refine ⟨?_, ?_, ?_, ?_, ?_, ?_, ?_, ?_⟩ <;> decide +kernel

/-- A COMMAND taken at the port, and one that came over the ring. -/
theorem witness_ManagementActs_taken :
    (∃ s1 back, CommandTaken (withKey managed) dgram0 s1 back) ∧
    (let s : State := { withKey z with mgmt := { z.mgmt with relayed := [(3, dgram0)] } }
     ∃ s1 back, CommandTaken s dgram0 s1 back ∧ back = fun t => { t with mgmt := { t.mgmt with route := none } }) :=
  ⟨⟨_, _, .inl ⟨by decide +kernel, by decide +kernel, by decide +kernel, by decide +kernel, rfl, rfl⟩⟩,
   ⟨_, _, .inr ⟨(3, dgram0), by decide +kernel, by decide +kernel, rfl, rfl⟩, rfl⟩⟩

/-- The host's slot 7 holds a request: its command, its argument bytes. -/
def asking (s : State) (cmd : Nat) (args : List Byte) : State :=
  setMbx s 0 { Mbx.reset with slots := memWrite [] 1792 (leBytes 4 cmd ++ leBytes 4 args.length ++ args) }

/-- The request. -/
def request (s : State) : MbxReq := requestOf 7 (slotBytes (mbxOf s 0) 7)

/-- A doorbell of that slot takes it up. -/
abbrev asked (s : State) (cmd : Nat) : Prop :=
  Requested s ⟨.host, 15, 7⟩ cmd 0 (request s)
    (setMbx s 0 { mbxOf s 0 with reqs := (mbxOf s 0).reqs ++ [request s] })

/-- Host memory from 0x8000000000 on is mapped. -/
def hosted (s : State) : State := put [(R.PCIE_XLAT_LO.VALID.nth 0, 0, 1)] s

theorem witness_MailboxActs :
    (let s := asking (hosted ready0) 1 (leBytes 8 0x8000000000 ++ leBytes 8 4096 ++ leBytes 4 1)
     asked s 1 ∧ 20 ≤ argLen (slotBytes (mbxOf s 0) 7) ∧ hostOk s 0x8000000000 4096 = true ∧ streamsOf 1 = [0] ∧
       fieldLE (request s).args 16 4 = 1 ∧ running s 0 = false ∧ isListener s = false ∧
       isListener (put [(R.ZP_STATUS.ROLE, 0, 2)] s) = true) ∧
    (let s := asking (hosted running0) 2 (leBytes 8 0x8000000000 ++ leBytes 8 4096 ++ leBytes 4 1)
     asked s 2 ∧ hostOk s 0x8000000000 4096 = true ∧ running s 0 = true ∧ isListener s = false ∧ withGroups s [0] = [0] ∧
       (strm s 0).swap = none ∧ (strm s 0).pkg = some pkg0) ∧
    asked (asking z 3 []) 3 ∧
    (let s := asking (hosted z) 4 (leBytes 8 0x8000000000 ++ leBytes 8 64)
     asked s 4 ∧ 16 ≤ argLen (slotBytes (mbxOf s 0) 7) ∧ hostOk s 0x8000000000 64 = true) ∧
    asked (asking (hosted z) 5 (leBytes 8 0x8000000000 ++ leBytes 8 64)) 5 ∧ asked (asking z 6 [7]) 6 ∧
    (let s := asking (hosted z) 7 (leBytes 8 64 ++ leBytes 8 0x8000000000 ++ leBytes 4 64)
     asked s 7 ∧ dramRangeOk s 64 64 = true ∧ 0x8000000000 % 64 = 0 ∧ hostOk s 0x8000000000 64 = true) ∧
    asked (asking (hosted z) 8 (leBytes 8 64 ++ leBytes 8 0x8000000000 ++ leBytes 4 64)) 8 ∧
    (let s := asking (put [(R.PORT_STATUS.STATE, 11, 2)] z) 9 (leBytes 4 11 ++ leBytes 8 0x8000000000 ++ leBytes 4 0)
     asked s 9 ∧ fieldLE (request s).args 1 3 = 0 ∧ fieldLE (request s).args 0 1 = 11 ∧
       16 + fieldLE (request s).args 12 4 ≤ (request s).args.length ∧ rd s R.PORT_STATUS.STATE 11 = 2) ∧
    (let s := asking (hosted z) 10 (leBytes 4 16383 ++ leBytes 4 0 ++ leBytes 8 0x8000000000)
     asked s 10 ∧ fieldLE (request s).args 4 4 = 0 ∧ hostOk s 0x8000000000 (2 ^ 26) = true) ∧
    asked (asking { z with part := .c128m } 11 [1, 2, 3]) 11 ∧ asked (asking z 12 []) 12 ∧
    (let s := put [(R.MBX_STATUS.SLOT_BUSY, 0, 128)] z
     taken s R.MBX_DOORBELL.reg 7 ∧ bit (rd s R.MBX_STATUS.SLOT_BUSY 0) (7 % 8) = true) ∧
    (let s := put [(R.MBX_RSP_HEAD.SEQ, 0, 15), (R.MBX_EVT_HEAD.SEQ, 0, 15)]
       (setMbx z 0 { Mbx.reset with rspWait := [(7, [1])], evtWait := [(2, [1])] })
     (mbxOf s 0).rspWait = [(7, [1])] ∧ ringOpen s R.MBX_RSP_HEAD.SEQ R.MBX_RSP_TAIL.SEQ 0 = true ∧
       (mbxOf s 0).evtWait = [(2, [1])] ∧ ringOpen s R.MBX_EVT_HEAD.SEQ R.MBX_EVT_TAIL.SEQ 0 = true) := by
  refine ⟨?_, ?_, ?_, ?_, ?_, ?_, ?_, ?_, ?_, ?_, ?_, ?_, ?_, ?_⟩ <;> decide +kernel

/-! ### An ill-formed term for each check (WellFormed.lean) -/

theorem wf_refuses : [
    Instr.registerWrite ⟨.host, 16, 0⟩ 0, .registerWrite ⟨.host, 15, 2 ^ 32⟩ 0, .registerWrite ⟨.host, 15, 0⟩ 0x100000,
    .absentInstanceAccess ⟨.host, 0x100000, 15, none⟩, .unmappedOffsetAccess ⟨.host, 0, 16, none⟩,
    .bankWrite 128 0 0 0, .bankWrite 0 2 0 0, .bankWrite 0 0 4096 0, .dmaCancelComplete 72, .nop 0 ⟨[.fetch (2 ^ 72)], false⟩,
    .spadCntWrite ⟨.host, 15, 0⟩ 32 false, .cvuCtrlWrite ⟨.host, 15, 0⟩ 16, .shareDescriptorWrite 0 [1],
    .mgmtAckReceived ⟨[], [], []⟩, .encoderPulse 2 true false [], .dmsStart ⟨.serial [], true, 0⟩, .bankGroupStartDone 0 4,
    .gvcpDiscovery 2, .zlIdleCellTimer 4, .csi2FrameStart 14 0 0, .csi2FrameStart 0 32 0, .ringReservationGrant 0 16,
    .spadRowmapWrite ⟨.host, 15, 0⟩ 256, .zlShortCellReceived ⟨0, 2 ^ 24, 0, false, 0, true, false, false, false⟩ none,
    .sensorExclude 24, .ratchetRotation 0 32 [], .lineReceived 32 .own, .alu 0 ⟨[.acc 16 0 0], false⟩,
    .rget 0 ⟨[.spad 12288 0], false⟩, .mma 0 ⟨[.weight true 64 0 0], false⟩].all (fun i => !i.wf) = true := by decide +kernel

theorem wf_accepts : [
    Instr.registerWrite ⟨.host, 15, 2 ^ 32 - 1⟩ 0xFFFFF, .bankWrite 127 1 4095 0, .dmaCancelComplete 71, .nop 127 ⟨[.fetch (2 ^ 72 - 1), .acc 15 1023 (2 ^ 36 - 1)], true⟩,
    .encoderPulse 1 true true [], .csi2FrameStart 3 15 65535, .lineReceived 31 .dual].all Instr.wf = true := by decide +kernel

/-! ### Values the spec gives -/

/-- R246: the check values of its table. -/
theorem test_crc :
    (let l := [0x31, 0x32, 0x33, 0x34, 0x35, 0x36, 0x37, 0x38, 0x39]
     crc32c l = 0xE3069283 ∧ crc64 l = 0x6C40DF5F0B497347) := by decide +kernel

/-- SHA-256 of "abc", as FIPS 180-4 gives it. -/
theorem test_sha256 : fieldLE (sha256 [0x61, 0x62, 0x63]).reverse 0 32 =
    0xBA7816BF8F01CFEA414140DE5DAE2223B00361A396177A9CB410FF61F20015AD := by decide +kernel

/-- R97's example word, and R122's encoding example. -/
theorem test_words : ins 1 5 0 0 1024 = 0x0450000000000400 ∧ ins 0x20 3 1 2 8 = 0x8030420000000008 := by decide +kernel

/-- R97: `li s5, 1024`. -/
theorem test_li : ∃ t, exec (.li 127 quietRun) (withOp 0x0450000000000400 Core.reset) = .next t ∧
    sreg (coreAt t 127) 5 = 1024 ∧ pcOf t 127 = 1 := ⟨_, rfl, by decide +kernel⟩

/-- R99: SLT of −4 and of 20 with 16. -/
theorem test_alui : aluFn 14 (2 ^ 32 - 4) 16 = 1 ∧ aluFn 14 20 16 = 0 := by decide +kernel

/-- R123: 100 + 50 in INT8 saturates at 127, counted. -/
theorem test_vop : vopRes 0 1 100 50 = ⟨127, 1, 0⟩ := by decide +kernel

/-- The worked example of R63: FP32 to E4M3 and E5M2. -/
theorem test_fp8 :
    (convert 10 6 0x3E99999A false).v = 0x2A ∧ (convert 10 7 0x3E99999A false).v = 0x35 ∧
    (convert 10 6 0x3C7DF3B6 false).v = 0x08 ∧ (convert 10 7 0x3C7DF3B6 false).v = 0x24 ∧
    (convert 10 6 0x3C23D70A false).v = 0x00 ∧ (convert 10 7 0x3C23D70A false).v = 0x21 ∧
    convert 10 6 0x43FA0000 false = ⟨0x7E, 1, 0⟩ ∧ (convert 10 7 0x43FA0000 false).v = 0x60 ∧
    convert 10 6 0xFF800000 false = ⟨0xFE, 1, 0⟩ ∧ (convert 10 7 0xFF800000 false).v = 0xFC := by decide +kernel

/-- R126: M = 0x4000_0000 and S = 30 scale by 1; 300 becomes INT8 127, counted. -/
theorem test_vreq : requant 300 0x40000000 30 0 1 = ⟨127, 1, 0⟩ := by decide +kernel

/-- R127: EXP of 0.0 is 1.0, RCP of 4.0 is 0.25. -/
theorem test_vfn : vfn 0 0 = (0x3F800000, 0) ∧ vfn 2 0x40800000 = (0x3E800000, 0) := by decide +kernel

/-- R64's example: amax 10.0 gives scale byte 0x80 and element 0x6. -/
theorem test_mxfp4 : (mxQuant 13 (fdec 10 0x41200000 :: List.replicate 31 (fdec 10 0))).1 = 0x80 ∧
    (mxQuant 13 (fdec 10 0x41200000 :: List.replicate 31 (fdec 10 0))).2.1.head? = some 6 := by decide +kernel

end Sys2Proof.Tests
end

section
/-! SUPPORT. Rules for the instructions of a core that the scalar and control-flow statements share: reading a scalar
register after a write, and the program counter and core after an instruction completes where no loop is active
(R91, R94, R103). -/

namespace Sys2Proof.Machine

open Sys2Proof

/-! ### Scalar registers (R91) -/

@[simp] theorem setS_zero (k : Core) (v : Nat) : setS k 0 v = k := if_pos rfl

theorem setS_of_ne {i : Nat} (k : Core) (v : Nat) (h : i ≠ 0) :
    setS k i v = { k with s := tset 0 k.s i (v % word32) } := if_neg h

@[simp] theorem sreg_zero (k : Core) : sreg k 0 = 0 := if_pos rfl

theorem sreg_of_ne {i : Nat} (k : Core) (h : i ≠ 0) : sreg k i = tget 0 k.s i := if_neg h

theorem sreg_setS_same (k : Core) (i v : Nat) : sreg (setS k i v) i = if i = 0 then 0 else v % word32 := by
  split
  next h => rw [h, sreg_zero]
  next h => rw [setS_of_ne _ _ h, sreg_of_ne _ h, tget_tset_same]

theorem sreg_setS_ne {i j : Nat} (k : Core) (v : Nat) (h : j ≠ i) : sreg (setS k i v) j = sreg k j := by
  by_cases hi : i = 0
  · rw [hi, setS_zero]
  · by_cases hj : j = 0
    · rw [hj, sreg_zero, sreg_zero]
    · rw [setS_of_ne _ _ hi, sreg_of_ne _ hj, sreg_of_ne _ hj, tget_tset_ne _ _ _ _ h]

/-- A write of a scalar register reaches the scalar file alone. -/
theorem setS_frame (k : Core) (i v : Nat) : setS k i v = { k with s := (setS k i v).s } := by
  by_cases h : i = 0
  · rw [h, setS_zero]
  · rw [setS_of_ne _ _ h]

theorem bits_lt (w lo n : Nat) : bits w lo n < 2 ^ n := Nat.mod_lt _ (Nat.two_pow_pos n)

/-! ### The program counter and completion (R94, R103) -/

theorem pcOf_setPc {s : State} {c p : Nat} (h : p < 65536) : pcOf (setPc s c p) c = p := by
  rw [pcOf, setPc, rd_wr_same]
  exact Nat.mod_eq_of_lt h

theorem rd_setPc_ne {s : State} {c p i : Nat} {f : Fld} (h : f.key i ≠ R.CORE_PC.PC.key c) :
    rd (setPc s c p) f i = rd s f i := rd_wr_ne _ _ _ _ h

@[simp] theorem coreAt_setPc (s : State) (c p d : Nat) : coreAt (setPc s c p) d = coreAt s d := rfl

/-- Outside every loop an instruction completes by its count, its place, and a step to the next word. -/
theorem completed_of_noLoops {s : State} {c : Nat} (pc : Nat) (h : (coreAt s c).loops = []) :
    completed s c pc = setPc (modCore s c fun k => { k with seq := k.seq + 1, lastPc := pc }) c (pc + 1) := by
  simp only [completed, h, loopNext, modCore]

theorem isOp_of_opc {o w : Nat} (h : opc w = o) : isOp o w = true := beq_iff_eq.2 h

theorem pcOf_le_of_fetches {s : State} {c w : Nat} (h : Fetches s c w) : pcOf s c ≤ 4095 :=
  let ⟨_, hp, _⟩ := h
  hp

/-- No loop ends at a word where none is active. -/
theorem badLoopEnd_of_noLoops {k : Core} (w pc : Nat) (h : k.loops = []) : badLoopEnd k w pc = false := by
  rw [badLoopEnd, h]

/-- A core that may issue and has neither a loop nor a read under way fetches the word at its program counter, if no bit
of it has flipped. -/
theorem fetches_of_clean {s : State} {c w : Nat} (hi : mayIssue s c = true) (hl : (coreAt s c).loops = [])
    (hr : (coreAt s c).reads = []) (hp : pcOf s c ≤ 4095) (hw : bankWord s c (activeBank s c) (pcOf s c) = w)
    (hf : bankFlips s c (activeBank s c) (pcOf s c) = 0) : Fetches s c w :=
  ⟨hi, hp, hw, hf, by rw [hr]; rfl, badLoopEnd_of_noLoops _ _ hl⟩

end Sys2Proof.Machine
end

section
/-! NOP: what its row does with a fetched word and with a fetch beyond the last word, and the statement about it (R96). -/

namespace Sys2Proof.Machine

open Sys2Proof

/-- A fetch beyond word 4,095 ends the share (R77). -/
theorem exec_nop_beyond {s : State} {c : Nat} (k : Chk) (hi : mayIssue s c = true) (hp : 4095 < pcOf s c) :
    exec (.nop c k) s = .next (shareEvent s c 0x0110 (pcOf s c) (coreAt s c).seq) := if_pos ⟨hi, hp⟩

/-- A fetched word whose opcode is NOP's or unassigned completes where it is all zero and ends the share elsewhere (R92, R96). -/
theorem exec_nop_fetches {s : State} {c w : Nat} (h : Fetches s c w) (hw : opc w = 0 ∨ unassigned w = true) :
    exec (.nop c quietRun) s = .next (if w = 0 then completed s c (pcOf s c)
      else shareEvent s c 0x0110 (pcOf s c) (coreAt s c).seq) := by
  have hin : ¬ (mayIssue s c = true ∧ 4095 < pcOf s c) := fun ⟨_, hp⟩ => Nat.not_lt.2 (pcOf_le_of_fetches h) hp
  have hmine : (isOp 0 w || unassigned w) = true := by simpa [isOp] using hw
  show execNop c quietRun s = _
  rw [execNop, if_neg hin, issue_fetches h hmine]
  split
  · rw [applyEff_go_quiet]
  · rfl

/-- Settles O30: an instruction that completes outside every loop changes its count, its place and the program counter
alone; the other clauses are the fault of a set bit, and the fetch in a cleared bank. -/
theorem nopHasNoEffect : Obligations.NopHasNoEffect := by
  unfold Obligations.NopHasNoEffect
  refine ⟨fun s c hf hl => ?_, fun s c w hf ho hw => ?_, fun s c hi hl hr hz => ⟨fun hp => ?_, exec_nop_beyond _ hi⟩⟩
  · have hpc : pcOf s c + 1 < 65536 := by have := pcOf_le_of_fetches hf; omega
    refine ⟨completed s c (pcOf s c), ?_, ?_⟩
    · rw [exec_nop_fetches hf (.inl rfl), if_pos rfl]
    · rw [completed_of_noLoops _ hl]
      refine ⟨pcOf_setPc hpc, ?_, rfl, fun d hd => ?_, fun f i h => ?_⟩
      · rw [coreAt_setPc, coreAt_modCore]
      · rw [coreAt_setPc, coreAt_modCore_ne _ _ hd]
      · rw [rd_setPc_ne h, rd_modCore]
  · rw [exec_nop_fetches hf (.inl ho), if_neg hw]
  · obtain ⟨hword, hflips⟩ := hz _ (Nat.lt_succ_of_le hp)
    exact fetches_of_clean hi hl hr hp hword hflips

end Sys2Proof.Machine
end

section
/-! LI: what its row does with a fetched word, and the statement about it (R97). -/

namespace Sys2Proof.Machine

open Sys2Proof

/-- A fetched LI writes its immediate and completes, or ends the share where its word is ill-formed (R89, R97). -/
theorem exec_li_fetches {s : State} {c w : Nat} (h : Fetches s c w) (ho : opc w = 1) :
    exec (.li c quietRun) s = .next (if decOk w .s .none .none [(0, 32)] = true
      then completed (modCore s c fun k => setS k (dst w) (bits w 0 32)) c (pcOf s c)
      else shareEvent s c 0x0110 (pcOf s c) (coreAt s c).seq) := by
  show execLi c quietRun s = _
  rw [execLi, issue_fetches h (isOp_of_opc ho)]
  cases decOk w .s .none .none [(0, 32)] with
  | true => simp
  | false => rfl

/-- Settles O31: the state before completion is the fetched one with the scalar register written, so its clauses are
what a write of a scalar register reads as and what it leaves alone. -/
theorem liWritesItsImmediate : Obligations.LiWritesItsImmediate := by
  unfold Obligations.LiWritesItsImmediate
  refine ⟨fun s c w hf ho => ⟨fun hd => ?_, fun hd => ?_⟩, by decide⟩
  · have himm : bits w 0 32 % word32 = bits w 0 32 := Nat.mod_eq_of_lt (bits_lt w 0 32)
    refine ⟨modCore s c fun k => setS k (dst w) (bits w 0 32), ?_, ?_, fun i hi => ?_, rfl, ?_,
      fun d hne => coreAt_modCore_ne _ _ hne⟩
    · rw [exec_li_fetches hf ho, if_pos hd]
    · rw [coreAt_modCore, sreg_setS_same, himm]
    · rw [coreAt_modCore, sreg_setS_ne _ _ hi]
    · rw [coreAt_modCore]
      exact setS_frame _ _ _
  · rw [exec_li_fetches hf ho, if_neg (by rw [hd]; exact Bool.false_ne_true)]

end Sys2Proof.Machine
end

section
/-! The thermal cycle counter: its step, what the rest of the second's work leaves of it, and the statement about it
(R346). -/

namespace Sys2Proof.Machine

open Sys2Proof

/-! ### The counter alone -/

/-- The thermal cycle counter of R346. -/
structure CycleCounter where
  up : Bool
  p : Int
  v : Int
  cycles : Nat

/-- The thermal cycle counter that a state holds. -/
def cycleCounter (s : State) : CycleCounter := ⟨s.life.up, s.life.p, s.life.v, s.life.now.cycles⟩

theorem cycleCounter_eq_iff {s : State} {up : Bool} {p v : Int} {n : Nat} :
    cycleCounter s = ⟨up, p, v, n⟩ ↔ s.life.up = up ∧ s.life.p = p ∧ s.life.v = v ∧ s.life.now.cycles = n := by
  rw [cycleCounter, CycleCounter.mk.injEq]

/-- R346's step of the counter at a temperature, in eighths of a kelvin. -/
def CycleCounter.next (c : CycleCounter) (h : Int) : CycleCounter :=
  if c.up then
    if c.p < h then { c with p := h }
    else if h ≤ c.p - 160 then ⟨false, c.p, h, c.cycles + if 160 ≤ c.p - c.v then 1 else 0⟩
    else c
  else if h < c.v then { c with v := h }
  else if c.v + 160 ≤ h then { c with up := true, p := h }
  else c

theorem cycleCounter_cycleStep (s : State) (h : Int) :
    cycleCounter (cycleStep s h) = (cycleCounter s).next h := by
  simp only [cycleStep, CycleCounter.next, apply_ite cycleCounter]
  rfl

/-! ### What the second's other work leaves of it -/

/-- What each step of a fold keeps, the fold keeps. -/
theorem foldl_keeps {α β : Type} {f : State → α → State} (g : State → β) (hf : ∀ t x, g (f t x) = g t) (l : List α)
    (s : State) : g (l.foldl f s) = g s := by
  induction l generalizing s with
  | nil => rfl
  | cons x l ih => rw [List.foldl_cons, ih, hf]

theorem moveTrims_life (s : State) : (moveTrims s).life = s.life :=
  foldl_keeps State.life (fun _ _ => wr_life _ _ _ _) _ _

theorem cycleCounter_moveTrims (s : State) : cycleCounter (moveTrims s) = cycleCounter s := by
  rw [cycleCounter, cycleCounter, moveTrims_life]

theorem cycleCounter_wearSecond (s : State) (cl : Nat) : cycleCounter (wearSecond s cl) = cycleCounter s := by
  unfold wearSecond
  cases junction s cl <;> rfl

/-! ### The second's row -/

/-- The counter after a second in which the clusters in service are at the given junction temperatures. -/
def CycleCounter.second (c : CycleCounter) : List Int → CycleCounter
  | [] => c
  | x :: rest => c.next (rest.foldl max x)

theorem exec_wearHistogramTick_cycleCounter {s : State} (hdue : s.timers.wear + 100000000 ≤ s.tick) :
    ∃ t, exec .wearHistogramTick s = .next t ∧ cycleCounter t = (cycleCounter s).second (serviceJunctions s) := by
  have hhist (s : State) (l : List Nat) : cycleCounter (l.foldl wearSecond s) = cycleCounter s :=
    foldl_keeps cycleCounter cycleCounter_wearSecond l s
  show ∃ t, execWearHistogramTick s = .next t ∧ _
  rw [execWearHistogramTick, due, decide_eq_true hdue]
  refine ⟨_, rfl, ?_⟩
  rw [cycleCounter_moveTrims]
  cases serviceJunctions s with
  | nil => exact hhist _ _
  | cons x rest => rw [cycleCounter_cycleStep, hhist]; rfl

/-- Settles O55: the histograms and the trims leave the counter alone, so the second's row takes the rule's step of it. -/
theorem thermalCyclesAreCounted : Obligations.ThermalCyclesAreCounted := by
  unfold Obligations.ThermalCyclesAreCounted
  refine ⟨fun s hdue => ?_, fun s x rest hj => ?_⟩
  · obtain ⟨t, hexec, hcount⟩ := exec_wearHistogramTick_cycleCounter hdue
    refine ⟨t, hexec, ?_⟩
    cases hj : serviceJunctions s with
    | nil =>
      rw [hj] at hcount
      exact cycleCounter_eq_iff.1 hcount
    | cons x rest =>
      rw [hj, CycleCounter.second] at hcount
      simp only [← cycleCounter_eq_iff, hcount]
      cases hup : s.life.up with
      | true =>
        simp only [cycleCounter, hup, CycleCounter.next, ↓reduceIte]
        split_ifs
        all_goals rfl
      | false =>
        simp only [cycleCounter, hup, CycleCounter.next, Bool.false_eq_true, ↓reduceIte]
        split_ifs
        all_goals rfl
  · rw [bootCycles, hj]

end Sys2Proof.Machine
end

section
/-! What every command keeps: the stores' canonical form, the queue and the part, and a latched SAFE unless the command
is a release whose conditions hold (R297, R298). -/

namespace Sys2Proof.Machine

open Sys2Proof

/-! ### Every command, by the terms of `Moves` -/

theorem Moves.of_imp {k k' : Prop} {r s : State} (hk : k' → k) (h : Moves k r s) : Moves k' r s :=
  ⟨h.pending, h.part, h.mem, h.hostMem, h.regs, fun hk' => h.safe (hk hk'), h.free, h.out⟩

theorem MovesO.of_imp {k k' : Prop} {r : State} {o : Host.Outcome State Fault Refusal} (hk : k' → k)
    (h : MovesO k r o) : MovesO k' r o := by
  cases o with
  | next s => exact Moves.of_imp hk h
  | fault _ => trivial
  | refused _ => trivial

/-- The two commands that ask for a release of SAFE (R298, R431). -/
def asksRelease : Instr → Bool
  | .sscRelease _ _ | .clapperRelease _ _ => true
  | _ => false

/-- Every command moves, and but for the two that ask for a release none of them leaves SAFE. -/
theorem exec_moves (c : Instr) (s : State) : MovesO (asksRelease c = false) s (exec c s) :=
  match c with
  | .registerWrite _ _ => execRegisterWrite_moves _ _ (.refl _ _)
  | .absentInstanceAccess _ => execAbsentInstanceAccess_moves _ (.refl _ _)
  | .unmappedOffsetAccess _ => execUnmappedOffsetAccess_moves _ (.refl _ _)
  | .coreCntStepsLoRead _ => execCoreCntStepsLoRead_moves _ (.refl _ _)
  | .fioTickLoRead _ => execFioTickLoRead_moves _ (.refl _ _)
  | .lifePoweredLoRead _ => execLifePoweredLoRead_moves _ (.refl _ _)
  | .idUniqueLoRead _ => execIdUniqueLoRead_moves _ (.refl _ _)
  | .lineReceived _ _ => execLineReceived_moves _ _ (.refl _ _)
  | .rawFrontLine _ _ => execRawFrontLine_moves _ _ (.refl _ _)
  | .lineWriteToDram _ => execLineWriteToDram_moves _ (.refl _ _)
  | .stripeClose _ => execStripeClose_moves _ (.refl _ _)
  | .partialStripeTimeout _ => execPartialStripeTimeout_moves _ (.refl _ _)
  | .shareDispatch _ => execShareDispatch_moves _ (.refl _ _)
  | .cropBatchDispatch _ => execCropBatchDispatch_moves _ (.refl _ _)
  | .shareDescriptorWrite _ _ => execShareDescriptorWrite_moves _ _ (.refl _ _)
  | .shareEnd _ _ => execShareEnd_moves _ _ (.refl _ _)
  | .computeDeadlineExpiry _ _ _ _ => execComputeDeadlineExpiry_moves _ _ _ _ (.refl _ _)
  | .commit _ => execCommit_moves _ (.refl _ _)
  | .commitDeadlineExpiry _ _ => execCommitDeadlineExpiry_moves _ _ (.refl _ _)
  | .pictureBackLine _ _ => execPictureBackLine_moves _ _ (.refl _ _)
  | .outputLineSend _ _ _ => execOutputLineSend_moves _ _ _ (.refl _ _)
  | .brambleFlitHop _ _ _ _ _ => execBrambleFlitHop_moves _ _ _ _ _ (.refl _ _)
  | .fieldTickLoss _ => execFieldTickLoss_moves _ (.refl _ _)
  | .fieldFrequencyWindowEnd _ _ => execFieldFrequencyWindowEnd_moves _ _ (.refl _ _)
  | .sysRefclkLoss _ => execSysRefclkLoss_moves _ (.refl _ _)
  | .paceEvaluation _ _ => execPaceEvaluation_moves _ _ (.refl _ _)
  | .pmbusReadbackCheck _ _ _ => execPmbusReadbackCheck_moves _ _ _ (.refl _ _)
  | .voutModeRecheck _ _ => execVoutModeRecheck_moves _ _ (.refl _ _)
  | .pipePaceCtrlWrite _ => execPipePaceCtrlWrite_moves _ (.refl _ _)
  | .latencyMaxClear _ => execLatencyMaxClear_moves _ (.refl _ _)
  | .nop _ _ => execNop_moves _ _ (.refl _ _)
  | .li _ _ => execLi_moves _ _ (.refl _ _)
  | .alu _ _ => execAlu_moves _ _ (.refl _ _)
  | .alui _ _ => execAlui_moves _ _ (.refl _ _)
  | .mfsr _ _ => execMfsr_moves _ _ (.refl _ _)
  | .br _ _ => execBr_moves _ _ (.refl _ _)
  | .jmp _ _ => execJmp_moves _ _ (.refl _ _)
  | .call _ _ => execCall_moves _ _ (.refl _ _)
  | .ret _ _ => execRet_moves _ _ (.refl _ _)
  | .loopOpen _ _ => execLoopOpen_moves _ _ (.refl _ _)
  | .tset _ _ => execTset_moves _ _ (.refl _ _)
  | .tadv _ _ => execTadv_moves _ _ (.refl _ _)
  | .tedge _ _ => execTedge_moves _ _ (.refl _ _)
  | .mma _ _ => execMma_moves _ _ (.refl _ _)
  | .mmaFamilyStart _ => execMmaFamilyStart_moves _ (.refl _ _)
  | .mmaw _ _ => execMmaw_moves _ _ (.refl _ _)
  | .mmad _ _ => execMmad_moves _ _ (.refl _ _)
  | .mmac _ _ => execMmac_moves _ _ (.refl _ _)
  | .oacc _ _ => execOacc_moves _ _ (.refl _ _)
  | .vop _ _ => execVop_moves _ _ (.refl _ _)
  | .vops _ _ => execVops_moves _ _ (.refl _ _)
  | .vcmp _ _ => execVcmp_moves _ _ (.refl _ _)
  | .vsel _ _ => execVsel_moves _ _ (.refl _ _)
  | .vcvt _ _ => execVcvt_moves _ _ (.refl _ _)
  | .vreq _ _ => execVreq_moves _ _ (.refl _ _)
  | .vfn _ _ => execVfn_moves _ _ (.refl _ _)
  | .vred _ _ => execVred_moves _ _ (.refl _ _)
  | .varg _ _ => execVarg_moves _ _ (.refl _ _)
  | .vpool _ _ => execVpool_moves _ _ (.refl _ _)
  | .vacc _ _ => execVacc_moves _ _ (.refl _ _)
  | .vmxqQuantise _ _ => execVmxqQuantise_moves _ _ (.refl _ _)
  | .vmxqExpand _ _ => execVmxqExpand_moves _ _ (.refl _ _)
  | .vbc _ _ => execVbc_moves _ _ (.refl _ _)
  | .vld _ _ => execVld_moves _ _ (.refl _ _)
  | .vst _ _ => execVst_moves _ _ (.refl _ _)
  | .slsLoad _ _ => execSlsLoad_moves _ _ (.refl _ _)
  | .slsStore _ _ => execSlsStore_moves _ _ (.refl _ _)
  | .xferWrite _ _ => execXferWrite_moves _ _ (.refl _ _)
  | .xferRead _ _ => execXferRead_moves _ _ (.refl _ _)
  | .xferReadResponse _ _ _ => execXferReadResponse_moves _ _ _ (.refl _ _)
  | .remoteWriteAck _ _ _ _ => execRemoteWriteAck_moves _ _ _ _ (.refl _ _)
  | .bindRing _ _ => execBindRing_moves _ _ (.refl _ _)
  | .bindCounter _ _ => execBindCounter_moves _ _ (.refl _ _)
  | .rput _ _ => execRput_moves _ _ (.refl _ _)
  | .ringReservationGrant _ _ => execRingReservationGrant_moves _ _ (.refl _ _)
  | .ringSlotLanded _ _ _ _ => execRingSlotLanded_moves _ _ _ _ (.refl _ _)
  | .rget _ _ => execRget_moves _ _ (.refl _ _)
  | .rwinAcquire _ _ => execRwinAcquire_moves _ _ (.refl _ _)
  | .rwinRelease _ _ => execRwinRelease_moves _ _ (.refl _ _)
  | .ringWaitSatisfied _ => execRingWaitSatisfied_moves _ (.refl _ _)
  | .cwait _ _ => execCwait_moves _ _ (.refl _ _)
  | .counterWaitSatisfied _ => execCounterWaitSatisfied_moves _ (.refl _ _)
  | .csetAdd _ _ => execCsetAdd_moves _ _ (.refl _ _)
  | .csetSet _ _ => execCsetSet_moves _ _ (.refl _ _)
  | .gongArrive _ _ => execGongArrive_moves _ _ (.refl _ _)
  | .gongWait _ _ => execGongWait_moves _ _ (.refl _ _)
  | .gongSync _ _ => execGongSync_moves _ _ (.refl _ _)
  | .gongGenerationComplete _ _ _ => execGongGenerationComplete_moves _ _ _ (.refl _ _)
  | .gongWaitLimitExpiry _ => execGongWaitLimitExpiry_moves _ (.refl _ _)
  | .fence _ _ => execFence_moves _ _ (.refl _ _)
  | .fenceComplete _ => execFenceComplete_moves _ (.refl _ _)
  | .endShare _ _ => execEndShare_moves _ _ (.refl _ _)
  | .chk _ _ => execChk_moves _ _ (.refl _ _)
  | .stallWatchdogExpiry _ => execStallWatchdogExpiry_moves _ (.refl _ _)
  | .bankWrite _ _ _ _ => execBankWrite_moves _ _ _ _ (.refl _ _)
  | .validateBank _ => execValidateBank_moves _ (.refl _ _)
  | .validateComplete _ _ => execValidateComplete_moves _ _ (.refl _ _)
  | .invalidateBank _ => execInvalidateBank_moves _ (.refl _ _)
  | .instructionScrubPass _ _ => execInstructionScrubPass_moves _ _ (.refl _ _)
  | .coreEnWrite _ => execCoreEnWrite_moves _ (.refl _ _)
  | .coreStop _ => execCoreStop_moves _ (.refl _ _)
  | .coreCntClear _ => execCoreCntClear_moves _ (.refl _ _)
  | .coreRoleWrite _ => execCoreRoleWrite_moves _ (.refl _ _)
  | .coreStartDone _ => execCoreStartDone_moves _ (.refl _ _)
  | .coreDrainDone _ => execCoreDrainDone_moves _ (.refl _ _)
  | .coreDrainTimeout _ => execCoreDrainTimeout_moves _ (.refl _ _)
  | .marginWiden _ => execMarginWiden_moves _ (.refl _ _)
  | .ratchetRotation _ _ _ => execRatchetRotation_moves _ _ _ (.refl _ _)
  | .spadHazardClear _ => execSpadHazardClear_moves _ (.refl _ _)
  | .spadCfgWrite _ => execSpadCfgWrite_moves _ (.refl _ _)
  | .bankGroupStartDone _ _ => execBankGroupStartDone_moves _ _ (.refl _ _)
  | .bankGroupDrainDone _ _ => execBankGroupDrainDone_moves _ _ (.refl _ _)
  | .spadRemap _ => execSpadRemap_moves _ (.refl _ _)
  | .remapCopyDone _ => execRemapCopyDone_moves _ (.refl _ _)
  | .remapRecorded _ => execRemapRecorded_moves _ (.refl _ _)
  | .spadRowmapWrite _ _ => execSpadRowmapWrite_moves _ _ (.refl _ _)
  | .spadRingCfg0Write _ _ => execSpadRingCfg0Write_moves _ _ (.refl _ _)
  | .spadRingCfg1Write _ _ => execSpadRingCfg1Write_moves _ _ (.refl _ _)
  | .spadRingStateWrite _ _ => execSpadRingStateWrite_moves _ _ (.refl _ _)
  | .spadCntWrite _ _ _ => execSpadCntWrite_moves _ _ _ (.refl _ _)
  | .strmRfCtrlWrite _ => execStrmRfCtrlWrite_moves _ (.refl _ _)
  | .strmPbCtrlWrite _ => execStrmPbCtrlWrite_moves _ (.refl _ _)
  | .retiling => execRetiling_moves (.refl _ _)
  | .dmaGo _ => execDmaGo_moves _ (.refl _ _)
  | .dmaCancel _ => execDmaCancel_moves _ (.refl _ _)
  | .dmaCancelComplete _ => execDmaCancelComplete_moves _ (.refl _ _)
  | .dmaResume _ => execDmaResume_moves _ (.refl _ _)
  | .dmaCntClear _ => execDmaCntClear_moves _ (.refl _ _)
  | .dmaMove _ _ => execDmaMove_moves _ _ (.refl _ _)
  | .dmaMovex _ _ => execDmaMovex_moves _ _ (.refl _ _)
  | .dmaLoop _ _ => execDmaLoop_moves _ _ (.refl _ _)
  | .dmaEndloop _ _ => execDmaEndloop_moves _ _ (.refl _ _)
  | .dmaWaitDrain _ _ => execDmaWaitDrain_moves _ _ (.refl _ _)
  | .dmaWaitCounter _ _ => execDmaWaitCounter_moves _ _ (.refl _ _)
  | .dmaWaitSatisfied _ => execDmaWaitSatisfied_moves _ (.refl _ _)
  | .dmaWaitLimitExpiry _ => execDmaWaitLimitExpiry_moves _ (.refl _ _)
  | .dmaSignalCounter _ _ => execDmaSignalCounter_moves _ _ (.refl _ _)
  | .dmaSignalEvent _ _ => execDmaSignalEvent_moves _ _ (.refl _ _)
  | .dmaSignalSend _ _ _ => execDmaSignalSend_moves _ _ _ (.refl _ _)
  | .dmaSumStart _ _ => execDmaSumStart_moves _ _ (.refl _ _)
  | .dmaSumStop _ _ => execDmaSumStop_moves _ _ (.refl _ _)
  | .dmaSumResultStore _ => execDmaSumResultStore_moves _ (.refl _ _)
  | .dmaEnd _ _ => execDmaEnd_moves _ _ (.refl _ _)
  | .dmaPieceAck _ _ _ => execDmaPieceAck_moves _ _ _ (.refl _ _)
  | .dmaTagTimeout _ _ => execDmaTagTimeout_moves _ _ (.refl _ _)
  | .dramRequestTimeout _ => execDramRequestTimeout_moves _ (.refl _ _)
  | .pcieCompletionTimeout _ _ => execPcieCompletionTimeout_moves _ _ (.refl _ _)
  | .chainSegmentGrant _ => execChainSegmentGrant_moves _ (.refl _ _)
  | .chainWordDelivered _ _ => execChainWordDelivered_moves _ _ (.refl _ _)
  | .chainStallLimitExpiry _ => execChainStallLimitExpiry_moves _ (.refl _ _)
  | .dmaSegInval _ => execDmaSegInval_moves _ (.refl _ _)
  | .segmentCopyDone _ => execSegmentCopyDone_moves _ (.refl _ _)
  | .cvuCtrlWrite _ _ => execCvuCtrlWrite_moves _ _ (.refl _ _)
  | .cvuCfgWrite _ _ => execCvuCfgWrite_moves _ _ (.refl _ _)
  | .cvuClose _ _ => execCvuClose_moves _ _ (.refl _ _)
  | .cvuWindowWrite _ _ => execCvuWindowWrite_moves _ _ (.refl _ _)
  | .cvuWindowClose _ => execCvuWindowClose_moves _ (.refl _ _)
  | .coreForgiveness _ => execCoreForgiveness_moves _ (.refl _ _)
  | .shadowDispatch _ _ _ => execShadowDispatch_moves _ _ _ (.refl _ _)
  | .shadowCompareDone _ _ _ => execShadowCompareDone_moves _ _ _ (.refl _ _)
  | .testSliceStart _ _ _ _ _ => execTestSliceStart_moves _ _ _ _ _ (.refl _ _)
  | .testRoundOverdue => execTestRoundOverdue_moves (.refl _ _)
  | .configCrcRecheck _ => execConfigCrcRecheck_moves _ (.refl _ _)
  | .lockstepMismatch _ => execLockstepMismatch_moves _ (.refl _ _)
  | .doubt _ => execDoubt_moves _ (.refl _ _)
  | .sscDoubtWrite _ => execSscDoubtWrite_moves _ (.refl _ _)
  | .sscWdogKick _ => execSscWdogKick_moves _ (.refl _ _)
  | .sscWatchdogExpiry => execSscWatchdogExpiry_moves (.refl _ _)
  | .commitWatchdogExpiry _ _ => execCommitWatchdogExpiry_moves _ _ (.refl _ _)
  | .safeInAssert _ => execSafeInAssert_moves _ (.refl _ _)
  | .sscCopyDisagree => execSscCopyDisagree_moves (.refl _ _)
  | .sscSafeLevelWrite _ => execSscSafeLevelWrite_moves _ (.refl _ _)
  | .sscLockWrite _ => execSscLockWrite_moves _ (.refl _ _)
  | .sscRelease _ _ => .of_imp Bool.noConfusion (execSscRelease_moves _ _ (.refl _ _))
  | .strmFltCtrlWrite _ => execStrmFltCtrlWrite_moves _ (.refl _ _)
  | .zlShortCellReceived _ _ => execZlShortCellReceived_moves _ _ (.refl _ _)
  | .zlIdleCellTimer _ => execZlIdleCellTimer_moves _ (.refl _ _)
  | .zlLinkSilence _ => execZlLinkSilence_moves _ (.refl _ _)
  | .zlRetrainTimer _ => execZlRetrainTimer_moves _ (.refl _ _)
  | .zlTrained _ _ _ => execZlTrained_moves _ _ _ (.refl _ _)
  | .zlHelloReceived _ _ => execZlHelloReceived_moves _ _ (.refl _ _)
  | .zlHelloTimeout _ => execZlHelloTimeout_moves _ (.refl _ _)
  | .zlLineCellReceived _ _ _ => execZlLineCellReceived_moves _ _ _ (.refl _ _)
  | .tokenCommitReceived r k n e b => execTokenCommitReceived_moves r k n e b (.refl _ _)
  | .tokenRetractLineReceived r k n e b => execTokenRetractLineReceived_moves r k n e b (.refl _ _)
  | .tokenReadyReceived _ _ _ _ _ => execTokenReadyReceived_moves _ _ _ _ _ (.refl _ _)
  | .tokenRetractSegmentReceived _ _ _ _ _ _ => execTokenRetractSegmentReceived_moves _ _ _ _ _ _ (.refl _ _)
  | .tokenLeaveReceived _ _ _ => execTokenLeaveReceived_moves _ _ _ (.refl _ _)
  | .tokenYieldReceived r k n e b => execTokenYieldReceived_moves r k n e b (.refl _ _)
  | .tokenDropReceived r k n e b => execTokenDropReceived_moves r k n e b (.refl _ _)
  | .digestCellReceived _ _ _ _ _ _ _ _ => execDigestCellReceived_moves _ _ _ _ _ _ _ _ (.refl _ _)
  | .segmentDigestCompute _ _ _ => execSegmentDigestCompute_moves _ _ _ (.refl _ _)
  | .markCellReceived _ _ _ _ => execMarkCellReceived_moves _ _ _ _ (.refl _ _)
  | .controlCellReceived _ _ _ _ => execControlCellReceived_moves _ _ _ _ (.refl _ _)
  | .messageCellReceived _ _ _ => execMessageCellReceived_moves _ _ _ (.refl _ _)
  | .rstreamCellReceived _ _ _ => execRstreamCellReceived_moves _ _ _ (.refl _ _)
  | .ringCellForward _ _ _ => execRingCellForward_moves _ _ _ (.refl _ _)
  | .lineTokenTimeout _ _ => execLineTokenTimeout_moves _ _ (.refl _ _)
  | .swapConfirmTimeout _ => execSwapConfirmTimeout_moves _ (.refl _ _)
  | .zpSwap _ => execZpSwap_moves _ (.refl _ _)
  | .zlCtrlWrite _ => execZlCtrlWrite_moves _ (.refl _ _)
  | .zrCtrlWrite _ => execZrCtrlWrite_moves _ (.refl _ _)
  | .calRun _ => execCalRun_moves _ (.refl _ _)
  | .calCaptureStart _ => execCalCaptureStart_moves _ (.refl _ _)
  | .calCaptureEnd _ => execCalCaptureEnd_moves _ (.refl _ _)
  | .calComputeDone _ => execCalComputeDone_moves _ (.refl _ _)
  | .calCommit _ => execCalCommit_moves _ (.refl _ _)
  | .calDiscard _ => execCalDiscard_moves _ (.refl _ _)
  | .calEffectStart _ => execCalEffectStart_moves _ (.refl _ _)
  | .calPbBlendStart _ => execCalPbBlendStart_moves _ (.refl _ _)
  | .calBlendEnd _ => execCalBlendEnd_moves _ (.refl _ _)
  | .calApertureWrite _ _ => execCalApertureWrite_moves _ _ (.refl _ _)
  | .calLimWrite _ _ => execCalLimWrite_moves _ _ (.refl _ _)
  | .calPersistWrite _ => execCalPersistWrite_moves _ (.refl _ _)
  | .calCanaryCtrlWrite _ => execCalCanaryCtrlWrite_moves _ (.refl _ _)
  | .tempSensorRead _ => execTempSensorRead_moves _ (.refl _ _)
  | .sensorExclude _ => execSensorExclude_moves _ (.refl _ _)
  | .sensorRejoin _ => execSensorRejoin_moves _ (.refl _ _)
  | .supplyMonitorCal _ => execSupplyMonitorCal_moves _ (.refl _ _)
  | .canaryEvaluation _ => execCanaryEvaluation_moves _ (.refl _ _)
  | .dramTrackingUpdate _ => execDramTrackingUpdate_moves _ (.refl _ _)
  | .serdesEqUpdate _ _ _ => execSerdesEqUpdate_moves _ _ _ (.refl _ _)
  | .lifeCountersWrite _ => execLifeCountersWrite_moves _ (.refl _ _)
  | .wearHistogramTick => execWearHistogramTick_moves (.refl _ _)
  | .rtcSet _ => execRtcSet_moves _ (.refl _ _)
  | .vbatOutOfRange _ => execVbatOutOfRange_moves _ (.refl _ _)
  | .tapTimeFrameSend => execTapTimeFrameSend_moves (.refl _ _)
  | .dmsLinesFrame _ _ => execDmsLinesFrame_moves _ _ (.refl _ _)
  | .dmsTimeFrame _ _ => execDmsTimeFrame_moves _ _ (.refl _ _)
  | .dmsTapSilence _ => execDmsTapSilence_moves _ (.refl _ _)
  | .dmsEncoderPulse _ _ => execDmsEncoderPulse_moves _ _ (.refl _ _)
  | .dmsStart _ => execDmsStart_moves _ (.refl _ _)
  | .dmsStop _ => execDmsStop_moves _ (.refl _ _)
  | .dmsRecAck _ => execDmsRecAck_moves _ (.refl _ _)
  | .dmsIdent _ => execDmsIdent_moves _ (.refl _ _)
  | .dmsTrailPage _ => execDmsTrailPage_moves _ (.refl _ _)
  | .dmsSetparam _ _ => execDmsSetparam_moves _ _ (.refl _ _)
  | .dmsFwupdate _ _ _ _ => execDmsFwupdate_moves _ _ _ _ (.refl _ _)
  | .dmsTrailAck _ => execDmsTrailAck_moves _ (.refl _ _)
  | .dmsAdjustEnter _ => execDmsAdjustEnter_moves _ (.refl _ _)
  | .dmsAdjustLeave _ => execDmsAdjustLeave_moves _ (.refl _ _)
  | .dmsStateSave _ => execDmsStateSave_moves _ (.refl _ _)
  | .dmsBoot _ _ _ _ => execDmsBoot_moves _ _ _ _ (.refl _ _)
  | .dmsOscFail _ => execDmsOscFail_moves _ (.refl _ _)
  | .dmsOscRecover => execDmsOscRecover_moves (.refl _ _)
  | .dmsPowerLoss => execDmsPowerLoss_moves (.refl _ _)
  | .csi2FrameStart _ _ _ => execCsi2FrameStart_moves _ _ _ (.refl _ _)
  | .csi2FrameEnd _ _ => execCsi2FrameEnd_moves _ _ (.refl _ _)
  | .csi2LineStart _ _ => execCsi2LineStart_moves _ _ (.refl _ _)
  | .csi2LineEnd _ _ => execCsi2LineEnd_moves _ _ (.refl _ _)
  | .csi2LongPacket _ _ _ _ _ => execCsi2LongPacket_moves _ _ _ _ _ (.refl _ _)
  | .csi2GenericShortPacket p v n => execCsi2GenericShortPacket_moves p v n (.refl _ _)
  | .cxpStreamPacket _ _ _ => execCxpStreamPacket_moves _ _ _ (.refl _ _)
  | .cxpControlPacket _ _ _ => execCxpControlPacket_moves _ _ _ (.refl _ _)
  | .cxpEventPacket _ _ => execCxpEventPacket_moves _ _ (.refl _ _)
  | .cxpLockLoss _ => execCxpLockLoss_moves _ (.refl _ _)
  | .cxpDiscoveryDone _ _ _ => execCxpDiscoveryDone_moves _ _ _ (.refl _ _)
  | .slvdsLine _ _ _ => execSlvdsLine_moves _ _ _ (.refl _ _)
  | .sourceLoss _ => execSourceLoss_moves _ (.refl _ _)
  | .sourceRegained _ _ => execSourceRegained_moves _ _ (.refl _ _)
  | .hinEntryRead _ => execHinEntryRead_moves _ (.refl _ _)
  | .strmHinHeadWrite _ => execStrmHinHeadWrite_moves _ (.refl _ _)
  | .hqEntryWrite _ _ => execHqEntryWrite_moves _ _ (.refl _ _)
  | .strmHqTailWrite _ => execStrmHqTailWrite_moves _ (.refl _ _)
  | .strmQueueConfigWrite _ _ => execStrmQueueConfigWrite_moves _ _ (.refl _ _)
  | .gvspBlockSend _ => execGvspBlockSend_moves _ (.refl _ _)
  | .gvcpDiscovery _ => execGvcpDiscovery_moves _ (.refl _ _)
  | .gvcpRegisterAccess _ _ _ _ => execGvcpRegisterAccess_moves _ _ _ _ (.refl _ _)
  | .gvcpMemoryAccess _ _ _ _ => execGvcpMemoryAccess_moves _ _ _ _ (.refl _ _)
  | .gvcpAddressAssignment _ _ => execGvcpAddressAssignment_moves _ _ (.refl _ _)
  | .gvcpPacketresend _ _ _ _ _ => execGvcpPacketresend_moves _ _ _ _ _ (.refl _ _)
  | .pcieLinkTrained _ _ => execPcieLinkTrained_moves _ _ (.refl _ _)
  | .pcieLinkDown _ => execPcieLinkDown_moves _ (.refl _ _)
  | .functionLevelReset => execFunctionLevelReset_moves (.refl _ _)
  | .pcieAerUncorrectable _ => execPcieAerUncorrectable_moves _ (.refl _ _)
  | .streamStart _ => execStreamStart_moves _ (.refl _ _)
  | .streamStop _ => execStreamStop_moves _ (.refl _ _)
  | .streamConfigWrite _ _ => execStreamConfigWrite_moves _ _ (.refl _ _)
  | .portCfgWrite _ => execPortCfgWrite_moves _ (.refl _ _)
  | .portCxpTrigWrite _ => execPortCxpTrigWrite_moves _ (.refl _ _)
  | .portSlvdsSyncWrite _ _ => execPortSlvdsSyncWrite_moves _ _ (.refl _ _)
  | .encoderPulse _ _ _ _ => execEncoderPulse_moves _ _ _ _ (.refl _ _)
  | .triggerEdge _ _ _ => execTriggerEdge_moves _ _ _ (.refl _ _)
  | .fioTrigCtrlWrite _ _ => execFioTrigCtrlWrite_moves _ _ (.refl _ _)
  | .decisionDue => execDecisionDue_moves (.refl _ _)
  | .pulseEnd => execPulseEnd_moves (.refl _ _)
  | .aliveToggle => execAliveToggle_moves (.refl _ _)
  | .fioActForceWrite _ => execFioActForceWrite_moves _ (.refl _ _)
  | .pwrGoodAssert _ => execPwrGoodAssert_moves _ (.refl _ _)
  | .bootStepOverrun _ => execBootStepOverrun_moves _ (.refl _ _)
  | .pwrGoodDeassert _ _ => execPwrGoodDeassert_moves _ _ (.refl _ _)
  | .supplyRailOutOfRange _ _ => execSupplyRailOutOfRange_moves _ _ (.refl _ _)
  | .vddMetLoss => execVddMetLoss_moves (.refl _ _)
  | .thermistorRead _ _ _ => execThermistorRead_moves _ _ _ (.refl _ _)
  | .coolantAlarm => execCoolantAlarm_moves (.refl _ _)
  | .junctionCheck => execJunctionCheck_moves (.refl _ _)
  | .thermalLimitExpiry => execThermalLimitExpiry_moves (.refl _ _)
  | .shedRelease => execShedRelease_moves (.refl _ _)
  | .thermalTrip => execThermalTrip_moves (.refl _ _)
  | .thermCtrlWrite _ => execThermCtrlWrite_moves _ (.refl _ _)
  | .handoverAbandon => execHandoverAbandon_moves (.refl _ _)
  | .keyAddKey _ => execKeyAddKey_moves _ (.refl _ _)
  | .keyRevokeKey _ => execKeyRevokeKey_moves _ (.refl _ _)
  | .keySetPassword _ => execKeySetPassword_moves _ (.refl _ _)
  | .keySetMgmtKey _ => execKeySetMgmtKey_moves _ (.refl _ _)
  | .keyProvisionDone _ _ => execKeyProvisionDone_moves _ _ (.refl _ _)
  | .vendorProvision _ _ _ => execVendorProvision_moves _ _ _ (.refl _ _)
  | .vendorReturn _ _ _ => execVendorReturn_moves _ _ _ (.refl _ _)
  | .secSubmitPw _ => execSecSubmitPw_moves _ (.refl _ _)
  | .secSubmitCr _ => execSecSubmitCr_moves _ (.refl _ _)
  | .secNonce _ => execSecNonce_moves _ (.refl _ _)
  | .secClose _ => execSecClose_moves _ (.refl _ _)
  | .nonceExpiry => execNonceExpiry_moves (.refl _ _)
  | .lockoutEnd => execLockoutEnd_moves (.refl _ _)
  | .jtagAccess _ => execJtagAccess_moves _ (.refl _ _)
  | .mgmtDatagramReceived _ => execMgmtDatagramReceived_moves _ (.refl _ _)
  | .mgmtAckReceived _ => execMgmtAckReceived_moves _ (.refl _ _)
  | .mgmtResendTimer => execMgmtResendTimer_moves (.refl _ _)
  | .mgmtPeerSilent => execMgmtPeerSilent_moves (.refl _ _)
  | .mgmtHeartbeat => execMgmtHeartbeat_moves (.refl _ _)
  | .reportSend => execReportSend_moves (.refl _ _)
  | .mgmtRateWrite _ => execMgmtRateWrite_moves _ (.refl _ _)
  | .clapperGetSnapshot _ => execClapperGetSnapshot_moves _ (.refl _ _)
  | .clapperGetLifePage _ _ => execClapperGetLifePage_moves _ _ (.refl _ _)
  | .clapperInstallChime _ _ _ => execClapperInstallChime_moves _ _ _ (.refl _ _)
  | .clapperWriteFirmware _ _ => execClapperWriteFirmware_moves _ _ (.refl _ _)
  | .clapperHandover _ => execClapperHandover_moves _ (.refl _ _)
  | .clapperRelease _ _ => .of_imp Bool.noConfusion (execClapperRelease_moves _ _ (.refl _ _))
  | .clapperHazardClear _ _ => execClapperHazardClear_moves _ _ (.refl _ _)
  | .clapperSetCalendar _ _ => execClapperSetCalendar_moves _ _ (.refl _ _)
  | .clapperKeyCmd _ _ _ => execClapperKeyCmd_moves _ _ _ (.refl _ _)
  | .clapperGetNonce _ => execClapperGetNonce_moves _ (.refl _ _)
  | .clapperReopen _ _ _ => execClapperReopen_moves _ _ _ (.refl _ _)
  | .transferIdleTimeout _ => execTransferIdleTimeout_moves _ (.refl _ _)
  | .glbIntStatusWrite _ => execGlbIntStatusWrite_moves _ (.refl _ _)
  | .glbIntEnableWrite _ => execGlbIntEnableWrite_moves _ (.refl _ _)
  | .glbIntStrmStatusWrite _ => execGlbIntStrmStatusWrite_moves _ (.refl _ _)
  | .glbIntStrmEnableWrite _ => execGlbIntStrmEnableWrite_moves _ (.refl _ _)
  | .intHoldoffExpiry _ _ => execIntHoldoffExpiry_moves _ _ (.refl _ _)
  | .mbxLoad _ _ _ => execMbxLoad_moves _ _ _ (.refl _ _)
  | .mbxSwap _ _ _ => execMbxSwap_moves _ _ _ (.refl _ _)
  | .mbxHandover _ => execMbxHandover_moves _ (.refl _ _)
  | .mbxWriteFirmware _ _ => execMbxWriteFirmware_moves _ _ (.refl _ _)
  | .mbxKeyCmd _ _ _ => execMbxKeyCmd_moves _ _ _ (.refl _ _)
  | .mbxHazardClear _ => execMbxHazardClear_moves _ (.refl _ _)
  | .mbxDramRead _ _ => execMbxDramRead_moves _ _ (.refl _ _)
  | .mbxDramWrite _ _ => execMbxDramWrite_moves _ _ (.refl _ _)
  | .mbxCxpControl _ => execMbxCxpControl_moves _ (.refl _ _)
  | .mbxSegment _ _ => execMbxSegment_moves _ _ (.refl _ _)
  | .mbxDamsonCmd _ => execMbxDamsonCmd_moves _ (.refl _ _)
  | .mbxResponsePost _ => execMbxResponsePost_moves _ (.refl _ _)
  | .mbxEventPost _ => execMbxEventPost_moves _ (.refl _ _)
  | .mbxRspTailWrite _ => execMbxRspTailWrite_moves _ (.refl _ _)
  | .mbxEvtTailWrite _ => execMbxEvtTailWrite_moves _ (.refl _ _)
  | .dbgRead _ => execDbgRead_moves _ (.refl _ _)
  | .dbgWrite _ => execDbgWrite_moves _ (.refl _ _)
  | .dbgHalt _ => execDbgHalt_moves _ (.refl _ _)
  | .dbgResume _ => execDbgResume_moves _ (.refl _ _)
  | .controlPairSelfTestDone _ _ => execControlPairSelfTestDone_moves _ _ (.refl _ _)
  | .vddIo33Below2v7 => execVddIo33Below2v7_moves (.refl _ _)
theorem exec_next_moves {c : Instr} {s t : State} (h : exec c s = .next t) : Moves (asksRelease c = false) s t := by
  have hm := exec_moves c s
  rw [h] at hm
  exact hm

/-! ### A step -/

theorem Moves.wellKept {k : Prop} {r s : State} (h : Moves k r s) (hr : WellKept r) : WellKept s :=
  let ⟨hmem, hhost, hregs⟩ := hr
  ⟨h.mem hmem, h.hostMem hhost, h.regs hregs⟩

/-- Settles O4: a step is an idle tick or a command, and each keeps the form of the stores. -/
theorem everyStepKeepsTheStores : Obligations.EveryStepKeepsTheStores := by
  unfold Obligations.EveryStepKeepsTheStores
  intro s t hs hstep
  unfold step at hstep
  split at hstep
  next =>
    obtain rfl : idle s = t := Host.Outcome.next.inj hstep
    exact (idle_moves (.refl True s)).wellKept hs
  next c rest _ => exact (exec_next_moves hstep).wellKept hs

/-- Settles O6: the command's moves keep the queue and the part and only go forward. -/
theorem commandsLeaveTheQueueAlone : Obligations.CommandsLeaveTheQueueAlone := by
  unfold Obligations.CommandsLeaveTheQueueAlone
  intro c s t h
  obtain ⟨l, hl⟩ := (exec_next_moves h).out
  exact ⟨(exec_next_moves h).pending, (exec_next_moves h).part, (exec_next_moves h).free, l, hl.symm⟩

/-! ### Release (R297, R298) -/

theorem mayRelease_iff {s : State} {safeIn : Bool} :
    mayRelease s safeIn = true ↔ safeIn = false ∧ s.fieldLost = false ∧ s.flt.env = [] := by
  simp only [mayRelease, Bool.and_eq_true, Bool.not_eq_true', List.isEmpty_iff, and_assoc]

/-- A release whose conditions do not hold is refused, and SAFE stays. -/
theorem askRelease_moves_of_refused {k : Prop} {r s : State} {safeIn : Bool} (hn : ¬ mayRelease s safeIn = true)
    (h : Moves k r s) : Moves k r (askRelease s safeIn).1 := by
  have hpin : Moves k r (wr s R.SSC_STATE.SAFE_IN 0 (b2n safeIn)) := wr_moves rfl _ _ h
  unfold askRelease
  simp only [if_neg hn]
  exact Moves.ite1 hpin (Moves.mk1 (report_moves _ _ _ hpin))

/-- A write passes the gate with its own effect on the state it meets, or with a window error. -/
theorem gate_moves_here {k : Prop} {r s : State} {w : Wr} {q : RegSpec} {n : Nat} {f : State → Nat → State}
    (hf : ∀ i, Moves k r (f s i)) (h : Moves k r s) : Moves k r (gate s w q n f) := by
  unfold gate
  dsimp only
  split
  · exact winErr_moves _ _ _ h
  · exact Moves.ite (winErr_moves _ _ _ h) (Moves.ite (noteRsv_moves _ _ _ _ (hf _)) h)

theorem execSscRelease_moves_of_refused {s : State} {w : Wr} {safeIn : Bool}
    (h : ¬ (fval R.SSC_CTRL.RELEASE w.val = 0x5A ∧ w.who ≠ .control ∧ mayRelease s safeIn = true)) :
    MovesO True s (execSscRelease w safeIn s) := by
  refine gate_moves_here (fun i => ?_) (.refl _ _)
  by_cases hask : fval R.SSC_CTRL.RELEASE w.val ≠ 0x5A ∨ w.who = .control
  · rw [if_pos hask]
    exact .refl _ _
  · rw [if_neg hask]
    obtain ⟨hval, hwho⟩ := not_or.1 hask
    exact askRelease_moves_of_refused (fun hm => h ⟨not_not.1 hval, hwho, hm⟩) (.refl _ _)

theorem mayRelease_accept (s : State) (d : InDgram) (safeIn : Bool) : mayRelease (accept s d) safeIn = mayRelease s safeIn :=
  rfl

theorem unique_wr_link (s : State) (v : Nat) : unique (wr s R.MGMT_STATUS.LINK 0 v) = unique s := by
  rw [unique, unique, rd_wr_ne _ _ _ _ (by decide), rd_wr_ne _ _ _ _ (by decide)]

theorem authentic_wr_link (s : State) (v : Nat) (d : InDgram) :
    authentic (wr s R.MGMT_STATUS.LINK 0 v) d = authentic s d := by
  rw [authentic, unique_wr_link]
  rfl

/-- What RELEASE does to the state that its datagram is accepted in. -/
theorem release_moves_of_refused {k : Prop} {r s : State} {d : InDgram} {safeIn : Bool}
    (hn : ¬ mayRelease s safeIn = true) (h : Moves k r s) :
    Moves k r (obey 6 (fun s => reply (askRelease s safeIn).1 6 (askRelease s safeIn).2 []) (accept s d)) := by
  have haccept : Moves k r (accept s d) := accept_moves _ h
  unfold obey
  exact Moves.ite (reply_moves _ _ _ (report_moves _ _ _ haccept))
    (reply_moves _ _ _ (askRelease_moves_of_refused (by rwa [mayRelease_accept]) haccept))

theorem execClapperRelease_moves_of_refused {s : State} {d : InDgram} {safeIn : Bool}
    (h : ¬ (authentic s d = true ∧ mayRelease s safeIn = true)) : MovesO True s (execClapperRelease d safeIn s) := by
  /- The state the datagram is verified in agrees with `s` on what verifies it and on what permits a release. -/
  have taken (u : State) (hu : Moves True s u) (ha : authentic u d = authentic s d)
      (hm : mayRelease u safeIn = mayRelease s safeIn) : Moves True s (if authentic u d then
        obey 6 (fun s => reply (askRelease s safeIn).1 6 (askRelease s safeIn).2 []) (accept u d) else dropDatagram u) := by
    split
    next hauth => exact release_moves_of_refused (fun hmay => h ⟨ha ▸ hauth, hm ▸ hmay⟩) hu
    next => exact dropDatagram_moves hu
  unfold execClapperRelease clapper
  split
  next x _ => exact mgmtMap_moves _ (taken _ (mgmtMap_moves _ (.refl _ _)) rfl rfl)
  next =>
    refine MovesO.ite (execMgmtDatagramReceived_moves _ (.refl _ _)) (ok_moves ?_)
    unfold inbound
    exact Moves.ite (.refl _ _) (taken _ (wr_moves rfl _ _ (.refl _ _)) (authentic_wr_link _ _ _) rfl)

/-- Settles O5: of the two commands that ask for a release, one whose conditions fail keeps SAFE as every other command
does. -/
theorem safeIsLeftByAReleaseOnly : Obligations.SafeIsLeftByAReleaseOnly := by
  unfold Obligations.SafeIsLeftByAReleaseOnly
  intro c s t hexec hs ht
  have left {k : Prop} (hk : k) : ¬ MovesO k s (exec c s) := fun hm => by
    rw [hexec] at hm
    exact Bool.false_ne_true (ht.symm.trans (hm.safe hk hs))
  cases hask : asksRelease c with
  | false => exact absurd (exec_moves c s) (left hask)
  | true =>
    unfold asksRelease at hask
    split at hask
    next w safeIn =>
      obtain ⟨hval, hwho, hmay⟩ := not_not.1 fun h => left trivial (execSscRelease_moves_of_refused h)
      obtain ⟨rfl, hfield, henv⟩ := mayRelease_iff.1 hmay
      exact ⟨hfield, henv, .inl ⟨w, rfl, hval, hwho⟩⟩
    next d safeIn =>
      obtain ⟨hauth, hmay⟩ := not_not.1 fun h => left trivial (execClapperRelease_moves_of_refused h)
      obtain ⟨rfl, hfield, henv⟩ := mayRelease_iff.1 hmay
      exact ⟨hfield, henv, .inr ⟨d, rfl, hauth⟩⟩
    next => exact absurd hask Bool.false_ne_true

end Sys2Proof.Machine
end

section
/-! A step runs its command, every command completes, and the state after reset is safe and quiet (R295, R401, R17). -/

namespace Sys2Proof.Machine

open Sys2Proof

/-- Settles O1: on a queue that is not empty a step is its front command. -/
theorem stepRunsTheFrontCommand : Obligations.StepRunsTheFrontCommand := by
  unfold Obligations.StepRunsTheFrontCommand
  intro c rest s
  rfl

/-- Settles O3: the state after reset lists no register, so each field reads as its reset value. -/
theorem resetIsSafeAndQuiet : Obligations.ResetIsSafeAndQuiet := by
  unfold Obligations.ResetIsSafeAndQuiet
  exact ⟨rfl, rfl, rfl, fun _ _ => rfl, fun _ _ => rfl, rfl, rfl, rfl, rfl, rfl, rfl, rfl, rfl, rfl⟩

/-- A command's meaning ends in a next state. -/
def Completes (o : Host.Outcome State Fault Refusal) : Prop := ∃ t, o = .next t

theorem execMgmtDatagramReceived_completes (d : InDgram) (s : State) : Completes (execMgmtDatagramReceived d s) := by
  unfold execMgmtDatagramReceived
  split <;> exact ⟨_, rfl⟩

theorem clapper_completes (d : InDgram) (code : Nat) (f : State → State) (s : State) :
    Completes (clapper d code f s) := by
  unfold clapper
  split
  · exact ⟨_, rfl⟩
  · split
    · exact execMgmtDatagramReceived_completes d s
    · exact ⟨_, rfl⟩

theorem dmsCmd_completes (f : DmsFrame) (cmd : Nat) (s : State) (g : List Byte → State → State) :
    Completes (dmsCmd f cmd s g) := by
  unfold dmsCmd
  dsimp only
  repeat' split
  all_goals exact ⟨_, rfl⟩

theorem execRegisterWrite_completes (w : Wr) (off : Nat) (s : State) : Completes (execRegisterWrite w off s) := by
  unfold execRegisterWrite execStreamConfigWrite
  repeat' split
  all_goals exact ⟨_, rfl⟩

/-- Settles O7: most meanings are one next state, some choose among several, and the commands of Damson and of Clapper
go through their common acceptance. -/
theorem everyCommandCompletes : Obligations.EveryCommandCompletes := by
  unfold Obligations.EveryCommandCompletes
  intro c s
  show Completes (exec c s)
  cases c
  case registerWrite => exact execRegisterWrite_completes _ _ _
  case dmsStart | dmsStop | dmsRecAck | dmsIdent | dmsTrailPage | dmsSetparam | dmsFwupdate | dmsTrailAck =>
    simp only [exec, execDmsStart, execDmsStop, execDmsRecAck, execDmsIdent, execDmsTrailPage, execDmsSetparam,
        execDmsFwupdate, execDmsTrailAck, dmsCmd_completes]
  case clapperGetSnapshot | clapperGetLifePage | clapperInstallChime | clapperWriteFirmware | clapperHandover |
    clapperRelease | clapperHazardClear | clapperSetCalendar | clapperKeyCmd | clapperGetNonce | clapperReopen =>
    simp only [exec, execClapperGetSnapshot, execClapperGetLifePage, execClapperInstallChime, execClapperWriteFirmware,
        execClapperHandover, execClapperRelease, execClapperHazardClear, execClapperSetCalendar, execClapperKeyCmd,
        execClapperGetNonce, execClapperReopen, clapper_completes]
  case absentInstanceAccess | unmappedOffsetAccess | coreCntStepsLoRead | lineReceived | rawFrontLine |
    lineWriteToDram | stripeClose | partialStripeTimeout | shareDispatch | cropBatchDispatch | shareDescriptorWrite |
    shareEnd | computeDeadlineExpiry | commit | commitDeadlineExpiry | pictureBackLine | outputLineSend |
    brambleFlitHop | fieldFrequencyWindowEnd | paceEvaluation | pmbusReadbackCheck | voutModeRecheck | nop |
    mmaFamilyStart | xferReadResponse | remoteWriteAck | ringReservationGrant | ringSlotLanded | ringWaitSatisfied |
    counterWaitSatisfied | gongGenerationComplete | gongWaitLimitExpiry | fenceComplete | stallWatchdogExpiry |
    bankWrite | validateComplete | instructionScrubPass | coreStartDone | coreDrainDone | coreDrainTimeout |
    marginWiden | ratchetRotation | bankGroupStartDone | bankGroupDrainDone | remapCopyDone | remapRecorded |
    spadRowmapWrite | spadRingCfg0Write | spadRingCfg1Write | spadRingStateWrite | spadCntWrite | dmaCancelComplete |
    dmaWaitSatisfied | dmaWaitLimitExpiry | dmaSignalSend | dmaSumResultStore | dmaPieceAck | dmaTagTimeout |
    dramRequestTimeout | pcieCompletionTimeout | chainSegmentGrant | chainWordDelivered | chainStallLimitExpiry |
    segmentCopyDone | cvuWindowClose | coreForgiveness | shadowDispatch | shadowCompareDone | testSliceStart |
    testRoundOverdue | configCrcRecheck | lockstepMismatch | commitWatchdogExpiry | zlShortCellReceived |
    zlIdleCellTimer | zlLinkSilence | zlRetrainTimer | zlTrained | zlHelloReceived | zlHelloTimeout |
    segmentDigestCompute | ringCellForward | lineTokenTimeout | swapConfirmTimeout | calCaptureStart | calCaptureEnd |
    calComputeDone | calEffectStart | calPbBlendStart | calBlendEnd | calApertureWrite | calLimWrite | tempSensorRead
    | sensorExclude | sensorRejoin | supplyMonitorCal | canaryEvaluation | dramTrackingUpdate | serdesEqUpdate |
    lifeCountersWrite | wearHistogramTick | vbatOutOfRange | tapTimeFrameSend | dmsLinesFrame | dmsTimeFrame |
    dmsTapSilence | dmsEncoderPulse | dmsAdjustEnter | dmsAdjustLeave | dmsStateSave | dmsBoot | dmsOscFail |
    dmsOscRecover | dmsPowerLoss | csi2FrameStart | csi2FrameEnd | csi2LineStart | csi2LineEnd | csi2LongPacket |
    cxpStreamPacket | cxpControlPacket | cxpEventPacket | cxpLockLoss | cxpDiscoveryDone | slvdsLine | sourceLoss |
    sourceRegained | hinEntryRead | hqEntryWrite | gvspBlockSend | gvcpDiscovery | gvcpRegisterAccess |
    gvcpMemoryAccess | gvcpAddressAssignment | gvcpPacketresend | pcieAerUncorrectable | streamConfigWrite |
    encoderPulse | triggerEdge | decisionDue | aliveToggle | pwrGoodAssert | supplyRailOutOfRange | vddMetLoss |
    thermistorRead | junctionCheck | thermalLimitExpiry | shedRelease | handoverAbandon | keyAddKey | keyRevokeKey |
    keySetPassword | keySetMgmtKey | keyProvisionDone | vendorProvision | vendorReturn | nonceExpiry | lockoutEnd |
    jtagAccess | mgmtDatagramReceived | mgmtResendTimer | mgmtPeerSilent | mgmtHeartbeat | reportSend |
    transferIdleTimeout | intHoldoffExpiry | mbxLoad | mbxResponsePost | mbxEventPost | controlPairSelfTestDone =>
    simp only [exec, execAbsentInstanceAccess, execUnmappedOffsetAccess, execCoreCntStepsLoRead, execLineReceived,
        execRawFrontLine, execLineWriteToDram, execStripeClose, execPartialStripeTimeout, execShareDispatch,
        execCropBatchDispatch, execShareDescriptorWrite, execShareEnd, execComputeDeadlineExpiry, execCommit,
        execCommitDeadlineExpiry, execPictureBackLine, execOutputLineSend, execBrambleFlitHop,
        execFieldFrequencyWindowEnd, execPaceEvaluation, execPmbusReadbackCheck, execVoutModeRecheck, execNop,
        execMmaFamilyStart, execXferReadResponse, execRemoteWriteAck, execRingReservationGrant, execRingSlotLanded,
        execRingWaitSatisfied, execCounterWaitSatisfied, execGongGenerationComplete, execGongWaitLimitExpiry,
        execFenceComplete, execStallWatchdogExpiry, execBankWrite, execValidateComplete, execInstructionScrubPass,
        execCoreStartDone, execCoreDrainDone, execCoreDrainTimeout, execMarginWiden, execRatchetRotation,
        execBankGroupStartDone, execBankGroupDrainDone, execRemapCopyDone, execRemapRecorded, execSpadRowmapWrite,
        execSpadRingCfg0Write, execSpadRingCfg1Write, execSpadRingStateWrite, execSpadCntWrite, execDmaCancelComplete,
        execDmaWaitSatisfied, execDmaWaitLimitExpiry, execDmaSignalSend, execDmaSumResultStore, execDmaPieceAck,
        execDmaTagTimeout, execDramRequestTimeout, execPcieCompletionTimeout, execChainSegmentGrant,
        execChainWordDelivered, execChainStallLimitExpiry, execSegmentCopyDone, execCvuWindowClose,
        execCoreForgiveness, execShadowDispatch, execShadowCompareDone, execTestSliceStart, execTestRoundOverdue,
        execConfigCrcRecheck, execLockstepMismatch, execCommitWatchdogExpiry, execZlShortCellReceived,
        execZlIdleCellTimer, execZlLinkSilence, execZlRetrainTimer, execZlTrained, execZlHelloReceived,
        execZlHelloTimeout, execSegmentDigestCompute, execRingCellForward, execLineTokenTimeout,
        execSwapConfirmTimeout, execCalCaptureStart, execCalCaptureEnd, execCalComputeDone, execCalEffectStart,
        execCalPbBlendStart, execCalBlendEnd, execCalApertureWrite, execCalLimWrite, execTempSensorRead,
        execSensorExclude, execSensorRejoin, execSupplyMonitorCal, execCanaryEvaluation, execDramTrackingUpdate,
        execSerdesEqUpdate, execLifeCountersWrite, execWearHistogramTick, execVbatOutOfRange, execTapTimeFrameSend,
        execDmsLinesFrame, execDmsTimeFrame, execDmsTapSilence, execDmsEncoderPulse, execDmsAdjustEnter,
        execDmsAdjustLeave, execDmsStateSave, execDmsBoot, execDmsOscFail, execDmsOscRecover, execDmsPowerLoss,
        execCsi2FrameStart, execCsi2FrameEnd, execCsi2LineStart, execCsi2LineEnd, execCsi2LongPacket,
        execCxpStreamPacket, execCxpControlPacket, execCxpEventPacket, execCxpLockLoss, execCxpDiscoveryDone,
        execSlvdsLine, execSourceLoss, execSourceRegained, execHinEntryRead, execHqEntryWrite, execGvspBlockSend,
        execGvcpDiscovery, execGvcpRegisterAccess, execGvcpMemoryAccess, execGvcpAddressAssignment,
        execGvcpPacketresend, execPcieAerUncorrectable, execStreamConfigWrite, execEncoderPulse, execTriggerEdge,
        execDecisionDue, execAliveToggle, execPwrGoodAssert, execSupplyRailOutOfRange, execVddMetLoss,
        execThermistorRead, execJunctionCheck, execThermalLimitExpiry, execShedRelease, execHandoverAbandon,
        execKeyAddKey, execKeyRevokeKey, execKeySetPassword, execKeySetMgmtKey, execKeyProvisionDone,
        execVendorProvision, execVendorReturn, execNonceExpiry, execLockoutEnd, execJtagAccess,
        execMgmtDatagramReceived, execMgmtResendTimer, execMgmtPeerSilent, execMgmtHeartbeat, execReportSend,
        execTransferIdleTimeout, execIntHoldoffExpiry, execMbxLoad, execMbxResponsePost, execMbxEventPost,
        execControlPairSelfTestDone]
    repeat' split
    all_goals exact ⟨_, rfl⟩
  all_goals exact ⟨_, rfl⟩

end Sys2Proof.Machine
end

section
/-! A register write without a row of its own: the fields of its register, and nothing else (R17). -/

namespace Sys2Proof.Machine

open Sys2Proof

/-! ### Values within a field -/

theorem fval_lt (f : Fld) (v : Nat) : fval f v < 2 ^ f.width := bits_lt _ _ _

theorem maskOf_lt (n : Nat) (p : Nat → Bool) : maskOf n p < 2 ^ n := by
  unfold maskOf
  induction n with
  | zero => exact Nat.one_pos
  | succ n ih =>
    rw [List.range_succ, List.foldl_append, List.foldl_cons, List.foldl_nil, pow_succ]
    split <;> omega

/-! ### One field -/

/-- What a write gives a field, by its access code (R17). -/
def fieldAfter (s : State) (f : Fld) (i v : Nat) : Nat :=
  match f.acc with
  | .rw => fval f v
  | .rw1c => maskOf f.width (fun b => bit (rd s f i) b && !bit (fval f v) b)
  | .ro | .wo => rd s f i

theorem rd_putField_same (s : State) (f : Fld) (i v : Nat) : rd (putField s f i v) f i = fieldAfter s f i v := by
  cases hacc : f.acc with
  | rw => simp only [putField, fieldAfter, hacc, rd_wr_same, Nat.mod_eq_of_lt (fval_lt _ _)]
  | rw1c => simp only [putField, fieldAfter, hacc, rd_wr_same, Nat.mod_eq_of_lt (maskOf_lt _ _)]
  | ro => simp only [putField, fieldAfter, hacc]
  | wo => simp only [putField, fieldAfter, hacc]

theorem rd_putField_ne (s : State) {f g : Fld} (i j v : Nat) (h : g.key j ≠ f.key i) :
    rd (putField s f i v) g j = rd s g j := by
  unfold putField
  split
  · exact rd_wr_ne _ _ _ _ h
  · exact rd_wr_ne _ _ _ _ h
  · rfl
  · rfl

theorem putField_frame (s : State) (f : Fld) (i v : Nat) : putField s f i v = { s with regs := (putField s f i v).regs } := by
  unfold putField
  split <;> rfl

/-! ### All fields of a register -/

/-- One field of a register, unless it has a row of its own. -/
def putOwn (n i v : Nat) (s : State) (f : Fld) : State := if f.ownRow then s else putField s (f.nth n) i v

theorem putPlain_eq (s : State) (r : RegSpec) (n i v : Nat) : putPlain s r n i v = r.flds.foldl (putOwn n i v) s := rfl

theorem rd_putOwn_same (s : State) (f : Fld) (n i v : Nat) :
    rd (putOwn n i v s f) (f.nth n) i = if f.ownRow then rd s (f.nth n) i else fieldAfter s (f.nth n) i v := by
  unfold putOwn
  split
  · rfl
  · exact rd_putField_same _ _ _ _

theorem rd_putOwn_ne (s : State) {f g : Fld} {n i j v : Nat} (h : g.key j ≠ (f.nth n).key i) :
    rd (putOwn n i v s f) g j = rd s g j := by
  unfold putOwn
  split
  · rfl
  · exact rd_putField_ne _ _ _ _ h

theorem putOwn_frame (s : State) (f : Fld) (n i v : Nat) : putOwn n i v s f = { s with regs := (putOwn n i v s f).regs } := by
  unfold putOwn
  split
  · rfl
  · exact putField_frame _ _ _ _

theorem foldl_putOwn_frame (l : List Fld) (n i v : Nat) (s : State) :
    l.foldl (putOwn n i v) s = { s with regs := (l.foldl (putOwn n i v) s).regs } := by
  induction l generalizing s with
  | nil => rfl
  | cons f l ih => rw [List.foldl_cons, ih, putOwn_frame]

theorem rd_foldl_putOwn_ne {l : List Fld} {g : Fld} {n i j v : Nat} (h : ∀ f ∈ l, g.key j ≠ (f.nth n).key i) (s : State) :
    rd (l.foldl (putOwn n i v) s) g j = rd s g j := by
  induction l generalizing s with
  | nil => rfl
  | cons f l ih =>
    rw [List.foldl_cons, ih (fun x hx => h x (List.mem_cons_of_mem _ hx)), rd_putOwn_ne _ (h f (List.mem_cons_self ..))]

/-- The fields of a register start at bits of their own. -/
abbrev placesDiffer (l : List Fld) : Prop := l.Pairwise fun f g => f.off * 32 + f.lo ≠ g.off * 32 + g.lo

theorem key_nth_ne {f g : Fld} (h : f.off * 32 + f.lo ≠ g.off * 32 + g.lo) (n i : Nat) :
    (f.nth n).key i ≠ (g.nth n).key i := by
  simp only [Fld.key, Fld.nth]
  omega

theorem rd_foldl_putOwn_mem {l : List Fld} (hl : placesDiffer l) {f : Fld} (hf : f ∈ l) (n i v : Nat) (s : State) :
    rd (l.foldl (putOwn n i v) s) (f.nth n) i =
      if f.ownRow then rd s (f.nth n) i else fieldAfter s (f.nth n) i v := by
  induction l generalizing s with
  | nil => cases hf
  | cons x l ih =>
    obtain ⟨hx, hl⟩ := List.pairwise_cons.1 hl
    rw [List.foldl_cons]
    rcases List.mem_cons.1 hf with rfl | hmem
    · rw [rd_foldl_putOwn_ne (fun g hg => key_nth_ne (hx g hg) n i), rd_putOwn_same]
    · have hkeep : rd (putOwn n i v s x) (f.nth n) i = rd s (f.nth n) i :=
        rd_putOwn_ne _ (key_nth_ne (hx f hmem).symm n i)
      rw [ih hl hmem, fieldAfter, fieldAfter, hkeep]

theorem map_placesDiffer : ∀ r ∈ R.map, placesDiffer r.flds := by
  decide +kernel

theorem regAt_mem {off n : Nat} {r : RegSpec} (h : regAt off = some (r, n)) : r ∈ R.map := by
  obtain ⟨x, hx, hxr⟩ := Option.map_eq_some_iff.1 h
  obtain ⟨rfl, _⟩ := Prod.mk.inj hxr
  exact List.mem_of_find?_eq_some hx

/-! ### The command -/

/-- A write of a register without a row or an effect of its own. -/
theorem exec_registerWrite_takes {s : State} {w : Wr} {off n i : Nat} {r : RegSpec} (hr : regAt off = some (r, n))
    (hs : sourceReg off = none) (h : Takes s w r n i) :
    exec (.registerWrite w off) s = .next (writeFields s w r n i) := by
  show execRegisterWrite w off s = _
  rw [execRegisterWrite, hs, hr]
  exact congrArg Host.Outcome.next (gate_takes h _)

theorem writeFields_of_plain {r : RegSpec} (h : hasOwnEffect r = false) (s : State) (w : Wr) (n i : Nat) :
    writeFields s w r n i = putPlain s r n i w.val := by
  simp only [hasOwnEffect, Bool.or_eq_false_iff, List.contains_cons, beq_eq_false_iff_ne, decide_eq_false_iff_not] at h
  simp only [writeFields, h, if_false]

/-- Settles O8: the write is a fold over the register's fields, each at a place of its own, so each field is written
once and no other is. -/
theorem registerWriteSetsItsFields : Obligations.RegisterWriteSetsItsFields := by
  unfold Obligations.RegisterWriteSetsItsFields
  intro s w off n i r hr hs hown htakes
  refine ⟨putPlain s r n i w.val, ?_, foldl_putOwn_frame _ _ _ _ _, fun f hf => ?_, fun g j hg => rd_foldl_putOwn_ne hg s⟩
  · rw [exec_registerWrite_takes hr hs htakes, writeFields_of_plain hown]
  · exact rd_foldl_putOwn_mem (map_placesDiffer r (regAt_mem hr)) hf n i w.val s

end Sys2Proof.Machine
end

section
/-! The sixteen functions of ALU and ALUI as operations on 32-bit words (R98). -/

namespace Sys2Proof.Machine

open Sys2Proof

theorem word32_eq : word32 = 2 ^ 32 := rfl

theorem sext_toNat (x : BitVec 32) : sext 32 x.toNat = x.toInt := by
  simp only [sext, BitVec.toInt, Nat.mod_eq_of_lt x.isLt]

theorem wrap_eq_ofInt (v : Int) : wrap 32 v = (BitVec.ofInt 32 v).toNat := by
  rw [wrap, BitVec.toNat_ofInt]

/-- MULH: the high word of the signed product. -/
theorem wrap_mulh (x y : BitVec 32) : wrap 32 (x.toInt * y.toInt / (word32 : Int)) =
    ((x.signExtend 64 * y.signExtend 64).extractLsb' 32 32).toNat := by
  rw [BitVec.signExtend, BitVec.signExtend, ← BitVec.ofInt_mul, BitVec.extractLsb'_toNat, BitVec.toNat_ofInt,
    Nat.shiftRight_eq_div_pow, wrap, word32_eq]
  generalize x.toInt * y.toInt = v
  omega

theorem wrap_sshiftRight (x : BitVec 32) (n : Nat) :
    wrap 32 (x.toInt / ((2 ^ n : Nat) : Int)) = (x.sshiftRight n).toNat := by
  rw [wrap_eq_ofInt, BitVec.sshiftRight, Int.shiftRight_eq_div_pow]

theorem ite_toInt_lt (x y a b : BitVec 32) :
    (if x.toInt < y.toInt then a.toNat else b.toNat) = (if x.slt y then a else b).toNat := by
  simp only [BitVec.slt_iff_toInt_lt, apply_ite BitVec.toNat]

/-- Settles O27: each function on the words' numbers is the operation on the words, the signed ones by the value of a
word in two's complement. -/
theorem aluFunctionsAreTheSpecs : Obligations.AluFunctionsAreTheSpecs := by
  unfold Obligations.AluFunctionsAreTheSpecs
  intro x y
  have hx := x.isLt
  have hy := y.isLt
  simp only [aluFn, sext_toNat, word32_eq]
  refine ⟨(BitVec.toNat_add x y).symm, ?_, (BitVec.toNat_mul x y).symm, wrap_mulh x y, (BitVec.toNat_and x y).symm,
    (BitVec.toNat_or x y).symm, (BitVec.toNat_xor x y).symm, ?_, ?_, wrap_sshiftRight x _, ite_toInt_lt x y x y,
    ite_toInt_lt x y y x, ?_, ?_, ?_, ?_⟩
  · rw [BitVec.toNat_sub, wrap]
    omega
  · rw [BitVec.toNat_shiftLeft, Nat.shiftLeft_eq]
  · rw [BitVec.toNat_ushiftRight, Nat.shiftRight_eq_div_pow]
  · rw [apply_ite BitVec.toNat]
    simp only [BitVec.lt_def]
    split <;> omega
  · rw [apply_ite BitVec.toNat]
    simp only [BitVec.lt_def]
    split <;> omega
  · simp only [b2n, BitVec.slt_iff_toInt_lt, decide_eq_true_eq]
  · simp only [b2n, BitVec.lt_def, decide_eq_true_eq]

end Sys2Proof.Machine
end

section
/-! What an instruction of the MMA family and a lane-wise write leave alone (R71, R113, R120, R121). -/

namespace Sys2Proof.Machine

open Sys2Proof

/-! ### Counting -/

theorem rd_bumpBy_ne (s : State) {f g : Fld} (i j n : Nat) (hg : g.lo < 32) (hf : f.lo < 32) (h : g.off ≠ f.off) :
    rd (bumpBy s f i n) g j = rd s g j :=
  rd_wr_ne _ _ _ _ (Fld.key_ne _ _ hg hf (.inl h))

/-- Counting saturated and special results of a core changes its two counts. -/
theorem coreAt_countBoth (s : State) (c a n : Nat) : coreAt (countBoth s c a n) c =
    { coreAt s c with satCount := sat32n ((coreAt s c).satCount + a), nanCount := sat32n ((coreAt s c).nanCount + n) } := by
  simp only [countBoth, countNan, countSat, bumpBy, coreAt_modCore, coreAt_wr]

theorem coreAt_countBoth_ne (s : State) {c e : Nat} (a n : Nat) (h : e ≠ c) :
    coreAt (countBoth s c a n) e = coreAt s e := by
  simp only [countBoth, countNan, countSat, bumpBy, coreAt_modCore_ne _ _ h, coreAt_wr]

theorem rd_countBoth_ne (s : State) (c a n : Nat) {f : Fld} (i : Nat) (hf : f.lo < 32)
    (hsat : f.off ≠ R.CORE_CNT_SAT.reg.off) (hnan : f.off ≠ R.CORE_CNT_NANINF.reg.off) :
    rd (countBoth s c a n) f i = rd s f i := by
  simp only [countBoth, countNan, countSat, rd_modCore]
  rw [rd_bumpBy_ne _ _ _ _ hf (by decide) hnan, rd_modCore, rd_bumpBy_ne _ _ _ _ hf (by decide) hsat]

theorem countBoth_mem (s : State) (c a n : Nat) : (countBoth s c a n).mem = s.mem := rfl

theorem countBoth_hostMem (s : State) (c a n : Nat) : (countBoth s c a n).hostMem = s.hostMem := rfl

/-- Counting array steps reaches a core's two step counts. -/
theorem coreAt_countSteps (s : State) (c n : Nat) : coreAt (countSteps s c n) c =
    { coreAt s c with steps := sat32n ((coreAt s c).steps + n), allSteps := (coreAt s c).allSteps + n } := by
  simp only [countSteps, coreAt_modCore, coreAt_wr]

theorem coreAt_countSteps_ne (s : State) {c e : Nat} (n : Nat) (h : e ≠ c) :
    coreAt (countSteps s c n) e = coreAt s e := by
  simp only [countSteps, coreAt_modCore_ne _ _ h, coreAt_wr]

theorem rd_countSteps_ne (s : State) (c n : Nat) {f : Fld} (i : Nat) (hf : f.lo < 32)
    (hlo : f.off ≠ R.CORE_CNT_STEPS_LO.reg.off) (hhi : f.off ≠ R.CORE_CNT_STEPS_HI.reg.off) :
    rd (countSteps s c n) f i = rd s f i := by
  simp only [countSteps, rd_modCore]
  rw [rd_wr_ne _ _ _ _ (Fld.key_ne _ _ hf (by decide) (.inl hhi)),
    rd_wr_ne _ _ _ _ (Fld.key_ne _ _ hf (by decide) (.inl hlo))]

/-! ### The matrix instructions (R68, R71, R113) -/

/-- Starting or queueing the steps reaches the core's matrix unit and step counts alone. -/
theorem coreAt_queueMma (s : State) (c n : Nat) : coreAt (queueMma s c n) c = { coreAt s c with
    computing := (coreAt (queueMma s c n) c).computing, waiting := (coreAt (queueMma s c n) c).waiting,
    steps := (coreAt (queueMma s c n) c).steps, allSteps := (coreAt (queueMma s c n) c).allSteps } := by
  unfold queueMma
  split
  · rw [coreAt_modCore]
  · rw [coreAt_countSteps, coreAt_modCore]

theorem coreAt_queueMma_ne (s : State) {c e : Nat} (n : Nat) (h : e ≠ c) : coreAt (queueMma s c n) e = coreAt s e := by
  unfold queueMma
  split
  · rw [coreAt_modCore_ne _ _ h]
  · rw [coreAt_countSteps_ne _ _ h, coreAt_modCore_ne _ _ h]

theorem rd_queueMma_ne (s : State) (c n : Nat) {f : Fld} (i : Nat) (hf : f.lo < 32)
    (hlo : f.off ≠ R.CORE_CNT_STEPS_LO.reg.off) (hhi : f.off ≠ R.CORE_CNT_STEPS_HI.reg.off) :
    rd (queueMma s c n) f i = rd s f i := by
  unfold queueMma
  split
  · rfl
  · rw [rd_countSteps_ne _ _ _ _ hf hlo hhi, rd_modCore]

theorem queueMma_mem (s : State) (c n : Nat) : (queueMma s c n).mem = s.mem := by
  unfold queueMma
  split <;> rfl

theorem queueMma_hostMem (s : State) (c n : Nat) : (queueMma s c n).hostMem = s.hostMem := by
  unfold queueMma
  split <;> rfl

theorem tileAt_setTile_ne (k : Core) {d e : Nat} (t : Tile) (h : e ≠ d) : tileAt (setTile k d t) e = tileAt k e :=
  tget_tset_ne _ _ _ _ h

/-- Settles O33: the tile is written into the core, its counts are taken and its steps queued, and each of the three
reaches its own fields only. -/
theorem mmaChangesItsTileOnly : Obligations.MmaChangesItsTileOnly := by
  unfold Obligations.MmaChangesItsTileOnly
  intro s c w tag p g
  unfold mmaResult
  refine ⟨fun e he => ?_, fun e he => ?_, ?_, ?_, ?_, ?_, ?_, ?_, fun f i hf hsat hnan hlo hhi => ?_⟩
  · rw [coreAt_queueMma, coreAt_countBoth, coreAt_modCore]
    simp only [tileAt, setTile, tget_tset_ne _ _ _ _ he]
  · rw [coreAt_queueMma_ne _ _ he, coreAt_countBoth_ne _ _ _ he, coreAt_modCore_ne _ _ he]
  · rw [coreAt_queueMma, coreAt_countBoth, coreAt_modCore, setTile]
  · rw [coreAt_queueMma, coreAt_countBoth, coreAt_modCore, setTile]
  · rw [coreAt_queueMma, coreAt_countBoth, coreAt_modCore, setTile]
  · rw [coreAt_queueMma, coreAt_countBoth, coreAt_modCore, setTile]
  · rw [queueMma_mem, countBoth_mem, modCore_mem]
  · rw [queueMma_hostMem, countBoth_hostMem, modCore_hostMem]
  · rw [rd_queueMma_ne _ _ _ _ hf hlo hhi, rd_countBoth_ne _ _ _ _ _ hf hsat hnan, rd_modCore]

/-! ### Lanes (R120, R121) -/

/-- The number whose digits to the base 2^b are the given lanes. -/
def laneSum (b : Nat) (vs : List Nat) : Nat :=
  (List.zip (List.range vs.length) vs).foldl (fun a p => a + (p.2 % 2 ^ b) * 2 ^ (b * p.1)) 0

theorem packLanes_eq (b : Nat) (vs : List Nat) : packLanes b vs = laneSum b vs % 2 ^ 2048 := rfl

theorem laneSum_concat (b : Nat) (vs : List Nat) (v : Nat) :
    laneSum b (vs ++ [v]) = laneSum b vs + v % 2 ^ b * 2 ^ (b * vs.length) := by
  simp only [laneSum, List.length_append, List.length_singleton, List.range_succ]
  rw [List.zip_append List.length_range, List.foldl_append]
  rfl

theorem laneSum_lt (b : Nat) (vs : List Nat) : laneSum b vs < 2 ^ (b * vs.length) := by
  induction vs using List.reverseRecOn with
  | nil => exact Nat.two_pow_pos _
  | append_singleton vs v ih =>
    have hv : v % 2 ^ b + 1 ≤ 2 ^ b := Nat.mod_lt _ (Nat.two_pow_pos b)
    calc laneSum b (vs ++ [v]) = laneSum b vs + v % 2 ^ b * 2 ^ (b * vs.length) := laneSum_concat b vs v
      _ < (v % 2 ^ b + 1) * 2 ^ (b * vs.length) := by rw [Nat.succ_mul]; omega
      _ ≤ 2 ^ b * 2 ^ (b * vs.length) := Nat.mul_le_mul_right _ hv
      _ = 2 ^ (b * (vs ++ [v]).length) := by
        rw [← pow_add, List.length_append, List.length_singleton, Nat.mul_succ, Nat.add_comm]

theorem vlane_laneSum (b : Nat) (vs : List Nat) {j : Nat} (hj : j < vs.length) : vlane b (laneSum b vs) j = vs[j] % 2 ^ b := by
  induction vs using List.reverseRecOn with
  | nil => exact absurd hj (Nat.not_lt_zero _)
  | append_singleton vs v ih =>
    rw [List.length_append, List.length_singleton] at hj
    rw [laneSum_concat, vlane, bits]
    rcases Nat.lt_succ_iff_lt_or_eq.1 hj with hlt | rfl
    · obtain ⟨d, hd⟩ := Nat.exists_eq_add_of_lt hlt
      have hpow : 2 ^ (b * vs.length) = 2 ^ (b * j) * (2 ^ b * 2 ^ (b * d)) := by
        rw [← pow_add, ← pow_add, hd]; ring_nf
      have hmul : v % 2 ^ b * 2 ^ (b * vs.length) = 2 ^ (b * j) * (2 ^ b * (2 ^ (b * d) * (v % 2 ^ b))) := by
        rw [hpow]; ring
      rw [hmul, Nat.add_mul_div_left _ _ (Nat.two_pow_pos _), Nat.add_mul_mod_self_left, List.getElem_append_left hlt]
      exact ih hlt
    · rw [Nat.add_mul_div_right _ _ (Nat.two_pow_pos _), Nat.div_eq_of_lt (laneSum_lt b vs), Nat.zero_add, Nat.mod_mod,
        List.getElem_concat_length rfl]

/-- A register packed from lanes reads lane by lane, when they fit in it. -/
theorem vlane_packLanes (b : Nat) (vs : List Nat) (hfit : b * vs.length ≤ 2048) {j : Nat} (hj : j < vs.length) :
    vlane b (packLanes b vs) j = vs[j] % 2 ^ b := by
  have hlt : laneSum b vs < 2 ^ 2048 := lt_of_lt_of_le (laneSum_lt b vs) (pow_le_pow_right₀ one_le_two hfit)
  rw [packLanes_eq, Nat.mod_eq_of_lt hlt, vlane_laneSum b vs hj]

theorem vlane_packLanes_map (b n : Nat) (g : Nat → Nat) (hfit : b * n ≤ 2048) {j : Nat} (hj : j < n) :
    vlane b (packLanes b ((List.range n).map g)) j = g j % 2 ^ b := by
  have hlen : ((List.range n).map g).length = n := by rw [List.length_map, List.length_range]
  rw [vlane_packLanes b _ (hlen.symm ▸ hfit) (hlen.symm ▸ hj), List.getElem_map, List.getElem_range]

theorem vlane_lt (b data j : Nat) : vlane b data j < 2 ^ b := bits_lt _ _ _

theorem vreg_setV_same (k : Core) (d : Nat) (r : VReg) : vreg (setV k d r) d = r := tget_tset_same _ _ _ _

theorem vreg_setV_ne (k : Core) {d e : Nat} (r : VReg) (h : e ≠ d) : vreg (setV k d r) e = vreg k e := tget_tset_ne _ _ _ _ h

/-- Settles O36: a lane-wise write is a write of one vector register with its counts, packed from the lanes that the
mask enables and the register's own. -/
theorem laneWritesKeepTheRest : Obligations.LaneWritesKeepTheRest := by
  unfold Obligations.LaneWritesKeepTheRest
  intro s c d f m srcs g
  unfold putLanes putV
  refine ⟨fun e he => ?_, fun e he => ?_, ?_, ?_, ?_, ?_, ?_, fun _ hg j hj => ?_⟩
  · rw [coreAt_modCore, vreg_setV_ne _ _ he, coreAt_countBoth]; rfl
  · rw [coreAt_modCore_ne _ _ he, coreAt_countBoth_ne _ _ _ he]
  · rw [coreAt_modCore, coreAt_countBoth]; rfl
  · rw [coreAt_modCore, coreAt_countBoth]; rfl
  · rw [coreAt_modCore, coreAt_countBoth]; rfl
  · rw [modCore_mem, countBoth_mem]
  · rw [modCore_hostMem, countBoth_hostMem]
  · rw [coreAt_modCore, vreg_setV_same]
    simp only [flagV, List.map_map]
    rw [vlane_packLanes_map _ (lanes f) _ (Nat.mul_div_le _ _) hj, Function.comp_apply]
    split
    · exact Nat.mod_eq_of_lt (hg j)
    · exact Nat.mod_eq_of_lt (vlane_lt _ _ _)

end Sys2Proof.Machine
end

section
/-! Register writes that act beyond their register's fields (R37, R155, R326, R390, R395, R426, R461). -/

namespace Sys2Proof.Machine

open Sys2Proof

/-- An offset beyond the end of one register and before the start of the next names none. -/
theorem regAt_eq_none {lo hi off : Nat} (hmap : ∀ r ∈ R.map, r.off + r.stride * r.count < lo ∨ hi ≤ r.off)
    (hlo : lo ≤ off) (hhi : off < hi) : regAt off = none := by
  unfold regAt
  rw [Option.map_eq_none_iff, List.find?_eq_none]
  intro r hr
  rcases hmap r hr with hbelow | habove
  · have hlt : r.off + r.stride * r.count < off := hbelow.trans_le hlo
    split
    next => simp only [Bool.and_eq_true, beq_iff_eq, decide_eq_true_eq]; omega
    next =>
      simp only [Bool.and_eq_true, beq_iff_eq, decide_eq_true_eq]
      rintro ⟨_, hmod, hdiv⟩
      have hoff : off - r.off = r.stride * ((off - r.off) / r.stride) := by
        have := Nat.div_add_mod (off - r.off) r.stride
        omega
      have := Nat.mul_le_mul_left r.stride hdiv.le
      omega
  · simp only [Bool.and_eq_true, decide_eq_true_eq]
    omega

/-- A write of an offset of the windows. -/
theorem exec_registerWrite_window {s : State} {w : Wr} {off : Nat} (hs : sourceReg off = none) (hr : regAt off = none)
    (hw : windows.any (inWindow off) = true) : exec (.registerWrite w off) s = .next (writeWindow s w off) := by
  show execRegisterWrite w off s = _
  rw [execRegisterWrite, hs, hr]
  exact if_pos hw

theorem sourceReg_eq_none {off : Nat} (h : 0x18100 < off) : sourceReg off = none := by
  unfold sourceReg
  split
  iterate 5 exact absurd h (by decide)
  rfl

theorem any_windows {off : Nat} {p : Nat × Nat} (hp : p ∈ windows) (h : inWindow off p = true) :
    windows.any (inWindow off) = true := List.any_eq_true.2 ⟨p, hp, h⟩

theorem inWindow_iff {off a n : Nat} : inWindow off (a, n) = true ↔ a ≤ off ∧ off < a + n := by
  rw [inWindow, Bool.and_eq_true, decide_eq_true_eq, decide_eq_true_eq]

theorem inWindow_eq_false {off a n : Nat} (h : off < a ∨ a + n ≤ off) : inWindow off (a, n) = false := by
  rw [Bool.eq_false_iff, ne_eq, inWindow_iff]
  omega

/-- The request slots of a requester's mailbox. -/
theorem exec_registerWrite_slots {s : State} {w : Wr} {a : Nat} (ha : a < 0x800) :
    exec (.registerWrite w (0xA1000 + a)) s = .next (writeReqSlot s w a) := by
  have hin : inWindow (0xA1000 + a) (0xA1000, 0x800) = true := inWindow_iff.2 ⟨by omega, by omega⟩
  rw [exec_registerWrite_window (sourceReg_eq_none (by omega))
    (regAt_eq_none (lo := 0xA1000) (hi := 0xA1800) (by decide +kernel) (by omega) (by omega)) (any_windows (by decide) hin),
    writeWindow, if_pos hin, Nat.add_sub_cancel_left]

/-- The debug window's data. -/
theorem exec_registerWrite_dbgData {s : State} {w : Wr} {a : Nat} (ha : a < 256) :
    exec (.registerWrite w (0xF0100 + a)) s = .next (writeDbgData s w a) := by
  have hin : inWindow (0xF0100 + a) (0xF0100, 256) = true := inWindow_iff.2 ⟨by omega, by omega⟩
  rw [exec_registerWrite_window (sourceReg_eq_none (by omega))
    (regAt_eq_none (lo := 0xF0100) (hi := 0xF0200) (by decide +kernel) (by omega) (by omega)) (any_windows (by decide) hin),
    writeWindow, inWindow_eq_false (by omega), inWindow_eq_false (by omega), hin, Nat.add_sub_cancel_left]
  rfl

/-- Settles O9: each register's write is its field write and the branch of `writeFields` for its offset; the windows
have a write of their own. -/
theorem registerWriteElsewhere : Obligations.RegisterWriteElsewhere := by
  unfold Obligations.RegisterWriteElsewhere
  refine ⟨fun s w i h => ?_, fun s w i h => ?_, fun s w i h => ?_, fun s w i h => ?_, fun s w i h => ?_,
    fun s w i h => ?_, fun s w n i hn h => ?_, fun s w i h => ?_, fun s w a _ ha _ => ?_, fun s w a hwho ha hopen => ?_⟩
  · exact exec_registerWrite_takes (by decide +kernel) rfl h
  · exact exec_registerWrite_takes (by decide +kernel) rfl h
  · exact exec_registerWrite_takes (by decide +kernel) rfl h
  · exact exec_registerWrite_takes (by decide +kernel) rfl h
  · exact exec_registerWrite_takes (by decide +kernel) rfl h
  · exact exec_registerWrite_takes (by decide +kernel) rfl h
  · interval_cases n
    · exact exec_registerWrite_takes (by decide +kernel) rfl h
    · exact exec_registerWrite_takes (by decide +kernel) rfl h
  · exact exec_registerWrite_takes (by decide +kernel) rfl h
  · exact exec_registerWrite_slots ha
  · rw [exec_registerWrite_dbgData ha, writeDbgData, hopen, hwho]
    rfl

end Sys2Proof.Machine
end

section
/-! Bad accesses: what they set in the requester's window status, and when they come about (R442, R446, R449). -/

namespace Sys2Proof.Machine

open Sys2Proof

/-! ### The window status -/

theorem winErr_eq (s : State) (who : Requester) (b off : Nat) : winErr s who b off =
    wr (if winClear s (reqNo who) then wr s R.GLB_WIN_STATUS.FIRST_OFFSET (reqNo who) (off / 16 % 65536) else s)
      (winFld b) (reqNo who) 1 := rfl

theorem winErr_frame (s : State) (who : Requester) (b off : Nat) :
    winErr s who b off = { s with regs := (winErr s who b off).regs } := by
  rw [winErr_eq]
  split <;> rfl

theorem winFld_width (b : Nat) : (winFld b).width = 1 := by
  unfold winFld
  split <;> rfl

theorem firstOffset_key_ne_winFld (b i : Nat) : R.GLB_WIN_STATUS.FIRST_OFFSET.key i ≠ (winFld b).key i := by
  have h : (winFld b).lo < 32 ∧ R.GLB_WIN_STATUS.FIRST_OFFSET.lo ≠ (winFld b).lo := by
    unfold winFld
    split <;> decide
  exact Fld.key_ne _ _ (by decide) h.1 (.inr h.2)

theorem rd_winErr_same (s : State) (who : Requester) (b off : Nat) :
    rd (winErr s who b off) (winFld b) (reqNo who) = 1 := by
  rw [winErr_eq, rd_wr_same, winFld_width]
  rfl

theorem rd_winErr_firstOffset {s : State} {who : Requester} (b off : Nat) (h : winClear s (reqNo who) = true) :
    rd (winErr s who b off) R.GLB_WIN_STATUS.FIRST_OFFSET (reqNo who) = off / 16 % 65536 := by
  rw [winErr_eq, if_pos h, rd_wr_ne _ _ _ _ (firstOffset_key_ne_winFld _ _), rd_wr_same]
  exact Nat.mod_mod _ _

theorem rd_winErr_ne {s : State} {who : Requester} {b : Nat} (off : Nat) {f : Fld} {j : Nat}
    (hf : f.key j ≠ (winFld b).key (reqNo who))
    (hfirst : winClear s (reqNo who) = true → f.key j ≠ R.GLB_WIN_STATUS.FIRST_OFFSET.key (reqNo who)) :
    rd (winErr s who b off) f j = rd s f j := by
  rw [winErr_eq, rd_wr_ne _ _ _ _ hf]
  split
  next h => exact rd_wr_ne _ _ _ _ (hfirst h)
  next => rfl

/-! ### Accesses (R442, R446) -/

theorem exec_absentInstanceAccess_some {s : State} {a : Acc} {b : Nat} (h : absentBit s a.who a.off = some b) :
    exec (.absentInstanceAccess a) s = .next (badAccess s a b) := by
  show execAbsentInstanceAccess a s = _
  rw [execAbsentInstanceAccess, h]

theorem exec_absentInstanceAccess_none {s : State} {a : Acc} (h : absentBit s a.who a.off = none) :
    exec (.absentInstanceAccess a) s = .next s := by
  show execAbsentInstanceAccess a s = _
  rw [execAbsentInstanceAccess, h]

theorem exec_unmappedOffsetAccess (s : State) (a : Acc) : exec (.unmappedOffsetAccess a) s =
    .next (if mapped a.off = true then s else badAccess s a 8) := by
  show execUnmappedOffsetAccess a s = _
  unfold execUnmappedOffsetAccess
  split <;> rfl

theorem badAccess_parts (s : State) (a : Acc) (b : Nat) : (badAccess s a b).regs = (winErr s a.who b a.off).regs ∧
    badAccess s a b = { s with regs := (badAccess s a b).regs, out := (badAccess s a b).out } ∧
    (badAccess s a b).out = (if a.wval.isNone then [.answer 8 [reqNo a.who, a.off, 0]] else []) ++ s.out := by
  unfold badAccess
  rw [winErr_frame]
  dsimp only
  split <;> exact ⟨rfl, rfl, rfl⟩

/-! ### Register writes that do not reach their register -/

/-- A write to an absent copy is a window error (R446). -/
theorem gate_absent {s : State} {w : Wr} {r : RegSpec} (h : instOf s w.who r.kind = none) (n : Nat)
    (k : State → Nat → State) : gate s w r n k = winErr s w.who (winBit r.kind) (r.off + r.stride * n) := by
  rw [gate, h]

/-- So is a write with partial byte enables (R442). -/
theorem gate_partial {s : State} {w : Wr} {r : RegSpec} {i : Nat} (h : instOf s w.who r.kind = some i) (hbe : w.be ≠ 15)
    (n : Nat) (k : State → Nat → State) : gate s w r n k = winErr s w.who 9 (r.off + r.stride * n) := by
  rw [gate, h]
  exact if_pos hbe

theorem exec_registerWrite_regAt {s : State} {w : Wr} {off n : Nat} {r : RegSpec} (hr : regAt off = some (r, n))
    (hs : sourceReg off = none) :
    exec (.registerWrite w off) s = .next (gate s w r n fun s i => writeFields s w r n i) := by
  show execRegisterWrite w off s = _
  rw [execRegisterWrite, hs, hr]
  rfl

theorem exec_registerWrite_unmapped {s : State} {w : Wr} {off : Nat} (hs : sourceReg off = none) (hm : mapped off = false) :
    exec (.registerWrite w off) s = .next (winErr s w.who 8 off) := by
  rw [mapped, Bool.or_eq_false_iff, Option.isSome_eq_false_iff, Option.isNone_iff_eq_none] at hm
  obtain ⟨hr, hw⟩ := hm
  show execRegisterWrite w off s = _
  rw [execRegisterWrite, hs, hr, hw]
  rfl

/-- A source or geometry register is written by its own row's meaning (R371). -/
theorem exec_registerWrite_source {w : Wr} {off : Nat} {r : RegSpec} (s : State) (hs : sourceReg off = some r) :
    exec (.registerWrite w off) s = exec (.streamConfigWrite w off) s := by
  show execRegisterWrite w off s = execStreamConfigWrite w off s
  rw [execRegisterWrite, hs]
  rfl

theorem exec_streamConfigWrite_gate {w : Wr} {off : Nat} {r : RegSpec} (s : State) (hs : sourceReg off = some r) :
    ∃ f, exec (.streamConfigWrite w off) s = .next (gate s w r 0 f) := by
  show ∃ f, execStreamConfigWrite w off s = _
  rw [execStreamConfigWrite, hs]
  exact ⟨_, rfl⟩

theorem exec_source_eq {s t : State} {w : Wr} {off : Nat} {r : RegSpec} (hs : sourceReg off = some r)
    (h : ∀ f, gate s w r 0 f = t) :
    exec (.registerWrite w off) s = .next t ∧ exec (.streamConfigWrite w off) s = .next t := by
  obtain ⟨f, hf⟩ := exec_streamConfigWrite_gate (w := w) s hs
  rw [exec_registerWrite_source s hs, hf, h f]
  exact ⟨rfl, rfl⟩

/-- Settles O10: the accesses come to `badAccess` by their conditions, the writes to a window error by the gate's, and
both change the two fields of the window status. -/
theorem badAccessSetsWindowError : Obligations.BadAccessSetsWindowError := by
  unfold Obligations.BadAccessSetsWindowError
  refine ⟨fun s a b => exec_absentInstanceAccess_some, fun s a h => ?_, fun s a => exec_absentInstanceAccess_none,
    fun s a h => ?_, badAccess_parts,
    fun s who b off => ⟨winErr_frame _ _ _ _, rd_winErr_same _ _ _ _, rd_winErr_firstOffset _ _, fun f j => rd_winErr_ne _⟩,
    fun s w off n i r hr hs hi hbe => ?_, fun s w off n r hr hs hi => ?_,
    fun s w off r hs => ⟨fun i hi hbe => exec_source_eq hs (gate_partial hi hbe 0), fun hi => exec_source_eq hs (gate_absent hi 0)⟩,
    fun s w off => exec_registerWrite_unmapped⟩
  · rw [exec_unmappedOffsetAccess, h]
    rfl
  · rw [exec_unmappedOffsetAccess, if_pos h]
  · rw [exec_registerWrite_regAt hr hs, gate_partial hi hbe]
  · rw [exec_registerWrite_regAt hr hs, gate_absent hi]

end Sys2Proof.Machine
end

section
/-! Reads of a low word, interrupt registers and the debug window (R425, R444, R455, R461). -/

namespace Sys2Proof.Machine

open Sys2Proof

theorem reqNo_inj {a b : Requester} (h : reqNo a = reqNo b) : a = b := by
  revert h
  cases a <;> cases b <;> decide

/-- A latched word is kept for its reader and its pair of registers. -/
theorem latched_latch (s : State) (who other : Requester) {p q : Nat} (v : Nat) (hp : p < 4) (hq : q < 4) :
    latched (latch s who p v) other q = if other = who ∧ q = p then v else latched s other q := by
  have hkey : reqNo other * 4 + q = reqNo who * 4 + p ↔ other = who ∧ q = p := by
    constructor
    · intro h
      exact ⟨reqNo_inj (by omega), by omega⟩
    · rintro ⟨rfl, rfl⟩
      rfl
  simp only [latched, latch, tget_tset, hkey]

/-- Settles O11: each of the four reads latches the high word and answers the low one. -/
theorem lowReadLatchesHigh : Obligations.LowReadLatchesHigh := by
  unfold Obligations.LowReadLatchesHigh
  refine ⟨fun s who c h => ?_, fun s who => rfl, fun s who => rfl, fun s who => rfl,
    fun s who other p q v hp hq => latched_latch s who other v hp hq⟩
  show execCoreCntStepsLoRead who s = _
  rw [execCoreCntStepsLoRead, h]
  rfl

/-! ### Interrupt registers (R455) -/

/-- A holdoff that ends while its condition still holds sends its message. -/
theorem exec_intHoldoffExpiry_sends {s : State} {who : Requester} {k : Nat} (hk : k < 32)
    (hheld : tget false s.intHeld (intKey who k) = true)
    (hend : tget 0 s.intLast (intKey who k) + rd s R.GLB_INT_HOLDOFF.STRM_US (reqNo who) * 100 ≤ s.tick + 1)
    (hon : bit (rd s R.GLB_INT_STRM_STATUS.STRM (reqNo who)) k = true)
    (hen : bit (rd s R.GLB_INT_STRM_ENABLE.EN (reqNo who)) k = true) :
    exec (.intHoldoffExpiry who k) s = .next
      (sendStrm { s with intHeld := tset false s.intHeld (intKey who k) false } who k) := by
  show execIntHoldoffExpiry who k s = _
  simp only [execIntHoldoffExpiry, hheld, hon, hen, Nat.not_le.2 hk, Nat.not_lt.2 hend]
  rfl

/-- A stream vector's message goes at once where its holdoff has ended. -/
theorem sendStrm_ended {s : State} {who : Requester} {k : Nat}
    (hend : tget 0 s.intLast (intKey who k) + rd s R.GLB_INT_HOLDOFF.STRM_US (reqNo who) * 100 ≤ s.tick + 1) :
    sendStrm s who k = message
      { s with intLast := tset 0 s.intLast (intKey who k) (s.tick + 1),
               intHeld := tset false s.intHeld (intKey who k) false } who (2 + k) :=
  if_neg fun h => Nat.not_lt.2 hend h.2

/-- Settles O12: a write of one of the four registers is a write of its one field, then its notification; an ended
holdoff sends at once. -/
theorem interruptWritesNotifyAgain : Obligations.InterruptWritesNotifyAgain := by
  unfold Obligations.InterruptWritesNotifyAgain
  refine ⟨fun s w i h => congrArg Host.Outcome.next (gate_takes h _), fun s w i h => congrArg Host.Outcome.next (gate_takes h _),
    fun s w i h => congrArg Host.Outcome.next (gate_takes h _), fun s w i h => congrArg Host.Outcome.next (gate_takes h _),
    fun s who k hk hheld hend hon hen => ?_⟩
  rw [exec_intHoldoffExpiry_sends hk hheld hend hon hen]
  exact congrArg Host.Outcome.next (sendStrm_ended hend)

/-! ### The debug window (R425, R461) -/

theorem bit_eq_testBit (w i : Nat) : bit w i = w.testBit i := by
  rw [bit, Nat.testBit_eq_decide_div_mod_eq]
  rfl

/-- A command of the debug window is one of the low four bits of DBG_CTRL. -/
theorem bit_of_mod_sixteen {v c i : Nat} (h : v % 16 = c) (hi : i < 4) : bit v i = bit c i := by
  rw [bit_eq_testBit, bit_eq_testBit, ← h]
  exact (Nat.testBit_mod_two_pow v 4 i ▸ by simp [hi] : (v % 2 ^ 4).testBit i = v.testBit i).symm

/-- The command `c` of the open debug window, whose row is that of bit `b`. -/
theorem writeDbg_takes {s : State} {w : Wr} {b c : Nat} (h : Takes s w R.DBG_CTRL.reg 0 0) (hopen : dbgOpen s = true)
    (hc : w.val % 16 = c) (hb : b < 4) (hbit : bit c b = true) : writeDbg w b s =
      (let s1 := if bit c 0 then dbgRead s else s
       let s2 := if bit c 1 then dbgWrite s1 else s1
       let s3 := if bit c 2 then dbgInvasive s2 (fun s => haltCore s (bits w.val 4 7)) else s2
       if bit c 3 then dbgResume s3 (bits w.val 4 7) else s3) := by
  rw [writeDbg, gate_takes h, hopen, bit_of_mod_sixteen hc hb, hbit]
  simp only [bit_of_mod_sixteen hc (show 0 < 4 by decide), bit_of_mod_sixteen hc (show 1 < 4 by decide),
    bit_of_mod_sixteen hc (show 2 < 4 by decide), bit_of_mod_sixteen hc (show 3 < 4 by decide)]
  rfl

/-- The four commands alone. -/
theorem writeDbg_read {s : State} {w : Wr} (h : Takes s w R.DBG_CTRL.reg 0 0) (hopen : dbgOpen s = true)
    (hc : w.val % 16 = 1) : writeDbg w 0 s = dbgRead s := by
  rw [writeDbg_takes h hopen hc (by decide) (by decide)]
  simp [bit]

theorem writeDbg_write {s : State} {w : Wr} (h : Takes s w R.DBG_CTRL.reg 0 0) (hopen : dbgOpen s = true)
    (hc : w.val % 16 = 2) : writeDbg w 1 s = dbgWrite s := by
  rw [writeDbg_takes h hopen hc (by decide) (by decide)]
  simp [bit]

theorem writeDbg_halt {s : State} {w : Wr} (h : Takes s w R.DBG_CTRL.reg 0 0) (hopen : dbgOpen s = true)
    (hc : w.val % 16 = 4) : writeDbg w 2 s = dbgInvasive s fun s => haltCore s (bits w.val 4 7) := by
  rw [writeDbg_takes h hopen hc (by decide) (by decide)]
  simp [bit]

theorem writeDbg_resume {s : State} {w : Wr} (h : Takes s w R.DBG_CTRL.reg 0 0) (hopen : dbgOpen s = true)
    (hc : w.val % 16 = 8) : writeDbg w 3 s = dbgResume s (bits w.val 4 7) := by
  rw [writeDbg_takes h hopen hc (by decide) (by decide)]
  simp [bit]

/-- Settles O13: each command of the window is one bit of DBG_CTRL, and what it does is the branch of its condition. -/
theorem debugWindowActs : Obligations.DebugWindowActs := by
  unfold Obligations.DebugWindowActs
  refine ⟨fun s w h hopen hc hok => congrArg Host.Outcome.next ?_, fun s w h hopen hc hsafe hok => congrArg Host.Outcome.next ?_,
    fun s w h hopen hc hsafe => congrArg Host.Outcome.next ?_, fun s w h hopen hc hcore => congrArg Host.Outcome.next ?_,
    fun s w h hopen hc hsafe => congrArg Host.Outcome.next ?_, fun s w h hopen hc hsafe => congrArg Host.Outcome.next ?_⟩
  · rw [writeDbg_read h hopen hc, dbgRead, if_pos hok]
  · rw [writeDbg_write h hopen hc, dbgWrite, dbgInvasive, if_pos hsafe, if_pos hok]
  · rw [writeDbg_halt h hopen hc, dbgInvasive, if_pos hsafe]
  · rw [writeDbg_resume h hopen hc, dbgResume, if_neg (Nat.not_le.2 hcore)]
  · rw [writeDbg_write h hopen hc, dbgWrite, dbgInvasive, hsafe]
    rfl
  · rw [writeDbg_halt h hopen hc, dbgInvasive, hsafe]
    rfl

end Sys2Proof.Machine
end

section
/-! The way of a line: received, processed, stored, and its stripe closed (R18, R21, R26). -/

namespace Sys2Proof.Machine

open Sys2Proof

theorem leBytes_length (n v : Nat) : (leBytes n v).length = n := by
  induction n generalizing v with
  | zero => rfl
  | succ n ih => rw [leBytes, List.length_cons, ih]

/-- Pieces of data written one after the other leave a byte that none of them covers. -/
theorem memByte_foldl_memWrite {α : Type} (place : α → Nat) (data : α → List Byte) (a : Nat) (l : List α)
    (h : ∀ x ∈ l, a < place x ∨ place x + (data x).length ≤ a) (m : List Host.Cell) :
    memByte (l.foldl (fun m x => memWrite m (place x) (data x)) m) a = memByte m a := by
  induction l generalizing m with
  | nil => rfl
  | cons x l ih =>
    rw [List.foldl_cons, ih (fun y hy => h y (List.mem_cons_of_mem _ hy)),
      memByte_memWrite_outside _ _ _ _ (h x (List.mem_cons_self ..))]

/-- A stored line reaches the places of its codes alone. -/
theorem memByte_writeCodes_ne {m : List Host.Cell} {p : Place} {x : WLine} {a : Nat}
    (h : ∀ j < x.codes.length, ∀ i < x.size, a ≠ inputAt p x.net (codeOff x j) + i) :
    memByte (writeCodes m p x) a = memByte m a := by
  refine memByte_foldl_memWrite (fun c : Nat × Nat => inputAt p x.net (codeOff x c.1)) (fun c => leBytes x.size c.2) a _
    (fun c hc => ?_) m
  have hj : c.1 < x.codes.length := List.mem_range.1 (List.of_mem_zip hc).1
  rw [leBytes_length]
  by_contra hin
  exact h c.1 hj (a - inputAt p x.net (codeOff x c.1)) (by omega) (by omega)

/-- Settles O14: each step of a line's way is the branch of its row for a line that waits there. -/
theorem linesBecomeStripes : Obligations.LinesBecomeStripes := by
  unfold Obligations.LinesBecomeStripes
  refine ⟨fun s k route l rest h => ?_, fun s k e l rest hline heff hok => ?_, fun s k x rest h => ?_,
    fun m p x a => memByte_writeCodes_ne, fun s k t h => ?_, fun s k t hlast hopen hcross hfifo hdone hdue => ?_⟩
  · show execLineReceived k route s = _
    simp only [execLineReceived, h, Bool.or_eq_true, Bool.and_eq_true, beq_iff_eq]
    cases route
    case ring n => rfl
    all_goals
      dsimp only
      split <;> rfl
  · have hboth : ¬ ((!e.first) = true ∧ (!e.second) = true) := by
      simp only [Bool.not_eq_true', not_and_or, Bool.not_eq_false]
      exact hok
    refine ⟨_, ?_, rfl⟩
    show execRawFrontLine k e s = _
    simp only [execRawFrontLine, hline, heff, if_neg hboth]
    rfl
  · show execLineWriteToDram k s = _
    simp only [execLineWriteToDram, h]
  · show execStripeClose k s = _
    simp only [execStripeClose, h]
    rfl
  · show execPartialStripeTimeout k s = _
    simp only [execPartialStripeTimeout, hlast, hopen, hcross, hfifo, hdone, Nat.not_lt.2 hdue]
    rfl

end Sys2Proof.Machine
end

section
/-! What a report and a doubt leave of the state: registers apart from those of reporting, and all but the queues of
reports and what has left the part (R272, R294, R295, R432, R437). -/

namespace Sys2Proof.Machine

open Sys2Proof

/-! ### What a report leaves of the register fields -/

/-- The registers that a report counted, queued or signalled writes. -/
def reportOffs : List Nat :=
  [R.FLT_LAST.reg.off, R.GLB_INT_STATUS.reg.off, R.MGMT_STATUS.reg.off, R.MGMT_HREP_HEAD.reg.off,
    R.MGMT_CNT_HOST_DROP.reg.off, R.MGMT_CNT_COALESCED.reg.off, R.MGMT_CNT_FATAL_OVF.reg.off, R.MGMT_CNT_DROP.reg.off]

/-- A field of another register. -/
abbrev ApartFromReports (f : Fld) : Prop := f.lo < 32 ∧ f.off ∉ reportOffs

theorem rd_wr_reportOff (s : State) {f g : Fld} (i j v : Nat) (hf : ApartFromReports f) (hg : g.off ∈ reportOffs)
    (hlo : g.lo < 32) : rd (wr s g j v) f i = rd s f i :=
  rd_wr_ne _ _ _ _ (Fld.key_ne _ _ hf.1 hlo (.inl fun h => hf.2 (h ▸ hg)))

section

variable {f : Fld} (i : Nat) (hf : ApartFromReports f)

include hf

theorem rd_raiseIntFor (s : State) (who : Requester) (b : Nat) : rd (raiseIntFor s who b) f i = rd s f i := by
  have hset (v : Nat) : rd (wr s R.GLB_INT_STATUS.STATUS (reqNo who) v) f i = rd s f i :=
    rd_wr_reportOff _ _ _ _ hf (by decide) (by decide)
  unfold raiseIntFor
  dsimp only
  split
  · exact hset _
  · split
    · exact hset _
    · exact hset _

theorem rd_raiseInt (s : State) (b : Nat) : rd (raiseInt s b) f i = rd s f i := by
  simp only [raiseInt, requesters, List.foldl_cons, List.foldl_nil, rd_raiseIntFor i hf]

theorem rd_enterWindow (s : State) (r : Report) : rd (enterWindow s r) f i = rd s f i := by
  have hhead (t : State) (v : Nat) : rd (wr t R.MGMT_HREP_HEAD.SEQ 0 v) f i = rd t f i :=
    rd_wr_reportOff _ _ _ _ hf (by decide) (by decide)
  have hdrop (t : State) : rd (bump t R.MGMT_CNT_HOST_DROP.COUNT 0) f i = rd t f i :=
    rd_wr_reportOff _ _ _ _ hf (by decide) (by decide)
  unfold enterWindow
  simp only [rd_raiseInt i hf]
  split
  · rw [hdrop, hhead]; rfl
  · rw [hhead]; rfl

theorem rd_showQueue (s : State) : rd (showQueue s) f i = rd s f i := by
  unfold showQueue
  rw [rd_wr_reportOff _ _ _ _ hf (by decide) (by decide), rd_wr_reportOff _ _ _ _ hf (by decide) (by decide)]

theorem rd_enqueue (s : State) (code inst : Nat) (side : Side) (detail : Nat) :
    rd (enqueue s code inst side detail) f i = rd s f i := by
  unfold enqueue
  dsimp only
  split
  · exact rd_wr_reportOff _ _ _ _ hf (by decide) (by decide)
  · split
    · split
      · rw [rd_showQueue i hf, rd_enterWindow i hf]; rfl
      · exact rd_wr_reportOff _ _ _ _ hf (by decide) (by decide)
    · split
      · rw [rd_showQueue i hf, rd_enterWindow i hf]; rfl
      · exact rd_wr_reportOff _ _ _ _ hf (by decide) (by decide)

theorem rd_note (s : State) (code inst : Nat) (side : Side) (detail : Nat) :
    rd (note s code inst side detail) f i = rd s f i := by
  unfold note
  rw [rd_enqueue i hf, rd_wr_reportOff _ _ _ _ hf (by decide) (by decide),
    rd_wr_reportOff _ _ _ _ hf (by decide) (by decide)]

end

/-! ### The rest of the state -/

/-- Beside registers, two states differ in the queues of reports and in what has left the part alone. -/
def OnlyReports (s t : State) : Prop :=
  t = { s with regs := t.regs, fatalQ := t.fatalQ, ordQ := t.ordQ, hrep := t.hrep, repDropped := t.repDropped, out := t.out }

theorem OnlyReports.trans {s t u : State} (h1 : OnlyReports s t) (h2 : OnlyReports t u) : OnlyReports s u := by
  unfold OnlyReports at *
  generalize t.regs = a1, t.fatalQ = a2, t.ordQ = a3, t.hrep = a4, t.repDropped = a5, t.out = a6 at h1
  subst h1
  exact h2

theorem OnlyReports.wr {s t : State} (f : Fld) (i v : Nat) (h : OnlyReports s t) : OnlyReports s (wr t f i v) :=
  h.trans rfl

theorem OnlyReports.act {s t : State} (h : OnlyReports s t) : t.act = s.act := (congrArg State.act h :)

theorem OnlyReports.mem {s t : State} (h : OnlyReports s t) : t.mem = s.mem := (congrArg State.mem h :)

theorem OnlyReports.hostMem {s t : State} (h : OnlyReports s t) : t.hostMem = s.hostMem := (congrArg State.hostMem h :)

theorem OnlyReports.cores {s t : State} (h : OnlyReports s t) : t.cores = s.cores := (congrArg State.cores h :)

theorem OnlyReports.strms {s t : State} (h : OnlyReports s t) : t.strms = s.strms := (congrArg State.strms h :)

theorem OnlyReports.fieldLost {s t : State} (h : OnlyReports s t) : t.fieldLost = s.fieldLost := (congrArg State.fieldLost h :)

theorem raiseIntFor_onlyReports (s : State) (who : Requester) (b : Nat) : OnlyReports s (raiseIntFor s who b) := by
  unfold raiseIntFor
  dsimp only
  split
  · rfl
  · split <;> rfl

theorem raiseInt_onlyReports (s : State) (b : Nat) : OnlyReports s (raiseInt s b) :=
  ((raiseIntFor_onlyReports s .host b).trans (raiseIntFor_onlyReports _ .clapper b)).trans
    (raiseIntFor_onlyReports _ .control b)

theorem enterWindow_onlyReports (s : State) (r : Report) : OnlyReports s (enterWindow s r) := by
  unfold enterWindow
  refine OnlyReports.trans ?_ (raiseInt_onlyReports _ 0)
  split <;> rfl

theorem enqueue_onlyReports (s : State) (code inst : Nat) (side : Side) (detail : Nat) :
    OnlyReports s (enqueue s code inst side detail) := by
  unfold enqueue
  dsimp only
  split
  · rfl
  · split
    · split
      · exact ((OnlyReports.trans (by rfl) (enterWindow_onlyReports _ _)).wr _ _ _).wr _ _ _
      · rfl
    · split
      · exact ((OnlyReports.trans (by rfl) (enterWindow_onlyReports _ _)).wr _ _ _).wr _ _ _
      · rfl

theorem note_onlyReports (s : State) (code inst : Nat) (side : Side) (detail : Nat) :
    OnlyReports s (note s code inst side detail) :=
  OnlyReports.trans (by rfl) (enqueue_onlyReports _ _ _ _ _)

/-! ### A doubt (R295) -/

/-- `t` is `s` with SAFE latched by a doubt of a cause, at a tick. -/
structure Latched (s t : State) (cause tick : Nat) : Prop where
  safe : isSafe t = true
  code : rd t R.SSC_CAUSE.CODE 0 = cause % 2 ^ 16
  tick : rd t R.SSC_CAUSE_TICK.TICK 0 = tick % 2 ^ 32
  act : t.act = (driveSafe s).act
  mem : t.mem = s.mem
  hostMem : t.hostMem = s.hostMem
  cores : t.cores = s.cores
  strms : t.strms = s.strms
  fieldLost : t.fieldLost = s.fieldLost

/-- What follows the latch on a part that is no member of a pair leaves the fields of other registers alone. -/
theorem rd_afterLatch {f : Fld} (hf : ApartFromReports f) (hdms : f.off ≠ R.DMS_STATE.reg.off) (s : State) (cause i : Nat) :
    rd (raiseInt (note (readingInvalid (driveSafe s)) 0x0D01 0 .doubt cause) 1) f i = rd s f i := by
  rw [rd_raiseInt i hf, rd_note i hf]
  exact rd_wr_ne _ _ _ _ (Fld.key_ne _ _ hf.1 (by decide) (.inl hdms))

theorem driven_act (s : State) : (readingInvalid (driveSafe s)).act =
    { s.act with drive := (upto 16).map (safeLevel s), ends := [], queue := [], alive := 0, armed := [] } := rfl

theorem driven_mem (s : State) : (readingInvalid (driveSafe s)).mem = s.mem := rfl

theorem driven_hostMem (s : State) : (readingInvalid (driveSafe s)).hostMem = s.hostMem := rfl

theorem driven_cores (s : State) : (readingInvalid (driveSafe s)).cores = s.cores := rfl

theorem driven_strms (s : State) : (readingInvalid (driveSafe s)).strms = s.strms := rfl

theorem driven_fieldLost (s : State) : (readingInvalid (driveSafe s)).fieldLost = s.fieldLost := rfl

theorem afterLatch_onlyReports (s : State) (cause : Nat) : OnlyReports (readingInvalid (driveSafe s))
    (raiseInt (note (readingInvalid (driveSafe s)) 0x0D01 0 .doubt cause) 1) :=
  (note_onlyReports _ _ _ _ _).trans (raiseInt_onlyReports _ 1)

/-- On a part that is no member of a pair a doubt latches SAFE with its cause, and does not touch memory, cores or
streams. -/
theorem doubtWith_latched {s : State} (cause ssc : Nat) (hsafe : isSafe s = false) (hrole : rd s R.ZP_STATUS.ROLE 0 = 0) :
    Latched s (doubtWith s cause ssc) cause (if s.fieldLost then ssc else s.tick) := by
  /- The state in which the doubt has latched SAFE, with its cause and its tick. -/
  obtain ⟨u, hu⟩ : ∃ u, u = wr (wr (wr (bump s R.SSC_STATE.ENTRIES 0) R.SSC_STATE.SAFE 0 1) R.SSC_CAUSE.CODE 0 cause)
    R.SSC_CAUSE_TICK.TICK 0 (if s.fieldLost then ssc else s.tick) := ⟨_, rfl⟩
  have hrole' : rd (raiseInt (note (readingInvalid (driveSafe u)) 0x0D01 0 .doubt cause) 1) R.ZP_STATUS.ROLE 0 = 0 := by
    rw [rd_afterLatch ⟨by decide, by decide⟩ (by decide), hu, rd_wr_ne _ _ _ _ (by decide), rd_wr_ne _ _ _ _ (by decide),
      rd_wr_ne _ _ _ _ (by decide), bump, bumpBy, rd_wr_ne _ _ _ _ (by decide), hrole]
  have heq : doubtWith s cause ssc = raiseInt (note (readingInvalid (driveSafe u)) 0x0D01 0 .doubt cause) 1 := by
    rw [doubtWith, hsafe, hu] at *
    exact if_pos hrole'
  have hframe := afterLatch_onlyReports u cause
  rw [heq]
  refine ⟨?_, ?_, ?_, ?_, ?_, ?_, ?_, ?_, ?_⟩
  · rw [isSafe, isSet, rd_afterLatch ⟨by decide, by decide⟩ (by decide), hu, rd_wr_ne _ _ _ _ (by decide),
      rd_wr_ne _ _ _ _ (by decide), rd_wr_same]
    rfl
  · rw [rd_afterLatch ⟨by decide, by decide⟩ (by decide), hu, rd_wr_ne _ _ _ _ (by decide), rd_wr_same]
    rfl
  · rw [rd_afterLatch ⟨by decide, by decide⟩ (by decide), hu, rd_wr_same]
    rfl
  · have hlevel : safeLevel u = safeLevel s := by
      funext k
      rw [safeLevel, safeLevel, hu, rd_wr_ne _ _ _ _ (by decide), rd_wr_ne _ _ _ _ (by decide),
        rd_wr_ne _ _ _ _ (by decide), bump, bumpBy, rd_wr_ne _ _ _ _ (by decide)]
    have hact : u.act = s.act := by rw [hu, wr_act, wr_act, wr_act, bump, bumpBy_act]
    rw [hframe.act, driven_act, hlevel, hact, driveSafe]
  · rw [hframe.mem, driven_mem, hu, wr_mem, wr_mem, wr_mem, bump, bumpBy_mem]
  · rw [hframe.hostMem, driven_hostMem, hu, wr_hostMem, wr_hostMem, wr_hostMem, bump, bumpBy_hostMem]
  · rw [hframe.cores, driven_cores, hu, wr_cores, wr_cores, wr_cores, bump, bumpBy_cores]
  · rw [hframe.strms, driven_strms, hu, wr_strms, wr_strms, wr_strms, bump, bumpBy_strms]
  · rw [hframe.fieldLost, driven_fieldLost, hu, wr_fieldLost, wr_fieldLost, wr_fieldLost, bump, bumpBy_fieldLost]

/-- A doubt that a report of a code on the side of doubt brings (R272, R294). -/
theorem report_latched {s : State} {code : Nat} (inst detail : Nat) (hside : sideNow s code = .doubt)
    (hsafe : isSafe s = false) (hrole : rd s R.ZP_STATUS.ROLE 0 = 0) :
    Latched (note s code inst .doubt detail) (report s code inst detail) code
      (if (note s code inst .doubt detail).fieldLost then (note s code inst .doubt detail).sscCount
       else (note s code inst .doubt detail).tick) := by
  have hkeep {f : Fld} (hf : ApartFromReports f) : rd (note s code inst .doubt detail) f 0 = rd s f 0 := rd_note 0 hf _ _ _ _ _
  rw [report, hside]
  refine doubtWith_latched code _ ?_ ?_
  · rw [isSafe, isSet, hkeep ⟨by decide, by decide⟩]
    exact hsafe
  · rw [hkeep ⟨by decide, by decide⟩, hrole]

end Sys2Proof.Machine
end

section
/-! Shares are dispatched and end; stripes keep their deadlines and commit (R82, R83, R205, R218, R219, R234, R258, R279,
R320, R323). -/

namespace Sys2Proof.Machine

open Sys2Proof

/-- Settles O15: with something to dispatch, each row is the fold over what is to be dispatched. -/
theorem sharesAreDispatched : Obligations.SharesAreDispatched := by
  unfold Obligations.SharesAreDispatched
  refine ⟨fun s0 s k t t1 hs hlead hpkg htodo hclosed hbarrier hstripe => ?_, fun s k t t1 g htodo hpkg hwork hstripe => ?_,
    fun s => rfl⟩
  · have hwaits : ¬ ((!allClosed s k t.no) = true ∨ t.no ≠ 0 ∧ (!barriersDone s k (t.no - 1)) = true) := by
      rw [hclosed]
      rintro (h | ⟨hno, hopen⟩)
      · exact Bool.false_ne_true h
      · rcases hbarrier with hzero | hdone
        · exact hno hzero
        · rw [hdone] at hopen
          exact Bool.false_ne_true hopen
    have hrun : ¬ (leader s k ≠ k ∨ (strm s k).pkg.isNone = true) := by
      rw [hlead, Option.isNone_eq_false_iff.2 hpkg]
      simp
    show execShareDispatch k s0 = _
    simp only [execShareDispatch, ← hs, if_neg hrun, htodo, if_neg hwaits, hstripe]
  · have hdone : ¬ ((!t.crops && !streamWorkDone s k t g) = true) := by
      rcases hwork with h | h <;> rw [h] <;> simp
    show execCropBatchDispatch k s = _
    simp only [execCropBatchDispatch, htodo, hpkg, if_neg hdone, hstripe]
    rfl

/-- Settles O16: each row's conditions pick its branch; the commit deadline's report is on the side of doubt, so it
latches SAFE. -/
theorem sharesEndAndStripesCommit : Obligations.SharesEndAndStripesCommit := by
  unfold Obligations.SharesEndAndStripesCommit
  refine ⟨fun s c crc d hrun hend houtw hreads hwait => ?_, fun s k n idx crop t h ht hlp hbegun hband hshare hopen hlate hdue => ?_,
    fun s k t g ht hpkg hlead hmay => ?_, fun s k n t ht hlp hlead hready hopen hflow hdue => ?_,
    fun s k n t ht hcommitted hstaged hlp hdue => ?_, fun s k n _ hsafe hrole => ?_⟩
  · show execShareEnd c crc s = _
    simp only [execShareEnd, hrun, hend, houtw, hreads, hwait]
    rfl
  · have hknown : (if crop = true then (shareOf t true idx).isSome else decide (idx < t.map.bands.length)) = true := by
      cases crop with
      | true => rw [if_pos rfl, hshare]; rfl
      | false => rw [if_neg Bool.false_ne_true]; exact decide_eq_true (hband rfl)
    show execComputeDeadlineExpiry k n crop idx s = _
    simp only [execComputeDeadlineExpiry, ht, hlp, hbegun, hknown, hshare, Option.map_some, Option.getD_some, hopen,
      List.contains_eq_mem, hlate, Nat.not_lt.2 hdue]
    rfl
  · show execCommit k s = _
    simp only [execCommit, ht, hpkg, if_pos (And.intro hlead hmay)]
  · have hbegun : (t.begun || allClosed s k n || holed s k t) = true := by
      simp only [Bool.or_eq_true, or_assoc]
      exact hready
    show execCommitDeadlineExpiry k n s = _
    simp only [execCommitDeadlineExpiry, ht, hopen, hlp, hlead, hbegun, hflow, Nat.not_lt.2 hdue]
    simp only [Bool.false_eq_true, false_and, if_false, ne_eq, not_true_eq_false, or_self, Bool.not_true,
      Bool.not_eq_true', apply_ite Host.Outcome.next]
  · show execCommitDeadlineExpiry k n s = _
    simp only [execCommitDeadlineExpiry, ht]
    exact if_pos ⟨hcommitted, hstaged, hlp, hdue⟩
  · have hside : sideNow s 0x0D02 = .doubt := (if_neg (by decide)).trans (by decide)
    have hlatched := report_latched k n hside hsafe hrole
    exact ⟨hlatched.safe, hlatched.code⟩

end Sys2Proof.Machine
end

section
/-! The picture back, the field timebase and the pace monitor, and the configuration of streams (R32 to R37, R191, R195,
R298, R329, R338, R371, R398). -/

namespace Sys2Proof.Machine

open Sys2Proof

/-- A register row whose write reaches its register goes on with the register's own effect. -/
theorem ok_gate {s : State} {w : Wr} {r : RegSpec} {n i : Nat} (h : Takes s w r n i) (f : State → Nat → State) :
    ok (gate s w r n f) = .next (f s i) := congrArg ok (gate_takes h f)

theorem not_both_iff {a b : Bool} : ((!a) = true ∧ (!b) = true) ↔ (a = false ∧ b = false) := by
  rw [Bool.not_eq_true', Bool.not_eq_true']

/-- Settles O17: the row's branches, with the line that is next there. -/
theorem pictureBackPacks : Obligations.PictureBackPacks := by
  unfold Obligations.PictureBackPacks
  intro s k i e o l hnext hwait hl
  show execPictureBackLine k e s = _
  simp only [execPictureBackLine, hnext, hwait, hl, not_both_iff, Bool.false_eq_true, if_false]
  split <;> rfl

/-! ### The field timebase and the pace monitor -/

/-- A loss of the field timebase latches SAFE, with the SSC's count as its tick (R298). -/
theorem fieldLoss_latched {s : State} (ssc : Nat) (hsafe : isSafe s = false) (hrole : rd s R.ZP_STATUS.ROLE 0 = 0) :
    ∃ u, Latched u (fieldLoss s ssc) 0x0B05 ssc ∧ OnlyReports { s with fieldLost := true, sscCount := ssc } u ∧
      safeLevel u = safeLevel s := by
  have hnote : OnlyReports { s with fieldLost := true } (note { s with fieldLost := true } 0x0B05 0 .doubt 0) :=
    note_onlyReports _ _ _ _ _
  have hkeep {f : Fld} (hf : ApartFromReports f) :
      rd (note { s with fieldLost := true } 0x0B05 0 .doubt 0) f 0 = rd s f 0 := rd_note 0 hf _ _ _ _ _
  generalize hu : note { s with fieldLost := true } 0x0B05 0 .doubt 0 = u at hnote hkeep
  have hlost : u.fieldLost = true := hnote.fieldLost
  refine ⟨{ u with sscCount := ssc }, ?_, ?_, ?_⟩
  · have hlatched := doubtWith_latched (s := { u with sscCount := ssc }) 0x0B05 ssc
      ((congrArg (· == 1) (hkeep (f := R.SSC_STATE.SAFE) ⟨by decide, by decide⟩)).trans hsafe)
      ((hkeep (f := R.ZP_STATUS.ROLE) ⟨by decide, by decide⟩).trans hrole)
    rw [fieldLoss, hu]
    rwa [if_pos hlost] at hlatched
  · exact congrArg (fun t : State => { t with sscCount := ssc }) hnote
  · funext k
    exact congrArg (bits · (2 * k) 2) (hkeep (f := R.SSC_SAFE_LEVEL.LEVELS) ⟨by decide, by decide⟩)

theorem fieldWindow_outside {count : Nat} (h : count < 995 ∨ 1005 < count) : ¬ (995 ≤ count ∧ count ≤ 1005) := by omega

/-- Settles O18: the losses are one doubt; each row of the pace monitor is the branch of its conditions. -/
theorem timebaseAndPaceAct : Obligations.TimebaseAndPaceAct := by
  unfold Obligations.TimebaseAndPaceAct
  refine ⟨⟨fun s ssc hsafe hrole => ?_, fun s count ssc hlo hhi => if_pos ⟨hlo, hhi⟩⟩, fun s busFail monitors hdue => ?_,
    fun s busFail monitors hdue => ?_, fun s s1 mv fault hused hfail hunread htime hs1 => ?_,
    fun s s1 hused hfail hdue hs1 => ?_, fun s w h => ?_, fun s w h hclear => ?_⟩
  · obtain ⟨u, hlatched, hframe, hlevel⟩ := fieldLoss_latched ssc hsafe hrole
    refine ⟨fieldLoss s ssc, rfl, rfl, fun count h => if_neg (fieldWindow_outside h), hlatched.safe,
      hlatched.fieldLost.trans hframe.fieldLost, hlatched.code, hlatched.tick, ?_, ?_, hlatched.mem.trans hframe.mem,
      hlatched.hostMem.trans hframe.hostMem, hlatched.cores.trans hframe.cores, hlatched.strms.trans hframe.strms⟩
    · rw [hlatched.act, ← hlevel, driveSafe]
    · rw [hlatched.act, driveSafe]
  · show execPaceEvaluation busFail monitors s = _
    rw [execPaceEvaluation, hdue]
    rfl
  · show execPaceEvaluation busFail monitors s = _
    rw [execPaceEvaluation, hdue]
    rfl
  · have hrun : ¬ ((!s.pace.used || s.pace.fail || !s.pace.unread || decide (s.pace.lastCmd + 200000 < s.tick + 1)) = true) := by
      simp [hused, hfail, hunread]
      omega
    have hrow (mv : Nat) (fault busFail : Bool) : exec (.pmbusReadbackCheck mv fault busFail) s = .next
        (if busFail then pmbusFail s1 0x0B02
         else if fault ∨ mv + 15 < rd s R.PIPE_PACE_STATUS.VDD_CORE_MV 0 ∨ rd s R.PIPE_PACE_STATUS.VDD_CORE_MV 0 + 15 < mv then
           pmbusFail s1 0x0B03
         else showIslands { s1 with pace := { s1.pace with vddNow := rd s R.PIPE_PACE_STATUS.VDD_CORE_MV 0 } }) := by
      show execPmbusReadbackCheck mv fault busFail s = _
      simp only [execPmbusReadbackCheck, if_neg hrun, ← hs1, apply_ite Host.Outcome.next]
    refine ⟨fun hlo hhi => ?_, fun hoff => ?_, ?_⟩
    · rw [hrow, if_neg Bool.false_ne_true, if_neg (by simp; omega)]
    · rw [hrow, if_neg Bool.false_ne_true, if_pos hoff]
    · rw [hrow, if_pos rfl]
  · have hrun : (!s.pace.used || s.pace.fail || !elapsed s s.pace.modeAt 100000000) = false := by
      rw [hused, hfail, hdue]
      rfl
    have hrow (u busFail : Bool) : exec (.voutModeRecheck u busFail) s = .next
        (if busFail then pmbusFail s1 0x0B02 else if u then s1 else pmbusFail s1 0x0B03) := by
      show execVoutModeRecheck u busFail s = _
      simp only [execVoutModeRecheck, hrun, Bool.false_eq_true, if_false, ← hs1, apply_ite Host.Outcome.next]
    exact ⟨hrow true false, hrow false false, fun u => hrow u true⟩
  · exact ok_gate h _
  · exact (ok_gate h _).trans (congrArg _ (if_pos hclear))

/-! ### Streams (R371, R195, R398) -/

theorem fval_of_lo_zero {f : Fld} (h : f.lo = 0) (v : Nat) : fval f v = v % 2 ^ f.width := by
  rw [fval, bits, h, pow_zero, Nat.div_one]

/-- Settles O19: each write reaches its register, and its conditions pick the branch of its row. -/
theorem streamsAreConfigured : Obligations.StreamsAreConfigured := by
  unfold Obligations.StreamsAreConfigured
  refine ⟨fun s w k h hstop hen hown => ?_, fun s w k h hrefuse => ⟨fun hstop hen => ?_, fun hrun hen => ?_⟩,
    fun s w k h hrun hen hown => ?_, fun s w k h hown => ?_, fun s w k h hown => ?_, fun s w k h hown => ?_,
    fun s w k q h => ok_gate h _, fun s w k h => ?_, fun s w k h => ?_⟩
  · have hrow : exec (.streamStart w) s = _ := ok_gate h _
    simp only [hstop, hen, hown, Bool.false_eq_true, Bool.not_true, or_self, if_false] at hrow
    refine ⟨fun hcode => ?_, fun c d hc hcode => ?_⟩
    · rw [hrow, if_pos hcode]
    · rw [hrow, hcode, if_neg hc]
      rfl
  · have hrow : exec (.streamStart w) s = _ := ok_gate h _
    simpa only [hstop, hen, hrefuse, Bool.false_eq_true, Bool.not_true, or_self, if_false, if_true] using hrow
  · have hrow : exec (.streamStop w) s = _ := ok_gate h _
    simpa only [hrun, hen, hrefuse, Bool.false_eq_true, Bool.not_true, or_self, if_false, if_true] using hrow
  · have hrow : exec (.streamStop w) s = _ := ok_gate h _
    simpa only [hrun, hen, hown, Bool.false_eq_true, Bool.not_true, or_self, if_false, if_true] using hrow
  · have hrow : exec (.streamConfigWrite w R.STRM_GEOM.reg.off) s = _ := ok_gate h _
    simp only [hown] at hrow
    exact hrow
  · have hrow : exec (.strmRfCtrlWrite w) s = _ := ok_gate h _
    simp only [hown, Bool.false_eq_true, if_false, Bool.not_eq_true'] at hrow
    exact hrow
  · have hrow : exec (.strmPbCtrlWrite w) s = _ := ok_gate h _
    rw [hrow]
    cases hpkg : (strm s k).pkg with
    | none => simp only [hown, Bool.false_eq_true, if_false, Bool.not_eq_true', beq_iff_eq, hit,
        Option.any_none, and_false]
    | some g => simp only [hown, Bool.false_eq_true, if_false, Bool.not_eq_true', beq_iff_eq, hit,
        Option.any_some, Bool.and_eq_true]
  · exact (ok_gate h _).trans (congrArg (fun v => Host.Outcome.next (wr s R.STRM_HQ_TAIL.SEQ k v))
      (fval_of_lo_zero (f := R.STRM_HQ_TAIL.SEQ) rfl w.val))
  · exact (ok_gate h _).trans (congrArg (fun v => Host.Outcome.next (wr s R.STRM_HIN_HEAD.SEQ k v))
      (fval_of_lo_zero (f := R.STRM_HIN_HEAD.SEQ) rfl w.val))

end Sys2Proof.Machine
end

section
/-! Output lines, entries and blocks leave, and input entries enter (R380, R384, R386, R388). -/

namespace Sys2Proof.Machine

open Sys2Proof

/-- Settles O20: each row's conditions pick the branch that sends, completes or enters. -/
theorem outputLeaves : Obligations.OutputLeaves := by
  unfold Obligations.OutputLeaves
  refine ⟨fun s k o l b hsafe hlistens hto hup hroom hnext horder hstaged hl hpacked => ?_,
    fun s k o l b hsafe hlistens hto hnext horder hstaged hl hpacked => ?_, fun s k g e hsafe => ?_,
    fun s k o hsafe hlistens hto hup hroom hnext horder hsent => ?_,
    fun s k o hsafe hlistens hto hnext horder hsent => ?_, fun s k hrun hport hentries hposted hup => ?_⟩
  · have hrow (e : Bool) : exec (.outputLineSend k false e) s = execOutputLineSend k false e s := rfl
    rw [hrow, hrow]
    simp only [execOutputLineSend, hsafe, hlistens, hto, hup, hroom, hnext, horder, hstaged, Bool.false_eq_true, if_false, hl, hpacked]
    exact ⟨rfl, rfl⟩
  · have hrow (e : Bool) : exec (.outputLineSend k true e) s = execOutputLineSend k true e s := rfl
    rw [hrow, hrow]
    simp only [execOutputLineSend, hsafe, hlistens, hto, hnext, horder, hstaged, if_true, hl, hpacked]
    exact ⟨rfl, rfl⟩
  · show execOutputLineSend k g e s = _
    simp only [execOutputLineSend, hsafe]
    rfl
  · show execHqEntryWrite k none s = _
    simp only [execHqEntryWrite, hsafe, hlistens, hto, hup, hroom, hnext, horder, Nat.not_lt.2 hsent]
    rfl
  · show execGvspBlockSend k s = _
    simp only [execGvspBlockSend, hsafe, hlistens, hto, hnext, horder, Nat.not_lt.2 hsent]
    rfl
  · have hrow : (!running s k || rd s R.STRM_SRC.PORT k != 13 || decide (rd s R.STRM_HIN_CFG.ENTRIES k < 2) ||
        rd s R.STRM_HIN_TAIL.SEQ k == rd s R.STRM_HIN_HEAD.SEQ k || !pcieUp s) = false := by
      simp [hrun, hport, hup, hposted]
      omega
    show execHinEntryRead k s = _
    simp only [execHinEntryRead, hrow]
    rfl

end Sys2Proof.Machine
end

section
/-! CoaXPress and sub-LVDS ports, their registers, and the loss of a source (R371, R375 to R379, R397, R459). -/

namespace Sys2Proof.Machine

open Sys2Proof

/-! ### CoaXPress ports -/

/-- A row of an enabled CoaXPress port passes its guard, and on any other port it does not. -/
theorem cxpPort_on {s : State} {p : Nat} (hlo : 4 ≤ p) (hhi : p < 12) (hon : portOn s p = true) :
    ¬ (p < 4 ∨ 12 ≤ p ∨ (!portOn s p) = true) := by
  rw [hon]
  simp only [Bool.not_true, Bool.false_eq_true, or_false]
  omega

theorem cxpPort_off {s : State} {p : Nat} (h : p < 4 ∨ 12 ≤ p ∨ portOn s p = false) :
    p < 4 ∨ 12 ≤ p ∨ (!portOn s p) = true := by rwa [Bool.not_eq_true']

theorem not_isEmpty_iff {α : Type} {l : List α} : (!l.isEmpty) = true ↔ l ≠ [] := by
  rw [Bool.not_eq_true', List.isEmpty_eq_false_iff]

/-- PORT_CXP_TRIG is taken, refused, or without effect (R397). -/
theorem exec_portCxpTrigWrite {s : State} {w : Wr} {p : Nat} (h : Takes s w R.PORT_CXP_TRIG.reg 0 p) :
    exec (.portCxpTrigWrite w) s = .next
      (if boundTo s p ≠ [] ∨ (¬ (4 ≤ p ∧ p < 12) ∧ w.val ≠ 0) ∨ (fval R.PORT_CXP_TRIG.SRC w.val = 3 ∧ s.part.damson = true)
       then portReject s p else if 4 ≤ p ∧ p < 12 then putAll s R.PORT_CXP_TRIG.reg 0 p w.val else s) := by
  refine (ok_gate h _).trans ?_
  simp only [Bool.not_eq_true', Bool.and_eq_true, ← Bool.not_eq_true, decide_eq_true_eq, List.isEmpty_iff, ne_eq]

/-! ### Sub-LVDS and the sources -/

/-- A line between sync codes (R376). -/
theorem exec_slvdsLine {s : State} (start stop : Nat) (words : List Nat) (hon : portOn s 12 = true) :
    exec (.slvdsLine start stop words) s = .next
      (let good : Prop := (start = rd s R.PORT_SLVDS_SYNC1.SOF 12 ∨ start = rd s R.PORT_SLVDS_SYNC0.SOL 12) ∧
         (stop = rd s R.PORT_SLVDS_SYNC1.EOF 12 ∨ stop = rd s R.PORT_SLVDS_SYNC0.EOL 12)
       onStream (if good then s else report (bump s R.PORT_CNT_CODE.COUNT 12) 0x0613 12 start) 12 0 fun t k =>
         let t0 := if start = rd s R.PORT_SLVDS_SYNC1.SOF 12 then openFrame t k else t
         let t1 := if good then goodLine t0 k words else failedLine t0 k words
         if stop = rd s R.PORT_SLVDS_SYNC1.EOF 12 then closeFrame t1 k else t1) := by
  show execSlvdsLine start stop words s = _
  simp only [execSlvdsLine, hon, Bool.not_true, Bool.false_eq_true, if_false, Bool.and_eq_true, Bool.or_eq_true, beq_iff_eq]

/-- Settles O22: the guards of a row are the port's; within it the conditions pick the branch. -/
theorem cameraPortsAreServed : Obligations.CameraPortsAreServed := by
  unfold Obligations.CameraPortsAreServed
  refine ⟨⟨fun s p id x hlo hhi hon => ?_, fun s s1 p k x hs1 => ⟨fun hx => ?_, fun hgood herr => ⟨fun hx => ?_, fun hx => ?_⟩,
      fun hx hbad => ?_⟩, fun s p data hlo hhi hon => ?_, fun s p ch data r hr => ?_, fun s l hl hon => ?_,
      fun s p hlo hhi hon => ⟨?_, fun rate links hoff => ?_⟩, fun s p id rate links x data hoff => ⟨?_, ?_, ?_⟩,
      fun s w p h => ⟨fun hbound => ?_, fun hfree hlo hhi hsrc => ?_, fun hsrc hdamson => ?_, fun hport hval => ?_⟩⟩,
    fun s start stop words hon hstart hstop => ?_, fun s start stop words hon hbad => ?_, fun s start stop words hoff => ?_,
    fun s w p h => ⟨fun hbad => ?_, fun hfree hok => ?_⟩, fun s w second p h => ⟨fun hbad => ?_, fun hfree hp => ?_⟩,
    fun s s1 p hp hon hstate hs1 => ?_, fun s p hp hoff => ?_, fun s p lanes hp hon hstate => ?_,
    fun s p lanes hp hoff => ?_, fun s s1 p lanes rate hs1 => ⟨fun hlost => ?_, fun hkept => ?_⟩⟩
  · exact if_neg (cxpPort_on hlo hhi hon)
  · rw [cxpTurn, ← hs1]
    exact if_pos hx
  · rw [cxpTurn, ← hs1]
    simp only [hx, hgood, herr]
    rfl
  · rw [cxpTurn, ← hs1]
    simp only [hx, hgood, herr]
    rfl
  · have hbad' : ¬ (x.good = true ∧ x.codeErrors = 0) := by
      rw [not_and_or, Bool.not_eq_true]
      exact hbad
    rw [cxpTurn, ← hs1]
    simp only [if_neg hx, if_neg hbad']
  · exact if_neg (cxpPort_on hlo hhi hon)
  · show execCxpControlPacket p ch data s = _
    simp only [execCxpControlPacket, hr]
  · show execCxpLockLoss l s = _
    simp only [execCxpLockLoss, hon, Nat.not_le.2 hl]
    rfl
  · show execCxpDiscoveryDone p _ _ s = _
    simp only [execCxpDiscoveryDone, if_neg (cxpPort_on hlo hhi hon), and_self, if_true]
  · show execCxpDiscoveryDone p _ _ s = _
    simp only [execCxpDiscoveryDone, if_neg (cxpPort_on hlo hhi hon), if_neg (not_and_or.2 hoff)]
  · exact if_pos (cxpPort_off hoff)
  · exact if_pos (cxpPort_off hoff)
  · exact if_pos (cxpPort_off hoff)
  · rw [exec_portCxpTrigWrite h, if_pos (.inl hbound)]
  · rw [exec_portCxpTrigWrite h, if_neg, if_pos ⟨hlo, hhi⟩]
    rintro (hbound | ⟨hport, _⟩ | ⟨hthree, hdamson⟩)
    · exact hbound hfree
    · exact hport ⟨hlo, hhi⟩
    · rcases hsrc with hne | hno
      · exact hne hthree
      · exact Bool.false_ne_true (hno.symm.trans hdamson)
  · rw [exec_portCxpTrigWrite h, if_pos (.inr (.inr ⟨hsrc, hdamson⟩))]
  · rw [exec_portCxpTrigWrite h, if_pos (.inr (.inl ⟨by omega, hval⟩))]
  · have hgood : (start = rd s R.PORT_SLVDS_SYNC1.SOF 12 ∨ start = rd s R.PORT_SLVDS_SYNC0.SOL 12) ∧
        (stop = rd s R.PORT_SLVDS_SYNC1.EOF 12 ∨ stop = rd s R.PORT_SLVDS_SYNC0.EOL 12) := ⟨hstart.symm, hstop.symm⟩
    rw [exec_slvdsLine start stop words hon]
    simp only [if_pos hgood]
  · have hgood : ¬ ((start = rd s R.PORT_SLVDS_SYNC1.SOF 12 ∨ start = rd s R.PORT_SLVDS_SYNC0.SOL 12) ∧
        (stop = rd s R.PORT_SLVDS_SYNC1.EOF 12 ∨ stop = rd s R.PORT_SLVDS_SYNC0.EOL 12)) := by
      rcases hbad with ⟨hsol, hsof⟩ | ⟨heol, heof⟩
      · exact fun h => h.1.elim hsof hsol
      · exact fun h => h.2.elim heof heol
    rw [exec_slvdsLine start stop words hon]
    simp only [if_neg hgood]
  · show execSlvdsLine start stop words s = _
    rw [execSlvdsLine, hoff]
    rfl
  · refine (ok_gate h _).trans ?_
    rw [if_pos]
    rwa [not_isEmpty_iff, Bool.not_eq_true']
  · refine (ok_gate h _).trans ?_
    simp only [hfree, hok, Bool.not_eq_true']
    rfl
  · refine (ok_gate h _).trans ?_
    rw [if_pos]
    rwa [not_isEmpty_iff]
  · subst hp
    refine (ok_gate h _).trans ?_
    simp only [hfree]
    rfl
  · have hcond : ¬ ((!portOn s p) = true ∨ rd s R.PORT_STATUS.STATE p = 3) := by
      rw [hon]
      simpa using hstate
    show execSourceLoss p s = _
    rw [execSourceLoss, if_neg (Nat.not_le.2 hp), loseSource, if_neg hcond, hs1]
  · show execSourceLoss p s = _
    rw [execSourceLoss, if_neg (Nat.not_le.2 hp), loseSource, if_pos (by rwa [Bool.not_eq_true'])]
  · have hcond : ¬ (13 ≤ p ∨ (!portOn s p) = true ∨ rd s R.PORT_STATUS.STATE p ≠ 1 ∧ rd s R.PORT_STATUS.STATE p ≠ 3) := by
      rw [hon]
      simp
      omega
    exact if_neg hcond
  · exact if_pos (.inr (by rwa [Bool.not_eq_true']))
  · rw [lockPort, hs1]
    exact if_pos hlost
  · rw [lockPort, hs1]
    exact if_neg hkept

end Sys2Proof.Machine
end

section
/-! PCIe link events, and the field side: decisions, pulses, encoders, triggers and outputs (R385, R390 to R395, R474). -/

namespace Sys2Proof.Machine

open Sys2Proof

/-- Settles O24: each row is the branch its operands pick. -/
theorem pcieLinkEvents : Obligations.PcieLinkEvents := by
  unfold Obligations.PcieLinkEvents
  refine ⟨fun s gen width _ _ => ⟨_, rfl, fun hgen hwidth => if_neg (by omega), fun hlow => if_pos hlow⟩,
    fun s => ⟨rfl, rfl⟩, fun s => rfl, fun s c i q hq hhost => ?_, fun s k c o ho => ?_⟩
  · show execPcieAerUncorrectable (.piece c i) s = _
    simp only [execPcieAerUncorrectable, hq, if_pos hhost]
  · show execPcieAerUncorrectable (.entry k c) s = _
    simp only [execPcieAerUncorrectable, ho]

/-! ### A report leaves the supply of the outputs as it is -/

theorem foldl_putCell_act (l : Nat) (cs : List SentCell) (s : State) : (cs.foldl (putCell l) s).act = s.act :=
  foldl_keeps (f := putCell l) State.act (fun _ _ => rfl) cs s

theorem giveCell_act (s : State) (l : Nat) (h : CellHead) (pseq : Nat) (data : List Byte) (fwd : Bool) :
    (giveCell s l h pseq data fwd).act = s.act := by
  unfold giveCell
  split
  · exact foldl_putCell_act _ _ _
  · rfl

theorem roleReg_act (s : State) (role : Nat) (partner : Bool) : (roleReg s role partner).act = s.act := by
  unfold roleReg
  dsimp only
  split
  · rfl
  · exact (raiseInt_onlyReports _ _).act

theorem leavePair_act (s : State) (cause : Nat) : (leavePair s cause).act = s.act := by
  have hsend (t : State) (l : Nat) : (if pairLinkUp t l then sendPairOn t l 3 0 (tokenBytes 5 0 0 0 0 cause) else t).act = t.act := by
    split
    · exact giveCell_act _ _ _ _ _ _
    · rfl
  unfold leavePair
  split
  · rfl
  · exact (roleReg_act _ _ _).trans (foldl_keeps State.act hsend _ s)

theorem doubtWith_ioLow (s : State) (cause ssc : Nat) : (doubtWith s cause ssc).act.ioLow = s.act.ioLow := by
  unfold doubtWith
  dsimp only
  split
  · rfl
  · rw [leavePair_act, (afterLatch_onlyReports _ _).act, driven_act]
    rfl

theorem report_ioLow (s : State) (code inst detail : Nat) : (report s code inst detail).act.ioLow = s.act.ioLow := by
  have hnote := congrArg Act.ioLow (note_onlyReports s code inst (sideNow s code) detail).act
  unfold report
  dsimp only
  split
  · exact (doubtWith_ioLow _ _ _).trans hnote
  · exact hnote

theorem environment_ioLow (s : State) (code inst detail : Nat) : (environment s code inst detail true).act.ioLow = s.act.ioLow := by
  rw [environment, if_pos rfl]
  split
  · rfl
  · exact report_ioLow _ _ _ _

/-! ### Encoders (R391) -/

/-- The row of an enabled encoder that runs on its own inputs. -/
theorem exec_encoderPulse {s s1 : State} {e : Nat} {a b : Bool} (busy : List Nat) {q : Quad × Option EncEv} (he : e < 2)
    (hown : e = 0 → s.part.damson = false ∧ s.dms.powered = true) (hen : isSet s (R.FIO_ENC_CTRL.EN.nth e) 0 = true)
    (hq : q = quadTake (tget Quad.reset s.act.encs e) s.tick (rd s (R.FIO_ENC_CTRL.FILT.nth e) 0) a b)
    (hs1 : s1 = { s with act := { s.act with encs := tset Quad.reset s.act.encs e q.1 } }) :
    (q.2 = none → exec (.encoderPulse e a b busy) s = .next s1) ∧
    (q.2 = some .both → exec (.encoderPulse e a b busy) s = .next (bump (report s1 0x0618 e 0) R.FIO_CNT_ENCERR.COUNT 0)) ∧
    (q.2 = some .up → exec (.encoderPulse e a b busy) s = .next (encPulse e busy s1 true)) ∧
    (q.2 = some .down → exec (.encoderPulse e a b busy) s = .next (encPulse e busy s1 false)) := by
  have hrun : ¬ (2 ≤ e ∨ e = 0 ∧ (s.part.damson = true ∨ (!s.dms.powered) = true)) := by
    rintro (h | ⟨hzero, h⟩)
    · omega
    · obtain ⟨hdamson, hpower⟩ := hown hzero
      rw [hdamson, hpower] at h
      exact h.elim Bool.false_ne_true Bool.false_ne_true
  have hrow : exec (.encoderPulse e a b busy) s = execEncoderPulse e a b busy s := rfl
  rw [hrow]
  simp only [execEncoderPulse, if_neg hrun, if_pos hen, ← hq, ← hs1]
  refine ⟨fun h => ?_, fun h => ?_, fun h => ?_, fun h => ?_⟩ <;> simp only [h]

/-- A cycle against the direction counts down, one with it up. -/
theorem encPulse_back {s : State} {e : Nat} (busy : List Nat) {up : Bool} (h : isSet s (R.FIO_ENC_CTRL.DIR.nth e) 0 = up) :
    encPulse e busy s up = wr s (R.FIO_ENC_POS.POS.nth e) 0 (rd s (R.FIO_ENC_POS.POS.nth e) 0 + (2 ^ 32 - 1)) := by
  simp only [encPulse, h, bne_self_eq_false, Bool.false_eq_true, if_false]
  rfl

theorem encPulse_forward {s : State} {e : Nat} (busy : List Nat) {up : Bool}
    (h : isSet s (R.FIO_ENC_CTRL.DIR.nth e) 0 = !up) : encPulse e busy s up =
      (trigPorts (wr s (R.FIO_ENC_POS.POS.nth e) 0 (rd s (R.FIO_ENC_POS.POS.nth e) 0 + 1)) (if e = 1 then 1 else 3)).foldl
        (pulseTrigger busy) (wr s (R.FIO_ENC_POS.POS.nth e) 0 (rd s (R.FIO_ENC_POS.POS.nth e) 0 + 1)) := by
  have hfwd : (up != !up) = true := by cases up <;> rfl
  simp only [encPulse, h, hfwd, if_true]

/-- Input A rises while B stands low: a cycle upwards once the level has stood (R391). -/
theorem quadTake_rise {q : Quad} (now need : Nat) (ha : q.a = false) (hb : q.b = false) (hrawA : q.rawA = true)
    (hrawB : q.rawB = false) : (quadTake q now need true false).2 = if q.sinceA + need ≤ now then some .up else none := by
  simp only [quadTake, ha, hb, hrawA, hrawB, if_true, ite_self]
  split <;> rfl

/-- Settles O25: the rows of the field side, branch by branch. -/
theorem fieldSideActs : Obligations.FieldSideActs := by
  unfold Obligations.FieldSideActs
  refine ⟨fun s hown => ?_, fun s => rfl, fun s s1 e a b busy q he hown hen hq hs1 => ?_,
    fun q now ha hb hrawA hrawB => ⟨fun need hstood => ?_, fun need hearly => ?_⟩,
    fun s i since up busy hi hen hedge hsince hstood => ?_, fun s w levels h => ok_gate h _, fun s hdue => ?_,
    fun s hearly => ?_, fun s w h => ?_, fun s => ⟨_, rfl, ?_⟩⟩
  · show execDecisionDue s = _
    simp only [execDecisionDue, hown]
    rfl
  · obtain ⟨hnone, hboth, hup, hdown⟩ := exec_encoderPulse busy he hown hen hq hs1
    have hdir : isSet s1 (R.FIO_ENC_CTRL.DIR.nth e) 0 = isSet s (R.FIO_ENC_CTRL.DIR.nth e) 0 := by rw [hs1]; rfl
    refine ⟨fun ev hev hq2 hd => ?_, fun ev hev hq2 hd => ?_, hboth, hnone⟩
    · cases ev with
      | up => rw [hup hq2, encPulse_back (up := true) busy (hdir.trans hd)]
      | down => rw [hdown hq2, encPulse_back (up := false) busy (hdir.trans hd)]
      | both => exact absurd rfl hev
    · cases ev with
      | up => rw [hup hq2, encPulse_forward (up := true) busy (hdir.trans hd)]
      | down => rw [hdown hq2, encPulse_forward (up := false) busy (hdir.trans hd)]
      | both => exact absurd rfl hev
  · rw [quadTake_rise now need ha hb hrawA hrawB, if_pos hstood]
  · rw [quadTake_rise now need ha hb hrawA hrawB, if_neg (Nat.not_le.2 hearly)]
  · have hrun : ¬ ((!bit (rd s R.FIO_TRIG_CTRL.EN 0) i) = true ∨ tget false s.act.trigLevel i = up ∨ s.tick < since + 3) := by
      rw [hen]
      rintro (h | h | h)
      · exact Bool.false_ne_true h
      · exact hedge h
      · omega
    subst hsince
    show execTriggerEdge i up busy s = _
    simp only [execTriggerEdge, if_neg (Nat.not_le.2 hi), if_neg hrun]
  · show execAliveToggle s = _
    rw [execAliveToggle, hdue]
    rfl
  · show execAliveToggle s = _
    rw [execAliveToggle, hearly]
    rfl
  · refine (ok_gate h _).trans ?_
    simp only [Bool.or_eq_true, Bool.not_eq_true']
  · have hlow (t : State) (h : t.act.ioLow = true) : t.act.ioLow = true ∧ ∀ k < 16, pinOut t k = 2 :=
      ⟨h, fun k _ => by rw [pinOut, h]; rfl⟩
    split
    · exact hlow _ (environment_ioLow _ _ _ _)
    · exact hlow _ rfl

end Sys2Proof.Machine
end

section
/-! The scalar and control-flow instructions, and the loops' ends (R77, R89, R92, R96 to R104, R147). -/

namespace Sys2Proof.Machine

open Sys2Proof

/-- Settles O26: the guard of each row is cleared by the fields' ranges, and its body goes on without a code. -/
theorem scalarInstructionsComplete : Obligations.ScalarInstructionsComplete := by
  unfold Obligations.ScalarInstructionsComplete
  refine fun s c w h => ⟨fun hw => ?_, fun ho hd => ?_, fun ho hd => ?_, fun ho hd hshift => ?_,
    fun d ho hd hsel hrun => ?_⟩
  · rw [exec_nop_fetches h (.inl (by rw [hw]; rfl)), if_pos hw]
  · rw [exec_li_fetches h ho, if_pos hd]
  · show execAlu c quietRun s = _
    simp only [execAlu, issue_fetches h (isOp_of_opc ho), hd, Bool.not_true, Bool.false_eq_true, if_false,
      applyEff_go_quiet]
  · show execAlui c quietRun s = _
    simp only [execAlui, issue_fetches h (isOp_of_opc ho), hd, Bool.not_true, Bool.false_eq_true, false_or, if_neg hshift,
      applyEff_go_quiet]
  · show execMfsr c quietRun s = _
    simp only [execMfsr, issue_fetches h (isOp_of_opc ho), hd, Bool.not_true, Bool.false_eq_true, false_or,
      if_neg (Nat.not_le.2 hsel), hrun, applyEff_go_quiet]

/-! ### Control flow -/

/-- Settles O28: the guard of each row is cleared by the fields' ranges, and its body jumps, goes on or stops. -/
theorem controlFlowCompletes : Obligations.ControlFlowCompletes := by
  unfold Obligations.ControlFlowCompletes
  refine fun s c w h => ⟨fun ho hd hcond ht => ?_, fun t ht htop hd => ⟨fun ho => ?_, fun ho hroom => ?_⟩,
    fun t rest ho hd hret => ?_, fun n stop ho hd hstop hn hafter hin hnest hroom => ?_, fun ho hd hreads hwait => ?_,
    fun ho hd hcond => ?_⟩
  · show execBr c quietRun s = _
    simp only [execBr, issue_fetches h (isOp_of_opc ho), hd, Bool.not_true, Bool.false_eq_true, false_or,
      Nat.not_le.2 hcond, Nat.not_lt.2 ht, if_false]
    cases condHolds (bits w 16 4) (sreg (coreAt s c) (srcA w)) (sreg (coreAt s c) (srcB w)) with
    | true => rfl
    | false => exact congrArg _ applyEff_go_quiet
  · have hsum : (sreg (coreAt s c) (srcA w) + bits w 0 16) % word32 = t := ht.symm
    show execJmp c quietRun s = _
    simp only [execJmp, issue_fetches h (isOp_of_opc ho), hd, Bool.not_true, Bool.false_eq_true, false_or, hsum,
      Nat.not_lt.2 htop, if_false]
    rfl
  · have hsum : (sreg (coreAt s c) (srcA w) + bits w 0 16) % word32 = t := ht.symm
    show execCall c quietRun s = _
    simp only [execCall, issue_fetches h (isOp_of_opc ho), hd, Bool.not_true, Bool.false_eq_true, false_or, hsum,
      Nat.not_lt.2 htop, Nat.not_le.2 hroom, if_false]
    rfl
  · show execRet c quietRun s = _
    simp only [execRet, issue_fetches h (isOp_of_opc ho), hd, Bool.not_true, Bool.false_eq_true, if_false, hret]
    rfl
  · have hcount : (sreg (coreAt s c) (srcA w) + bits w 0 16) % word32 = n := hn.symm
    show execLoopOpen c quietRun s = _
    simp only [execLoopOpen, issue_fetches h (isOp_of_opc ho), hd, Bool.not_true, Bool.false_eq_true, or_false,
      ← hstop, hcount, hnest, Nat.not_le.2 hafter, Nat.not_lt.2 hin, if_false]
    by_cases hzero : n = 0
    · simp only [if_pos hzero]
      rfl
    · have hdepth : ¬ 4 ≤ (coreAt s c).loops.length := Nat.not_le.2 (hroom.resolve_left hzero)
      simp only [if_neg hzero, if_neg hdepth, applyEff_go_quiet]
  · show execEndShare c quietRun s = _
    simp only [execEndShare, issue_fetches h (isOp_of_opc ho), hd, Bool.not_true, Bool.false_eq_true, if_false, hreads, hwait]
    rfl
  · show execChk c quietRun s = _
    simp only [execChk, issue_fetches h (isOp_of_opc ho), hd, Bool.not_true, Bool.false_eq_true, false_or,
      Nat.not_le.2 hcond, if_false]
    cases condHolds (bits w 0 4) (sreg (coreAt s c) (srcA w)) (sreg (coreAt s c) (srcB w)) with
    | true => exact congrArg _ applyEff_go_quiet
    | false => rfl

/-! ### Loops and words that stop the share -/

/-- A fetch on a word of which two stored bits have flipped is not executed, whatever the row (R77). -/
theorem issue_uncorrectable {s : State} {c : Nat} (hi : mayIssue s c = true) (hpc : pcOf s c ≤ 4095)
    (hflips : popcount 72 (bankFlips s c (activeBank s c) (pcOf s c)) = 2) (mine : Nat → Bool)
    (body : State → Core → Nat → Eff) :
    issue s c quietRun mine body = badFetch s c (pcOf s c) := by
  have hgo : ¬ (!mayIssue s c || decide (4095 < pcOf s c)) = true := by simp [hi, hpc]
  simp only [issue, if_neg hgo, quietRun, strikeFetch, List.foldl_nil]
  exact if_pos hflips

/-- Completion writes the core as the loops' END test leaves it, and the word that follows (R94, R103). -/
theorem coreAt_completed (s : State) (c pc : Nat) :
    coreAt (completed s c pc) c =
      (loopNext { coreAt s c with seq := (coreAt s c).seq + 1, lastPc := pc } pc (coreAt s c).loops).1 := by
  rw [completed, coreAt_setPc, coreAt_setCore]

theorem pcOf_completed {s : State} {c pc : Nat}
    (h : (loopNext { coreAt s c with seq := (coreAt s c).seq + 1, lastPc := pc } pc (coreAt s c).loops).2 < 65536) :
    pcOf (completed s c pc) c =
      (loopNext { coreAt s c with seq := (coreAt s c).seq + 1, lastPc := pc } pc (coreAt s c).loops).2 :=
  pcOf_setPc h

theorem loopNext_again {k : Core} {w : Nat} {l : LoopRec} {rest : List LoopRec} (hs : l.stop = w) (hn : l.iter + 1 < l.n) :
    loopNext k w (l :: rest) =
      (setS { k with loops := { l with iter := l.iter + 1 } :: rest } l.d (l.iter + 1), l.start) := by
  rw [loopNext, if_pos hs, if_pos hn]

theorem loopNext_last {k : Core} {w : Nat} {l : LoopRec} (hs : l.stop = w) (hn : l.n ≤ l.iter + 1) :
    loopNext k w [l] = ({ k with loops := [] }, w + 1) := by
  rw [loopNext, if_pos hs, if_neg (Nat.not_lt.2 hn), loopNext]

theorem loopNext_elsewhere {k : Core} {w : Nat} {l : LoopRec} {rest : List LoopRec} (hs : l.stop ≠ w) :
    loopNext k w (l :: rest) = ({ k with loops := l :: rest }, w + 1) := by
  rw [loopNext, if_neg hs]

theorem setS_loops (k : Core) (i v : Nat) : (setS k i v).loops = k.loops := by
  by_cases hi : i = 0
  · rw [hi, setS_zero]
  · rw [setS_of_ne _ _ hi]

/-- Settles O29: the first three clauses are the ways a fetch ends the share, the others the END test at the innermost loop. -/
theorem loopsAndIllegalWords : Obligations.LoopsAndIllegalWords := by
  unfold Obligations.LoopsAndIllegalWords
  refine ⟨⟨fun s c w h hw ho => ?_, fun s c k hi hp => exec_nop_beyond k hi hp, fun s c hi hpc hflips => ?_⟩,
    fun s c pc l rest hl hpc => ⟨fun hstop hmore hstart => ?_, fun hstop hlast hrest => ?_, fun hstop => ?_⟩⟩
  · rw [exec_nop_fetches h ho, if_neg hw]
  · show execLi c quietRun s = _
    rw [execLi, issue_uncorrectable hi hpc hflips, badFetch]
    split <;> rfl
  · have hnext := loopNext_again (k := { coreAt s c with seq := (coreAt s c).seq + 1, lastPc := pc }) (rest := rest) hstop hmore
    rw [← hl] at hnext
    rw [pcOf_completed (by rw [hnext]; exact Nat.lt_of_le_of_lt hstart (by decide)), coreAt_completed, hnext]
    exact ⟨rfl, setS_loops _ _ _, fun hd => by rw [sreg_setS_same, if_neg hd]; rfl⟩
  · subst hrest
    have hnext := loopNext_last (k := { coreAt s c with seq := (coreAt s c).seq + 1, lastPc := pc }) hstop hlast
    rw [← hl] at hnext
    rw [pcOf_completed (by rw [hnext]; exact Nat.lt_of_le_of_lt (Nat.succ_le_succ hpc) (by decide)), coreAt_completed, hnext]
    exact ⟨rfl, rfl⟩
  · have hnext := loopNext_elsewhere (k := { coreAt s c with seq := (coreAt s c).seq + 1, lastPc := pc }) (rest := rest) hstop
    rw [← hl] at hnext
    rw [pcOf_completed (by rw [hnext]; exact Nat.lt_of_le_of_lt (Nat.succ_le_succ hpc) (by decide)), coreAt_completed, hnext]
    exact ⟨rfl, hl⟩

end Sys2Proof.Machine
end

section
/-! Tile and MMA instructions (R68, R109 to R119). -/

namespace Sys2Proof.Machine

open Sys2Proof

/-! ### Where nothing strikes, the checked operations are the plain ones -/

theorem errLanes_quietRun (x : Nat) : (errLanes quietRun).contains x = false := rfl

/-- An element no operation of which is off is the plain one, without an alarm. -/
theorem checkedElem_sound (fa fb tag : Nat) (as bs xas xbs : List Nat) (old : Nat) (err : Nat → Int) :
    checkedElem fa fb tag as bs xas xbs old false err = (accElem fa fb tag as bs xas xbs old, false) := rfl

theorem checkedOutlier_sound (tag f : Nat) (as bs : List Nat) (old : Nat) (err : Nat → Int) :
    checkedOutlier tag f as bs old false err = (outlierElem tag f as bs old, false) := rfl

theorem strikeBuffers_quietRun (l : List HeldTile) : strikeBuffers quietRun l = l := rfl

/-- The tile an instruction of the MMA family leaves is that of `mmaResult`. -/
theorem mmaSum_quietRun (k : Core) (w : Nat) (g : MmaArgs) (tag : Nat) (h : HeldTile) :
    mmaSum k w g tag h quietRun = accumulate (tileAt k (dst w)) (bit w 0) tag
      (fun i n => decide (i < g.a.rows) && decide (n < g.b.rows) && lane (mreg k (bits w 2 3)) n)
      (fun i n old => (accElem g.a.fmt (weightFmt h) tag (g.aRow i) (weightsOf h n) (g.aScale i) (scalesOf h n) old, false)) := by
  simp only [mmaSum, mmaColumn, errLanes_quietRun, checkedElem_sound, Bool.and_assoc]

/-- With nothing to hold or stop it an instruction of the MMA family goes on, its tile computed (R94, R113). -/
theorem mma_runs {s : State} {c w tag group p : Nat} {g : MmaArgs} {d : Desc} (h : MmaRuns s c w g tag group p d) :
    mma quietRun s c (coreAt s c) w g = .go (mmaResult s c w g tag p) [] := by
  obtain ⟨hfree, hda, hdb, hshape, hpair, hrun, hgroup, htile, htag, hfa, hfw, hreads, hpar, hsum⟩ := h
  have hkeep : ¬ ((!bit w 0) = true ∧ (tileAt (coreAt s c) (dst w)).init = true ∧ (tileAt (coreAt s c) (dst w)).tag ≠ tag) := by
    rcases htag with h | h | h <;> simp [h]
  have hclean : noteFoot s c (mmaReads (coreAt s c) g (bit w 1)) = s := noteFoot_clean hreads
  simp only [mma, if_neg hfree, hda, hdb, hshape, hpair, hrun, hfa, hfw, Bool.not_true, Bool.false_eq_true, or_self,
    if_false, if_neg (Nat.not_lt.2 hgroup), if_neg (Nat.not_le.2 htile), if_neg hkeep, strikeBuffers_quietRun, nextHeld,
    List.headD_cons, hclean, hreads, hpar, hsum, List.append_nil, keepOperands_nil]
  rw [mmaSum_quietRun]
  rfl

theorem applyEff_mma_runs {s : State} {c w tag group p : Nat} {g : MmaArgs} {d : Desc}
    (hr : MmaRuns s c w g tag group p d) :
    applyEff s c (pcOf s c) (mma quietRun s c (coreAt s c) w g) = completed (mmaResult s c w g tag p) c (pcOf s c) := by
  rw [mma_runs hr, applyEff_go_quiet]

/-- Settles O32: each row's guard is cleared by the fields' ranges, and the MMA family's common course ends in `mmaResult`. -/
theorem tileInstructionsComplete : Obligations.TileInstructionsComplete := by
  unfold Obligations.TileInstructionsComplete
  refine ⟨fun s c w h => ⟨fun ho hd hfmt => ?_, fun ho hd => ?_, fun ho hd => ?_⟩,
    fun s c w tag group p d h => ⟨fun g ho hd hg hr => ?_, fun g ho hd hh hg hr => ?_,
      fun g G taps words tap ho hd hh hG htaps htap hwords hg hr => ?_, fun g ho hd hg hr => ?_⟩,
    fun s c w d h ho hd hrun htile hout hda hdb hfa hfb hcols hsame hfp hcodes hsum => ?_,
    fun s c w h ho hout => ?_, fun s c n hwait => ?_⟩
  · show execTset c quietRun s = _
    simp only [execTset, issue_fetches h (isOp_of_opc ho), hd, Bool.not_true, Bool.false_eq_true, false_or,
      if_neg (Nat.not_le.2 hfmt), applyEff_go_quiet]
  · show execTadv c quietRun s = _
    simp only [execTadv, issue_fetches h (isOp_of_opc ho), hd, Bool.not_true, Bool.false_eq_true, if_false, applyEff_go_quiet]
  · show execTedge c quietRun s = _
    simp only [execTedge, issue_fetches h (isOp_of_opc ho), hd, Bool.not_true, Bool.false_eq_true, if_false, applyEff_go_quiet]
  · show execMma c quietRun s = _
    simp only [execMma, issue_fetches h (isOp_of_opc ho), hd, Bool.not_true, Bool.false_eq_true, if_false]
    rw [← hg, applyEff_mma_runs hr]
  · show execMmaw c quietRun s = _
    simp only [execMmaw, issue_fetches h (isOp_of_opc ho), hd, Bool.not_true, Bool.false_eq_true, false_or, if_neg hh]
    rw [← hg, applyEff_mma_runs hr]
  · subst hG htaps htap hwords
    show execMmad c quietRun s = _
    simp only [execMmad, issue_fetches h (isOp_of_opc ho), hd, Bool.not_true, Bool.false_eq_true, false_or, if_neg hh]
    rw [← hg, applyEff_mma_runs hr]
  · show execMmac c quietRun s = _
    simp only [execMmac, issue_fetches h (isOp_of_opc ho), hd, Bool.not_true, Bool.false_eq_true, if_false]
    rw [← hg, applyEff_mma_runs hr]
  · have hshape : ¬ ((!descOk (treg (coreAt s c) (srcA w))) = true ∨ (!descOk (treg (coreAt s c) (srcB w))) = true ∨
        (treg (coreAt s c) (srcA w)).fmt ≠ 8 ∨ (treg (coreAt s c) (srcB w)).fmt ≠ 8 ∨ 8 < (treg (coreAt s c) (srcA w)).cols ∨
        (treg (coreAt s c) (srcA w)).cols ≠ (treg (coreAt s c) (srcB w)).cols) := by
      simp [hda, hdb, hfa, hfb, hsame ▸ hcols, hsame]
    show execOacc c quietRun s = _
    simp only [execOacc, issue_fetches h (isOp_of_opc ho), hd, hout, hrun, Bool.not_true, Bool.false_eq_true, if_false,
      if_neg hshape, if_neg (Nat.not_le.2 htile), hfp, errLanes_quietRun, checkedOutlier_sound, noteFoot_clean hcodes, hcodes]
    simp only [Bool.not_eq_true', hsum, List.append_nil, keepOperands_nil, applyEff_go_quiet]
  · show execOacc c quietRun s = _
    simp only [execOacc, issue_fetches h (isOp_of_opc ho), if_pos hout]
    rfl
  · show execMmaFamilyStart c s = _
    simp only [execMmaFamilyStart, hwait]

end Sys2Proof.Machine
end

section
/-! The vector instructions: lane-wise (R120 to R125, R133), and the rows' (R126 to R132). -/

namespace Sys2Proof.Machine

open Sys2Proof

theorem errOf_quietRun (j op : Nat) : errOf quietRun j op = 0 := rfl

/-- An operation that is not off has the plain result. -/
theorem vopOff_zero (fn f x y : Nat) : vopOff fn f x y 0 = vopRes fn f x y := if_pos (.inl rfl)

theorem any_errLanes_quietRun (p : Nat → Bool) : (errLanes quietRun).any p = false := rfl

theorem vecAlarm_false : vecAlarm false = [] := rfl

/-- Settles O34: each row's guard is cleared by the format, function and fields, and where nothing is off its body writes the plain results. -/
theorem laneInstructionsComplete : Obligations.LaneInstructionsComplete := by
  unfold Obligations.LaneInstructionsComplete
  rintro s c w f n k h rfl rfl rfl
  refine ⟨fun ho hd hfmt hfn => ?_, fun ho hd hfmt hfn => ?_, fun ho hd hfmt hcond => ?_, fun ho hd hfmt => ?_,
    fun df m part ho hd hdf hm hpart hconv htrunc hfits => ?_, fun ho hd hfmt => ?_⟩
  · show execVop c quietRun s = _
    simp only [execVop, issue_fetches h (isOp_of_opc ho), hd, hfmt, hfn, Bool.not_true, Bool.false_eq_true, or_self, if_false,
      errOf_quietRun, vopOff_zero, any_errLanes_quietRun, vecAlarm_false, applyEff_go_quiet]
  · show execVops c quietRun s = _
    simp only [execVops, issue_fetches h (isOp_of_opc ho), hd, hfmt, hfn, Bool.not_true, Bool.false_eq_true, or_self, if_false,
      errOf_quietRun, vopOff_zero, any_errLanes_quietRun, vecAlarm_false, applyEff_go_quiet]
  · show execVcmp c quietRun s = _
    simp only [execVcmp, issue_fetches h (isOp_of_opc ho), hd, hfmt, Bool.not_true, Bool.false_eq_true, false_or,
      if_neg (Nat.not_le.2 hcond), applyEff_go_quiet]
  · show execVsel c quietRun s = _
    simp only [execVsel, issue_fetches h (isOp_of_opc ho), hd, hfmt, Bool.not_true, Bool.false_eq_true, or_self, if_false,
      applyEff_go_quiet]
  · subst hdf hm hpart
    have hround : ¬ (bit w 13 = true ∧ (isIntFmt (vfmt w) = true ∨ (!isIntFmt (bits w 8 5)) = true)) := by
      rcases htrunc with hb | ⟨hs, hd⟩
      · simp [hb]
      · simp [hs, hd]
    show execVcvt c quietRun s = _
    simp only [execVcvt, issue_fetches h (isOp_of_opc ho), hd, hconv, Bool.not_true, Bool.false_eq_true, false_or,
      hround, if_neg (Nat.not_lt.2 hfits), applyEff_go_quiet]
  · show execVbc c quietRun s = _
    simp only [execVbc, issue_fetches h (isOp_of_opc ho), hd, hfmt, Bool.not_true, Bool.false_eq_true, or_self, if_false,
      applyEff_go_quiet]

/-! ### Requantisation, functions, reductions, accumulator reads and microscaling -/

/-- Pairing each entry with its place and forgetting it again is the list. -/
theorem map_zip_range_snd {α β : Type} (f : α → β) (l : List α) :
    (List.zip (List.range l.length) l).map (fun p => f p.2) = l.map f := by
  show (List.zip (List.range l.length) l).map (f ∘ Prod.snd) = _
  rw [← List.map_map, List.map_snd_zip (by rw [List.length_range])]

/-- A requantisation whose product and shift are not off is `requant` (R126). -/
theorem requantOff_zero (x M : Int) (S : Nat) (Z : Int) (U : Nat) : requantOff (x * M + 0) S Z U 0 = requant x M S Z U := by
  rw [requantOff, Int.add_zero, Int.add_zero]
  rfl

theorem isOp_and_of_opc {o w : Nat} {b : Bool} (h : opc w = o) (hb : b = true) : (isOp o w && b) = true := by
  rw [isOp_of_opc h, hb, Bool.and_true]

/-- Settles O35: each row's guard is cleared by the fields, and where nothing is off its body writes the plain results. -/
theorem rowInstructionsComplete : Obligations.RowInstructionsComplete := by
  unfold Obligations.RowInstructionsComplete
  rintro s c w f n k a h rfl rfl rfl rfl
  refine ⟨fun ho hd hfmt hpart => ?_, fun ho hd hlo hhi hfn => ?_, fun op G rs ho hd hfmt hop hG hsome hG0 hfit hcount hrs => ?_,
    fun g rs ho hd hfmt hg hfit hcount hrs => ?_, fun op S G rs ho hd hfmt hop hS hG hsome hmean hfit hrs => ?_,
    fun r d ho hd hr hrow hrun htile hcodes => ?_, fun blocks ho h14 hd hlo hhi h15 hblocks => ?_,
    fun rs ho h14 hd hfmt hrs => ?_⟩
  · show execVreq c quietRun s = _
    simp only [execVreq, issue_fetches h (isOp_of_opc ho), hd, Bool.not_true, Bool.false_eq_true, false_or,
      Nat.not_le.2 hfmt, if_neg (Nat.not_lt.2 hpart), errOf_quietRun, any_errLanes_quietRun, vecAlarm_false, requantOff_zero, applyEff_go_quiet]
  · show execVfn c quietRun s = _
    simp only [execVfn, issue_fetches h (isOp_of_opc ho), hd, Bool.not_true, Bool.false_eq_true, false_or,
      Nat.not_lt.2 hlo, Nat.not_lt.2 hhi, if_neg (Nat.not_le.2 hfn), applyEff_go_quiet]
  · subst hop hG hrs
    have hsum : ¬ (bits w 8 3 = 2 ∧ 64 < lanes (vfmt w) / 2 ^ bits w 11 4) := fun ⟨h2, hlt⟩ => Nat.not_lt.2 (hcount h2) hlt
    show execVred c quietRun s = _
    simp only [execVred, issue_fetches h (isOp_of_opc ho), hd, hfmt, Bool.not_true, Bool.false_eq_true, false_or,
      Nat.not_le.2 hsome, hG0, Nat.not_lt.2 hfit, if_neg hsum, errOf_quietRun, map_zip_range_snd, any_errLanes_quietRun, Bool.and_false,
      vecAlarm_false, applyEff_go_quiet]
  · subst hg hrs
    show execVarg c quietRun s = _
    simp only [execVarg, issue_fetches h (isOp_of_opc ho), hd, hfmt, Bool.not_true, Bool.false_eq_true, false_or,
      Nat.not_lt.2 hfit, if_neg (Nat.not_lt.2 hcount), applyEff_go_quiet]
  · subst hop hS hG hrs
    have hone : ¬ (bits w 8 2 = 2 ∧ vfmt w ≠ 5 ∧ vfmt w ≠ 10) := fun ⟨h2, h5, h10⟩ => (hmean h2).elim h5 h10
    show execVpool c quietRun s = _
    simp only [execVpool, issue_fetches h (isOp_of_opc ho), hd, hfmt, Bool.not_true, Bool.false_eq_true, false_or,
      hsome, hone, if_neg (Nat.not_lt.2 hfit), errOf_quietRun, any_errLanes_quietRun, Bool.and_false,
      vecAlarm_false, applyEff_go_quiet]
  · have hsum : (sreg (coreAt s c) (srcB w) + bits w 0 4) % word32 = r := hr.symm
    show execVacc c quietRun s = _
    simp only [execVacc, issue_fetches h (isOp_of_opc ho), hd, hsum, hrun, Bool.not_true, Bool.false_eq_true, false_or,
      if_neg (Nat.not_lt.2 hrow), if_neg (Nat.not_le.2 htile), hcodes, applyEff_go_quiet]
  · subst hblocks
    show execVmxqQuantise c quietRun s = _
    simp only [execVmxqQuantise, issue_fetches h (mine := fun w => isOp 0x2B w && !bit w 14) (isOp_and_of_opc ho (congrArg not h14)), hd, h15, Bool.not_true, Bool.false_eq_true, false_or,
      Nat.not_lt.2 hlo, Nat.not_lt.2 hhi, if_false, applyEff_go_quiet]
  · subst hrs
    show execVmxqExpand c quietRun s = _
    simp only [execVmxqExpand, issue_fetches h (mine := fun w => isOp 0x2B w && bit w 14) (isOp_and_of_opc ho h14), hd, hfmt, Bool.not_true, Bool.false_eq_true, false_or,
      ne_eq, not_true_eq_false, if_false, applyEff_go_quiet]

end Sys2Proof.Machine
end

section
/-! Numbers in memory (R15), and the accesses of the core's own scratchpad (R136, R151, R152). -/

namespace Sys2Proof.Machine

open Sys2Proof

/-! ### Little-endian numbers -/

/-- Reading back the little-endian bytes of a number gives it, as far as they reach (R15). -/
theorem leNat_leBytes (n v : Nat) : leNat (leBytes n v) = v % 2 ^ (8 * n) := by
  induction n generalizing v with
  | zero => rw [leBytes, leNat, Nat.mul_zero, Nat.pow_zero, Nat.mod_one]
  | succ n ih => rw [leBytes, leNat, ih, BitVec.toNat_ofNat, Nat.mul_succ, Nat.add_comm (8 * n) 8, Nat.pow_add, Nat.mod_mul]

theorem leNat_append (l r : List Byte) : leNat (l ++ r) = leNat l + 2 ^ (8 * l.length) * leNat r := by
  induction l with
  | nil => simp [leNat]
  | cons b l ih =>
    rw [List.cons_append, leNat, ih, leNat, List.length_cons, Nat.mul_succ, Nat.pow_add]
    ring

theorem memBytes_length (m : List Host.Cell) (a n : Nat) : (memBytes m a n).length = n := by
  induction n generalizing a with
  | zero => rfl
  | succ n ih => rw [memBytes, List.length_cons, ih]

theorem memBytes_append (m : List Host.Cell) (a p q : Nat) :
    memBytes m a (p + q) = memBytes m a p ++ memBytes m (a + p) q := by
  induction p generalizing a with
  | zero => rw [Nat.zero_add, memBytes, List.nil_append, Nat.add_zero]
  | succ p ih => rw [Nat.succ_add, memBytes, memBytes, ih, List.cons_append, Nat.add_right_comm, Nat.add_assoc a p 1]

/-- Only the bytes of a span determine its contents. -/
theorem memBytes_congr {m m' : List Host.Cell} {a n : Nat}
    (h : ∀ b, a ≤ b → b < a + n → memByte m b = memByte m' b) : memBytes m a n = memBytes m' a n := by
  induction n generalizing a with
  | zero => rfl
  | succ n ih =>
    rw [memBytes, memBytes, h a (Nat.le_refl a) (by omega), ih fun b hlo hhi => h b (by omega) (by omega)]

/-- A written list of bytes is read back. -/
theorem memBytes_memWrite (m : List Host.Cell) (a : Nat) (l : List Byte) : memBytes (memWrite m a l) a l.length = l := by
  induction l generalizing m a with
  | nil => rfl
  | cons v l ih =>
    rw [memWrite, List.length_cons, memBytes, ih, memByte_memWrite_outside _ _ _ _ (.inl (Nat.lt_succ_self a)),
      memByte_memPut_same]

theorem memLE_add (m : List Host.Cell) (a p q : Nat) :
    memLE m a (p + q) = memLE m a p + 2 ^ (8 * p) * memLE m (a + p) q := by
  rw [memLE, memBytes_append, leNat_append, memBytes_length]
  rfl

theorem memLE_memWrite_leBytes (m : List Host.Cell) (a n v : Nat) :
    memLE (memWrite m a (leBytes n v)) a n = v % 2 ^ (8 * n) := by
  have hread := memBytes_memWrite m a (leBytes n v)
  rw [leBytes_length] at hread
  rw [memLE, hread, leNat_leBytes]

theorem memLE_memWrite_above (m : List Host.Cell) {a b n : Nat} (l : List Byte) (h : a + n ≤ b) :
    memLE (memWrite m b l) a n = memLE m a n := by
  rw [memLE, memBytes_congr fun x _ hx => memByte_memWrite_outside m b l x (.inl (by omega))]
  rfl

/-! ### The scratchpad's words -/

theorem spStore_mem (s : State) (c w v : Nat) : (spStore s c w v).mem = memWrite s.mem (spAddr c w) (leBytes 32 v) := rfl

theorem spAddr_add (c w n : Nat) : spAddr c (w + n) = spAddr c w + 32 * n := by
  rw [spAddr, spAddr, Nat.mul_add, ← Nat.add_assoc]

theorem memByte_spStore_outside (s : State) (c w v : Nat) {b : Nat} (h : b < spAddr c w ∨ spAddr c w + 32 ≤ b) :
    memByte (spStore s c w v).mem b = memByte s.mem b := by
  rw [spStore_mem]
  exact memByte_memWrite_outside _ _ _ _ (by rwa [leBytes_length])

/-- A store writes no byte beside its words. -/
theorem memByte_spStores_outside (s : State) (c w v n : Nat) {b : Nat} (h : b < spAddr c w ∨ spAddr c w + 32 * n ≤ b) :
    memByte (spStores s c w v n).mem b = memByte s.mem b := by
  induction n with
  | zero => rfl
  | succ n ih =>
    rw [spStores, memByte_spStore_outside _ _ _ _ (by rw [spAddr_add]; omega), ih (by omega)]

/-- The words of a store read back as the number stored, as far as they reach. -/
theorem spWords_spStores (s : State) (c w v n : Nat) : spWords (spStores s c w v n) c w n = v % 2 ^ (256 * n) := by
  induction n with
  | zero => rw [Nat.mul_zero, Nat.pow_zero, Nat.mod_one]; rfl
  | succ n ih =>
    have hlow : memLE (spStores s c w v (n + 1)).mem (spAddr c w) (32 * n) = v % 2 ^ (256 * n) := by
      rw [spStores, spStore_mem, memLE_memWrite_above _ _ (Nat.le_of_eq (spAddr_add c w n).symm)]
      exact ih
    have hhigh : memLE (spStores s c w v (n + 1)).mem (spAddr c w + 32 * n) 32 = v / 2 ^ (256 * n) % 2 ^ 256 := by
      rw [spStores, spStore_mem, spAddr_add, memLE_memWrite_leBytes]
      exact Nat.mod_eq_of_lt (bits_lt _ _ _)
    calc spWords (spStores s c w v (n + 1)) c w (n + 1)
      _ = v % 2 ^ (256 * n) + 2 ^ (256 * n) * (v / 2 ^ (256 * n) % 2 ^ 256) := by
        rw [spWords, Nat.mul_succ, memLE_add, hlow, hhigh, show 8 * (32 * n) = 256 * n by omega]
      _ = v % 2 ^ (256 * (n + 1)) := by rw [Nat.mul_succ, Nat.pow_add, Nat.mod_mul]

theorem markOut_mem (s : State) (c : Nat) (out : Bool) (r : VReg) : (markOut s c out r).mem = s.mem := by
  cases out <;> rfl

theorem completed_mem (s : State) (c pc : Nat) : (completed s c pc).mem = s.mem := rfl

/-- Settles O37: each row's guard is cleared by the fields and the words, and the stores' frames are those of their words. -/
theorem localAccessesComplete : Obligations.LocalAccessesComplete := by
  unfold Obligations.LocalAccessesComplete
  refine ⟨?_, fun s c a v n pc b out r hb => ?_, fun s c a v n hv => ?_, fun s c a v pc b hb => ?_⟩
  · rintro s c w a n h rfl rfl
    refine ⟨fun ho hd hspan hread => ?_, fun ho hd hspan => ?_, fun ho h19 hd hok hread => ?_, fun ho h19 hd hok => ?_⟩
    · show execVld c quietRun s = _
      simp only [execVld, issue_fetches h (isOp_of_opc ho), hd, hspan, hread, noteRows_clean hread, Bool.not_true,
        Bool.false_eq_true, if_false, applyEff_go_quiet]
    · show execVst c quietRun s = _
      simp only [execVst, issue_fetches h (isOp_of_opc ho), hd, hspan, Bool.not_true, Bool.false_eq_true, if_false,
        applyEff_go_quiet]
    · show execSlsLoad c quietRun s = _
      simp only [execSlsLoad, issue_fetches h (mine := fun w => isOp 0x32 w && !bit w 19) (isOp_and_of_opc ho (congrArg not h19)),
        hd, hok, hread, noteRows_clean hread, Bool.not_true, Bool.false_eq_true, if_false, applyEff_go_quiet]
    · show execSlsStore c quietRun s = _
      simp only [execSlsStore, issue_fetches h (mine := fun w => isOp 0x32 w && bit w 19) (isOp_and_of_opc ho h19), hd, hok,
        Bool.not_true, Bool.false_eq_true, if_false, applyEff_go_quiet]
  · rw [completed_mem, markOut_mem, memByte_spStores_outside _ _ _ _ _ hb]
  · rw [spWords_spStores, Nat.mod_eq_of_lt hv]
  · rw [completed_mem, memByte_spStore_outside _ _ _ _ hb]

end Sys2Proof.Machine
end

section
/-! What a report and the end of a share leave alone, and XFER (R137). -/

namespace Sys2Proof.Machine

open Sys2Proof

/-! ### The stores: a report changes none of them, its doubt included -/

/-- Main memory, host memory and the cores. -/
def stores (s : State) : List Host.Cell × List Host.Cell × List (Nat × Core) := (s.mem, s.hostMem, s.cores)

theorem OnlyReports.stores {s t : State} (h : OnlyReports s t) : stores t = stores s :=
  (congrArg (Machine.stores ·) h :)

theorem foldl_putCell_stores (l : Nat) (cs : List SentCell) (s : State) : stores (cs.foldl (putCell l) s) = stores s :=
  foldl_keeps (f := putCell l) stores (fun _ _ => rfl) cs s

theorem giveCell_stores (s : State) (l : Nat) (h : CellHead) (pseq : Nat) (data : List Byte) (fwd : Bool) :
    stores (giveCell s l h pseq data fwd) = stores s := by
  unfold giveCell
  split
  · exact foldl_putCell_stores _ _ _
  · rfl

theorem roleReg_stores (s : State) (role : Nat) (partner : Bool) : stores (roleReg s role partner) = stores s := by
  unfold roleReg
  dsimp only
  split
  · rfl
  · exact (raiseInt_onlyReports _ _).stores

theorem leavePair_stores (s : State) (cause : Nat) : stores (leavePair s cause) = stores s := by
  have hsend (t : State) (l : Nat) :
      stores (if pairLinkUp t l then sendPairOn t l 3 0 (tokenBytes 5 0 0 0 0 cause) else t) = stores t := by
    split
    · exact giveCell_stores _ _ _ _ _ _
    · rfl
  unfold leavePair
  split
  · rfl
  · exact (roleReg_stores _ _ _).trans (foldl_keeps stores hsend _ s)

theorem driven_stores (s : State) : stores (readingInvalid (driveSafe s)) = stores s := rfl

theorem doubtWith_stores (s : State) (cause ssc : Nat) : stores (doubtWith s cause ssc) = stores s := by
  unfold doubtWith
  dsimp only
  split
  · rfl
  · rw [leavePair_stores, (afterLatch_onlyReports _ _).stores, driven_stores]
    rfl

theorem report_stores (s : State) (code inst detail : Nat) : stores (report s code inst detail) = stores s := by
  have hnote := (note_onlyReports s code inst (sideNow s code) detail).stores
  unfold report
  dsimp only
  split
  · exact (doubtWith_stores _ _ _).trans hnote
  · exact hnote

theorem report_mem (s : State) (code inst detail : Nat) : (report s code inst detail).mem = s.mem :=
  congrArg Prod.fst (report_stores s code inst detail)

theorem coreSticky_mem (s : State) (c code : Nat) : (coreSticky s c code).mem = s.mem := by
  unfold coreSticky
  split <;> rfl

theorem coreReport_mem (s : State) (c code : Nat) : (coreReport s c code).mem = s.mem :=
  (report_mem _ _ _ _).trans (coreSticky_mem _ _ _)

theorem dropWaitBits_mem (s : State) (c : Nat) : (dropWaitBits s c).mem = s.mem := by
  unfold dropWaitBits
  dsimp only
  split
  · split <;> rfl
  · split <;> rfl
  · rfl

/-- The end of a share by an event changes no byte of memory. -/
theorem shareEvent_mem (s : State) (c code pc seq : Nat) : (shareEvent s c code pc seq).mem = s.mem :=
  (coreReport_mem _ _ _).trans (dropWaitBits_mem _ _)

/-! ### XFER -/

/-- A landing XFER writes no byte beside its words. -/
theorem memByte_land_outside {s : State} {c a n data b : Nat} {o : OutWrite} {count : Option (Nat × Nat)} (p : Bool)
    (hk : o.kind = .xfer a n data count) (hb : b < a ∨ a + 32 * n ≤ b) : memByte (land s c o p).mem b = memByte s.mem b := by
  have hwrite : memByte (devWrite s a (leBytes (32 * n) data) p).mem b = memByte s.mem b :=
    memByte_memWrite_outside _ _ _ _ (by rwa [leBytes_length])
  unfold land
  simp only [hk]
  split
  · exact hwrite
  · split
    · rw [shareEvent_mem, hwrite]
    · rw [wr_mem, hwrite]

/-- Settles O38: each row's guard is cleared by the fields and the address, and an answer takes the branch of its kind. -/
theorem transfersComplete : Obligations.TransfersComplete := by
  unfold Obligations.TransfersComplete
  refine ⟨?_, fun s c i a n data count o p ho hland hk hdev => ?_, fun s c i o p ho hland hk => ?_,
    fun s c i r hr hdev => ?_, fun s c i r hr => ?_, fun s c o a n data b count p hk hb => memByte_land_outside p hk hb⟩
  · rintro s c w a n h hf ho rfl rfl rfl hdev hremote
    refine ⟨fun h19 hd hcount htag => ?_, fun h19 hd => ?_⟩
    · have hcounter : ¬ (bit w 21 = true ∧
          wrongCounter s (xferAddr (coreAt s c) w) (creg (coreAt s c) (bits w 22 5)) = true) := by
        rcases hcount with h | ⟨h, _⟩ <;> simp [h]
      have hdram : ¬ (bit w 21 = true ∧ inDram s (xferAddr (coreAt s c) w) = true) := by
        rcases hcount with h | ⟨_, h⟩ <;> simp [h]
      show execXferWrite c quietRun s = _
      simp only [execXferWrite, issue_fetches hf (mine := fun w => isOp 0x37 w && !bit w 19) (isOp_and_of_opc ho (congrArg not h19)),
        hd, hdev, hremote, htag, if_neg hcounter, hdram, Bool.not_true, Bool.false_eq_true, or_self, if_false, applyEff_go_quiet]
    · show execXferRead c quietRun s = _
      simp only [execXferRead, issue_fetches hf (mine := fun w => isOp 0x37 w && bit w 19) (isOp_and_of_opc ho h19),
        hd, hdev, hremote, Bool.not_true, Bool.false_eq_true, if_false, applyEff_go_quiet]
      rfl
  · show execRemoteWriteAck c i false p s = _
    simp only [execRemoteWriteAck, ho, hland, hk, hdev, Bool.not_true, Bool.false_eq_true, or_self, if_false]
  · show execRemoteWriteAck c i true p s = _
    simp only [execRemoteWriteAck, ho, hland, Bool.not_true, Bool.false_eq_true, if_false]
    cases hkind : o.kind with
    | slot r => exact absurd hkind (hk r)
    | cset cnt v => rfl
    | xfer a n d count => rfl
  · show execXferReadResponse c i .good s = _
    simp only [execXferReadResponse, hr, hdev, answerFailed, answerInput, takeAnswer, Bool.not_true, Bool.false_eq_true, or_self,
      if_false, false_and, List.any_nil, Bool.or_false]
    cases (coreAt s c).run <;> rfl
  · show execXferReadResponse c i .error s = _
    simp only [execXferReadResponse, hr, answerFailed, true_or, if_true, takeAnswer]

end Sys2Proof.Machine
end

section
/-! Ring instructions (R138, R139, R159 to R161, R167). -/

namespace Sys2Proof.Machine

open Sys2Proof

/-! ### A wait that ends -/

/-- The state in which the instruction of a wait that ends has its effect. -/
def resumed (s : State) (c : Nat) : State :=
  wr (modCore s c fun k => { k with wait := none }) R.CORE_STATE.WAITING c 0

theorem coreAt_resumed (s : State) (c : Nat) : coreAt (resumed s c) c = { coreAt s c with wait := none } := by
  show coreAt (modCore s c fun k => { k with wait := none }) c = _
  rw [coreAt_modCore]

theorem coreAt_resumed_ne (s : State) {c d : Nat} (h : d ≠ c) : coreAt (resumed s c) d = coreAt s d := by
  show coreAt (modCore s c fun k => { k with wait := none }) d = _
  rw [coreAt_modCore_ne _ _ h]

theorem rd_resumed (s : State) (c : Nat) {f : Fld} (i : Nat) (hlo : f.lo < 32) (hoff : f.off ≠ R.CORE_STATE.WAITING.off) :
    rd (resumed s c) f i = rd s f i :=
  rd_wr_ne _ _ _ _ (Fld.key_ne _ _ hlo (by decide) (.inl hoff))

/-- A core's wait is no part of any ring. -/
theorem ringX_resumed (s : State) (c d r : Nat) : ringX (resumed s c) d r = ringX s d r := by
  by_cases h : d = c
  · rw [ringX, h, coreAt_resumed]
    rfl
  · rw [ringX, coreAt_resumed_ne s h, ringX]

theorem ringFill_resumed (s : State) (c d r : Nat) : ringFill (resumed s c) d r = ringFill s d r :=
  rd_resumed s c d (show R.SPAD_RING_STATE.FILL.lo < 32 by decide)
    (show R.SPAD_RING_STATE.FILL.off ≠ R.CORE_STATE.WAITING.off by decide)

theorem ringHead_resumed (s : State) (c d r : Nat) : ringHead (resumed s c) d r = ringHead s d r :=
  rd_resumed s c d (show R.SPAD_RING_STATE.HEAD.lo < 32 by decide)
    (show R.SPAD_RING_STATE.HEAD.off ≠ R.CORE_STATE.WAITING.off by decide)

theorem ringBase_resumed (s : State) (c d r : Nat) : ringBase (resumed s c) d r = ringBase s d r :=
  rd_resumed s c d (show R.SPAD_RING_CFG0.BASE.lo < 32 by decide)
    (show R.SPAD_RING_CFG0.BASE.off ≠ R.CORE_STATE.WAITING.off by decide)

theorem slotWords_resumed (s : State) (c d r : Nat) : slotWords (resumed s c) d r = slotWords s d r :=
  congrArg (· + 1) (rd_resumed s c d (show R.SPAD_RING_CFG0.SLOT_WM1.lo < 32 by decide)
    (show R.SPAD_RING_CFG0.SLOT_WM1.off ≠ R.CORE_STATE.WAITING.off by decide))

theorem ringCount_resumed (s : State) (c d r : Nat) : ringCount (resumed s c) d r = ringCount s d r :=
  rd_resumed s c d (show R.SPAD_RING_CFG1.COUNT.lo < 32 by decide)
    (show R.SPAD_RING_CFG1.COUNT.off ≠ R.CORE_STATE.WAITING.off by decide)

theorem granted_resumed (s : State) (c d r : Nat) : granted (resumed s c) d r = granted s d r := by
  rw [granted, ringX_resumed, granted]

theorem ringRoom_resumed (s : State) (c d r : Nat) : ringRoom (resumed s c) d r = ringRoom s d r := by
  rw [ringRoom, ringFill_resumed, ringX_resumed, ringCount_resumed, ringRoom]

theorem readCodes_resumed (s : State) (c d a n : Nat) : readCodes (resumed s c) d a n = readCodes s d a n := rfl

/-- A wait whose instruction goes on without a code ends in its completion. -/
theorem endWait_go {s t : State} {c : Nat} {e : State → Core → Nat → Eff}
    (h : e (resumed s c) (coreAt (resumed s c) c) (bankWord s c (activeBank s c) (pcOf s c)) = .go t []) :
    endWait s c e = completed t c (pcOf s c) := by
  rw [resumed] at h
  simp only [endWait, h]
  exact applyEff_go_quiet (s := s)

/-! ### The rows -/

/-- Settles O39: each row's guard is cleared by the fields and the ring's state; a wait that ends reads the ring as it stood. -/
theorem ringInstructionsComplete : Obligations.RingInstructionsComplete := by
  unfold Obligations.RingInstructionsComplete
  refine ⟨fun s c w h => ⟨?bind, ?bindCounter, ?put, ?get, ?window⟩, fun s c r hwant => ⟨fun hbad hroom => ?_, fun p hbad hp => ?_⟩,
    fun s c r i data p v hv hdata hland => ⟨fun hbad => ?_, fun hbad => ?_⟩, fun s c since h hwait hh ho hfill hbad hread => ?_,
    fun s c since h hwait hh ho hfill hbad => ?_, fun s s1 t c since h hwait hh hbad hgrant hs1 hput => ?_⟩
  case bind =>
    intro o ho h5 hd hr hown hpres hen hcons hprod
    have hrange : ¬ ((!decOk w .h .s .none [(0, 8)]) = true ∨ 16 ≤ bits w 0 5) := by simp [hd, hr]
    have hbound : ¬ ((!present s o) = true ∨ (!ringEn s o (bits w 0 5)) = true ∨ ((!bit w 7) = true ∧ o ≠ c) ∨
        (bit w 7 = true ∧ ringProducer s o (bits w 0 5) ≠ .core c)) := by
      rw [hpres, hen]
      cases h7 : bit w 7 with
      | true => simp [hprod h7]
      | false => simp [hcons h7]
    show execBindRing c quietRun s = _
    simp only [execBindRing, issue_fetches h (mine := fun w => isOp 0x33 w && !bit w 5) (isOp_and_of_opc ho (congrArg not h5)),
      if_neg hrange, ← hown, if_neg hbound, applyEff_go_quiet]
  case bindCounter =>
    intro o ho h5 hd hown hpres
    show execBindCounter c quietRun s = _
    simp only [execBindCounter, issue_fetches h (mine := fun w => isOp 0x33 w && bit w 5) (isOp_and_of_opc ho h5), hd, ← hown,
      hpres, Bool.not_true, Bool.false_eq_true, if_false, applyEff_go_quiet]
  case put =>
    intro hd t ho hdec hh hprod hbad
    refine ⟨fun hgrant hput => ?_, fun hgrant => ?_⟩
    · show execRput c quietRun s = _
      simp only [execRput, issue_fetches h (isOp_of_opc ho), hdec, hh, hprod, hbad, Bool.not_true, Bool.false_eq_true, if_false,
        (Bool.or_eq_true _ _).mp hgrant, if_true, hput, applyEff_go_quiet]
    · have hno : ¬ (granted s hd.core hd.index = true ∨ ringRoom s hd.core hd.index = true) := by
        rw [← Bool.or_eq_true, hgrant]
        exact Bool.false_ne_true
      show execRput c quietRun s = _
      simp only [execRput, issue_fetches h (isOp_of_opc ho), hdec, hh, hprod, hbad, Bool.not_true, Bool.false_eq_true, if_false,
        if_neg hno]
      rfl
  case get =>
    rintro r a z ho hdec hr rfl rfl hbad
    refine ⟨fun hfill hread => ?_, fun hfill => ?_⟩
    · show execRget c quietRun s = _
      simp only [execRget, issue_fetches h (isOp_of_opc ho), hdec, hr, hbad, Bool.not_true, Bool.false_eq_true, if_false,
        if_neg (Nat.not_lt.2 hfill), hread, noteRows_clean hread, applyEff_go_quiet]
    · show execRget c quietRun s = _
      simp only [execRget, issue_fetches h (isOp_of_opc ho), hdec, hr, hbad, hfill, Bool.not_true, Bool.false_eq_true, if_false,
        Nat.zero_lt_one, if_true]
      rfl
  case window =>
    intro r ho hr hn hbad hfill
    refine ⟨fun h8 hdec hcount hmirror => ?_, fun h8 hdec hreads => ?_⟩
    · show execRwinAcquire c quietRun s = _
      simp only [execRwinAcquire, issue_fetches h (mine := fun w => isOp 0x36 w && !bit w 8) (isOp_and_of_opc ho (congrArg not h8)),
        hdec, hn, hr, hbad, Bool.not_true, Bool.false_eq_true, or_self, if_false, Nat.not_lt.2 hcount, Nat.not_lt.2 hmirror,
        if_neg (Nat.not_lt.2 hfill), applyEff_go_quiet]
    · show execRwinRelease c quietRun s = _
      simp only [execRwinRelease, issue_fetches h (mine := fun w => isOp 0x36 w && bit w 8) (isOp_and_of_opc ho h8),
        hdec, hn, hr, hbad, hreads, Bool.not_true, Bool.false_eq_true, or_self, if_false,
        if_neg (Nat.not_lt.2 hfill), applyEff_go_quiet]
  · show execRingReservationGrant c r s = _
    simp only [execRingReservationGrant, hwant, hbad, hroom, Bool.not_true, Bool.false_eq_true, if_false, if_true]
  · show execRingReservationGrant c r s = _
    simp only [execRingReservationGrant, hwant, hbad, hp, Bool.not_true, Bool.false_eq_true, if_false, if_true]
  · show execRingSlotLanded c r i p s = _
    simp only [execRingSlotLanded, hv, hdata, hland, hbad, Bool.false_eq_true, if_false]
    cases ringProducer s c r <;> rfl
  · show execRingSlotLanded c r i p s = _
    simp only [execRingSlotLanded, hv, hdata, hland, hbad, Bool.false_eq_true, if_false, if_true]
    cases ringProducer s c r <;> rfl
  · show execRingWaitSatisfied c s = _
    simp only [execRingWaitSatisfied, hwait]
    refine congrArg Host.Outcome.next (endWait_go ?_)
    have hclean := noteRows_clean (s := wr (resumed s c) (R.SPAD_RING_STATE.WAIT_RD.nth h.index) c 0) hread
    have hhandle : hreg (coreAt (resumed s c) c) (srcA (bankWord s c (activeBank s c) (pcOf s c))) = some h := by
      rw [coreAt_resumed]
      exact hh
    simp only [hhandle, ringX_resumed, hbad, ho, if_true, ringFill_resumed, if_neg (Nat.not_lt.2 hfill), ringBase_resumed,
      ringHead_resumed, slotWords_resumed, readCodes_resumed, hread, hclean, Bool.false_eq_true, if_false]
    rfl
  · show execRingWaitSatisfied c s = _
    simp only [execRingWaitSatisfied, hwait]
    refine congrArg Host.Outcome.next (endWait_go ?_)
    have hhandle : hreg (coreAt (resumed s c) c) (srcA (bankWord s c (activeBank s c) (pcOf s c))) = some h := by
      rw [coreAt_resumed]
      exact hh
    have hnot : ¬ opc (bankWord s c (activeBank s c) (pcOf s c)) = 0x35 := by rw [ho]; decide
    simp only [hhandle, ringX_resumed, hbad, if_neg hnot, ringFill_resumed, if_neg (Nat.not_lt.2 hfill), ringBase_resumed,
      ringHead_resumed, slotWords_resumed, Bool.false_eq_true, if_false]
    rfl
  · subst hs1
    show execRingWaitSatisfied c s = _
    simp only [execRingWaitSatisfied, hwait]
    refine congrArg Host.Outcome.next (endWait_go ?_)
    have hhandle : hreg (coreAt (resumed s c) c) (dst (bankWord s c (activeBank s c) (pcOf s c))) = some h := by
      rw [coreAt_resumed]
      exact hh
    simp only [hhandle, ringX_resumed, hbad, granted_resumed, ringRoom_resumed, (Bool.or_eq_true _ _).mp hgrant, if_true,
      Bool.false_eq_true, if_false]
    exact hput

end Sys2Proof.Machine
end

section
/-! Counters, fences and Gong barriers (R143 to R146, R163, R165). -/

namespace Sys2Proof.Machine

open Sys2Proof

/-- A field takes what its width holds of a value. -/
theorem wr_mod (s : State) (f : Fld) (i v : Nat) : wr s f i (v % 2 ^ f.width) = wr s f i v := by
  rw [wr, Nat.mod_mod, wr]

theorem cntVal_resumed (s : State) (c d i : Nat) : cntVal (resumed s c) d i = cntVal s d i :=
  rd_resumed s c d (show R.SPAD_CNT.VALUE.lo < 32 by decide)
    (show R.SPAD_CNT.VALUE.off ≠ R.CORE_STATE.WAITING.off by decide)

/-- Settles O40: each row's guard is cleared by the fields, the handle and the counter. -/
theorem countersAndFencesComplete : Obligations.CountersAndFencesComplete := by
  unfold Obligations.CountersAndFencesComplete
  refine ⟨fun s c w h => ⟨fun hd ho hdec hh hown hbad => ?_, fun hd v ho h24 hdec hh hv hbad hself => ?_,
      fun hd v ho h24 hdec hh hown hv hbad hself => ?_, fun ho hdec => ?_⟩, fun s c since hwait hout => ?_,
    fun s c since h hwait hh hbad hreach => ?_, fun s c since code what d hwait hrun hlate hcode => ?_⟩
  · have hmine : ¬ hd.core ≠ c := not_not_intro hown
    show execCwait c quietRun s = _
    simp only [execCwait, issue_fetches h (isOp_of_opc ho), hdec, hh, if_neg hmine, hbad, Bool.not_true, Bool.false_eq_true,
      if_false]
    split
    · exact congrArg _ applyEff_go_quiet
    · rfl
  · show execCsetAdd c quietRun s = _
    simp only [execCsetAdd, issue_fetches h (mine := fun w => isOp 0x39 w && !bit w 24) (isOp_and_of_opc ho (congrArg not h24)),
      hdec, hh, hbad, hself, ← hv, Bool.not_true, Bool.false_eq_true, if_false]
    split <;> exact congrArg _ applyEff_go_quiet
  · have hmine : ¬ hd.core ≠ c := not_not_intro hown
    have hcut : wr s (R.SPAD_CNT.VALUE.nth hd.index) c v =
        wr s (R.SPAD_CNT.VALUE.nth hd.index) c (sreg (coreAt s c) (srcA w) + bits w 0 24) := by
      rw [hv]
      exact wr_mod s (R.SPAD_CNT.VALUE.nth hd.index) c _
    rw [hcut]
    show execCsetSet c quietRun s = _
    simp only [execCsetSet, issue_fetches h (mine := fun w => isOp 0x39 w && bit w 24) (isOp_and_of_opc ho h24),
      hdec, hh, if_neg hmine, hbad, hself, Bool.not_true, Bool.false_eq_true, if_false, applyEff_go_quiet]
    rfl
  · show execFence c quietRun s = _
    simp only [execFence, issue_fetches h (isOp_of_opc ho), hdec, Bool.not_true, Bool.false_eq_true, if_false, List.isEmpty_iff]
    split
    · exact congrArg _ applyEff_go_quiet
    · rfl
  · show execFenceComplete c s = _
    simp only [execFenceComplete, hwait, hout, List.isEmpty_nil, if_true]
    exact congrArg Host.Outcome.next (endWait_go rfl)
  · show execCounterWaitSatisfied c s = _
    simp only [execCounterWaitSatisfied, hwait]
    refine congrArg Host.Outcome.next (endWait_go ?_)
    have hhandle : creg (coreAt (resumed s c) c) (srcA (bankWord s c (activeBank s c) (pcOf s c))) = some h := by
      rw [coreAt_resumed]
      exact hh
    have hgood : tget false (coreAt (resumed s c) c).badCnt h.index = false := by
      rw [coreAt_resumed]
      exact hbad
    have hsreg (i : Nat) : sreg (coreAt (resumed s c) c) i = sreg (coreAt s c) i := by
      rw [coreAt_resumed]
      rfl
    simp only [hhandle, hgood, cntVal_resumed, hsreg, if_pos hreach, Bool.false_eq_true, if_false]
    rfl
  · show execStallWatchdogExpiry c s = _
    rcases hcode with ⟨rfl, rfl⟩ | ⟨rfl, rfl⟩ | ⟨rfl, rfl⟩ <;>
      simp only [execStallWatchdogExpiry, hwait, hrun] <;>
      exact if_neg (by rintro (h | h) <;> omega)

/-! ### Gong barriers -/

/-- The GONG instruction of a share that takes part in its barrier (R144). -/
theorem gong_takesPart {s : State} {k : Core} {w : Nat} {d : Desc} (f : Desc → Eff)
    (hdec : decOk w .none .none .none [(0, 5)] = true) (hform : bits w 3 2 ≠ 3) (hrun : k.run = some d) (hkind : d.kind < 2) :
    gong s k w f = f d := by
  simp only [gong, hdec, hform, hrun, Bool.not_true, Bool.false_eq_true, or_self, if_false, if_neg (Nat.not_le.2 hkind)]

/-- Settles O41: each row's guard is cleared by the fields and the share's kind. -/
theorem gongBarriersComplete : Obligations.GongBarriersComplete := by
  unfold Obligations.GongBarriersComplete
  refine ⟨fun s s1 c w d h ho hdec hrun hkind => ⟨fun hform harr => ?_, fun g n hg hn hzero hform => ?_,
      fun hform harr hgo => ?_⟩, fun s k n i g hg => ?_, fun s c since a b i g d hwait hrun hlate => ?_⟩
  · show execGongArrive c quietRun s = _
    simp only [execGongArrive, issue_fetches h (mine := fun w => isOp 0x3A w && bits w 3 2 == 0)
      (isOp_and_of_opc ho (beq_iff_eq.2 hform)), gong_takesPart _ hdec (by omega : bits w 3 2 ≠ 3) hrun hkind, harr, applyEff_go_quiet]
  · show execGongWait c quietRun s = _
    simp only [execGongWait, issue_fetches h (mine := fun w => isOp 0x3A w && bits w 3 2 == 1)
      (isOp_and_of_opc ho (beq_iff_eq.2 hform)), gong_takesPart _ hdec (by omega : bits w 3 2 ≠ 3) hrun hkind, gongWait, hg]
    subst hn
    rw [if_neg hzero]
    split
    · exact congrArg _ applyEff_go_quiet
    · rfl
  · show execGongSync c quietRun s = _
    simp only [execGongSync, issue_fetches h (mine := fun w => isOp 0x3A w && decide (2 ≤ bits w 3 2))
      (isOp_and_of_opc ho (decide_eq_true (Nat.le_of_eq hform.symm))), gong_takesPart _ hdec (by omega : bits w 3 2 ≠ 3) hrun hkind, harr, hgo, applyEff_go_quiet]
  · show execGongGenerationComplete k n i s = _
    simp only [execGongGenerationComplete, hg]
  · show execGongWaitLimitExpiry c s = _
    simp only [execGongWaitLimitExpiry, hwait, hrun, if_neg (Nat.not_lt.2 hlate)]

end Sys2Proof.Machine
end

section
/-! Core control (R77): what a bank write changes. -/

namespace Sys2Proof.Machine

open Sys2Proof

/-- After reset, a stored bit of word 0 of core 0's bank A flips. -/
def flippedWord : State := { State.reset with bankErr := [(0, 1)] }

/-- The write of that word stores it with its check bits anew. -/
theorem exec_bankWrite_flippedWord :
    exec (.bankWrite 0 0 0 0) flippedWord = .next (setBankValid (putWord flippedWord (bankIx 0 0 0) 0) 0 0 0) := rfl

theorem bankErr_bankWrite_flippedWord :
    (setBankValid (putWord flippedWord (bankIx 0 0 0) 0) 0 0 0).bankErr = [] := rfl

/-- Refutes O42: the second clause frames a bank write by the banks and the registers, but the write also clears the flipped bits
of the word it stores (`putWord`, R77), so that it changes the state's `bankErr` where one of them had flipped. -/
theorem not_coreControlActs : ¬ Obligations.CoreControlActs := by
  unfold Obligations.CoreControlActs
  rintro ⟨_, hwrite, _⟩
  obtain ⟨t, hexec, _, _, _, hframe⟩ := (hwrite flippedWord 0 0 0 0 rfl (by decide) (by decide)).1 rfl
  rw [exec_bankWrite_flippedWord, Host.Outcome.next.injEq] at hexec
  have herr : t.bankErr = [(0, 1)] := congrArg State.bankErr hframe
  rw [← hexec, bankErr_bankWrite_flippedWord] at herr
  exact List.cons_ne_nil _ _ herr.symm

end Sys2Proof.Machine
end

section
/-! Scratchpad power, remapping, hazards and configuration (R153 to R156, R163, R167 to R171). -/

namespace Sys2Proof.Machine

open Sys2Proof

/-! ### Reports of codes that are no doubt -/

theorem report_plain {s : State} {code : Nat} {side : Side} (inst detail : Nat) (hside : sideNow s code = side)
    (hplain : (side == .doubt || side == .controlPath) = false) : report s code inst detail = note s code inst side detail := by
  simp only [report, hside, hplain, Bool.false_eq_true, if_false]

theorem OnlyReports.rowMaps {s t : State} (h : OnlyReports s t) : t.rowMaps = s.rowMaps := (congrArg State.rowMaps h :)

theorem OnlyReports.coreAt {s t : State} (h : OnlyReports s t) (c : Nat) : coreAt t c = coreAt s c := by
  unfold Machine.coreAt
  rw [h.cores]

/-- A remap done is reported with its sticky bit, and is no doubt. -/
theorem coreReport_remapped (s : State) (c : Nat) :
    coreReport s c 0x0205 = note (hit s R.SPAD_ERR.REMAPPED c) 0x0205 c (tableSide 0x0205) 0 :=
  report_plain c 0 rfl (by decide)

/-! ### The row map -/

/-- The entry of a bank that maps a row no longer does (R168). -/
def unmapRow (c bank row : Nat) (s : State) (e : Nat) : State :=
  if isSet s (R.SPAD_ROWMAP.VALID.nth (mapIx bank e)) c ∧ rd s (R.SPAD_ROWMAP.ROW.nth (mapIx bank e)) c = row then
    wr s (R.SPAD_ROWMAP.VALID.nth (mapIx bank e)) c 0 else s

theorem key_nth_idx_ne {f : Fld} {n m i j : Nat} (hn : n < 65536) (hm : m < 65536) (h : n ≠ m) :
    (f.nth n).key i ≠ (f.nth m).key j := by
  simp only [Fld.key, Fld.nth]
  omega

theorem key_nth_lo_ne {f g : Fld} (hf : f.lo < 32) (hg : g.lo < 32) (h : f.off ≠ g.off ∨ f.lo ≠ g.lo) (n m i j : Nat) :
    (f.nth n).key i ≠ (g.nth m).key j := Fld.key_ne i j hf hg h

/-- Two register writes of different registers of an array, or different fields. -/
theorem isSet_wr_ne (s : State) {f g : Fld} {i j : Nat} (v : Nat) (h : f.key i ≠ g.key j) : isSet (wr s g j v) f i = isSet s f i := by
  rw [isSet, rd_wr_ne _ _ _ _ h, isSet]

theorem unmapRow_row (c bank row : Nat) (s : State) (e x : Nat) :
    rd (unmapRow c bank row s e) (R.SPAD_ROWMAP.ROW.nth (mapIx bank x)) c = rd s (R.SPAD_ROWMAP.ROW.nth (mapIx bank x)) c := by
  unfold unmapRow
  split
  · exact rd_wr_ne _ _ _ _ (key_nth_lo_ne (by decide) (by decide) (.inr (by decide)) _ _ _ _)
  · rfl

theorem unmapRow_valid {bank e x : Nat} (c row : Nat) (s : State) (hb : bank < 32) (he : e < 8) (hx : x < 8) :
    isSet (unmapRow c bank row s e) (R.SPAD_ROWMAP.VALID.nth (mapIx bank x)) c =
      (isSet s (R.SPAD_ROWMAP.VALID.nth (mapIx bank x)) c &&
        !(x == e && rd s (R.SPAD_ROWMAP.ROW.nth (mapIx bank x)) c == row)) := by
  by_cases hxe : x = e
  · subst hxe
    unfold unmapRow
    cases hv : isSet s (R.SPAD_ROWMAP.VALID.nth (mapIx bank x)) c with
    | false => simp [hv]
    | true =>
      by_cases hr : rd s (R.SPAD_ROWMAP.ROW.nth (mapIx bank x)) c = row
      · rw [if_pos ⟨rfl, hr⟩, isSet, rd_wr_same, hr]
        simp
      · rw [if_neg fun h => hr h.2, hv]
        simp [hr]
  · have hne : (x == e) = false := beq_eq_false_iff_ne.2 hxe
    have hkeep : isSet (unmapRow c bank row s e) (R.SPAD_ROWMAP.VALID.nth (mapIx bank x)) c =
        isSet s (R.SPAD_ROWMAP.VALID.nth (mapIx bank x)) c := by
      unfold unmapRow
      split
      · exact isSet_wr_ne _ _ (key_nth_idx_ne (by unfold mapIx; omega) (by unfold mapIx; omega) (by unfold mapIx; omega))
      · rfl
    rw [hkeep, hne, Bool.false_and, Bool.not_false, Bool.and_true]

/-- After the entries of a list have dropped a row, those entries are valid that were, and map another row. -/
theorem foldl_unmapRow_valid {bank x : Nat} (c row : Nat) (hb : bank < 32) (hx : x < 8) (l : List Nat) (hl : ∀ e ∈ l, e < 8)
    (s : State) : isSet (l.foldl (unmapRow c bank row) s) (R.SPAD_ROWMAP.VALID.nth (mapIx bank x)) c =
      (isSet s (R.SPAD_ROWMAP.VALID.nth (mapIx bank x)) c &&
        !(l.contains x && rd s (R.SPAD_ROWMAP.ROW.nth (mapIx bank x)) c == row)) := by
  induction l generalizing s with
  | nil => simp
  | cons e l ih =>
    rw [List.foldl_cons, ih fun y hy => hl y (List.mem_cons_of_mem _ hy), unmapRow_row,
      unmapRow_valid c row s hb (hl e List.mem_cons_self) hx, List.contains_cons]
    generalize isSet s (R.SPAD_ROWMAP.VALID.nth (mapIx bank x)) c = v, (x == e) = a, l.contains x = m,
      (rd s (R.SPAD_ROWMAP.ROW.nth (mapIx bank x)) c == row) = r
    revert v a m r
    decide

theorem unmapRow_mem (c bank row : Nat) (s : State) (e : Nat) : (unmapRow c bank row s e).mem = s.mem := by
  unfold unmapRow
  split <;> rfl

/-- Entries of a list, kept by a filter that drops what reads `v` at key `i`. -/
theorem tget_filter_ne {α : Type} {d : α} {i : Nat} {g : α → Bool} (hd : g d = false) {p : Nat × α → Bool}
    (hp : ∀ v, g v = true → p (i, v) = false) (t : List (Nat × α)) : g (tget d (t.filter p) i) = false := by
  induction t with
  | nil => exact hd
  | cons x t ih =>
    obtain ⟨k, v⟩ := x
    rw [List.filter_cons]
    split
    next hkeep =>
      rw [tget]
      split
      next hk =>
        subst hk
        cases hg : g v with
        | false => rfl
        | true => rw [hp v hg] at hkeep; exact absurd hkeep Bool.false_ne_true
      next => exact ih
    next => exact ih

theorem isSet_modCore (s : State) (c : Nat) (g : Core → Core) (f : Fld) (i : Nat) : isSet (modCore s c g) f i = isSet s f i := by
  rw [isSet, rd_modCore, isSet]

/-- The state in which a copied row's map is switched, before the core notes it. -/
def switchedMap (s : State) (c : Nat) (r : Remap) : State :=
  wr (wr (wr ((List.range 8).foldl (unmapRow c r.bank r.row) s) (R.SPAD_ROWMAP.ROW.nth (mapIx r.bank r.entry)) c r.row)
    (R.SPAD_ROWMAP.VALID.nth (mapIx r.bank r.entry)) c 1) (R.SPAD_ROWMAP.SOURCE.nth (mapIx r.bank r.entry)) c 1

theorem rd_switchedMap_row (s : State) (c : Nat) {r : Remap} (hrow : r.row < 384) :
    rd (switchedMap s c r) (R.SPAD_ROWMAP.ROW.nth (mapIx r.bank r.entry)) c = r.row := by
  rw [switchedMap, rd_wr_ne _ _ _ _ (key_nth_lo_ne (by decide) (by decide) (.inr (by decide)) _ _ _ _),
    rd_wr_ne _ _ _ _ (key_nth_lo_ne (by decide) (by decide) (.inr (by decide)) _ _ _ _), rd_wr_same]
  exact Nat.mod_eq_of_lt (Nat.lt_trans hrow (show 384 < 2 ^ 9 by decide))

theorem isSet_switchedMap_same (s : State) (c : Nat) (r : Remap) :
    isSet (switchedMap s c r) (R.SPAD_ROWMAP.VALID.nth (mapIx r.bank r.entry)) c = true := by
  rw [switchedMap, isSet_wr_ne _ _ (key_nth_lo_ne (by decide) (by decide) (.inr (by decide)) _ _ _ _), isSet, rd_wr_same]
  rfl

theorem isSet_switchedMap_ne (s : State) (c : Nat) {r : Remap} {e : Nat} (hb : r.bank < 32) (hentry : r.entry < 8) (he : e < 8)
    (hne : e ≠ r.entry) : isSet (switchedMap s c r) (R.SPAD_ROWMAP.VALID.nth (mapIx r.bank e)) c =
      (isSet s (R.SPAD_ROWMAP.VALID.nth (mapIx r.bank e)) c &&
        decide (rd s (R.SPAD_ROWMAP.ROW.nth (mapIx r.bank e)) c ≠ r.row)) := by
  have hin : (List.range 8).contains e = true := List.contains_iff_mem.2 (List.mem_range.2 he)
  rw [switchedMap, isSet_wr_ne _ _ (key_nth_lo_ne (by decide) (by decide) (.inr (by decide)) _ _ _ _),
    isSet_wr_ne _ _ (key_nth_idx_ne (by unfold mapIx; omega) (by unfold mapIx; omega) (by unfold mapIx; omega)),
    isSet_wr_ne _ _ (key_nth_lo_ne (by decide) (by decide) (.inr (by decide)) _ _ _ _),
    foldl_unmapRow_valid c r.row hb he _ (fun _ => List.mem_range.1), hin, Bool.true_and, decide_not]
  rfl

theorem switchedMap_mem (s : State) (c : Nat) (r : Remap) : (switchedMap s c r).mem = s.mem := by
  rw [switchedMap, wr_mem, wr_mem, wr_mem]
  exact foldl_keeps State.mem (unmapRow_mem c r.bank r.row) _ s

theorem exec_remapCopyDone {s : State} {c : Nat} {r : Remap} (hr : (coreAt s c).remap = some r) (h0 : r.stage = 0) :
    exec (.remapCopyDone c) s = .next (modCore (switchedMap s c r) c fun k =>
      { k with remap := some { r with stage := 1 }, rowErr := tset 0 k.rowErr (rowIx r.bank r.row) 0 }) := by
  show execRemapCopyDone c s = _
  simp only [execRemapCopyDone, hr, h0, ne_eq, not_true_eq_false, if_false]
  rfl

/-- The state in which a remap is recorded, before it is reported. -/
def recordedRemap (s : State) (c : Nat) (r : Remap) : State :=
  { modRec (modCore (wr s R.SPAD_PWR_STATUS.REMAP_BUSY c 0) c fun k => { k with remap := none }) c
      (fun r => { r with remaps := r.remaps + 1 }) with rowMaps := recordRow s.rowMaps c r }

theorem recordedRemap_busy (s : State) (c : Nat) (r : Remap) : rd (recordedRemap s c r) R.SPAD_PWR_STATUS.REMAP_BUSY c = 0 := by
  show rd (wr s R.SPAD_PWR_STATUS.REMAP_BUSY c 0) R.SPAD_PWR_STATUS.REMAP_BUSY c = 0
  rw [rd_wr_same, Nat.zero_mod]

theorem recordedRemap_remap (s : State) (c : Nat) (r : Remap) : (coreAt (recordedRemap s c r) c).remap = none :=
  congrArg Core.remap (coreAt_modCore (wr s R.SPAD_PWR_STATUS.REMAP_BUSY c 0) c fun k => { k with remap := none })

theorem exec_remapRecorded {s : State} {c : Nat} {r : Remap} (hr : (coreAt s c).remap = some r) (h1 : r.stage = 1) :
    exec (.remapRecorded c) s = .next (coreReport (recordedRemap s c r) c 0x0205) := by
  show execRemapRecorded c s = _
  simp only [execRemapRecorded, hr, h1, ne_eq, not_true_eq_false, if_false]
  rfl

theorem tget_recordRow_same (l : List (Nat × Nat)) (c : Nat) (r : Remap) :
    tget 0 (recordRow l c r) ((c * 32 + r.bank) * 8 + r.entry) = r.row + 1 + 1024 := tget_tset_same _ _ _ _

/-- No other entry of the bank's recorded map has the row. -/
theorem tget_recordRow_ne (l : List (Nat × Nat)) (c : Nat) {r : Remap} {e : Nat} (he : e < 8) (hne : e ≠ r.entry) :
    tget 0 (recordRow l c r) ((c * 32 + r.bank) * 8 + e) % 1024 ≠ r.row + 1 := by
  rw [recordRow, tget_tset_ne _ _ _ _ fun h => hne (Nat.add_left_cancel h)]
  have hplace : ((c * 32 + r.bank) * 8 + e) / 8 = c * 32 + r.bank := by omega
  have hread := tget_filter_ne (d := 0) (i := (c * 32 + r.bank) * 8 + e) (g := fun v => v % 1024 == r.row + 1) (by simp)
    (p := fun e => !(e.1 / 8 == c * 32 + r.bank && e.2 % 1024 == r.row + 1)) (fun v hv => by
      rw [hplace, hv, beq_self_eq_true, Bool.and_self, Bool.not_true]) l
  exact fun h => Bool.false_ne_true (hread.symm.trans (beq_iff_eq.2 h))

/-- Settles O43: the register rows are their gates', and a remap's row map is `switchedMap`, recorded by `recordRow`. -/
theorem scratchpadControlActs : Obligations.ScratchpadControlActs := by
  unfold Obligations.ScratchpadControlActs
  refine ⟨fun s c b l hpres => ?_, fun s w c h h31 => ?_, fun s w c h => ?_,
    fun s c g hpres hg => ⟨fun hstate => ?_, fun hstate => ?_⟩, fun s w c h h31 => ?_,
    fun s c r hr hb he hrow => ⟨fun hstage => ⟨_, exec_remapCopyDone hr hstage, ?_, ?_, fun e hlt hne => ?_, ?_, ?_⟩,
      fun hstage => ?_⟩,
    fun s w c n hn h => ?_, fun s w c r hr => ⟨fun h => ?_, fun h => ?_, fun h => ?_⟩, fun s w c n hn h => ⟨?_, ?_⟩⟩
  · show execRatchetRotation c b l s = _
    simp only [execRatchetRotation, hpres, Bool.not_true, Bool.false_eq_true, if_false]
  · exact (ok_gate h _).trans (congrArg _ (if_pos h31))
  · exact ok_gate h _
  · show execBankGroupStartDone c g s = _
    simp only [execBankGroupStartDone, hpres, hstate, Nat.not_le.2 hg, Bool.not_true, Bool.false_eq_true, ne_eq, not_true_eq_false,
      or_self, if_false]
  · show execBankGroupDrainDone c g s = _
    simp only [execBankGroupDrainDone, hpres, hstate, Nat.not_le.2 hg, Bool.not_true, Bool.false_eq_true, ne_eq, not_true_eq_false,
      or_self, if_false]
  · intro ix hvalid hbad hrow hgroup hbusy
    have hfree : ¬ (isSet s (R.SPAD_ROWMAP.VALID.nth ix) c = true ∨ isSet s (R.SPAD_ROWMAP.SPARE_BAD.nth ix) c = true ∨
        384 ≤ bits w.val 8 9 ∨ groupState s c (bits w.val 8 9 / 96) ≠ 2 ∨ isSet s R.SPAD_PWR_STATUS.REMAP_BUSY c = true) := by
      simp [hvalid, hbad, hgroup, hbusy, hrow]
    refine (ok_gate h _).trans ?_
    simp only [h31, Bool.not_true, Bool.false_eq_true, if_false]
    exact congrArg _ (if_neg hfree)
  · rw [rd_modCore]
    exact rd_switchedMap_row s c hrow
  · rw [isSet_modCore]
    exact isSet_switchedMap_same s c r
  · rw [isSet_modCore]
    exact isSet_switchedMap_ne s c hb he hlt hne
  · rw [coreAt_modCore]
  · rw [modCore_mem]
    exact switchedMap_mem s c r
  · have hnote := note_onlyReports (hit (recordedRemap s c r) R.SPAD_ERR.REMAPPED c) 0x0205 c (tableSide 0x0205) 0
    have hmaps := hnote.rowMaps
    rw [exec_remapRecorded hr hstage, coreReport_remapped]
    refine ⟨_, rfl, ?_, ?_, ?_, fun e hlt hne => ?_⟩
    · rw [rd_note c (by decide), hit, rd_wr_ne _ _ _ _ (Fld.key_ne _ _ (by decide) (by decide) (by decide)), recordedRemap_busy]
    · rw [hnote.coreAt]
      exact recordedRemap_remap s c r
    · rw [hmaps]
      exact tget_recordRow_same _ _ _
    · rw [hmaps]
      exact tget_recordRow_ne _ _ hlt hne
  · exact (if_neg (Nat.not_le.2 hn)).trans (ok_gate h _)
  · refine (if_neg (Nat.not_le.2 hr)).trans ((ok_gate h _).trans ?_)
    simp only [Bool.not_eq_true']
  · exact (if_neg (Nat.not_le.2 hr)).trans (ok_gate h _)
  · exact (if_neg (Nat.not_le.2 hr)).trans (ok_gate h _)
  · exact (if_neg (Nat.not_le.2 hn)).trans (ok_gate h _)
  · exact (if_neg (Nat.not_le.2 hn)).trans (ok_gate h _)

end Sys2Proof.Machine
end

section
/-! Fault work in the background: forgiveness, shadows and test slices (R285 to R290). -/

namespace Sys2Proof.Machine

open Sys2Proof

theorem exec_shadowCompareDone {s : State} {k n b : Nat} {h : Shadow} {t : Stripe} {g : Pkg} {bd : Band}
    (hs : shadowOf s k n b = some h) (ht : stripeOf (strm s k) n = some t) (hg : t.pkg = some g)
    (hb : t.map.bands[b]? = some bd) (x y : Nat) (hx : x = crc64 (bandOutput s t.place t.place.staging k t g bd))
    (hy : y = crc64 (bandOutput s t.place t.place.shStaging k t g bd)) :
    exec (.shadowCompareDone k n b) s = .next
      (if h.differs = true then (if h.thirdDone = true then shadowVote s h x h.value y (bandInput s k t g bd) else s)
       else if h.ended ≠ some true ∨ (!originalClean s k n b) = true then s
       else if x = y then dropShadow (bump s R.FLT_CNT_SHADOW.COUNT 0) k n b
       else sendShadow (modShadow (bump s R.FLT_CNT_SHADOW.COUNT 0) k n b fun h => { h with differs := true, value := y }) k n b
         [h.home, h.core] fun c h => { h with third := some c }) := by
  have hpick : (stripeOf (strm s k) n).bind (fun t => t.pkg.bind fun g => (t.map.bands[b]?).map fun b => (t, g, b)) =
      some (t, g, bd) := by
    rw [ht, Option.bind_some, hg, Option.bind_some, hb, Option.map_some]
  subst hx hy
  show execShadowCompareDone k n b s = _
  simp only [execShadowCompareDone, hs, hpick, apply_ite Host.Outcome.next]

/-- Settles O44: each row's guard is cleared by its premises. -/
theorem backgroundFaultWork : Obligations.BackgroundFaultWork := by
  unfold Obligations.BackgroundFaultWork
  refine ⟨fun s c e hc he hrole hquiet => ?_, fun s k n b h hs hshed hbar hcore => ?_,
    fun s k n b x y h t g bd hs ht hg hb hx hy => ⟨fun hsame hended hclean => ?_, fun hdiff hthird => ?_⟩,
    fun s c number steps chime free words t hfree htest hshed hidle hpair hdrawn hnext hmin hmax hcore hacc => ?_,
    fun s hover htest hlate => ?_⟩
  · have hrun : ¬ (s.part.cores ≤ c ∨ e + 1 = 0 ∨ rd s R.CORE_CTRL.ROLE c = 2 ∨ quietTicks s c < 24 * 3600 * 100000000) := by
      rintro (h | h | h | h)
      · exact Nat.not_le.2 hc h
      · exact Nat.succ_ne_zero e h
      · exact hrole h
      · exact Nat.not_lt.2 hquiet h
    show execCoreForgiveness c s = _
    simp only [execCoreForgiveness, he, if_neg hrun]
    rfl
  · show execShadowDispatch k n b s = _
    simp only [execShadowDispatch, hs, hshed, hbar, hcore, Bool.not_true, Bool.false_eq_true, or_self, if_false, if_true]
  · rw [exec_shadowCompareDone hs ht hg hb x y hx hy]
    simp only [hsame, hended, hclean, Bool.not_true, Bool.false_eq_true, ne_eq, not_true_eq_false, or_self, if_false]
  · rw [exec_shadowCompareDone hs ht hg hb x y hx hy, if_pos hdiff, if_pos hthird]
  · have hgo : ¬ (((!isSet s R.FLT_CTRL.TEST_EN 0) = true ∧ (!free) = true) ∨ shedding s = true ∨ (!sliceIdle s) = true ∨
        (paired s = true ∧ (!chime) = true ∧ (!free) = true) ∨ (chime = true ∧ s.flt.withdrawn.contains number = true)) := by
      rintro (⟨h1, h2⟩ | h | h | ⟨h1, h2, h3⟩ | ⟨h1, h2⟩)
      · rcases htest with h | h <;> simp [h] at h1 h2
      · simp [hshed] at h
      · simp [hidle] at h
      · rcases hpair with h | h | h <;> simp [h] at h1 h2 h3
      · rw [hdrawn h1] at h2
        exact Bool.false_ne_true h2
    subst hfree
    show execTestSliceStart c chime number steps words s = _
    simp only [execTestSliceStart, if_neg hgo, hnext, hcore, hacc, Nat.not_lt.2 hmin, Nat.not_lt.2 hmax, Bool.not_true,
      Bool.false_eq_true, or_self, if_false]
  · show execTestRoundOverdue s = _
    simp only [execTestRoundOverdue, hover, htest, Bool.not_true, Bool.false_eq_true, false_or, if_neg (Nat.not_lt.2 hlate), hit]

end Sys2Proof.Machine
end

section
/-! The program instructions of a DMA channel (R243 to R247). -/

namespace Sys2Proof.Machine

open Sys2Proof

/-- A word of an operation and a form is its row's. -/
theorem dmaRow {o w : Nat} {b : Bool} (ho : dmaOp w = o) (hb : b = true) : (dmaOp w == o && b) = true := by
  rw [ho, beq_self_eq_true, hb, Bool.and_true]

/-- Settles O45: each row's guard is cleared by the fields. -/
theorem dmaProgramsRun : Obligations.DmaProgramsRun := by
  unfold Obligations.DmaProgramsRun
  rintro s c w st d h rfl
  refine ⟨fun ho hbits hn hdepth => ?_, fun l ho hbits hl => ?_, fun ho hform hbits => ?_,
    fun t ho hform hbits hpres hgood ht => ?_, fun ho hform hbits hpres => ?_, fun ho hform hbits => ?_,
    fun ho hform hbits hcheck => ?_, fun a k ho hform hbits hcheck ha halign hown hbus => ?_, fun hw hloops => ?_⟩
  · show execDmaLoop c false s = _
    simp only [execDmaLoop, dmaIssue_fetches h (mine := fun w => dmaOp w == 3) (beq_iff_eq.2 ho), hbits, hn, Bool.not_true,
      Bool.false_eq_true, false_or, if_neg (Nat.not_le.2 hdepth)]
  · show execDmaEndloop c false s = _
    simp only [execDmaEndloop, dmaIssue_fetches h (mine := fun w => dmaOp w == 4) (beq_iff_eq.2 ho), hbits, hl, Bool.not_true,
      Bool.false_eq_true, if_false]
  · show execDmaWaitDrain c false s = _
    simp only [execDmaWaitDrain, dmaIssue_fetches h (mine := fun w => dmaOp w == 5 && bits w 4 2 != 1)
      (dmaRow ho (by rw [hform]; rfl)), hbits, Bool.not_true, Bool.false_eq_true, if_false]
  · subst ht
    show execDmaWaitCounter c false s = _
    simp only [execDmaWaitCounter, dmaIssue_fetches h (mine := fun w => dmaOp w == 5 && bits w 4 2 == 1)
      (dmaRow ho (by rw [hform]; rfl)), hbits, hpres, hgood, Bool.not_true, Bool.false_eq_true, if_false]
  · show execDmaSignalCounter c false s = _
    simp only [execDmaSignalCounter, dmaIssue_fetches h (mine := fun w => dmaOp w == 6 && bits w 4 2 != 1)
      (dmaRow ho (by rw [hform]; rfl)), hbits, hpres, Bool.not_true, Bool.false_eq_true, if_false]
    rfl
  · show execDmaSignalEvent c false s = _
    simp only [execDmaSignalEvent, dmaIssue_fetches h (mine := fun w => dmaOp w == 6 && bits w 4 2 == 1)
      (dmaRow ho (by rw [hform]; rfl)), hbits, Bool.not_true, Bool.false_eq_true, if_false]
    rfl
  · show execDmaSumStart c false s = _
    simp only [execDmaSumStart, dmaIssue_fetches h (mine := fun w => dmaOp w == 7 && bits w 4 2 != 1)
      (dmaRow ho (by rw [hform]; rfl)), hbits, hcheck, Option.isSome_none, Bool.not_true, Bool.false_eq_true, or_self, if_false]
  · subst ha
    show execDmaSumStop c false s = _
    simp only [execDmaSumStop, dmaIssue_fetches h (mine := fun w => dmaOp w == 7 && bits w 4 2 == 1)
      (dmaRow ho (by rw [hform]; rfl)), hbits, hcheck, halign, hown, hbus, Bool.not_true, Bool.false_eq_true, ne_eq,
      not_true_eq_false, or_self, if_false]
  · subst hw
    show execDmaEnd c false s = _
    simp only [execDmaEnd, dmaIssue_fetches h (mine := fun w => dmaOp w == 0) rfl, hloops, List.isEmpty_nil, Bool.not_true,
      Bool.false_eq_true, ne_eq, not_true_eq_false, or_self, if_false]
    cases drained (dmaCh s c) <;> rfl

end Sys2Proof.Machine
end

section
/-! The cause a failed DMA piece shows (R262, R269). -/

namespace Sys2Proof.Machine

open Sys2Proof

/-- After reset, channel 0 runs. -/
def channelRuns : State := setChState State.reset 0 chRunning

/-- A piece of it, from DRAM to DRAM. -/
def dramPiece : Piece := ⟨0, false, 0, 0x1000, 32, .plain, 0, false, false⟩

theorem channelRuns_state : chState channelRuns 0 = chRunning := by decide +kernel

/-- CAUSE is three bits wide, so that a cause of 8 shows as 0. -/
theorem rd_failPiece_cause : rd (failPiece channelRuns 0 0 8 dramPiece false) R.DMA_CH_FAULT.CAUSE 0 = 0 := by decide +kernel

/-- Refutes O46: the last clause has DMA_CH_FAULT.CAUSE read every cause below 16, but the field is three bits wide. -/
theorem not_dmaPiecesMoveData : ¬ Obligations.DmaPiecesMoveData := by
  unfold Obligations.DmaPiecesMoveData
  rintro ⟨_, _, _, hfail⟩
  obtain ⟨_, _, hcause⟩ := hfail channelRuns 0 0 8 dramPiece false (by decide) (by decide) channelRuns_state
  rw [rd_failPiece_cause] at hcause
  exact absurd hcause (by decide)

end Sys2Proof.Machine
end

section
/-! Control of DMA channels (R244 to R246, R264 to R266, R269). -/

namespace Sys2Proof.Machine

open Sys2Proof

/-- The low four bits of a number, one by one. -/
theorem bits_of_low_nibble {v n : Nat} (h : v % 16 = n) :
    bit v 0 = bit n 0 ∧ bit v 1 = bit n 1 ∧ bit v 2 = bit n 2 ∧ bit v 3 = bit n 3 := by
  have hlow (i : Nat) (hi : i < 4) : bit v i = bit n i := by
    rw [← h, bit_eq_testBit, bit_eq_testBit, show 16 = 2 ^ 4 by decide, Nat.testBit_mod_two_pow, decide_eq_true hi, Bool.true_and]
  exact ⟨hlow 0 (by decide), hlow 1 (by decide), hlow 2 (by decide), hlow 3 (by decide)⟩

/-- Settles O47: each row's guard is cleared by its premises. -/
theorem dmaChannelsAreControlled : Obligations.DmaChannelsAreControlled := by
  unfold Obligations.DmaChannelsAreControlled
  refine ⟨fun s w c h => ⟨fun hv => ?_, fun hv => ?_, fun hv => ?_, fun hv => ?_⟩, fun s c hmin hmax hstate => ?_,
    fun s c hstate hpieces => ?_, fun s c since hwait hdrained => ?_,
    fun s c since core n t rel hwait => ⟨fun hgood hreach => ?_, fun hlate => ?_⟩, fun s c since core r hwait hlate => ?_,
    fun s c i g hg hsettled => ?_, fun s t c x rest l p hstores hcov ht => ?_⟩
  · obtain ⟨h0, h1, h2, h3⟩ := bits_of_low_nibble hv
    refine (ok_gate h _).trans ?_
    simp only [writeDmaCtrl, h0, h1, h2, h3]
    rfl
  · obtain ⟨h0, h1, h2, h3⟩ := bits_of_low_nibble hv
    refine (ok_gate h _).trans ?_
    simp only [writeDmaCtrl, h0, h1, h2, h3]
    rfl
  · obtain ⟨h0, h1, h2, h3⟩ := bits_of_low_nibble hv
    refine (ok_gate h _).trans ?_
    simp only [writeDmaCtrl, h0, h1, h2, h3]
    rfl
  · obtain ⟨h0, h1, h2, h3⟩ := bits_of_low_nibble hv
    refine (ok_gate h _).trans ?_
    simp only [writeDmaCtrl, h0, h1, h2, h3]
    rfl
  · simp only [goCh, Nat.pos_iff_ne_zero.1 hmin, Nat.not_lt.2 hmax, hstate, false_or]
    cases (dmaCh s c).run <;> cases (dmaCh s c).next <;> rfl
  · show execDmaCancelComplete c s = _
    simp only [execDmaCancelComplete, hstate, hpieces, List.isEmpty_nil, and_self, if_true]
  · show execDmaWaitSatisfied c s = _
    simp only [execDmaWaitSatisfied, hwait, hdrained, if_true]
  · show execDmaWaitSatisfied c s = _
    simp only [execDmaWaitSatisfied, hwait, hgood, hreach, Bool.not_false, and_self, if_true]
  · show execDmaWaitLimitExpiry c s = _
    simp only [execDmaWaitLimitExpiry, hwait, if_neg (Nat.not_lt.2 hlate)]
  · show execDmaWaitLimitExpiry c s = _
    simp only [execDmaWaitLimitExpiry, hwait, if_neg (Nat.not_lt.2 hlate)]
  · show execDmaSignalSend c i false s = _
    simp only [execDmaSignalSend, hg, hsettled, Bool.not_true, Bool.false_eq_true, if_false]
    cases g.counter <;> rfl
  · subst ht
    show execDmaSumResultStore c s = _
    simp only [execDmaSumResultStore, hstores, hcov, apply_ite Host.Outcome.next]

end Sys2Proof.Machine
end

section
/-! The weight chain and the segments (R255 to R260). -/

namespace Sys2Proof.Machine

open Sys2Proof

/-! ### What a chain word leaves of memory -/

theorem noteRow_mem (s : State) (c w : Nat) : (noteRow s c w).mem = s.mem := rfl

theorem noteRows_mem (s : State) (c w n : Nat) : (noteRows s c w n).mem = s.mem := by
  unfold noteRows
  split
  · exact foldl_keeps State.mem (fun t i => noteRow_mem t c (w + i)) _ s
  · rfl

theorem noteParity_mem (s : State) (a n : Nat) : (noteParity s a n).mem = s.mem := by
  unfold noteParity
  split
  · split
    · exact (coreReport_mem _ _ _).trans (noteRows_mem _ _ _ _)
    · rfl
  · rfl

theorem addCnt_mem (s : State) (c n v : Nat) : (addCnt s c n v).mem = s.mem := by
  unfold addCnt
  split
  · exact coreReport_mem _ _ _
  · rfl

theorem busRead_length (s : State) (a n : Nat) : (busRead s a n).1.length = n := by
  unfold busRead
  split <;> exact memBytes_length _ _ _

/-- A delivered word is written at its place in the receiver's scratchpad, and its arrival counted. -/
theorem exec_chainWordDelivered_mem {s : State} {c core a : Nat} {m : ChainMove} (hm : chainOf s c = some m)
    (hrec : core ∈ receivers s m) (hissued : tget 0 m.got core < m.issued) (hheld : chainHeld s m core (tget 0 m.got core) = false)
    (ha : chainSource s m core (tget 0 m.got core) = some a) :
    ∃ t, exec (.chainWordDelivered c core) s = .next t ∧
      t.mem = memWrite s.mem (spAddr core (m.word + tget 0 m.got core)) (busRead s a 32).1 := by
  have hin : (receivers s m).contains core = true := List.contains_iff_mem.2 hrec
  have hwrite (p : Bool) (x : Nat) (l : List Byte) : (devWrite (noteParity s a 32) x l p).mem = memWrite s.mem x l :=
    congrArg (memWrite · x l) (noteParity_mem s a 32)
  have hrow : exec (.chainWordDelivered c core) s = execChainWordDelivered c core s := rfl
  rw [hrow]
  simp only [execChainWordDelivered, hm, hin, hheld, ha, Bool.not_true, Bool.false_eq_true, false_or, Nat.not_le.2 hissued, if_false]
  cases m.cnt with
  | none => exact ⟨_, rfl, hwrite (busRead s a 32).2 _ _⟩
  | some n =>
    dsimp only
    split
    · exact ⟨_, rfl, (addCnt_mem _ _ _ _).trans (hwrite (busRead s a 32).2 _ _)⟩
    · exact ⟨_, rfl, hwrite (busRead s a 32).2 _ _⟩

/-- Settles O48: each row's guard is cleared by its premises, and a chain word's memory is one write. -/
theorem chainAndSegments : Obligations.ChainAndSegments := by
  unfold Obligations.ChainAndSegments
  refine ⟨fun s c lo hi since hwait hfree => ?_, fun s c core a m hm hrec hissued hheld ha => ?_,
    fun s core m hm hrec hoffer hlate => ?_, fun s w h h0 => (ok_gate h _).trans (congrArg _ (if_pos h0)),
    fun s slot r hr => ⟨fun hcopy => ?_, fun p hcopy => ?_⟩⟩
  · show execChainSegmentGrant c s = _
    simp only [execChainSegmentGrant, hwait, hfree, if_true]
  · obtain ⟨t, hexec, hmem⟩ := exec_chainWordDelivered_mem hm hrec hissued hheld ha
    have hlen := busRead_length s a 32
    refine ⟨t, hexec, ?_, fun b hb => ?_⟩
    · have hread := memBytes_memWrite s.mem (spAddr core (m.word + tget 0 m.got core)) (busRead s a 32).1
      rw [hlen] at hread
      rw [hmem, hread]
    · rw [hmem]
      exact memByte_memWrite_outside _ _ _ _ (by rwa [hlen])
  · have hstall : s.chains.any (fun m => (receivers s m).contains core && decide (tget 0 m.got core < offered s m core) &&
        decide (tget 0 m.since core + max 1 (rd s R.DMA_CHAIN_CTRL.STALL_LIMIT 0) * 10 ≤ s.tick + 1)) = true :=
      List.any_eq_true.2 ⟨m, hm, by rw [List.contains_iff_mem.2 hrec, decide_eq_true hoffer, decide_eq_true hlate]; rfl⟩
    exact if_neg fun hnone => Bool.false_ne_true (((Bool.not_eq_true' _).mp hnone).symm.trans hstall)
  · show execSegmentCopyDone slot s = _
    simp only [execSegmentCopyDone, hr, hcopy]
  · show execSegmentCopyDone slot s = _
    simp only [execSegmentCopyDone, hr, hcopy]

end Sys2Proof.Machine
end

section
/-! The mesh and the check-value units (R25, R26, R267 to R269). -/

namespace Sys2Proof.Machine

open Sys2Proof

/-- A register of a unit that is off takes a write. -/
theorem cvuWrite_off {s : State} {w : Wr} {r : RegSpec} {u : Nat} (h : Takes s w r u 0) (hoff : cvuFld s R.CVU_CTRL.EN u = 0)
    (f : State → State) : cvuWrite s w r u f = f s := by
  rw [cvuWrite, gate_takes h, hoff, if_neg Nat.zero_ne_one]

/-- Settles O49: each row's guard is cleared by its premises. -/
theorem checkValueUnitsAct : Obligations.CheckValueUnitsAct := by
  unfold Obligations.CheckValueUnitsAct
  refine ⟨fun s node flit p o hok hsrc => if_pos ⟨hok, hsrc⟩, fun s node flit p o m hm => ?_, fun s m p o hdst => ?_,
    fun s u hu hon hfull => if_pos ⟨hu, hon, hfull⟩,
    fun s w u hoff => ⟨fun h h0 h14 => ?_, fun h h0 => ?_, fun h h13 => ?_, fun h => congrArg ok (cvuWrite_off h hoff _)⟩,
    fun s w u h h13 hon hflits => ?_⟩
  · show execBrambleFlitHop node false flit p o s = _
    simp only [execBrambleFlitHop, Bool.false_eq_true, if_false, hm]
  · simp only [moveFlit, hdst, false_and, if_false, reportIf, Bool.and_eq_true, beq_iff_eq]
  · refine (ok_gate h _).trans ?_
    simp only [hoff, h0, h14, Nat.zero_ne_one, false_and, Bool.not_true, Bool.false_eq_true, and_false, if_false, if_true]
  · refine (ok_gate h _).trans ?_
    simp only [hoff, h0, Nat.zero_ne_one, false_and, Bool.false_eq_true, if_false]
  · show execCvuCfgWrite w u s = _
    rw [execCvuCfgWrite, h13, if_neg Bool.false_ne_true, cvuWrite_off h hoff]
  · show execCvuClose w u s = _
    rw [execCvuClose, h13, if_neg (by decide), gate_takes h, if_pos hon, if_pos hflits]

end Sys2Proof.Machine
end

section
/-! The safe-state controller, the control pairs and the protection classes (R276 to R278, R294 to R298, R301). -/

namespace Sys2Proof.Machine

open Sys2Proof

/-- A release that is asked for while SAFE is latched: done where nothing holds it, refused otherwise (R297). -/
theorem askRelease_latched {s : State} (safeIn : Bool) (hsafe : isSafe s = true) :
    (askRelease s safeIn).1 = if safeIn = false ∧ s.fieldLost = false ∧ s.flt.env = []
      then releaseSafe (wr s R.SSC_STATE.SAFE_IN 0 (b2n safeIn)) else report (wr s R.SSC_STATE.SAFE_IN 0 (b2n safeIn)) 0x0D0E 0 0 := by
  have hmay : mayRelease s safeIn = true ↔ safeIn = false ∧ s.fieldLost = false ∧ s.flt.env = [] := by
    rw [mayRelease, Bool.and_eq_true, Bool.and_eq_true, Bool.not_eq_true', Bool.not_eq_true', List.isEmpty_iff, and_assoc]
  simp only [askRelease, hsafe, Bool.not_true, Bool.false_eq_true, if_false, hmay]
  split <;> rfl

/-- Settles O50: a doubt is `Latched`, and each register row is the branch its premises pick. -/
theorem safeStateCommandsAct : Obligations.SafeStateCommandsAct := by
  unfold Obligations.SafeStateCommandsAct
  refine ⟨⟨fun s cause hsafe hrole => ?_, fun s cause hsafe => ?_, fun s w i h => ⟨fun hcode => ?_, fun hcode => ?_⟩,
    fun s w i h => ⟨fun h0 => ?_, fun h0 => ?_⟩, fun s => ⟨fun hlate => ?_, fun hearly => ?_⟩,
    fun s k n t0 hwatch => ⟨fun hlate => ?_, fun hearly => ?_⟩, fun s => ⟨?_, ?_, ?_⟩,
    fun s w i h => ⟨fun hlock hlevels => ?_, fun hlock => ?_⟩, fun s w i h => ⟨fun h0 hlock => ?_, fun hno => ?_⟩,
    fun s s1 w i safeIn h hwho hs1 => ⟨fun hcode => ?_, fun hcode => ⟨fun hsafe => ?_, fun hsafe hin hfield henv => ?_,
      fun hsafe hbad => ?_⟩⟩⟩,
    fun s s0 s1 flips hs0 hs1 => ⟨fun hearly => ?_, fun hlate => ⟨fun hsame => ?_, fun hdiff => ?_⟩⟩,
    fun s => ⟨fun hstandby hhand => ?_, fun hno => ?_, rfl, rfl⟩,
    fun s s1 pass burnOk hs1 => ⟨fun hhand => ?_, fun hhand htest => ?_, fun hhand htest => ?_⟩,
    fun s => ⟨fun hopen => ?_, fun h1 h2 => ?_⟩,
    fun s w k p h hp => ⟨fun hbad => ?_, fun hgood href => ?_, fun h2 href hdig => ?_, fun hgood href => ?_⟩⟩
  · have hlatch := doubtWith_latched cause s.sscCount hsafe hrole
    exact ⟨_, rfl, hlatch.safe, hlatch.code, hlatch.tick, congrArg Act.drive hlatch.act, congrArg Act.queue hlatch.act,
      congrArg Act.ends hlatch.act, congrArg Act.alive hlatch.act, hlatch.mem, hlatch.hostMem, hlatch.cores, hlatch.strms⟩
  · exact congrArg Host.Outcome.next (if_pos hsafe)
  · exact (ok_gate h _).trans (congrArg _ (if_pos hcode))
  · exact (ok_gate h _).trans (congrArg _ (if_neg hcode))
  · exact (ok_gate h _).trans (congrArg _ (if_pos h0))
  · exact (ok_gate h _).trans (congrArg _ (if_neg (by rw [h0]; exact Bool.false_ne_true)))
  · exact congrArg Host.Outcome.next (if_pos (decide_eq_true hlate))
  · exact congrArg Host.Outcome.next (if_neg (by simpa using hearly))
  · show execCommitWatchdogExpiry k n s = _
    simp only [execCommitWatchdogExpiry, hwatch, if_neg (Nat.not_lt.2 hlate)]
  · show execCommitWatchdogExpiry k n s = _
    simp only [execCommitWatchdogExpiry, hwatch, if_pos hearly]
  · exact congrArg Host.Outcome.next (if_pos rfl)
  · exact congrArg Host.Outcome.next (if_neg Bool.false_ne_true)
  · exact congrArg (fun t => Host.Outcome.next (report t 0x0D0B 0 0)) (driveSafe.eq_1 s)
  · have hno : ¬ (isSet s R.SSC_LOCK.LOCK 0 = true ∨ (upto 16).any (fun k => bits w.val (2 * k) 2 == 3) = true) := by
      rintro (hset | hany)
      · exact Bool.false_ne_true (hlock.symm.trans hset)
      · obtain ⟨k, hk, h3⟩ := List.any_eq_true.1 hany
        exact hlevels k (List.mem_range.1 hk) (beq_iff_eq.1 h3)
    exact (ok_gate h _).trans (congrArg _ (if_neg hno))
  · exact (ok_gate h _).trans (congrArg _ (if_pos (.inl hlock)))
  · refine (ok_gate h _).trans ?_
    simp only [h0, hlock, Bool.not_true, Bool.false_eq_true, or_self, if_false]
  · exact (ok_gate h _).trans (congrArg _ (if_pos (hno.imp_left fun h => by rw [h]; rfl)))
  · exact (ok_gate h _).trans (congrArg _ (if_pos (.inl hcode)))
  · refine (ok_gate h _).trans ?_
    simp only [hcode, ne_eq, not_true_eq_false, hwho, or_self, if_false, askRelease, hsafe, Bool.not_false, if_true, hs1]
  · refine (ok_gate h _).trans ?_
    simp only [hcode, ne_eq, not_true_eq_false, hwho, or_self, if_false, askRelease_latched safeIn hsafe,
      if_pos (And.intro hin (And.intro hfield henv)), hs1]
  · have hheld : ¬ (safeIn = false ∧ s.fieldLost = false ∧ s.flt.env = []) := by
      rintro ⟨hin, hfield, henv⟩
      rcases hbad with h | h | h
      · exact Bool.false_ne_true (hin.symm.trans h)
      · exact Bool.false_ne_true (hfield.symm.trans h)
      · exact h henv
    refine (ok_gate h _).trans ?_
    simp only [hcode, ne_eq, not_true_eq_false, hwho, or_self, if_false, askRelease_latched safeIn hsafe, if_neg hheld, hs1]
  · subst hs0
    exact if_pos hearly
  · subst hs0 hs1
    show execConfigCrcRecheck flips s = _
    simp only [execConfigCrcRecheck, if_neg (Nat.not_lt.2 hlate), hsame, reportIf, bne_self_eq_false, Bool.false_eq_true, if_false]
  · subst hs0 hs1
    show execConfigCrcRecheck flips s = _
    simp only [execConfigCrcRecheck, if_neg (Nat.not_lt.2 hlate), reportIf, if_pos (bne_iff_ne.2 hdiff)]
  · show execLockstepMismatch .lockstep s = _
    simp only [execLockstepMismatch, hstandby, hhand, Bool.not_true, Bool.false_eq_true, or_self, if_false, setStandby]
    rfl
  · show execLockstepMismatch .lockstep s = _
    exact if_pos (hno.imp_left fun h => by rw [h]; rfl)
  · exact if_pos hhand
  · exact (if_neg hhand).trans (if_pos (by rw [htest]; rfl))
  · subst hs1
    show execControlPairSelfTestDone pass burnOk s = _
    simp only [execControlPairSelfTestDone, hhand, htest, Bool.not_true, Bool.false_eq_true, if_false, setStandby]
  · have ho : handoverOpen s = true := by simpa [handoverOpen] using hopen
    exact if_pos ho
  · have ho : ¬ handoverOpen s = true := by simp [handoverOpen, h1, h2]
    exact if_neg ho
  · subst hp
    exact (ok_gate h _).trans (congrArg _ (if_pos hbad))
  · subst hp
    have hclass : ¬ (fval R.STRM_FLT_CTRL.PROT w.val = 1 ∨ fval R.STRM_FLT_CTRL.PROT w.val = 3) := by omega
    refine (ok_gate h _).trans ?_
    simp only [if_neg hclass, href, if_true]
  · subst hp
    have hclass : ¬ (fval R.STRM_FLT_CTRL.PROT w.val = 1 ∨ fval R.STRM_FLT_CTRL.PROT w.val = 3) := by omega
    refine (ok_gate h _).trans ?_
    simp only [if_neg hclass, href, Bool.false_eq_true, if_false, if_pos (And.intro h2 hdig)]
  · subst hp
    have hclass : ¬ (fval R.STRM_FLT_CTRL.PROT w.val = 1 ∨ fval R.STRM_FLT_CTRL.PROT w.val = 3) := by omega
    have hdrop : ¬ (fval R.STRM_FLT_CTRL.PROT w.val = 2 ∧ isSet s R.STRM_FLT_CTRL.DIGEST k = true) := by
      rintro ⟨h2, hset⟩
      rcases hgood with h0 | ⟨_, hdig⟩
      · omega
      · exact Bool.false_ne_true (hdig.symm.trans hset)
    refine (ok_gate h _).trans ?_
    simp only [if_neg hclass, href, Bool.false_eq_true, if_false, if_neg hdrop]

end Sys2Proof.Machine
end

section
/-! The Zehorn link layer (R303, R306 to R309, R326). -/

namespace Sys2Proof.Machine

open Sys2Proof

/-- A link that trained all eight lanes uses them all. -/
theorem usable_all {lanes : Nat} (h : lanes % 256 = 255) : usable lanes = 255 := if_pos h

theorem reportIf_false (s : State) (code inst detail : Nat) : reportIf false s code inst detail = s := rfl

/-- Settles O51: each row's guard is cleared by its premises. -/
theorem zehornLinksAct : Obligations.ZehornLinksAct := by
  unfold Obligations.ZehornLinksAct
  refine ⟨fun s rx credit hup => ⟨fun hcrc => ?_, fun s1 hcrc hs1 => ⟨fun hbad => ?_, fun hbad hup1 hseq => ?_,
      fun hbad hseq => ?_⟩⟩, fun s l hl hup => ⟨fun hidle => ?_, fun hsilent => ?_⟩, fun s l hl hwant hstate hlate => ?_,
    fun s l lanes ns hl hstate hlanes => ⟨fun hnone => ?_, fun g h hsettled => ?_⟩,
    fun s l h hl hstate hpart => ⟨fun hmode => ?_, fun hring hmode hl2 hgen => ?_⟩,
    fun s l h hl hstate hsame hpart hpair hlevel hhello hmode hgen hother => ?_, fun s l hl hstate hlate hsaid => ?_,
    fun s l gen h hgen => ?_, fun s w l h => ⟨fun hup => ?_, fun hdown => ?_⟩, fun s w i h h2 h3 => ?_⟩
  · show execZlShortCellReceived rx credit s = _
    simp only [execZlShortCellReceived, hup, hcrc, Bool.not_true, Bool.not_false, Bool.false_eq_true, if_false, if_true]
  · show execZlShortCellReceived rx credit s = _
    simp only [execZlShortCellReceived, hup, hcrc, hs1, hbad, Bool.not_true, Bool.false_eq_true, if_false, if_true]
  · show execZlShortCellReceived rx credit s = _
    simp only [execZlShortCellReceived, hup, hcrc, hs1, hbad, hup1, hseq, Bool.not_true, Bool.false_eq_true, and_self, if_false,
      if_true]
  · show execZlShortCellReceived rx credit s = _
    simp only [execZlShortCellReceived, hup, hcrc, hs1, hbad, hseq, Bool.not_true, Bool.false_eq_true, and_false, if_false]
  · show execZlIdleCellTimer l s = _
    simp only [execZlIdleCellTimer, hup, Nat.not_le.2 hl, Nat.not_lt.2 hidle, Bool.not_true, Bool.false_eq_true, or_self, if_false]
    rfl
  · show execZlLinkSilence l s = _
    simp only [execZlLinkSilence, hup, Nat.not_le.2 hl, Nat.not_lt.2 hsilent, Bool.not_true, Bool.false_eq_true, or_self, if_false]
    rfl
  · show execZlRetrainTimer l s = _
    simp only [execZlRetrainTimer, hwant, hstate, Nat.not_le.2 hl, Nat.not_lt.2 hlate, Bool.not_true, Bool.false_eq_true, ne_eq,
      not_true_eq_false, or_self, if_false]
  · show execZlTrained l lanes ns s = _
    simp only [execZlTrained, hstate, Nat.not_le.2 hl, ne_eq, not_true_eq_false, or_self, if_false, usable_all hlanes,
      bne_self_eq_false, reportIf_false, hnone]
    rfl
  · show execZlTrained l lanes ns s = _
    simp only [execZlTrained, hstate, Nat.not_le.2 hl, ne_eq, not_true_eq_false, or_self, if_false, usable_all hlanes,
      bne_self_eq_false, reportIf_false, hsettled]
    rfl
  · have hold : (h.part == 0x62) = false := beq_eq_false_iff_ne.2 hpart
    show execZlHelloReceived l h s = _
    simp only [execZlHelloReceived, hstate, Nat.not_le.2 hl, ne_eq, not_true_eq_false, or_self, if_false, hold, hmode,
      not_false_eq_true, Bool.not_false, and_self, true_or, if_true]
    rfl
  · have hold : (h.part == 0x62) = false := beq_eq_false_iff_ne.2 hpart
    show execZlHelloReceived l h s = _
    simp only [execZlHelloReceived, hstate, Nat.not_le.2 hl, ne_eq, not_true_eq_false, or_self, if_false, hold, hmode, hring,
      Nat.not_lt.2 hl2, hgen, Bool.false_eq_true]
    rfl
  · have hold : (s.part.code == 0x62) = false := beq_eq_false_iff_ne.2 (hsame ▸ hpart)
    have hlink : ¬ 4 ≤ l := by omega
    show execZlHelloReceived l h s = _
    simp only [execZlHelloReceived, hstate, hlink, hsame, hold, hmode, hhello, hpair, hgen, Nat.not_le.2 hl, Nat.not_lt.2 hlevel,
      ne_eq, not_true_eq_false, or_self, false_and, and_false, Bool.not_true, Bool.false_eq_true, if_false]
    rfl
  · show execZlHelloTimeout l s = _
    simp only [execZlHelloTimeout, hstate, Nat.not_le.2 hl, Nat.not_lt.2 hlate, ne_eq, not_true_eq_false, or_self, if_false, hsaid,
      reportIf, Bool.not_false, Bool.true_and, Bool.and_eq_true, decide_eq_true_eq, if_true]
  · exact if_neg fun ⟨h1, h2⟩ => hgen h1 h2
  · exact (ok_gate h _).trans (congrArg _ (if_pos hup))
  · refine (ok_gate h _).trans ?_
    simp only [hdown, Bool.false_eq_true, if_false, Bool.not_eq_true']
  · refine (ok_gate h _).trans ?_
    simp only [List.filter_cons, h2, h3, Bool.false_eq_true, if_false, List.filter_nil, List.isEmpty_nil, if_true]

end Sys2Proof.Machine
end

section
/-! What the link layer leaves of its links when it takes a cell (R306). -/

namespace Sys2Proof.Machine

open Sys2Proof

/-- Link 3 as after reset, but that further records of a cell may follow. -/
def takingLink : ZLink := { ZLink.reset with taking := 1 }

/-- A state whose list of links is not in the order of their numbers, link 3 up. -/
def unorderedLinks : State :=
  wr { State.reset with zlinks := [(5, ZLink.reset), (3, takingLink)] } R.ZL_STATUS.STATE 3 3

/-- A good cell of link 3, next in sequence. -/
def nextCell : Rx where
  link := 3
  lseq := 0
  pseq := 0
  ack := 0
  nak := false
  crcOk := true
  stomped := false
  bad := false
  more := false

/-- What the link layer leaves as `CellTaken` says it. -/
def cellTakenState : State :=
  takeAck (setZl unorderedLinks 3 { zl unorderedLinks 3 with
    lastRx := unorderedLinks.tick, last := 0, nakked := false, taking := 1 }) 3 0 false none

theorem nextCell_taken : CellTaken unorderedLinks nextCell cellTakenState :=
  ⟨by decide +kernel, rfl, rfl, rfl, rfl, by decide +kernel, rfl, .inl (by decide)⟩

/-- What a DROP token does in its turn. -/
def dropToken (t : State) : State :=
  if heldOrAhead t 0 0 = false then report t 0x0507 3 0 else if rd t R.ZP_STATUS.ROLE 0 = 2 then setRole t 3 false else t

theorem exec_tokenDrop_nextCell :
    exec (.tokenDropReceived nextCell 0 0 0 false) unorderedLinks =
      .next (arriveCell unorderedLinks nextCell (tokenOr false (.dropped 0 0))) := rfl

/-- The entry of link 3 behind that of link 5 is dropped on the one way, and stays on the other. -/
theorem zlinks_tokenDrop_ne :
    (arriveCell unorderedLinks nextCell (tokenOr false (.dropped 0 0))).zlinks ≠ (thenAhead 3 cellTakenState dropToken).zlinks := by
  decide +kernel

/-- Refutes O52: the clauses on cells hold of every state, one whose list of links is not in canonical form included. There the
link layer's first update (`taking` falls to 0, `takeCell`) writes the reset value, which removes the link's entry, and the later
ones enter it at its place; the one update of `CellTaken` leaves the old entry behind. The two states differ. -/
theorem not_pairAndRingCellsAct : ¬ Obligations.PairAndRingCellsAct := by
  unfold Obligations.PairAndRingCellsAct
  rintro ⟨hcells, _⟩
  obtain ⟨_, _, _, _, _, _, _, hdrop, _⟩ := hcells unorderedLinks cellTakenState nextCell nextCell_taken
  have hsame : Host.Outcome.next (arriveCell unorderedLinks nextCell (tokenOr false (.dropped 0 0))) =
      .next (thenAhead 3 cellTakenState dropToken) := exec_tokenDrop_nextCell.symm.trans (hdrop 0 0 0)
  exact zlinks_tokenDrop_ne (congrArg State.zlinks (Host.Outcome.next.inj hsame))

end Sys2Proof.Machine
end

section
/-! Calibration runs, sets, blends and their registers (R332, R334, R338 to R342, R348). -/

namespace Sys2Proof.Machine

open Sys2Proof

/-- Settles O53: each row's guard is cleared by its premises. -/
theorem calibrationSetsAct : Obligations.CalibrationSetsAct := by
  unfold Obligations.CalibrationSetsAct
  refine ⟨fun s w k h hlisten => ⟨fun h2 hrun hcount hfits => ?_, fun h0 hbusy heff => ?_, fun h1 hcomp => ?_⟩,
    fun s k r hr => ⟨fun hphase hmay => ?_, fun hphase hgot => ?_, fun hphase hwords hshed => ?_⟩,
    fun s k e l rest hfifo heff he => ?_, fun s k i e o l new rest hnext hpb hl he => ?_,
    fun s k hblend hpb hrf hpbj => ?_, ?_, fun s w off k r hr h => ?_, fun s w k h => ?_, fun s w i h => ok_gate h _⟩
  · have hsums : sumsFit (putPlain s R.CAL_CTRL.reg 0 k w.val) k = true := decide_eq_true hfits
    refine (ok_gate h _).trans ?_
    simp only [h2, hlisten, runOpen, hrun, hcount, hsums, Option.isSome_none, Bool.not_true, Bool.false_eq_true, or_self, if_false]
  · refine (ok_gate h _).trans ?_
    simp only [h0, hlisten, hbusy, heff, Option.isSome_none, Bool.not_true, Bool.false_eq_true, or_self, if_false]
  · refine (ok_gate h _).trans ?_
    simp only [h1, hcomp, Bool.not_true, Bool.false_eq_true, if_false]
  · show execCalCaptureStart k s = _
    simp only [execCalCaptureStart, hr, if_pos (And.intro hphase hmay)]
  · show execCalCaptureEnd k s = _
    simp only [execCalCaptureEnd, hr, if_pos (And.intro hphase hgot)]
  · show execCalComputeDone k s = _
    simp only [execCalComputeDone, hr, hphase, hwords, hshed, List.isEmpty_nil, Bool.not_true, Bool.false_eq_true, ne_eq,
      not_true_eq_false, or_self, if_false, Bool.and_eq_true, Option.isNone_iff_eq_none]
    cases runTables s k r <;> rfl
  · show execCalEffectStart k s = _
    simp only [execCalEffectStart, hfifo, heff, if_neg (Nat.not_lt.2 he)]
  · show execCalPbBlendStart k s = _
    simp only [execCalPbBlendStart, hnext, hpb, hl, if_neg (Nat.not_lt.2 he), Option.isNone_iff_eq_none]
  · show execCalBlendEnd k s = _
    simp only [execCalBlendEnd, hblend, hpb, Nat.not_lt.2 hrf, Nat.not_lt.2 hpbj, List.isEmpty_nil, Bool.not_true, Bool.false_eq_true,
      or_self, if_false]
  · intro s w off k t a ht hwho hbank hoff halign hmax hcomp
    have hlegal : ¬ (w.who = .clapper ∨ rd s R.CAL_TBLSEL.BANK (reqNo w.who) ≠ 1 ∨ 32768 ≤ off ∨ off % 4 ≠ 0 ∨
        imageMax t < a + 4) := by
      rintro (h | h | h | h | h)
      · exact hwho h
      · exact h hbank
      · omega
      · exact h halign
      · omega
    exact (if_neg (Nat.not_le.2 ht)).trans ((if_neg hlegal).trans (if_neg (ne_true_of_eq_false hcomp)))
  · show execCalLimWrite w off s = _
    simp only [execCalLimWrite, hr]
    exact ok_gate h _
  · intro slot own
    refine ⟨fun hen hown => ?_, fun hen hown => ?_, fun hen => ?_⟩
    · have hfree : ¬ (fval R.CAL_PERSIST.EN w.val = 1 ∧ s.life.owners.any (fun p => p.1 != k && p.2 == slot + 1) = true) := by
        rintro ⟨_, hany⟩
        obtain ⟨p, hp, hother⟩ := List.any_eq_true.1 hany
        obtain ⟨hne, heq⟩ := Bool.and_eq_true_iff.1 hother
        exact bne_iff_ne.1 hne (hown p hp (beq_iff_eq.1 heq))
      refine (ok_gate h _).trans (congrArg _ ((if_neg hfree).trans ?_))
      rw [if_pos hen]
    · obtain ⟨p, hp, heq, hne⟩ := hown
      have hany : s.life.owners.any (fun p => p.1 != k && p.2 == slot + 1) = true :=
        List.any_eq_true.2 ⟨p, hp, Bool.and_eq_true_iff.2 ⟨bne_iff_ne.2 hne, beq_iff_eq.2 heq⟩⟩
      exact (ok_gate h _).trans (congrArg _ (if_pos ⟨hen, hany⟩))
    · have hoff : ¬ fval R.CAL_PERSIST.EN w.val = 1 := by omega
      refine (ok_gate h _).trans ?_
      simp only [hoff, false_and, if_false]

end Sys2Proof.Machine
end

section
/-! Self-calibration, life counters, wear and the calendar (R329 to R331, R341 to R347, R428). -/

namespace Sys2Proof.Machine

open Sys2Proof

/-- A row whose period has passed is due. -/
theorem not_due_eq_false {s : State} {t n : Nat} (h : t + n ≤ s.tick) : (!due s t n) = false := by
  rw [due, decide_eq_true h, Bool.not_true]

theorem OnlyReports.life {s t : State} (h : OnlyReports s t) : t.life = s.life := (congrArg State.life h :)

theorem OnlyReports.sec {s t : State} (h : OnlyReports s t) : t.sec = s.sec := (congrArg State.sec h :)

/-- The minute's growth of the life counters, before they are written. -/
def grownLife (s : State) : State :=
  let s1 := growWear { s with timers := { s.timers with counters := s.tick },
                              life := { s.life with now := { s.life.now with powered := s.life.now.powered + 60 } } }
  { s1 with life := { s1.life with hists := closeMonth s1.life.now.powered s1.life.hists },
            sec := { s1.sec with served := lockServed s1, lockFrom := s1.tick } }

theorem exec_lifeCountersWrite {s : State} (good : Bool) (hdue : s.timers.counters + 6000000000 ≤ s.tick) :
    exec (.lifeCountersWrite good) s = .next (showLife (saveLife (grownLife s) good)) := by
  show execLifeCountersWrite good s = _
  simp only [execLifeCountersWrite, not_due_eq_false hdue, Bool.false_eq_true, if_false]
  rfl

theorem showLife_life (s : State) : (showLife s).life = s.life := by simp only [showLife, wr_life]

theorem showLife_sec (s : State) : (showLife s).sec = s.sec := by simp only [showLife, wr_sec]

/-- The life store without the cores' records. -/
def lifeApartCores (s : State) : Life := { s.life with cores := [] }

theorem setQuiet_lifeApartCores (s : State) (c n : Nat) : lifeApartCores (setQuiet s c n) = lifeApartCores s := rfl

theorem setQuiet_sec (s : State) (c n : Nat) : (setQuiet s c n).sec = s.sec := rfl

theorem writeQuiet_lifeApartCores (s : State) : lifeApartCores (writeQuiet s) = lifeApartCores s := by
  unfold writeQuiet
  exact foldl_keeps lifeApartCores (fun t c => setQuiet_lifeApartCores t c (quietTicks t c)) _ s

theorem writeQuiet_sec (s : State) : (writeQuiet s).sec = s.sec := by
  unfold writeQuiet
  exact foldl_keeps State.sec (fun t c => setQuiet_sec t c (quietTicks t c)) _ s

/-- A write that verifies puts the record into the copy not written last (R341). -/
theorem saveLife_good (s : State) : lifeApartCores (saveLife s true) =
    { s.life with counters := putCopy s.life.counters (lifeRecord s), wears := putCopy s.life.wears s.life.hists, cores := [] } := by
  rw [saveLife, if_pos rfl, writeQuiet_lifeApartCores]
  rfl

/-- A write that fails its verification is only reported. -/
theorem saveLife_bad (s : State) : OnlyReports s (saveLife s false) := by
  have hplain : report s 0x080C (1 - s.life.counters.copy) 0 = note s 0x080C (1 - s.life.counters.copy) (tableSide 0x080C) 0 :=
    report_plain _ _ rfl (by decide)
  rw [saveLife, if_neg Bool.false_ne_true, hplain]
  exact note_onlyReports _ _ _ _ _

theorem saveLife_sec (s : State) (good : Bool) : (saveLife s good).sec = s.sec := by
  cases good with
  | false => exact (saveLife_bad s).sec
  | true => exact writeQuiet_sec _

theorem grownLife_powered (s : State) : (grownLife s).life.now.powered = s.life.now.powered + 60 := rfl

theorem grownLife_fresh (s : State) : (grownLife s).life.fresh = [] := rfl

theorem grownLife_counters (s : State) : (grownLife s).life.counters = s.life.counters := rfl

theorem grownLife_wears (s : State) : (grownLife s).life.wears = s.life.wears := rfl

theorem grownLife_lockFrom (s : State) : (grownLife s).sec.lockFrom = s.tick := rfl

/-- The minute's record, written or not: the seconds it counts, and the bins it has taken in. -/
theorem saveLife_grownLife_now (s : State) (good : Bool) :
    (saveLife (grownLife s) good).life.now.powered = s.life.now.powered + 60 ∧ (saveLife (grownLife s) good).life.fresh = [] := by
  cases good with
  | false =>
    rw [(saveLife_bad _).life]
    exact ⟨grownLife_powered s, grownLife_fresh s⟩
  | true =>
    have hsave := saveLife_good (grownLife s)
    exact ⟨(congrArg (fun l => l.now.powered) hsave).trans (grownLife_powered s),
      (congrArg Life.fresh hsave).trans (grownLife_fresh s)⟩

/-- Settles O54: each row's guard is cleared by its premises. -/
theorem selfCalibrationActs : Obligations.SelfCalibrationActs := by
  unfold Obligations.SelfCalibrationActs
  refine ⟨fun s readings hdue => ?_, fun s n hn => ⟨fun hin hfar hlate => ?_, fun hout hwithin hlate => ?_⟩,
    fun s found hdue => ?_, fun s delays hdue => ?_, fun s ds hdue => ?_, fun s l eye => ⟨rfl, ?_⟩,
    fun s good hdue => ⟨_, exec_lifeCountersWrite good hdue, ?_⟩, fun s hdue => ?_, fun s w i h => ok_gate h _,
    fun s mv hmv => ?_, fun s hlost hvalid => ?_⟩
  · show execTempSensorRead readings s = _
    simp only [execTempSensorRead, not_due_eq_false hdue, Bool.false_eq_true, if_false]
  · show execSensorExclude n s = _
    simp only [execSensorExclude, Nat.not_le.2 hn, hin, hfar, Nat.not_lt.2 hlate, Bool.false_eq_true, or_self, if_false]
  · show execSensorRejoin n s = _
    simp only [execSensorRejoin, Nat.not_le.2 hn, hout, hwithin, Nat.not_lt.2 hlate, Bool.not_true, Bool.false_eq_true, or_self,
      if_false]
  · show execSupplyMonitorCal found s = _
    simp only [execSupplyMonitorCal, not_due_eq_false hdue, Bool.false_eq_true, if_false]
  · show execCanaryEvaluation delays s = _
    simp only [execCanaryEvaluation, not_due_eq_false hdue, Bool.false_eq_true, if_false]
  · show execDramTrackingUpdate ds s = _
    simp only [execDramTrackingUpdate, not_due_eq_false hdue, Bool.false_eq_true, if_false]
  · show execSerdesEqUpdate l eye false s = _
    simp only [execSerdesEqUpdate, Bool.false_eq_true, if_false, ← Nat.not_lt, ite_not, apply_ite Host.Outcome.next]
  · obtain ⟨hpowered, hfresh⟩ := saveLife_grownLife_now s good
    rw [showLife_life, showLife_sec, saveLife_sec]
    refine ⟨hpowered, hfresh, grownLife_lockFrom s, fun hgood => ?_, fun hbad => ?_⟩
    · subst hgood
      have hcounters : (saveLife (grownLife s) true).life.counters = putCopy s.life.counters (lifeRecord (grownLife s)) :=
        (congrArg Life.counters (saveLife_good (grownLife s))).trans (by rw [grownLife_counters])
      rw [hcounters]
      exact ⟨rfl, rfl, rfl, grownLife_powered s⟩
    · subst hbad
      rw [(saveLife_bad _).life]
      exact ⟨grownLife_counters s, grownLife_wears s⟩
  · exact if_neg (ne_true_of_eq_false (not_due_eq_false hdue))
  · show execVbatOutOfRange mv s = _
    have hrange : ¬ (2500 ≤ mv ∧ mv ≤ 3600) := by omega
    simp only [execVbatOutOfRange, if_neg hrange, apply_ite Host.Outcome.next]
  · exact if_neg (by rw [hlost, hvalid]; decide)

end Sys2Proof.Machine
end

section
/-! Heat, supplies and power-up (R402, R412 to R414, R425, R476, R477). -/

namespace Sys2Proof.Machine

open Sys2Proof

theorem lastedFor_iff (s : State) (t n : Nat) : lastedFor s t n = true ↔ t ≠ 0 ∧ t + n ≤ s.tick + 1 := by
  rw [lastedFor, Bool.and_eq_true, bne_iff_ne, decide_eq_true_eq]

/-- Settles O56: each row's guard is cleared by its premises. -/
theorem heatAndPowerAct : Obligations.HeatAndPowerAct := by
  unfold Obligations.HeatAndPowerAct
  refine ⟨fun s inlet outlet p hdue => ?_, fun s => ?_, fun s hdue => ?_, fun s hhot => ?_, fun s hshed hcool hlate henv => ?_,
    fun s => rfl, fun s w i h => ok_gate h _, fun s r hr h6 h7 h8 => ?_, fun s => ⟨fun hd => if_pos hd, fun hd => ?_⟩,
    fun s hold good => rfl, fun s b hoff => ?_, fun s step => rfl⟩
  · show execThermistorRead inlet outlet p s = _
    simp only [execThermistorRead, not_due_eq_false hdue, Bool.false_eq_true, if_false]
  · show execCoolantAlarm s = _
    simp only [execCoolantAlarm, Bool.and_eq_true, Bool.not_eq_true']
    rfl
  · show execJunctionCheck s = _
    simp only [execJunctionCheck, not_due_eq_false hdue, Bool.false_eq_true, if_false]
  · have hlong : (lastedFor s s.therm.hot 10000000 || lastedFor s s.therm.inletHot 100000000) = true := by
      rw [Bool.or_eq_true, lastedFor_iff, lastedFor_iff]
      exact hhot
    exact if_pos hlong
  · have hgone : (!s.flt.env.contains 0x0B0A) = true := by
      rw [Bool.not_eq_true', ← Bool.not_eq_true, List.contains_iff_mem]
      exact henv
    exact if_pos ⟨hshed, (lastedFor_iff _ _ _).2 ⟨hcool, hlate⟩, hgone⟩
  · have hrail : ¬ (13 ≤ r ∨ r = 6 ∨ r = 7 ∨ r = 8) := by omega
    refine ⟨?_, fun h5 => ?_, ?_⟩
    · show execSupplyRailOutOfRange r true s = _
      simp only [execSupplyRailOutOfRange, if_neg hrail, Bool.not_true, Bool.false_eq_true, and_false, if_false, if_true]
    · show execSupplyRailOutOfRange r false s = _
      simp only [execSupplyRailOutOfRange, if_neg hrail, h5, Bool.false_eq_true, false_and, if_false]
    · rfl
  · exact if_neg (ne_true_of_eq_false hd)
  · exact if_neg (ne_true_of_eq_false hoff)

end Sys2Proof.Machine
end

section

/-!
### The Damson unit (R353 to R367)
-/

namespace Sys2Proof.Machine
open Sys2Proof

/-- A command's frame that Damson takes has the command's effect on its bytes. -/
theorem dmsCmd_taken {s s0 : State} {f : DmsFrame} {cmd : Nat} {b : List Byte} (h : DmsTaken s f cmd b s0)
    (k : List Byte → State → State) : dmsCmd f cmd s k = .next (k b s0) := by
  obtain ⟨hawake, hcmd, hframe⟩ := h
  cases hvia : f.via with
  | serial line =>
    simp only [hvia] at hframe
    obtain ⟨hline, rfl⟩ := hframe
    simp only [dmsCmd, hawake, Bool.not_true, Bool.false_eq_true, if_false, hvia, hline, hcmd, if_true]
  | tap flips =>
    simp only [hvia] at hframe
    obtain ⟨fr, s1, htake, hdigest, hform, hstripe, rfl, rfl⟩ := hframe
    simp only [dmsCmd, hawake, Bool.not_true, Bool.false_eq_true, if_false, hvia, htake, hdigest, hform, hstripe, hcmd,
      Bool.or_self, bne_self_eq_false, if_true]

theorem dmsAwake_of_dmsRuns {s : State} (h : dmsRuns s = true) : dmsAwake s = true :=
  (Bool.and_eq_true _ _ ▸ h : dmsAwake s = true ∧ _).1

/-- The guard of a tap frame's row, as a conjunction of what it checks. -/
theorem frame_guard (a b : Bool) (x y : Nat) : (!a || !b || x != y) = !decide (a = true ∧ b = true ∧ x = y) := by
  by_cases h : x = y <;> simp [h]

/-- A cycle upwards moves Damson's count by one, downwards where ENC_DIR inverts it (R356). -/
theorem dmsPulse_true (s : State) : dmsPulse s true =
    dmsMap s fun d => { d with pulses := d.pulses + if dmsParam s.dms 2 = 1 then -1 else 1 } := by
  by_cases h : dmsParam s.dms 2 = 1 <;> simp [dmsPulse, h]

/-- A cycle downwards moves it the other way. -/
theorem dmsPulse_false (s : State) : dmsPulse s false =
    dmsMap s fun d => { d with pulses := d.pulses - if dmsParam s.dms 2 = 1 then -1 else 1 } := by
  by_cases h : dmsParam s.dms 2 = 1 <;> simp [dmsPulse, h, Int.sub_eq_add_neg]

/-- Damson's volatile fields have keys of their own. -/
theorem dmsVolatile_key_ne : ∀ f ∈ dmsVolatile, ∀ g ∈ dmsVolatile, f ≠ g →
    f.lo < 32 ∧ g.lo < 32 ∧ (f.off ≠ g.off ∨ f.lo ≠ g.lo) := by
  decide

/-- Clearing volatile fields one after another leaves each of them zero. -/
theorem rd_foldl_clear {f : Fld} (hf : f ∈ dmsVolatile) (l : List Fld) (hl : ∀ g ∈ l, g ∈ dmsVolatile) (s : State)
    (h : f ∈ l ∨ rd s f 0 = 0) : rd (l.foldl (fun s g => wr s g 0 0) s) f 0 = 0 := by
  induction l generalizing s with
  | nil => exact h.resolve_left List.not_mem_nil
  | cons g l ih =>
    refine ih (fun g' hg' => hl g' (List.mem_cons_of_mem _ hg')) _ ?_
    by_cases hfg : f = g
    · exact .inr (hfg ▸ (rd_wr_same s f 0 0).trans (Nat.zero_mod _))
    · obtain ⟨hflo, hglo, hne⟩ := dmsVolatile_key_ne f hf g (hl g List.mem_cons_self) hfg
      exact h.imp (fun hmem => (List.mem_cons.1 hmem).resolve_left hfg)
        (fun hzero => (rd_wr_ne s 0 0 0 (Fld.key_ne 0 0 hflo hglo hne)).trans hzero)

/-- After a loss of VDD_MET the volatile fields read zero (R367). -/
theorem dmsPowerOff_volatile (s : State) {f : Fld} (hf : f ∈ dmsVolatile) : rd (dmsPowerOff s) f 0 = 0 :=
  rd_foldl_clear hf _ (fun _ h => h) _ (.inl hf)

/-- What a loss of VDD_MET leaves of Damson's structure (R367). -/
theorem dmsPowerOff_dms (s : State) : (dmsPowerOff s).dms = { s.dms with
    powered := false, meas := none, tap := [], enc := Quad.reset, samples := 0, adjLow := false, adjAt := s.dms.metTime } :=
  foldl_keeps State.dms (fun _ _ => rfl) dmsVolatile _

/-- Settles O57: a command's frame through `dmsCmd_taken`, the other rows by their guards. -/
theorem damsonActs : Obligations.DamsonActs := by
  unfold Obligations.DamsonActs
  refine ⟨fun s hdue => ?_, fun s s1 flips fr met hawake => ⟨fun htake => ?_, fun htake => ?_⟩,
    fun s met hruns => ⟨fun m hmeas hlate => ?_, fun hsave => ?_, ?_, ?_⟩,
    fun s s1 met low hawake hs1 => ⟨fun hlow hruns hheld hstate => ?_, fun hlow hheld => ?_,
      fun hlow hheld hstate => ?_, fun hlow hheld => ?_⟩,
    fun s s1 a b q hdamson hpow hq hs1 => ⟨fun hev => ?_, fun hev => ?_, fun hev => ?_, fun hev => ?_⟩,
    fun s hdamson => ⟨?_, fun okA okB met => ⟨?_, ?_⟩⟩,
    fun s s0 f b => ⟨fun h => ?_, fun h => ⟨fun hmeas => ?_, fun m hmeas => ?_⟩, fun h => ?_,
      fun h => ?_, fun h => ?_, fun h => ?_,
      fun h => ⟨fun code hcode cut => ?_, fun hcode hrange => ⟨?_, ?_⟩, fun hcode hrange cut => ?_⟩,
      fun h version sha => ⟨fun code hcode cut => ?_, fun hcode => ⟨?_, ?_⟩⟩⟩⟩
  · exact if_neg (fun hnot => absurd hnot (by simp [due, hdue]))
  · show execDmsLinesFrame flips met s = _
    simp only [execDmsLinesFrame, hawake, Bool.not_true, Bool.false_eq_true, if_false, htake, frame_guard,
      Bool.not_eq_true', decide_eq_false_iff_not, ite_not, Bool.or_eq_true]
    exact (apply_ite Host.Outcome.next _ _ _).symm
  · show execDmsTimeFrame flips met s = _
    simp only [execDmsTimeFrame, hawake, Bool.not_true, Bool.false_eq_true, if_false, htake, frame_guard,
      Bool.not_eq_true', decide_eq_false_iff_not, ite_not]
    rw [apply_ite Host.Outcome.next, apply_ite Host.Outcome.next]
    rfl
  · show execDmsTapSilence met s = _
    simp only [execDmsTapSilence, hruns, Bool.not_true, Bool.false_eq_true, if_false, hmeas, if_pos hlate]
  · show execDmsStateSave met s = _
    simp only [execDmsStateSave, hruns, Bool.not_true, Bool.false_eq_true, false_or, if_neg (Nat.not_lt.2 hsave)]
  · show execDmsOscFail met s = _
    simp only [execDmsOscFail, hruns, Bool.not_true, Bool.false_eq_true, if_false]
  · exact if_pos hruns
  · subst hlow
    obtain rfl : s1 = adjSeen s true met := hs1
    refine (if_neg (by simp [hawake])).trans (congrArg Host.Outcome.next (if_pos ?_))
    simp only [adjHeld, hruns, hheld, bne_iff_ne.2 hstate, decide_true, Bool.and_self]
  · subst hlow
    obtain rfl : s1 = adjSeen s true met := hs1
    refine (if_neg (by simp [hawake])).trans (congrArg Host.Outcome.next (if_neg ?_))
    simp only [adjHeld, hheld, decide_false, Bool.and_false, Bool.false_and, Bool.false_eq_true, not_false_eq_true]
  · subst hlow
    obtain rfl : s1 = adjSeen s false met := hs1
    refine (if_neg (by simp [hawake])).trans (congrArg Host.Outcome.next (if_pos ?_))
    simp only [adjHeld, hheld, beq_iff_eq.2 hstate, decide_true, Bool.and_self]
  · subst hlow
    obtain rfl : s1 = adjSeen s false met := hs1
    refine (if_neg (by simp [hawake])).trans (congrArg Host.Outcome.next (if_neg ?_))
    simp only [adjHeld, hheld, decide_false, Bool.false_and, Bool.false_eq_true, not_false_eq_true]
  · subst hq hs1
    show execDmsEncoderPulse a b s = _
    simp only [execDmsEncoderPulse, hdamson, hpow, Bool.and_self, Bool.not_true, Bool.false_eq_true, if_false, hev]
  · subst hq hs1
    show execDmsEncoderPulse a b s = _
    simp only [execDmsEncoderPulse, hdamson, hpow, Bool.and_self, Bool.not_true, Bool.false_eq_true, if_false, hev]
    exact congrArg Host.Outcome.next (dmsPulse_true _)
  · subst hq hs1
    show execDmsEncoderPulse a b s = _
    simp only [execDmsEncoderPulse, hdamson, hpow, Bool.and_self, Bool.not_true, Bool.false_eq_true, if_false, hev]
    exact congrArg Host.Outcome.next (dmsPulse_false _)
  · subst hq hs1
    show execDmsEncoderPulse a b s = _
    simp only [execDmsEncoderPulse, hdamson, hpow, Bool.and_self, Bool.not_true, Bool.false_eq_true, if_false, hev]
  · have hdms := dmsPowerOff_dms s
    refine ⟨dmsPowerOff s, if_pos hdamson, ?_, ?_, ?_, fun f hf => dmsPowerOff_volatile s hf, ?_, ?_, ?_⟩ <;> rw [hdms]
  · exact if_pos hdamson
  · exact if_pos hdamson
  · show execDmsStart f s = _
    simp only [execDmsStart, dmsCmd_taken h, Bool.not_eq_true']
  · show execDmsStop f s = _
    simp only [execDmsStop, dmsCmd_taken h, hmeas]
  · show execDmsStop f s = _
    simp only [execDmsStop, dmsCmd_taken h, hmeas]
  · show execDmsRecAck f s = _
    simp only [execDmsRecAck, dmsCmd_taken h]
  · show execDmsIdent f s = _
    simp only [execDmsIdent, dmsCmd_taken h]
  · show execDmsTrailPage f s = _
    simp only [execDmsTrailPage, dmsCmd_taken h]
  · show execDmsTrailAck f s = _
    simp only [execDmsTrailAck, dmsCmd_taken h, Bool.not_eq_true', ← Bool.not_eq_true, ite_not]
  · show execDmsSetparam f cut s = _
    simp only [execDmsSetparam, dmsCmd_taken h, hcode]
  · show execDmsSetparam f false s = _
    simp only [execDmsSetparam, dmsCmd_taken h, hcode, hrange, Bool.not_true, Bool.false_eq_true, if_false]
  · show execDmsSetparam f true s = _
    simp only [execDmsSetparam, dmsCmd_taken h, hcode, hrange, Bool.not_true, Bool.false_eq_true, if_false, if_true]
  · show execDmsSetparam f cut s = _
    simp only [execDmsSetparam, dmsCmd_taken h, hcode, hrange, Bool.not_false, if_true]
  · show execDmsFwupdate f version sha cut s = _
    simp only [execDmsFwupdate, dmsCmd_taken h, hcode]
  · show execDmsFwupdate f version sha false s = _
    simp only [execDmsFwupdate, dmsCmd_taken h, hcode, Bool.false_eq_true, if_false]
  · show execDmsFwupdate f version sha true s = _
    simp only [execDmsFwupdate, dmsCmd_taken h, hcode, if_true]

end Sys2Proof.Machine
end

section

/-!
### Keys, the lifecycle and access in the field (R422 to R428)
-/

namespace Sys2Proof.Machine
open Sys2Proof

/-- A key command that is in order is applied and reported (R422). -/
theorem applyKey_of_code_zero {s : State} {c : KeyCmd} (h : keyCode s c = 0) (cut : Bool) :
    (applyKey s c cut).1 = report (doKey (secMap s fun x => { x with keySeq := c.seq }) c.op cut) 0x0916 0 c.seq := by
  simp only [applyKey, h]

/-- A key command that is out of order is refused with its code (R422). -/
theorem applyKey_of_code_ne_zero {s : State} {c : KeyCmd} (h : keyCode s c ≠ 0) (cut : Bool) :
    (applyKey s c cut).1 = report s (keyCode s c) 0 c.seq := by
  unfold applyKey
  split
  next hzero => exact absurd hzero h
  next => rfl

/-- The bits of a command word that a four-bit slice of it shows. -/
theorem bits_of_access_nibble {v n : Nat} (h : bits v 2 4 = n) :
    bit v 2 = bit n 0 ∧ bit v 3 = bit n 1 ∧ bit v 4 = bit n 2 ∧ bit v 5 = bit n 3 := by
  obtain ⟨h0, h1, h2, h3⟩ := bits_of_low_nibble h
  have hshift (i : Nat) : bit v (2 + i) = bit (v / 2 ^ 2) i := by
    rw [bit, bit, Nat.div_div_eq_div_mul, Nat.pow_add]
  exact ⟨(hshift 0).trans h0, (hshift 1).trans h1, (hshift 2).trans h2, (hshift 3).trans h3⟩

/-- Settles O58: a key command through its two `applyKey` lemmas, the access commands through the bits of their word. -/
theorem keysAndAccessAct : Obligations.KeysAndAccessAct := by
  unfold Obligations.KeysAndAccessAct
  refine ⟨fun s c hcode => ⟨fun h hop => ?_, fun n hop => ?_, fun b hop => ?_, fun b hop => ?_, fun cut hop => ?_⟩,
    fun s c cut hcode => ⟨fun h hop => ?_, fun n hop => ?_, fun b hop => ?_, fun b hop => ?_, fun hop => ?_⟩,
    fun s cr key cut => ⟨fun hlife => ?_, fun hlife => if_pos hlife⟩, fun s n sigOk cut => ?_,
    fun s w i h => ⟨fun hbits => ?_, fun hbits => ?_, fun hbits => ?_, fun hbits => ?_⟩, fun s t hnonce hlate => ?_,
    fun s hlocked hserved => ?_,
    fun s => ⟨rfl, fun hopen => ⟨fun a hbus => ?_, fun c => ?_, fun l => ?_, fun a d => ?_⟩,
      fun hopen a l d => ⟨?_, ?_, ?_, ?_⟩⟩⟩
  · show execKeyAddKey c s = _
    simp only [execKeyAddKey, hop, applyKey_of_code_zero hcode]
    rfl
  · show execKeyRevokeKey c s = _
    simp only [execKeyRevokeKey, hop, applyKey_of_code_zero hcode]
    rfl
  · show execKeySetPassword c s = _
    simp only [execKeySetPassword, hop, applyKey_of_code_zero hcode]
    rfl
  · show execKeySetMgmtKey c s = _
    simp only [execKeySetMgmtKey, hop, applyKey_of_code_zero hcode]
    rfl
  · show execKeyProvisionDone c cut s = _
    simp only [execKeyProvisionDone, hop, applyKey_of_code_zero hcode]
    rfl
  · show execKeyAddKey c s = _
    simp only [execKeyAddKey, hop, applyKey_of_code_ne_zero hcode]
  · show execKeyRevokeKey c s = _
    simp only [execKeyRevokeKey, hop, applyKey_of_code_ne_zero hcode]
  · show execKeySetPassword c s = _
    simp only [execKeySetPassword, hop, applyKey_of_code_ne_zero hcode]
  · show execKeySetMgmtKey c s = _
    simp only [execKeySetMgmtKey, hop, applyKey_of_code_ne_zero hcode]
  · show execKeyProvisionDone c cut s = _
    simp only [execKeyProvisionDone, hop, applyKey_of_code_ne_zero hcode]
  · refine (if_neg (not_not.2 hlife)).trans ?_
    simp only [List.isEmpty_iff]
    rfl
  · show execVendorReturn sigOk n cut s = _
    have hiff : (lifecycle s = 3 ∨ (!sigOk) = true ∨ (at? ([], true) s.sec.vendorTest n).2 = true ∨ (!s.sec.crSession) = true) ↔
        ¬(lifecycle s ≠ 3 ∧ sigOk = true ∧ (at? ([], true) s.sec.vendorTest n).2 = false ∧ s.sec.crSession = true) := by
      simp only [not_and_or, not_not, Bool.not_eq_true', Bool.not_eq_true, Bool.not_eq_false]
    simp only [execVendorReturn, hiff, ite_not]
    rw [apply_ite Host.Outcome.next]
  · obtain ⟨h2, h3, h4, h5⟩ := bits_of_access_nibble hbits
    refine (ok_gate h _).trans ?_
    simp only [h2, h3, h4, h5]
    rfl
  · obtain ⟨h2, h3, h4, h5⟩ := bits_of_access_nibble hbits
    refine (ok_gate h _).trans ?_
    simp only [h2, h3, h4, h5]
    rfl
  · obtain ⟨h2, h3, h4, h5⟩ := bits_of_access_nibble hbits
    refine (ok_gate h _).trans ?_
    simp only [h2, h3, h4, h5]
    rfl
  · obtain ⟨h2, h3, h4, h5⟩ := bits_of_access_nibble hbits
    refine (ok_gate h _).trans ?_
    simp only [h2, h3, h4, h5]
    rfl
  · show execNonceExpiry s = _
    simp only [execNonceExpiry, hnonce, if_neg (Nat.not_lt.2 hlate)]
    rfl
  · show execLockoutEnd s = _
    simp only [execLockoutEnd, hlocked, Bool.not_true, Bool.false_eq_true, false_or, if_neg (Nat.not_lt.2 hserved)]
    rfl
  · show execJtagAccess (.read a) s = _
    simp only [execJtagAccess, hopen, hbus, Bool.not_true, Bool.false_eq_true, if_false]
  · show execJtagAccess (.halt c) s = _
    simp only [execJtagAccess, hopen, if_true]
    rfl
  · show execJtagAccess (.extest l) s = _
    simp only [execJtagAccess, hopen, if_true]
    rfl
  · show execJtagAccess (.write a d) s = _
    simp only [execJtagAccess, hopen, if_true, invasive]
    cases isSafe s <;> rfl
  · show execJtagAccess (.read a) s = _
    simp only [execJtagAccess, hopen, Bool.not_false, if_true]
  · show execJtagAccess (.write a d) s = _
    simp only [execJtagAccess, hopen, Bool.false_eq_true, if_false]
  · show execJtagAccess (.extest l) s = _
    simp only [execJtagAccess, hopen, Bool.false_eq_true, if_false]
  · show execJtagAccess (.halt a) s = _
    simp only [execJtagAccess, hopen, Bool.false_eq_true, if_false]

end Sys2Proof.Machine
end

section

/-!
### The management protocol (R430 to R438)
-/

namespace Sys2Proof.Machine
open Sys2Proof

/-- A datagram that verifies is accepted and handed on. -/
theorem inbound_of_authentic {s : State} {d : InDgram} (hen : isSet s R.MGMT_NET_CTRL.EN 0 = true)
    (h : authentic (wr s R.MGMT_STATUS.LINK 0 1) d = true) (k : State → State) :
    inbound s d k = k (accept (wr s R.MGMT_STATUS.LINK 0 1) d) := by
  simp only [inbound, hen, h, Bool.not_true, Bool.false_eq_true, if_false, if_true]

/-- A datagram that does not is dropped. -/
theorem inbound_of_not_authentic {s : State} {d : InDgram} (hen : isSet s R.MGMT_NET_CTRL.EN 0 = true)
    (h : authentic (wr s R.MGMT_STATUS.LINK 0 1) d = false) (k : State → State) :
    inbound s d k = dropDatagram (wr s R.MGMT_STATUS.LINK 0 1) := by
  simp only [inbound, hen, h, Bool.not_true, Bool.false_eq_true, if_false]

/-- A datagram for another part, of an old number, or with a wrong tag does not verify (R431). -/
theorem not_authentic {s : State} {d : InDgram}
    (h : dgField d 12 8 ≠ unique s ∨ dgSeq d ≤ s.mgmt.lastIn ∨ tagRight s d = false) : authentic s d = false := by
  unfold authentic
  obtain hid | hseq | htag := h
  · simp only [beq_eq_false_iff_ne.2 hid, Bool.and_false, Bool.false_and]
  · simp only [decide_eq_false (Nat.not_lt.2 hseq), Bool.and_false, Bool.false_and]
  · simp only [htag, Bool.and_false]

/-- A datagram that is not for another node goes the way of every datagram. -/
theorem execMgmtDatagramReceived_of_own {s : State} {d : InDgram} (h : forOther s d = false) :
    execMgmtDatagramReceived d s = ok (inbound s d id) :=
  if_neg fun hboth => Bool.false_ne_true (h.symm.trans hboth.1)

/-- A command that is taken is obeyed, on the state that its datagram's acceptance leaves, and its answer ended (R434, R435). -/
theorem clapper_taken {s s1 : State} {d : InDgram} {back : State → State} (h : CommandTaken s d s1 back) (code : Nat)
    (k : State → State) : clapper d code k s = .next (back (obey code k s1)) := by
  obtain ⟨hen, hport, hown, hauth, rfl, rfl⟩ | ⟨x, hring, hauth, rfl, rfl⟩ := h
  · simp only [clapper, hport, hown, Bool.false_eq_true, if_false, inbound_of_authentic hen hauth]
    rfl
  · simp only [clapper, hring, mgmtMap, hauth, if_true]

/-- GET_SNAPSHOT is obeyed in recovery too (R434). -/
theorem obey_snapshot (k : State → State) (s : State) : obey 1 k s = k s := if_neg fun h => h.2.1 rfl

/-- WRITE_FIRMWARE is obeyed in recovery too (R434). -/
theorem obey_firmware (k : State → State) (s : State) : obey 4 k s = k s := if_neg fun h => h.2.2 rfl

/-- Settles O59: the datagrams by `inbound`, a command through `clapper_taken`, the timers by their guards. -/
theorem managementActs : Obligations.ManagementActs := by
  unfold Obligations.ManagementActs
  refine ⟨fun s d hen => ⟨fun hauth => ⟨?_, fun hown => ?_⟩, fun hbad => ⟨?_, fun hown => ?_⟩, fun hother => ?_⟩,
    fun s s1 d back h => ⟨?_, fun page hpage => ?_, fun page hpage => ?_, fun part pack => clapper_taken h 3 _, fun part => ?_,
      clapper_taken h 5 _, fun safeIn => clapper_taken h 6 _, fun core => clapper_taken h 7 _,
      fun sec => clapper_taken h 8 _, fun c cut => clapper_taken h 9 _, clapper_taken h 10 _,
      fun scope l => ⟨clapper_taken h 11 _, clapper_taken h 11 _⟩⟩,
    fun s hen => ⟨?_, fun hsilent hlate => ?_, fun hsilent => ?_⟩, fun s hdue => ?_, fun s w i h => ok_gate h _,
    fun s code t l hfind hlate => ?_⟩
  · exact congrArg Host.Outcome.next (inbound_of_authentic hen hauth id)
  · exact (execMgmtDatagramReceived_of_own hown).trans (congrArg ok (inbound_of_authentic hen hauth id))
  · exact congrArg Host.Outcome.next (inbound_of_not_authentic hen (not_authentic hbad) id)
  · exact (execMgmtDatagramReceived_of_own hown).trans
      (congrArg ok (inbound_of_not_authentic hen (not_authentic hbad) id))
  · exact if_pos ⟨hother, hen⟩
  · exact (clapper_taken h 1 _).trans (congrArg (Host.Outcome.next ∘ back) (obey_snapshot _ _))
  · show execClapperGetLifePage d page s = _
    simp only [execClapperGetLifePage, if_neg (Nat.not_le.2 hpage)]
    exact clapper_taken h 2 _
  · show execClapperGetLifePage d page s = _
    simp only [execClapperGetLifePage, if_pos hpage]
    exact clapper_taken h 2 _
  · exact (clapper_taken h 4 _).trans (congrArg (Host.Outcome.next ∘ back) (obey_firmware _ _))
  · show execMgmtResendTimer s = _
    simp only [execMgmtResendTimer, hen, Bool.not_true, Bool.false_eq_true, if_false]
    rfl
  · show execMgmtPeerSilent s = _
    simp only [execMgmtPeerSilent, hsilent, hen, Bool.not_true, Bool.false_eq_true, false_or, if_neg (Nat.not_lt.2 hlate)]
    rfl
  · have hrun : ¬(s.mgmt.silent = true ∨ (!isSet s R.MGMT_NET_CTRL.EN 0) = true) := by simp [hsilent, hen]
    show execReportSend s = _
    rw [execReportSend, if_neg hrun]
    exact (apply_ite Host.Outcome.next _ _ _).symm
  · exact if_neg (fun hnot => absurd hnot (by simp [due, hdue]))
  · show execTransferIdleTimeout code s = _
    simp only [execTransferIdleTimeout, hfind, if_neg (Nat.not_lt.2 hlate)]
    rfl

end Sys2Proof.Machine
end

section

/-!
### The mailbox (R456 to R460) and the byte order (R15)
-/

namespace Sys2Proof.Machine
open Sys2Proof

theorem mbxOf_setMbx_same (s : State) (i : Nat) (m : Mbx) : mbxOf (setMbx s i m) i = m := tget_tset_same _ _ _ _

/-- A doorbell hands the request it takes up to the command's row (R457). -/
theorem doorbell_requested {s s1 : State} {w : Wr} {cmd i : Nat} {r : MbxReq} (h : Requested s w cmd i r s1)
    {is : Nat → Bool} (hcmd : is cmd = true) (k : State → Nat → MbxReq → State) : doorbell w is k s = k s1 i r := by
  obtain ⟨htakes, hfree, rfl, rfl, _, rfl⟩ := h
  refine (gate_takes htakes _).trans ?_
  simp only [hfree, Bool.false_eq_true, if_false, hcmd, if_true]

/-- A doorbell for a busy slot is an error (R457). -/
theorem doorbell_busy {s : State} {w : Wr} {i : Nat} (h : Takes s w R.MBX_DOORBELL.reg 0 i)
    (hbusy : bit (rd s R.MBX_STATUS.SLOT_BUSY i) (w.val % 8) = true) (is : Nat → Bool) (k : State → Nat → MbxReq → State) :
    doorbell w is k s = hit s R.MBX_STATUS.ERR i := by
  refine (gate_takes h _).trans ?_
  simp only [hbusy, if_true]

/-- A request's bytes stand in its slot while it is taken up. -/
theorem requested_argLen {s s1 : State} {w : Wr} {cmd i : Nat} {r : MbxReq} (h : Requested s w cmd i r s1) :
    argLen (slotBytes (mbxOf s1 i) r.slot) = argLen (slotBytes (mbxOf s i) r.slot) ∧
      argLen (slotBytes (mbxOf s i) r.slot) ≤ 248 := by
  obtain ⟨_, _, rfl, _, hlen, rfl⟩ := h
  exact ⟨by rw [mbxOf_setMbx_same]; rfl, hlen⟩

/-- A well-formed request is carried out. -/
theorem command_requested {s s1 : State} {w : Wr} {cmd i need : Nat} {r : MbxReq} (h : Requested s w cmd i r s1)
    (hneed : need ≤ argLen (slotBytes (mbxOf s i) r.slot)) {hostOnly : Bool} (hhost : hostOnly = true → i = 0)
    {rsv : List Byte → Bool} (hrsv : rsv r.args = true) (k : State → Nat → MbxReq → State) :
    command w cmd need hostOnly rsv k s = k s1 i r := by
  obtain ⟨hlen, hmax⟩ := requested_argLen h
  refine (doorbell_requested h (is := (· == cmd)) (beq_self_eq_true cmd) _).trans (if_neg ?_)
  rw [hlen, hrsv]
  rintro (hlong | hshort | hset | ⟨honly, hother⟩)
  · exact Nat.not_lt.2 hmax hlong
  · exact Nat.not_lt.2 hneed hshort
  · exact Bool.false_ne_true hset
  · exact hother (hhost honly)

/-- A request that is too short, or that its requester may not make, is refused (R460). -/
theorem command_refused {s s1 : State} {w : Wr} {cmd i need : Nat} {r : MbxReq} (h : Requested s w cmd i r s1)
    {hostOnly : Bool} (hbad : argLen (slotBytes (mbxOf s i) r.slot) < need ∨ (hostOnly = true ∧ i ≠ 0))
    (rsv : List Byte → Bool) (k : State → Nat → MbxReq → State) :
    command w cmd need hostOnly rsv k s = respond (report s1 0x073C i cmd) i r 0x073C 0 [] := by
  have hcmd : r.cmd = cmd := h.2.2.2.1
  refine (doorbell_requested h (is := (· == cmd)) (beq_self_eq_true cmd) _).trans ((if_pos ?_).trans ?_)
  · rw [(requested_argLen h).1]
    exact .inr (hbad.imp_right .inr)
  · rw [malformed, refuseReq, hcmd]

theorem leNat_byte (l : List Byte) (i : Nat) : leNat l / 256 ^ i % 256 = (l[i]?.getD 0).toNat := by
  induction l generalizing i with
  | nil => simp [leNat]
  | cons b l ih =>
    cases i with
    | zero =>
      have hb : b.toNat < 256 := b.isLt
      rw [leNat, Nat.pow_zero, Nat.div_one, Nat.add_mul_mod_self_left, Nat.mod_eq_of_lt hb]
      rfl
    | succ i =>
      have hb : b.toNat < 256 := b.isLt
      rw [leNat, Nat.pow_succ', ← Nat.div_div_eq_div_mul, Nat.add_mul_div_left _ _ (by decide), Nat.div_eq_of_lt hb,
        Nat.zero_add, ih, List.getElem?_cons_succ]

theorem memBytes_getElem? (m : List Host.Cell) (a : Nat) {n i : Nat} (h : i < n) :
    (memBytes m a n)[i]? = some (memByte m (a + i)) := by
  induction n generalizing a i with
  | zero => exact absurd h (Nat.not_lt_zero i)
  | succ n ih =>
    cases i with
    | zero => rfl
    | succ i => rw [memBytes, List.getElem?_cons_succ, ih _ (Nat.lt_of_succ_lt_succ h), Nat.add_right_comm, Nat.add_assoc]

theorem leBytes_getElem? (v : Nat) {n i : Nat} (h : i < n) : (leBytes n v)[i]? = some (BitVec.ofNat 8 (v / 256 ^ i)) := by
  induction n generalizing v i with
  | zero => exact absurd h (Nat.not_lt_zero i)
  | succ n ih =>
    cases i with
    | zero => rw [leBytes, List.getElem?_cons_zero, Nat.pow_zero, Nat.div_one]
    | succ i => rw [leBytes, List.getElem?_cons_succ, ih _ (Nat.lt_of_succ_lt_succ h), Nat.div_div_eq_div_mul, Nat.pow_succ']

/-- A field of one byte is that byte. -/
theorem fieldLE_one {l : List Byte} {i : Nat} {b : Byte} (h : l[i]? = some b) : fieldLE l i 1 = b.toNat := by
  have hslice : slice l i 1 = [b] := by
    rw [slice, List.take_one, List.head?_drop, h]
    rfl
  rw [fieldLE, hslice, leNat, leNat, Nat.mul_zero, Nat.add_zero]

/-- A command of the host alone, when the host gives it. -/
theorem command_host {s s1 : State} {w : Wr} {cmd need : Nat} {r : MbxReq} (h : Requested s w cmd 0 r s1)
    (hneed : need ≤ argLen (slotBytes (mbxOf s 0) r.slot)) {rsv : List Byte → Bool} (hrsv : rsv r.args = true)
    (k : State → Nat → MbxReq → State) : command w cmd need true rsv k s = k s1 0 r :=
  command_requested h hneed (fun _ => rfl) hrsv k

/-- A command of the host's alone, when Clapper gives it (R458). -/
theorem command_clapper {s s1 : State} {w : Wr} {cmd n : Nat} {r : MbxReq} (h : Requested s w cmd 1 r s1) (hcmd : cmd = n)
    (need : Nat) (rsv : List Byte → Bool) (k : State → Nat → MbxReq → State) :
    ok (command w n need true rsv k s) = .next (respond (report s1 0x073C 1 cmd) 1 r 0x073C 0 []) := by
  subst hcmd
  exact congrArg ok (command_refused h (.inr ⟨rfl, Nat.one_ne_zero⟩) rsv k)

/-- A command whose argument is too short (R460). -/
theorem command_short {s s1 : State} {w : Wr} {cmd n i need : Nat} {r : MbxReq} (h : Requested s w cmd i r s1)
    (hcmd : cmd = n) (hshort : argLen (slotBytes (mbxOf s i) r.slot) < need) (hostOnly : Bool) (rsv : List Byte → Bool)
    (k : State → Nat → MbxReq → State) :
    ok (command w n need hostOnly rsv k s) = .next (respond (report s1 0x073C i cmd) i r 0x073C 0 []) := by
  subst hcmd
  exact congrArg ok (command_refused h (.inl hshort) rsv k)

/-- The command number in the slot of a request is the request's. -/
theorem requested_cmd {s s1 : State} {w : Wr} {cmd i : Nat} {r : MbxReq} (h : Requested s w cmd i r s1) :
    fieldLE (slotBytes (mbxOf s i) (w.val % 8)) 0 2 = cmd := by
  obtain ⟨_, _, rfl, hcmd, _⟩ := h
  exact hcmd

/-- LOAD is the row of every request of a known command. -/
theorem execMbxLoad_known {s s1 : State} {w : Wr} {cmd i : Nat} {r : MbxReq} (h : Requested s w cmd i r s1) (hcmd : cmd = 1)
    (hi : reqNo w.who = i) : knownCmd (fieldLE (slotBytes (mbxOf s (reqNo w.who)) (w.val % 8)) 0 2) = true := by
  rw [hi, requested_cmd h, hcmd]
  rfl

/-- The output lag follows from the layers (R176). -/
theorem lag_eq_of_layers_eq {g g' : Pkg} (h : g.layers = g'.layers) : g.lag = g'.lag := by
  simp only [Pkg.lag, Pkg.lags, Pkg.ofOutput, h]

/-- Reading a package from host memory leaves its output lag. -/
theorem imageAt_lag (s : State) (r : MbxReq) (g : Image) : (imageAt s r g).pkg.lag = g.pkg.lag :=
  lag_eq_of_layers_eq rfl

/-- A package is loaded for streams that are there and stopped. -/
theorem not_any_running {s : State} {ks : List Nat} (hsome : ks ≠ []) (hstopped : ∀ k, k ∈ ks → running s k = false) :
    ¬(ks.isEmpty = true ∨ ks.any (running s) = true) := by
  rintro (hempty | hany)
  · exact hsome (List.isEmpty_iff.1 hempty)
  · obtain ⟨k, hk, hrunning⟩ := List.any_eq_true.1 hany
    exact Bool.false_ne_true ((hstopped k hk).symm.trans hrunning)

/-- Settles O60: a command's row through `command_requested` and `command_refused`, the byte order by induction on the
bytes. -/
theorem mailboxActs : Obligations.MailboxActs := by
  unfold Obligations.MailboxActs
  refine ⟨fun s s1 w i r => ⟨fun img ch h hlen hwho hhost hsome hstopped => ⟨fun hlist => ?_, fun hlist => ?_⟩,
      fun img ch h hlen hhost hsome hrunning hlist hswap => ?_, fun h => ?_, fun ch h hlen hhost => ?_,
      fun c ch h hlen hhost => ?_, fun h hlen => ?_, fun ch h hlen hrange halign hhost => ?_,
      fun ch h hlen hfree hrange halign hhost => ?_, fun h hlen hrsv hlo hhi hargs hstate => ?_,
      fun ch h hlen hrsv hhost hseg => ?_, fun h hdamson => ?_⟩,
    fun s s1 w cmd r img c ch h => ⟨fun hcmd hwho => ?_, fun hcmd => command_clapper h hcmd _ _ _,
      fun hcmd => command_clapper h hcmd _ _ _, fun hcmd => command_clapper h hcmd _ _ _,
      fun hcmd => command_clapper h hcmd _ _ _, fun hcmd => command_clapper h hcmd _ _ _,
      fun hcmd => command_clapper h hcmd _ _ _, fun hcmd => command_clapper h hcmd _ _ _,
      fun hcmd => command_clapper h hcmd _ _ _⟩,
    fun s s1 w cmd r img c ch h => ⟨fun hshort => ⟨fun hcmd hwho => ?_, fun hcmd => command_short h hcmd hshort _ _ _,
        fun hcmd => command_short h hcmd hshort _ _ _, fun hcmd => command_short h hcmd hshort _ _ _⟩,
      fun hshort => ⟨fun hcmd => command_short h hcmd hshort _ _ _, fun hcmd => command_short h hcmd hshort _ _ _,
        fun hcmd => command_short h hcmd hshort _ _ _, fun hcmd => command_short h hcmd hshort _ _ _⟩,
      fun hshort hcmd => command_short h hcmd hshort _ _ _⟩,
    fun s w i h hbusy => ?_, fun s s1 w cmd i r img ch h hi hcmd => ?_,
    fun s i at0 b rest hi hwait hopen => ?_, fun s i kind b rest hi hwait hopen => ?_, fun s w => ⟨rfl, rfl⟩,
    fun n v i hi => ⟨leBytes_getElem? v hi, ?_⟩, fun m a n i hi => ?_⟩
  · have hrun := not_any_running hsome hstopped
    exact (if_pos (execMbxLoad_known h rfl (by rw [hwho]; rfl))).trans (congrArg ok ((command_host h hlen rfl _).trans
      ((if_pos hhost).trans ((if_neg hrun).trans (if_pos hlist)))))
  · have hrun := not_any_running hsome hstopped
    exact (if_pos (execMbxLoad_known h rfl (by rw [hwho]; rfl))).trans (congrArg ok ((command_host h hlen rfl _).trans
      ((if_pos hhost).trans ((if_neg hrun).trans (if_neg (Bool.eq_false_iff.1 hlist))))))
  · have hrun : ¬((streamsOf (fieldLE r.args 16 4)).isEmpty = true ∨
        (!(streamsOf (fieldLE r.args 16 4)).all (running s1)) = true) := by
      simp only [List.isEmpty_iff, hsome, List.all_eq_true.2 hrunning, Bool.not_true, Bool.false_eq_true, or_self,
        not_false_eq_true]
    have hpending : (withGroups s1 (streamsOf (fieldLE r.args 16 4))).any (fun k => (strm s1 k).swap.isSome) = false := by
      simp only [List.any_eq_false]
      intro k hk
      rw [(hswap k hk).1]
      exact Bool.false_ne_true
    have hlag : (withGroups s1 (streamsOf (fieldLE r.args 16 4))).any
        (fun k => (strm s1 k).pkg.any (fun g => g.lag != (imageAt s1 r img).pkg.lag)) = false := by
      simp only [List.any_eq_false]
      intro k hk
      cases hpkg : (strm s1 k).pkg with
      | none => exact Bool.false_ne_true
      | some g => simp only [Option.any_some, bne_iff_ne, not_not, imageAt_lag, (hswap k hk).2 g hpkg]
    refine congrArg ok ((command_host h hlen rfl _).trans ((if_pos hhost).trans ((if_neg hrun).trans
      ((if_neg (Bool.eq_false_iff.1 hlist)).trans ?_))))
    simp only [hpending, hlag, Bool.false_eq_true, if_false]
  · exact (congrArg ok (command_requested h (Nat.zero_le _) (fun hno => absurd hno Bool.false_ne_true) rfl _))
  · exact congrArg ok ((command_host h hlen rfl _).trans (if_pos hhost))
  · exact congrArg ok ((command_host h hlen rfl _).trans (if_pos hhost))
  · exact congrArg ok (command_requested h hlen (fun hno => absurd hno Bool.false_ne_true) rfl _)
  · refine congrArg ok ((command_host h hlen rfl _).trans ((if_neg ?_).trans ((if_pos halign).trans (if_pos hhost))))
    rw [hrange]
    exact Bool.false_ne_true
  · refine congrArg ok ((command_host h hlen rfl _).trans ((if_neg ?_).trans ((if_pos halign).trans (if_pos hhost))))
    rw [hfree, hrange]
    exact or_self_iff.not.2 Bool.false_ne_true
  · refine congrArg ok ((command_host h hlen (rsv := fun b => fieldLE b 1 3 == 0) (beq_iff_eq.2 hrsv) _).trans
      ((if_neg ?_).trans (if_neg (not_not.2 hstate))))
    omega
  · exact congrArg ok ((command_host h hlen (rsv := fun b => fieldLE b 4 4 == 0) (beq_iff_eq.2 hrsv) _).trans
      ((if_pos hhost).trans (if_neg (Nat.not_le.2 hseg))))
  · refine congrArg ok ((command_host h (Nat.zero_le _) rfl _).trans (if_neg ?_))
    rw [hdamson]
    exact Bool.false_ne_true
  · exact (if_pos (execMbxLoad_known h hcmd (by rw [hwho]; rfl))).trans (command_clapper h hcmd _ _ _)
  · exact (if_pos (execMbxLoad_known h hcmd (by rw [hwho]; rfl))).trans (command_short h hcmd hshort _ _ _)
  · exact congrArg ok (doorbell_busy h hbusy _ _)
  · have hunknown : knownCmd cmd = false := by
      unfold knownCmd
      obtain rfl | hbig := hcmd
      · rfl
      · rw [decide_eq_false (Nat.not_le.2 hbig), Bool.and_false]
    have hslot : ¬knownCmd (fieldLE (slotBytes (mbxOf s (reqNo w.who)) (w.val % 8)) 0 2) = true := by
      rw [hi, requested_cmd h, hunknown]
      exact Bool.false_ne_true
    have hcmd' : r.cmd = cmd := h.2.2.2.1
    refine (if_neg hslot).trans (congrArg ok ((doorbell_requested h (congrArg (!·) hunknown) _).trans ?_))
    rw [malformed, refuseReq, hcmd']
  · show execMbxResponsePost i s = _
    simp only [execMbxResponsePost, hwait, hopen, Bool.not_true, Bool.false_eq_true, or_false, if_neg (Nat.not_le.2 hi)]
  · show execMbxEventPost i s = _
    simp only [execMbxEventPost, hwait, hopen, Bool.not_true, Bool.false_eq_true, or_false, if_neg (Nat.not_le.2 hi)]
  · rw [fieldLE_one (leBytes_getElem? v hi), BitVec.toNat_ofNat]
  · rw [memLE, leNat_byte, memBytes_getElem? m a hi, memLE, memBytes, memBytes, leNat, leNat, Nat.mul_zero, Nat.add_zero]
    rfl

end Sys2Proof.Machine
end
